-- ==== Sys2Proof/Word.lean ====
section
/-! DEFINITION. The words of the STQ6440 model: bytes, 32-bit registers, byte strings. -/

namespace Sys2Proof

/-- One byte of a structure, a frame, a key or a register image. -/
abbrev Byte := BitVec 8

/-- A register of the part: 32 bits wide (R9). -/
abbrev Word := BitVec 32

/-- A byte string, first byte first. -/
abbrev Bytes := List Byte

end Sys2Proof
end

