-- ==== Sys2Proof/Syntax.lean ====
section
/-! DEFINITION. The commands of the STQ6440: one constructor per row of spec/opcode_table.json, with the row's operands. -/

namespace Sys2Proof

/-- A ring of an instance window (R33, R35): 16 command pairs, 16 receive, 16 transmit, event, exception. -/
inductive RingId where
  | cmd (n : Fin 16) | rx (n : Fin 16) | tx (n : Fin 16) | ev | xq
  deriving DecidableEq, Repr

/-- The register space of an access: PF BAR0 (R29) or an instance window (R31). -/
inductive Space where
  | bar0 | window (vi : Fin 256)
  deriving DecidableEq, Repr

/-- A register access (R9): the function it comes through, its space, offset, width in bytes, and whether it arrives on
the bound selective IDE stream with the T bit set (R559). -/
structure RegAccess where
  fn    : Fin 256
  space : Space
  off   : Nat
  size  : Nat
  tbit  : Bool
  deriving DecidableEq, Repr

/-- The four kinds of heavy unit that take phase tokens (R714). -/
inductive PhaseKind where
  | burin | lane | graver | draft
  deriving DecidableEq, Repr

/-- The two independent detectors of a Crosshatch source (R638). -/
inductive Detector where
  | a | b
  deriving DecidableEq, Repr

/-- How a read from host memory completes (R87). -/
inductive ReadOutcome where
  | data (bytes : Bytes) | error | poisoned
  deriving DecidableEq, Repr

/-- PCIe link state for the standing charge (R714). -/
inductive PcieLink where
  | l0 (width : Nat) (rate : Nat) | retrain | l1 | l2
  deriving DecidableEq, Repr

/-- What forward error correction found in the codewords of a frame (R382): codewords and symbols corrected, on which lane, and
whether one was uncorrectable. -/
structure FecReport where
  corrected     : Nat
  lane          : Fin 4
  symbols       : Nat
  uncorrectable : Bool
  deriving DecidableEq, Repr

/-- Where in its unit a fault lies, when unit and cause leave it open (R667 to R669, R683, R686): the matrix cache or the park buffer of a
pier instead of its stores; an HBM line that passed on the retry; what an HBM line that failed it held. -/
inductive FaultPlace where
  | unit | matrixCache | parkBuffer | retryPassed | sessionEntry | heldData | freezeBuffer | publicKey | overflowKey
  deriving DecidableEq, Repr

/-- What a report says of its spot: place, unit-local address, syndrome (R673, R680), the SRAM row by macro ID and row (R689), and the
session, key handle, VI or handshake that the failing memory belongs to, where its unit holds such. -/
structure FaultSpot where
  place    : FaultPlace
  addr     : BitVec 64
  syndrome : BitVec 5
  row      : Option (BitVec 12 × BitVec 15)
  item     : Option Nat
  deriving DecidableEq, Repr

/-- An error that SCRUB_SRAM found: its SOURCE and spot. -/
structure RowError where
  source : BitVec 16
  spot   : FaultSpot
  deriving DecidableEq, Repr

/-- A line whose MAC failed in SCRUB_HBM: pseudo-channel and address in it, and what it held (R683, R686). -/
structure LineError where
  channel : Fin 32
  addr    : BitVec 64
  place   : FaultPlace
  item    : Option Nat
  deriving DecidableEq, Repr

/-- Tests of R733 whose failure ends the start-up: ECC checkers, HBM training, entropy, known answers, identity keys. -/
inductive PostTest where
  | checkers | hbm | entropy | kat | identity
  deriving DecidableEq, Repr

/-- How a transfer with the custody card ended (R747, R748). -/
inductive XferEnd where
  | ok | crcError | timeout
  deriving DecidableEq, Repr

/-- A mirrored item of R581, as the fields that reach the twin: the spec gives the items and not their bytes (assumption log 23).
A session travels as its 512 B entry (R389). -/
inductive MirrorItem where
  | key (handle : Word) (alg modBits : Nat) (attr : Word) (kgen : Nat) (value pub nonceField : Bytes) (isPrivate : Bool)
  | delKey (handle : Word)
  | session (index : BitVec 24) (entry : Bytes)
  | removal (index : BitVec 24)
  | sessionKeys (index : BitVec 24) (entry : Bytes)
  | sendLease (index : BitVec 24) (leaseEnd : Nat)
  | counter (handle : Word) (leaseEnd recordEnd : Nat)
  | checkpoint (index : BitVec 24) (recnum : Nat)
  | indexLease (handle : Word) (first leaseEnd : Nat)
  | indexRange (handle : Word) (set total start stop : Nat)
  /-- The range that the sender keeps after a part of it went to the archive (R253). -/
  | ownRange (handle : Word) (start stop : Nat)
  | policy (vi : Fin 256) (slot : Fin 16) (input : Bytes)
  | rule (slot : Fin 4096) (rule : Bytes)
  | quota (vi : Fin 256) (record : Bytes)
  | quorum (record : Bytes)
  | csnCtl (value : Word)
  | role (vi : Fin 256) (primary auto : Bool)
  | viReset (vi : Fin 256)
  | restore (vi : Fin 256)
  | windows (index : BitVec 24) (top : Nat) (window : Nat)
  /-- Pair state, PAIR_SEQ and role table of the sender, one bit per VI: what the two devices tell each other at the start of a
  synchronisation (R595, R596). -/
  | pairing (state pairSeq primary auto : Nat)
  /-- The other device runs TWIN_UNPAIR (R577). -/
  | unpair
  deriving DecidableEq, Repr

/-- The commands: rows of spec/opcode_table.json in its order. `job` is the identifier that DESCRIPTOR_FETCH gave the
fetched descriptor; `sound` says that the engine's own end-of-operation or pairwise check passed (R217, R221, R340), `core` the same of the
Graver part of a hybrid key generation. ROM_BOOT names the state copies whose bytes do not burn; POST_COMPLETE the tests and units that fail, the piers
whose stipple generator passes, the detectors that fail, and the HBM pages repaired with their slot words. -/
inductive Instr where
  -- group 0x01 (chapter 3)
  | sessionPolicySet (job : Nat)
  | sessionInstall (job : Nat)
  | sessionRekey (job : Nat)
  | sessionRemove (job : Nat)
  | sessionQuery (job : Nat)
  | flowRuleSet (job : Nat)
  -- groups 0x02, 0x03
  | kemKeygen (job : Nat) (sound : Bool) (core : Bool)
  | kemEncaps (job : Nat) (sound : Bool)
  | kemDecaps (job : Nat) (sound : Bool)
  | matrixPin (job : Nat)
  | kexDerive (job : Nat) (sound : Bool)
  | sigKeygen (job : Nat) (sound : Bool)
  | sigSign (job : Nat) (sound : Bool)
  | sigSignPrehash (job : Nat) (sound : Bool)
  | sigVerify (job : Nat) (sound : Bool)
  | hbsLeaseQuery (job : Nat)
  -- groups 0x04, 0x05
  | hash (job : Nat)
  | mac (job : Nat)
  | kdf (job : Nat)
  | aeadSeal (job : Nat)
  | aeadOpen (job : Nat)
  | recordSeal (job : Nat)
  | recordOpen (job : Nat)
  | batch (job : Nat) (inputs : List Bytes)
  -- group 0x06
  | keyGenerate (job : Nat)
  | keyImport (job : Nat) (sound : Bool)
  | keyExportWrapped (job : Nat) (agree : Bool)
  | keyReplaceStage (job : Nat) (sound : Bool)
  | keyReplaceCommit (job : Nat)
  | keyDestroy (job : Nat)
  | keyAttr (job : Nat)
  | keyDerive (job : Nat)
  -- group 0x07
  | impressionDevice (job : Nat) (sound : Bool)
  | impressionKey (job : Nat) (sound : Bool)
  | impressionChain (job : Nat)
  -- group 0x08
  | maintStart (job : Nat)
  | maintStatus (job : Nat)
  | maintStop (job : Nat)
  | repairQuery (job : Nat)
  | selftestRun (job : Nat) (failed : BitVec 8) (kat : BitVec 16)
  -- group 0x09
  | lcsQuery (job : Nat)
  | lcsRequest (job : Nat) (agree : Bool)
  | lcsChallenge (job : Nat)
  | lcsPermit (job : Nat) (agree : Bool)
  -- group 0x0A
  | cardStatus (job : Nat)
  | archiveScan (job : Nat)
  | archiveRestore (job : Nat)
  | officerLogin (job : Nat) (present : BitVec 8)
  | officerLogout (job : Nat)
  | quorumSet (job : Nat)
  -- group 0x0B
  | twinPair (job : Nat)
  | twinStatus (job : Nat)
  | twinRoleSet (job : Nat)
  | twinTakeover (job : Nat)
  | twinUnpair (job : Nat)
  -- group 0x0C
  | viQuotaSet (job : Nat)
  | viReset (job : Nat)
  | viFreeze (job : Nat)
  | viSave (job : Nat)
  | viRestore (job : Nat) (sound : Bool)
  | viThaw (job : Nat)
  | functionSet (job : Nat)
  | viQuery (job : Nat)
  -- groups 0x0D, 0x0F
  | ucodeLoad (job : Nat) (sound : Bool)
  | ucodeInvoke (job : Nat)
  | ucodeQuery (job : Nat)
  | nop (job : Nat)
  | echo (job : Nat)
  | abort (job : Nat)
  | getInfo (job : Nat)
  | fwStage (job : Nat)
  -- rings (chapter 2)
  | descriptorFetch (vi : Fin 256) (ring : Fin 16) (entries : List Bytes) (readError : Bool)
  | jobDispatch (job : Nat)
  | completionRequest (job : Nat)
  | replyWrite (vi : Fin 256) (ring : Fin 16)
  | interruptTimer (vi : Fin 256) (ring : RingId)
  | sqDoorbell (vi : Fin 256) (n : Fin 16) (index : BitVec 16)
  | cqDoorbell (vi : Fin 256) (n : Fin 16) (index : BitVec 16)
  | rxDoorbell (vi : Fin 256) (n : Fin 16) (index : BitVec 16)
  | txDoorbell (vi : Fin 256) (n : Fin 16) (index : BitVec 16)
  | evDoorbell (vi : Fin 256) (index : BitVec 16)
  | xqDoorbell (index : BitVec 16)
  | ringEnable (vi : Fin 256) (ring : RingId) (value : Word)
  | ringDisable (vi : Fin 256) (ring : RingId) (value : Word)
  | viIntStatusClear (vi : Fin 256) (value : Word)
  | viIntEnableWrite (vi : Fin 256) (value : Word)
  | rcRead (acc : RegAccess)
  | registerWrite (acc : RegAccess) (value : Word)
  -- burins and microcode (chapters 4, 7)
  | burinPick (pier : Fin 8) (burin : Fin 9)
  | tokenGrant (kind : PhaseKind)
  | microwordIssue (pier : Fin 8) (burin : Fin 9)
  | commit (pier : Fin 8) (burin : Fin 9)
  | end_ (pier : Fin 8) (burin : Fin 9)
  | yield_ (pier : Fin 8) (burin : Fin 9)
  | maskRefresh (pier : Fin 8) (burin : Fin 9)
  | setLc (pier : Fin 8) (burin : Fin 9)
  | baseLoad (pier : Fin 8) (burin : Fin 9)
  | wait (pier : Fin 8) (burin : Fin 9)
  | yieldHoldPreemption (pier : Fin 8) (burin : Fin 9)
  | parkBufferRoom (pier : Fin 8)
  | counterproofVerdict (job : Nat) (valid : Bool)
  | stippleReseed (pier : Fin 8)
  | stippleFailure (pier : Fin 8)
  | burinSpareReady (pier : Fin 8) (burin : Fin 9) (passed : Bool)
  | leaseSubtreeBuilt (handle : Word)
  | hbsLeaseGrant (handle : Word) (programmed : Bool)
  | leaseLogErase (block : Nat) (good : Bool)
  -- Graver (chapter 8)
  | graverSlotLoad (core : Fin 18)
  | graverYieldPoint (core : Fin 18) (ran : Nat)
  | graverSpareReady (core : Fin 18) (passed : Bool)
  | publicKeyRegeneration (handle : Word) (good : Bool)
  -- line ports (chapters 1, 9)
  | frameReceive (port : Fin 2) (link : Fin 4) (frame : Bytes) (fec : FecReport)
  | frameTransmit (port : Fin 2) (link : Fin 4)
  | linkUp (port : Fin 2) (link : Fin 4)
  | linkDown (port : Fin 2) (link : Fin 4)
  | lptPortCtlWrite (port : Fin 2) (value : Word)
  | lptTxeqWrite (port : Fin 2) (lane : Fin 4) (value : Word)
  | localAddressWrite (port : Fin 2) (entry : Fin 16) (value : Word)
  | excLimitInterval
  | exceptionDelivery
  | handshakeIntake
  | cookieKeyRotation
  | sessionPending (hs : Nat) (suite : BitVec 16)
  | sessionEstablished (session : BitVec 24)
  | handshakeFailed (session : BitVec 24) (alert : Byte)
  -- Carriageway and lanes (chapter 10)
  | cwySlotIssue
  | dtlsRecordReceive
  | espPacketReceive
  | laneTakeJob (lane : Fin 8)
  | laneJobComplete (lane : Fin 8) (checksAgree : Bool)
  | dtlsRecordVerdict (session : BitVec 24)
  | espPacketVerdict (session : BitVec 24)
  | heldRecordRelease (session : BitVec 24)
  | peerKeyupdate (session : BitVec 24)
  | peerKeyupdateAck (session : BitVec 24)
  | keyupdateTimeout (session : BitVec 24)
  | epoch2HoldExpiry (session : BitVec 24)
  | sessionTimeLimit (session : BitVec 24)
  | checkpointDue (session : BitVec 24)
  | transmitEntryFetch (vi : Fin 256) (ring : Fin 16) (entry : Option Bytes) (message : ReadOutcome)
  | sendLeaseGrant (session : BitVec 24)
  | keyCounterLeaseWrite (handle : Word) (programmed : Bool)
  | laneSpareReady (lane : Fin 8) (passed : Bool)
  | laneIdleTokenRelease (lane : Fin 8)
  | draftTokenRelease (pair : Fin 10)
  -- Caisson (chapter 11)
  | shelfRecordWrite (job : Nat) (programmed : Bool)
  | overflowKeyFetch (handle : Word) (intact : Bool)
  | derivationJob (handle : Word)
  | keyZeroise (handle : Word)
  | storeRewrite (pier : Fin 8) (good : Bool)
  -- digest engine and entropy (chapter 12)
  | dgeClaim (vi : Fin 256) (ctx : Fin 8)
  | dgeRelease (vi : Fin 256) (ctx : Fin 8)
  | dgeInit (vi : Fin 256) (ctx : Fin 8)
  | dgeDataWrite (vi : Fin 256) (ctx : Fin 8) (value : Word) (poisoned : Bool)
  | dgeFinal (vi : Fin 256) (ctx : Fin 8)
  | dgeSqueeze (vi : Fin 256) (ctx : Fin 8)
  | dgeSave (vi : Fin 256) (ctx : Fin 8)
  | dgeRestore (vi : Fin 256) (ctx : Fin 8)
  | dgeAbandon (vi : Fin 256) (ctx : Fin 8)
  | dgeOperationComplete (ctx : Fin 8) (saved : ReadOutcome)
  | dgeZeroiseComplete (ctx : Fin 8)
  | dgeReclaim (value : Word)
  | entHealthFailure (sourceB : Bool) (adaptive : Bool)
  | entRetest (sourceB : Bool) (passed : Bool)
  | entBlockConditioned
  | drbgReseed
  | drbgRequest
  | entRawCtlWrite (value : Word)
  -- virtual instances (chapter 13)
  | flrVf (vi : Fin 256)
  | flrPf
  | vfEnableSet (numVfs : Nat)
  | vfEnableClear (numVfs : Nat)
  | busMasterEnableChange (vi : Fin 256) (on : Bool)
  | viResetComplete (vi : Fin 256)
  | viScrubComplete (vi : Fin 256)
  -- SPDM, IDE and TDISP (chapters 11, 13)
  | getVersion (request : Bytes)
  | getCapabilities (request : Bytes)
  | negotiateAlgorithms (request : Bytes)
  | getDigests (request : Bytes)
  | getCertificate (request : Bytes)
  | challenge (request : Bytes)
  | getMeasurements (request : Bytes)
  | keyExchange (request : Bytes)
  | finish (session : Nat) (request : Bytes)
  | heartbeat (session : Nat)
  | keyUpdate (session : Nat) (request : Bytes)
  | endSession (session : Nat)
  | ideKmQuery (session : Nat) (port : Nat)
  | keyProg (session : Nat) (stream : Fin 5) (keySet : Bool) (tx : Bool) (sub : Fin 3) (key : Bytes)
  | kSetGo (session : Nat) (stream : Fin 5) (keySet : Bool) (tx : Bool) (sub : Fin 3)
  | kSetStop (session : Nat) (stream : Fin 5) (keySet : Bool) (tx : Bool) (sub : Fin 3)
  | getTdispVersion (session : Nat) (vi : Fin 256)
  | getTdispCapabilities (session : Nat) (vi : Fin 256)
  | lockInterfaceRequest (session : Nat) (vi : Fin 256) (stream : Fin 5)
  | getDeviceInterfaceReport (session : Nat) (vi : Fin 256) (off len : Nat)
  | getDeviceInterfaceState (session : Nat) (vi : Fin 256)
  | startInterfaceRequest (session : Nat) (vi : Fin 256) (nonce : Bytes)
  | stopInterfaceRequest (session : Nat) (vi : Fin 256)
  -- Twin Span (chapter 14)
  | spanFrameReceive (frame : Bytes)
  | spanHello (frame : Bytes)
  | spanRetransmitTimeout
  | spanIdleTimer
  | spanLinkSilence
  | spanLaneFailure (lane : Fin 5)
  | heartbeatWordSend
  | heartbeatWordReceive (word : Bytes)
  | heartbeatSilence
  | rejoinTimeout
  | pairFrame (frame : Bytes)
  | pairRefusal
  | mirrorMessageReceive (id : Nat) (items : List MirrorItem)
  | mirrorAckReceive (id : Nat)
  | mirrorWaitTimeout (id : Nat)
  | syncComplete
  -- life cycle (chapter 15)
  | otpByteBurn (readBack : Byte) (second : Byte)
  | challengeExpiry
  | restrikeHalfExpiry
  | lcsDrainTimeout
  | lcsReqConfirm (value : Word) (agree : Bool)
  | extest
  | idcode
  | samplePreload
  | vendorScan (code : Byte) (reg : Nat) (value : Option Word)
  | vendorOtpProgramming (addr : Nat) (value : Byte)
  | bypass
  -- Crosshatch (chapter 16)
  | xhSourceEvent (source : Byte) (det : Detector)
  | xhSecondDecision (agree : Bool)
  | xhDecisionTimeout
  | xhTableCompare
  | meshChange (matching : BitVec 8)
  | loopWord (matching : BitVec 4)
  | islandMeasurement (temp : Int) (vbatMv : Nat) (clockOk : Bool)
  | islandSecondDecision (agree : Bool)
  | islandSelftest (failed : List Byte)
  | xhResume (value : Word)
  | xhInject (value : Word)
  | xhSrcCfgWrite (source : Byte) (value : Word)
  | xhWarnClear
  | xhLock
  | xhiRtcSecWrite (value : Word)
  | xhiLoopCtlWrite (value : Word)
  -- faults and maintenance (chapter 17)
  | faultReport (source : BitVec 16) (cause : Byte) (spot : FaultSpot) (job : Option Nat)
  | draftingSpareTakeover (pair : Fin 10) (passed : Bool)
  | escalationTimeout
  | fclAck (value : Word)
  | fclStickyClear (map : Fin 3) (value : Word)
  | fclInjectReport (value : Word)
  | fclInjectWriteCheck (value : Word)
  | fclInjectReadCheck (value : Word)
  | scrubSram (found : List RowError)
  | scrubHbm (found : List LineError)
  | healthSweep (failed : List (BitVec 16))
  | repairCommit (burned : Bool)
  | caissonCompact
  | xhSelftest (failed : List (Byte × Detector))
  | archiveExport
  | avsRecal (slacks : List Nat)
  | avsRecalDue
  -- Tollhouse and start-up (chapters 18, 20)
  | tjSample (tj : BitVec 16)
  | avsSample (slack : Nat) (low : List (BitVec 16))
  | avsAck
  | avsRetry
  | tolBudgetWrite (value : Word)
  | tolShareWrite (value : Word)
  | tolPdReqWrite (value : Word)
  | csnCtlWrite (value : Word)
  | domainSwitchComplete (domain : Fin 30)
  | rootPllLock
  | pllLockRestored
  | mainResetAssert (perst : Bool)
  | glbReset (value : Word)
  | mainResetRelease (clkMode smb1 smb0 : Bool)
  | romBoot (stuck : BitVec 3)
  | firmwareVerified
  | postComplete (failed : List PostTest) (units : List (BitVec 16)) (stipple : BitVec 8) (detectors : List (Byte × Detector)) (pages : List (Nat × BitVec 28))
  | mainPowerLoss
  | vbatApplied
  | vbatLoss
  | vddIoSwitchover (onVbat : Bool)
  -- custody (chapter 19)
  | sdCardInsertion (sdsc initOk : Bool) (speed : Fin 8) (width4 : Bool) (lbas : Nat)
  | sdCardRemoval
  | sdBusyTimeout
  | officerCardRemoval (slot : Fin 8)
  | officerLoginExpiry (officer : Fin 8)
  -- limits of R98
  | drainTimeout
  | leaseWaitTimeout (job : Nat)
  | viFreezeTimeout (vi : Fin 256)
  | ucodeLoadTimeout (job : Nat)
  | twinPairTimeout
  -- SMBus (chapter 20)
  | smbusDeviceState
  | smbusTj
  | smbusTjMax
  | smbusStatusFlags
  | smbusVddMv
  | smbusBudget
  | smbusIdentity
  -- further events
  | hostReadCompletion (job : Nat) (outcome : ReadOutcome)
  | pcieLinkStateChange (link : PcieLink)
  | vfBarWrite (vi : Fin 256)
  | sdTransferEnd (ended : XferEnd) (data : Bytes)
  | sdResponseTimeout
  | t1BlockReceive (block : Bytes)
  | t1BlockTimeout
  | shelfBlockErase (block : Nat)
  | fwSlotBlockWrite (good : Bool)
  deriving DecidableEq, Repr

end Sys2Proof
end

