-- ==== Sys2Proof/Decode.lean ====
section
/-! DEFINITION. Words of spec/opcode_table.json: no row of it gives bits, so no word spells a command. -/

namespace Sys2Proof

/-- The command that a word of the table spells: none, for the table's rows have no bits. -/
def decodeTableWord (_nbits _w : Nat) : Option Instr := none

end Sys2Proof
end

