-- ==== Sys2Proof/Machine/Bits.lean ====
section
/-! DEFINITION. Byte order, bit fields, saturating counters and the cyclic redundancy checks (R12, R53). -/

namespace Sys2Proof.Machine

open Sys2Proof

/-- The little-endian value of a byte string (R12). -/
def leNat : Bytes → Nat
  | [] => 0
  | b :: bs => b.toNat + 256 * leNat bs

/-- The `n` little-endian bytes of a value (R12). -/
def leBytes : Nat → Nat → Bytes
  | 0, _ => []
  | n + 1, v => BitVec.ofNat 8 v :: leBytes n (v / 256)

/-- The big-endian value of a byte string (network order). -/
def beNat (bs : Bytes) : Nat := leNat bs.reverse

/-- The `n` big-endian bytes of a value. -/
def beBytes (n v : Nat) : Bytes := (leBytes n v).reverse

/-- `n` zero bytes. -/
def zeros (n : Nat) : Bytes := List.replicate n 0

/-- The `n` bytes of `b` from `off`. -/
def slice (b : Bytes) (off n : Nat) : Bytes := (b.drop off).take n

/-- The little-endian field of `n` bytes at `off`. -/
def rd (b : Bytes) (off n : Nat) : Nat := leNat (slice b off n)

/-- The big-endian field of `n` bytes at `off`. -/
def rdBe (b : Bytes) (off n : Nat) : Nat := beNat (slice b off n)

/-- `b` cut or zero-padded to exactly `n` bytes. -/
def padTo (n : Nat) (b : Bytes) : Bytes := b.take n ++ zeros (n - b.length)

/-- `b` with the bytes `x` laid over it at `off`. -/
def putAt (b : Bytes) (off : Nat) (x : Bytes) : Bytes :=
  padTo off (b.take off) ++ x ++ b.drop (off + x.length)

/-- Bits `[hi:lo]` of a number. -/
def bits (v hi lo : Nat) : Nat := (v >>> lo) % 2 ^ (hi + 1 - lo)

/-- Bit `i` of a number. -/
def bit (v i : Nat) : Bool := v.testBit i

/-- The number with a Bool at bit `i`. -/
def bitAt (i : Nat) (b : Bool) : Nat := if b then 2 ^ i else 0

/-- Bits `[hi:lo]` of `old` replaced by those of `new`. -/
def setBits (old new hi lo : Nat) : Nat :=
  old - (bits old hi lo) * 2 ^ lo + (new % 2 ^ (hi + 1 - lo)) * 2 ^ lo

/-- One more, stopping at the largest value of `w` bits. -/
def satAdd (w : Nat) (c n : Nat) : Nat := Nat.min (c + n) (2 ^ w - 1)

/-- A counter register counts and saturates at 0xFFFF_FFFF (R41, R167, R382). -/
def satInc (c : Word) (n : Nat := 1) : Word := BitVec.ofNat 32 (satAdd 32 c.toNat n)

/-- `bits` set in a mask given as a list of positions. -/
def maskOf (l : List Nat) : Nat := l.foldl (fun m i => m ||| 2 ^ i) 0

/-- The set positions below `n` of a mask. -/
def onesOf (n m : Nat) : List Nat := (List.range n).filter (m.testBit ·)

/-- Number of set positions below `n`. -/
def popCount (n m : Nat) : Nat := (onesOf n m).length

/-- One bit step of a reflected CRC with polynomial `p`. -/
def crcBit (p c : Nat) : Nat := if c % 2 = 1 then (c >>> 1) ^^^ p else c >>> 1

/-- One byte step of a reflected CRC. -/
def crcByte (p c : Nat) (b : Byte) : Nat :=
  crcBit p (crcBit p (crcBit p (crcBit p (crcBit p (crcBit p (crcBit p (crcBit p (c ^^^ b.toNat))))))))

/-- CRC-32C of R53: polynomial 0x1EDC_6F41 reflected, initial value and final XOR 0xFFFF_FFFF. -/
def crc32c (bs : Bytes) : Nat := (bs.foldl (crcByte 0x82F63B78) 0xFFFFFFFF) ^^^ 0xFFFFFFFF

/-- The Ethernet frame check sequence (IEEE 802.3, R366): polynomial 0x04C1_1DB7 reflected. -/
def fcs32 (bs : Bytes) : Nat := (bs.foldl (crcByte 0xEDB88320) 0xFFFFFFFF) ^^^ 0xFFFFFFFF

/-- Ones-complement sum of the 16-bit big-endian words (the Internet checksum before complement). -/
def onesSum : Bytes → Nat
  | [] => 0
  | [a] => a.toNat * 256
  | a :: b :: r => let s := a.toNat * 256 + b.toNat + onesSum r; s % 65536 + s / 65536

/-- The Internet checksum of a byte string. -/
def inetSum (bs : Bytes) : Nat := (65535 - onesSum bs) % 65536

/-- The position of the first element that satisfies a test. -/
def findIdx (l : List α) (p : α → Bool) : Option Nat :=
  match l with
  | [] => none
  | a :: r => if p a then some 0 else (findIdx r p).map (· + 1)

/-- The list with element `i` replaced (unchanged beyond its end). -/
def listSet (l : List α) (i : Nat) (a : α) : List α := l.set i a

/-- The list with element `i` changed by `f`. -/
def listMod (l : List α) (i : Nat) (f : α → α) : List α :=
  match l, i with
  | [], _ => []
  | a :: r, 0 => f a :: r
  | a :: r, i + 1 => a :: listMod r i f

end Sys2Proof.Machine
end

