-- ==== Sys2Proof/Machine/Algs.lean ====
section
/-! DEFINITION. Algorithm IDs, sizes, key forms, usage rules and cycle figures (R93, R214 to R235, R257 to R282, R324, R355, R443
to R445). The type codes of SP 800-208 that SET and the public keys name are not in spec/: assumption log 4. -/

namespace Sys2Proof.Machine.Alg

open Sys2Proof Sys2Proof.Machine

/-- Every assigned algorithm ID, ascending (R93). -/
def all : List Nat :=
  [0x0101, 0x0102, 0x0103, 0x0201, 0x0202, 0x0203] ++ (List.range 12).map (0x0301 + ·) ++ [0x0401, 0x0402, 0x0403, 0x0501,
   0x0502, 0x0503] ++ (List.range 5).map (0x0601 + ·) ++ [0x0701, 0x0702, 0x0711, 0x0712, 0x0713, 0x0721, 0x0722, 0x0731,
   0x0801, 0x0802, 0x0803, 0x0901, 0x0902, 0x0903, 0x0904] ++ (List.range 9).map (0x0A01 + ·)

def isAlg (a : Nat) : Bool := all.contains a
def isMlKem (a : Nat) : Bool := a == 0x0101 || a == 0x0102 || a == 0x0103
def isMlDsa (a : Nat) : Bool := a == 0x0201 || a == 0x0202 || a == 0x0203
def isSlh (a : Nat) : Bool := decide (0x0301 ≤ a) && decide (a ≤ 0x030C)
def isStateful (a : Nat) : Bool := a == 0x0401 || a == 0x0402 || a == 0x0403
def isHqc (a : Nat) : Bool := a == 0x0501 || a == 0x0502 || a == 0x0503
def isMce (a : Nat) : Bool := decide (0x0601 ≤ a) && decide (a ≤ 0x0605)
def isMont (a : Nat) : Bool := a == 0x0701 || a == 0x0702
def isPCurve (a : Nat) : Bool := a == 0x0711 || a == 0x0712 || a == 0x0713
def isEd (a : Nat) : Bool := a == 0x0721 || a == 0x0722
def isRsa (a : Nat) : Bool := a == 0x0731
def isHybrid (a : Nat) : Bool := a == 0x0801 || a == 0x0802 || a == 0x0803
def isAead (a : Nat) : Bool := a == 0x0901 || a == 0x0902 || a == 0x0903
def isKw (a : Nat) : Bool := a == 0x0904
def isHashFn (a : Nat) : Bool := decide (0x0A01 ≤ a) && decide (a ≤ 0x0A06)
def isShake (a : Nat) : Bool := a == 0x0A07 || a == 0x0A08
def isKmac (a : Nat) : Bool := a == 0x0A09

/-- Algorithms of KEM_ENCAPS and KEM_DECAPS (R111). -/
def isKem (a : Nat) : Bool := isMlKem a || isHqc a || isMce a || isHybrid a
/-- Algorithms of KEX_DERIVE (R111). -/
def isKex (a : Nat) : Bool := isMont a || isPCurve a
/-- Algorithms of SIG_SIGN and SIG_VERIFY (R116). -/
def isSig (a : Nat) : Bool := isMlDsa a || isSlh a || isStateful a || isPCurve a || isEd a || isRsa a
/-- Signature algorithms computed by burins, whose signatures are counterproofed (R118). -/
def isBurinSig (a : Nat) : Bool := isMlDsa a || isSlh a || isStateful a
/-- Algorithms with a private and a public half. -/
def isAsym (a : Nat) : Bool := isKem a || isKex a || isSig a
/-- Secret keys of group 0x0A and HMAC keys. -/
def isSecret (a : Nat) : Bool := isHashFn a || isKmac a

/-- Digest bytes of a fixed-length hash (R224). -/
def hashLen (a : Nat) : Nat :=
  if a = 0x0A01 ∨ a = 0x0A04 then 32 else if a = 0x0A02 ∨ a = 0x0A05 then 48 else if a = 0x0A03 ∨ a = 0x0A06 then 64 else 0

/-- Hash block bytes, used by none of the lengths below. -/
def slhN (a : Nat) : Nat :=
  let k := (a - 0x0301) % 6
  if k < 2 then 16 else if k < 4 then 24 else 32

/-- A stateful parameter set: heights are per level (LMS) or whole and layers (XMSS^MT). -/
structure HbsSet where
  n : Nat
  h : Nat
  layers : Nat
  /-- LM-OTS or WOTS+ chains (R233). -/
  chains : Nat
  w : Nat
  deriving DecidableEq, Repr

/-- n and height of an LMS type code: 0x05 to 0x18 (assumption log 4). -/
def lmsType (t : Nat) : Option (Nat × Nat) :=
  if 5 ≤ t ∧ t ≤ 0x18 then
    let k := t - 5
    some (if (k / 5) % 2 = 0 then 32 else 24, 5 + 5 * (k % 5))
  else none

/-- n, w and chains of an LM-OTS type code: 0x01 to 0x10 (assumption log 4, R233). -/
def otsType (t : Nat) : Option (Nat × Nat × Nat) :=
  if 1 ≤ t ∧ t ≤ 0x10 then
    let k := t - 1
    let n := if (k / 4) % 2 = 0 then 32 else 24
    let w := 2 ^ (k % 4)
    let p := if n = 32 then [265, 133, 67, 34].getD (k % 4) 0 else [200, 101, 51, 26].getD (k % 4) 0
    some (n, w, p)
  else none

/-- The same hash family and n in an LMS and an LM-OTS type (R230). -/
def sameFamily (lms ots : Nat) : Bool := (lms - 5) / 5 == (ots - 1) / 4

/-- n and height of an XMSS OID (assumption log 4). -/
def xmssOid (o : Nat) : Option (Nat × Nat) :=
  let hs := [10, 16, 20]
  if 1 ≤ o ∧ o ≤ 3 then some (32, hs.getD (o - 1) 0)
  else if 0x0D ≤ o ∧ o ≤ 0x0F then some (24, hs.getD (o - 0x0D) 0)
  else if 0x10 ≤ o ∧ o ≤ 0x12 then some (32, hs.getD (o - 0x10) 0)
  else if 0x13 ≤ o ∧ o ≤ 0x15 then some (24, hs.getD (o - 0x13) 0)
  else none

/-- n, height and layers of an XMSS^MT OID (assumption log 4). -/
def xmssMtOid (o : Nat) : Option (Nat × Nat × Nat) :=
  let sets := [(20, 2), (20, 4), (40, 2), (40, 4), (40, 8), (60, 3), (60, 6), (60, 12)]
  let mk (n k : Nat) : Option (Nat × Nat × Nat) := let p := sets.getD k (0, 0); some (n, p.1, p.2)
  if 1 ≤ o ∧ o ≤ 8 then mk 32 (o - 1)
  else if 0x21 ≤ o ∧ o ≤ 0x28 then mk 24 (o - 0x21)
  else if 0x29 ≤ o ∧ o ≤ 0x30 then mk 32 (o - 0x29)
  else if 0x31 ≤ o ∧ o ≤ 0x38 then mk 24 (o - 0x31)
  else none

/-- The set that a SET word names, if key generation supports it (R230, R231). -/
def genSet (a set : Nat) : Option HbsSet :=
  let typ := bits set 7 0
  let ots := bits set 15 8
  let levels := bits set 19 16
  if bits set 31 21 ≠ 0 then none
  else if a = 0x0401 then
    match lmsType typ, otsType ots with
    | some (n, h), some (_, w, p) =>
      let ok := sameFamily typ ots &&
        (if levels = 1 then decide (h ≤ 20)
         else decide (2 ≤ levels) && decide (levels ≤ 8) && decide (h ≤ 10) && decide (levels * h ≤ 60))
      if ok then some { n := n, h := h, layers := levels, chains := p, w := w } else none
    | _, _ => none
  else if ots ≠ 0 ∨ levels ≠ 0 then none
  else if a = 0x0402 then
    (xmssOid typ).map (fun x => { n := x.1, h := x.2, layers := 1, chains := if x.1 = 32 then 67 else 51, w := 16 })
  else if a = 0x0403 then
    match xmssMtOid typ with
    | some (n, h, d) =>
      if h / d = 5 ∨ h / d = 10 then some { n := n, h := h, layers := d, chains := if n = 32 then 67 else 51, w := 16 } else none
    | none => none
  else none

/-- TOTAL of a stateful key (R234). -/
def hbsTotal (a : Nat) (s : HbsSet) : Nat :=
  if a = 0x0401 then 2 ^ (s.layers * s.h) else 2 ^ s.h

/-- Public key bytes of a stateful set (R233); an LMS key of one level is written as an HSS key of one level. -/
def hbsPk (a : Nat) (s : HbsSet) : Nat := if a = 0x0401 then 4 + 24 + s.n else 4 + 2 * s.n

/-- Signature bytes of a stateful set (R233). -/
def hbsSig (a : Nat) (s : HbsSet) : Nat :=
  if a = 0x0401 then
    let lms := 8 + (4 + s.n * (s.chains + 1)) + s.h * s.n
    4 + (s.layers - 1) * (lms + 24 + s.n) + lms
  else if a = 0x0402 then 4 + s.n + (s.chains + s.h) * s.n
  else (s.h + 7) / 8 + s.n + (s.layers * s.chains + s.h) * s.n

/-- Bytes of a treetop record (R236): the nodes from height 10 up of every tree that is current at index 0, and the signatures of the
lower-level roots. -/
def treetopLen (a set : Nat) : Nat :=
  match genSet a set with
  | none => 0
  | some s =>
    let per := if a = 0x0403 then s.h / s.layers else s.h
    let nodes := if per ≤ 10 then 1 else 2 ^ (per - 9) - 1
    let sig := if a = 0x0401 then 12 + s.n * (s.chains + 1) + per * s.n else (s.chains + per) * s.n
    s.layers * nodes * s.n + (s.layers - 1) * sig

/-- Key value bytes of a generated key (R214, R257, R262, R277, R324, R445). -/
def genValueLen (a modBits set : Nat) : Nat :=
  if isMlKem a then 64 else if isMlDsa a then 32 else if isSlh a then 4 * slhN a
  else if a = 0x0401 then ((genSet a set).map (fun s => 20 + s.n)).getD 0
  else if isStateful a then ((genSet a set).map (fun s => 4 + 4 * s.n)).getD 0
  else if isHqc a then [2305, 4586, 7317].getD (a - 0x0501) 0
  else if isMce a then [6492, 13608, 13932, 13948, 14120].getD (a - 0x0601) 0
  else if a = 0x0701 ∨ a = 0x0711 ∨ a = 0x0721 then 32
  else if a = 0x0702 then 56 else if a = 0x0712 then 48 else if a = 0x0713 then 66 else if a = 0x0722 then 57
  else if isRsa a then 4 + modBits / 8 + 5 * (modBits / 16)
  else if a = 0x0801 ∨ a = 0x0802 then 96 else if a = 0x0803 then 112
  else if a = 0x0901 then 16 else if a = 0x0902 ∨ a = 0x0903 ∨ a = 0x0904 then 32 else 0

/-- Key value lengths that an unwrapped record may have for an algorithm (R214, R461, R445). -/
def valueLens (a modBits : Nat) (session : Bool) : List Nat :=
  if isMlKem a then [64, [1632, 2400, 3168].getD (a - 0x0101) 0]
  else if isMlDsa a then [32, [2560, 4032, 4896].getD (a - 0x0201) 0]
  else if a = 0x0801 ∨ a = 0x0802 then [96, 2432] else if a = 0x0803 then [112, 3216]
  else if a = 0x0901 then [if session then 20 else 16]
  else if a = 0x0902 ∨ a = 0x0903 then [if session then 36 else 32]
  else if isSecret a then (List.range 113).map (16 + ·)
  else if isStateful a then []
  else [genValueLen a modBits 0]

/-- Public key bytes (R112, R216, R220, R227, R257, R262, R276, R324). -/
def pkLen (a modBits set : Nat) : Nat :=
  if isMlKem a then [800, 1184, 1568].getD (a - 0x0101) 0
  else if isMlDsa a then [1312, 1952, 2592].getD (a - 0x0201) 0
  else if isSlh a then 2 * slhN a
  else if isStateful a then ((genSet a set).map (hbsPk a)).getD 0
  else if isHqc a then [2249, 4522, 7245].getD (a - 0x0501) 0
  else if isMce a then [261120, 524160, 1044992, 1047319, 1357824].getD (a - 0x0601) 0
  else if a = 0x0701 ∨ a = 0x0721 then 32 else if a = 0x0702 then 56
  else if a = 0x0711 then 65 else if a = 0x0712 then 97 else if a = 0x0713 then 133 else if a = 0x0722 then 57
  else if isRsa a then modBits / 8 + 32
  else if a = 0x0801 then 1216 else if a = 0x0802 then 1249 else if a = 0x0803 then 1665 else 0

/-- Ciphertext or peer share bytes (R112, R216, R257, R262, R276). -/
def ctLen (a : Nat) : Nat :=
  if isMlKem a then [768, 1088, 1568].getD (a - 0x0101) 0
  else if isHqc a then [4433, 8978, 14421].getD (a - 0x0501) 0
  else if isMce a then [96, 156, 208, 194, 208].getD (a - 0x0601) 0
  else if a = 0x0801 then 1120 else if a = 0x0802 then 1153 else if a = 0x0803 then 1665
  else pkLen a 0 0

/-- Shared secret bytes (R216, R257, R262, R276). -/
def ssLen (a : Nat) : Nat :=
  if a = 0x0801 ∨ a = 0x0802 then 64 else if a = 0x0803 then 80
  else if a = 0x0702 then 56 else if a = 0x0712 then 48 else if a = 0x0713 then 66 else 32

/-- Bytes of the classical part of a hybrid public key or ciphertext (R276). -/
def classicalLen (a : Nat) : Nat := if a = 0x0801 then 32 else if a = 0x0802 then 65 else 97

/-- The curve of a hybrid algorithm's classical part and its ML-KEM set (R276). -/
def hybridCurve (a : Nat) : Nat := if a = 0x0801 then 0x0701 else if a = 0x0802 then 0x0711 else 0x0712
def hybridKem (a : Nat) : Nat := if a = 0x0803 then 0x0103 else 0x0102

/-- The classical and the ML-KEM part of a hybrid public key or ciphertext: the ML-KEM part comes first for 0x0801 and
last for 0x0802 and 0x0803 (R276). -/
def splitHybrid (a : Nat) (b : Bytes) : Bytes × Bytes :=
  if a = 0x0801 then (b.drop (b.length - 32), b.take (b.length - 32))
  else (b.take (classicalLen a), b.drop (classicalLen a))

/-- Signature bytes of a stateless algorithm (R118, R220, R227, R324), or of the stateful set SET names (R233). -/
def sigLen (a modBits set : Nat) : Nat :=
  if isMlDsa a then [2420, 3309, 4627].getD (a - 0x0201) 0
  else if isSlh a then [7856, 17088, 16224, 35664, 29792, 49856].getD ((a - 0x0301) % 6) 0
  else if isStateful a then ((genSet a set).map (hbsSig a)).getD 0
  else if a = 0x0711 then 64 else if a = 0x0712 then 96 else if a = 0x0713 then 132
  else if a = 0x0721 then 64 else if a = 0x0722 then 114
  else if isRsa a then modBits / 8 else 0

/-- The modulus check of FIPS 203 on an encapsulation key: the first 12-bit coefficient of 3,329 or more, if any (R218). -/
def coeffs12 : Bytes → List Nat
  | a :: b :: c :: r =>
    let v := a.toNat + 256 * b.toNat + 65536 * c.toNat
    (v % 4096) :: (v / 4096) :: coeffs12 r
  | _ => []

/-- The t̂ part of an ML-KEM encapsulation key has no coefficient of 3,329 or more (R218). -/
def ekValid (a : Nat) (ek : Bytes) : Bool :=
  (coeffs12 (ek.take (384 * (a - 0x0101 + 2)))).all (fun c => decide (c < 3329))

/-- The padding bits of an HQC public key are 0 (R260). -/
def hqcPadOk (a : Nat) (pk : Bytes) : Bool :=
  let k := if a = 0x0502 then 3 else 5
  decide (((pk.getLast?.getD 0).toNat) / 2 ^ k = 0)

/-- Row bytes and padding bits of a McEliece public key row (R262, R268). -/
def mceRow (a : Nat) : Nat × Nat :=
  let n := [3488, 4608, 6688, 6960, 8192].getD (a - 0x0601) 0
  let mt := [768, 1248, 1664, 1547, 1664].getD (a - 0x0601) 0
  let b := (n - mt + 7) / 8
  (b, 8 * b - (n - mt))

/-- Every row's padding bits are 0 (R268). `fuel` bounds the rows. -/
def mcePadFrom (row pad : Nat) : Nat → Bytes → Bool
  | 0, _ => true
  | fuel + 1, b =>
    if b.isEmpty then true
    else decide (((b.take row).getLast?.getD 0).toNat / 2 ^ (8 - pad) = 0 ∨ pad = 0) && mcePadFrom row pad fuel (b.drop row)

/-- The row padding check of R268. -/
def mcePadOk (a : Nat) (pk : Bytes) : Bool := let r := mceRow a; mcePadFrom r.1 r.2 2048 pk

/-! ### The attribute word (R443, R444) -/

def aApproved (w : BitVec 32) : Bool := w.getLsbD 31
def aPersistent (w : BitVec 32) : Bool := w.getLsbD 30
def aExport (w : BitVec 32) : Nat := bits w.toNat 29 28
def aOrigin (w : BitVec 32) : Nat := bits w.toNat 27 26
def aOwner (w : BitVec 32) : Bool := w.getLsbD 25
def aAnchor (w : BitVec 32) : Bool := w.getLsbD 24
def aSubalg (w : BitVec 32) : Nat := bits w.toNat 23 16
def aUsage (w : BitVec 32) : Nat := bits w.toNat 15 0

def uSign := 0
def uVerify := 1
def uDecaps := 2
def uEncaps := 3
def uAgree := 4
def uDerive := 5
def uMac := 6
def uSeal := 7
def uOpen := 8
def uWrap := 9
def uUnwrap := 10
def uTraffic := 11
def uSession := 12
def uUcode := 13
def uStream := 14

/-- A key has a usage bit (R444). -/
def hasUse (w : BitVec 32) (b : Nat) : Bool := w.getLsbD b

/-- The usage bits a key kind may carry (R444). TRAFFIC stands alone on an AEAD key. -/
def permitted (a : Nat) (isPrivate : Bool) : Nat :=
  if isMlDsa a || isSlh a || isStateful a || isEd a || isRsa a then (if isPrivate then 0x3 else 0x2)
  else if isPCurve a then (if isPrivate then 0x13 else 0x2)
  else if isMont a then (if isPrivate then 0x10 else 0)
  else if isKem a then
    (if isPrivate then 0xC ||| (if a = 0x0103 then 0x400 else 0) else 0x8 ||| (if a = 0x0103 then 0x200 else 0))
  else if isAead a then 0x3980
  else if isKw a then 0x2600
  else if isSecret a then 0x2060
  else 0

/-- USAGE is not 0, has only permitted bits, and TRAFFIC stands alone (R444, R447). -/
def usageOk (a : Nat) (isPrivate : Bool) (u : Nat) : Bool :=
  decide (u ≠ 0) && decide (u ||| permitted a isPrivate = permitted a isPrivate) &&
    (!(u.testBit uTraffic) || decide (u = 0x800))

/-- Services of R99 by algorithm: KEM, signature, AEAD; hashes, MACs, KDFs and AES-256-KW are approved. -/
def approvedAlg (a : Nat) : Bool :=
  !(isMont a || isHqc a || isMce a || a == 0x0903)

/-! ### Cycle figures (R210, R239, R256, R275, R355, R356) -/

/-- Burin cycles of an operation: 0 key generation, 1 encapsulation or signing, 2 decapsulation or verification. The
figures of stateful sets are those of the rated set; they enter queue estimates alone (R163). -/
def burinCycles (a op : Nat) : Nat :=
  let t3 (l : List Nat) : Nat := l.getD op 0
  if a = 0x0101 then t3 [7680, 5486, 10323] else if a = 0x0102 then t3 [10971, 8084, 15484]
  else if a = 0x0103 then t3 [16000, 11815, 22522]
  else if a = 0x0201 then t3 [9600, 63775, 17067] else if a = 0x0202 then t3 [15200, 102400, 25600]
  else if a = 0x0203 then t3 [22400, 144457, 38400]
  else if isSlh a then
    match (a - 0x0301) % 6 with
    | 0 => t3 [5080000, 38400000, 22300]
    | 1 => t3 [79400, 1856000, 64000]
    | 2 => t3 [8874000, 69818182, 38700]
    | 3 => t3 [138700, 3490909, 112900]
    | 4 => t3 [5829000, 128000000, 56600]
    | _ => t3 [364300, 7680000, 114900]
  else if a = 0x0401 then t3 [12019200, 46900, 51200]
  else if isStateful a then t3 [38272000, 140000, 186000]
  else if a = 0x0501 then t3 [28000, 56000, 85333] else if a = 0x0502 then t3 [56000, 112000, 170667]
  else if a = 0x0503 then t3 [100000, 200000, 307200]
  else if a = 0x0601 then t3 [237000000, 11160, 128000] else if a = 0x0602 then t3 [827000000, 20380, 256000]
  else if a = 0x0603 then t3 [2135000000, 36656, 483000] else if a = 0x0604 then t3 [1920000000, 36729, 512000]
  else if a = 0x0605 then t3 [2616000000, 46432, 590769]
  else 0

/-- Graver cycles: 0 key generation, 1 signing or shared secret, 2 verification (R355). -/
def graverCycles (a modBits op : Nat) : Nat :=
  let t3 (l : List Nat) : Nat := l.getD op 0
  if a = 0x0701 then t3 [25600, 25600, 25600] else if a = 0x0702 then t3 [89600, 89600, 89600]
  else if a = 0x0711 then t3 [24000, 48000, 64000] else if a = 0x0712 then t3 [64000, 128000, 170667]
  else if a = 0x0713 then t3 [144000, 288000, 384000]
  else if a = 0x0721 then t3 [16000, 21333, 51200] else if a = 0x0722 then t3 [57600, 76800, 179200]
  else if isRsa a then
    (if modBits = 2048 then t3 [160000000, 426667, 17067] else if modBits = 3072 then t3 [560000000, 1382400, 38400]
     else if modBits = 4096 then t3 [1440000000, 3200000, 68267] else if modBits = 6144 then t3 [5600000000, 10800000, 192000]
     else t3 [14400000000, 25600000, 341333])
  else 0

/-- Graver cycles of a signature (R355). -/
def graverSign (a modBits : Nat) : Nat :=
  if a = 0x0711 then 32000 else if a = 0x0712 then 85333 else if a = 0x0713 then 192000 else graverCycles a modBits 1

end Sys2Proof.Machine.Alg
end

