-- ==== Sys2Proof/Config.lean ====
section
/-! DEFINITION. What the spec leaves to outside standards and to chance, as constants without a body:
nothing in Lean can compute them, so no statement rests on a value of them (assumption log 1 and 2). -/

namespace Sys2Proof.Config

open Sys2Proof

/-- The functions that the spec takes from outside standards by name (FIPS 180-4, 197, 202 to 205, 186-5,
SP 800-38D, 38F, 56C, 185, 208, RFC 5869, 7296, 7748, 8032, 8446, 9147, 4303, DSP0274, DSP0277).
`alg` below is an algorithm ID of R93 or, where the function has no ID, 0. -/
inductive Std where
  | publicKey | kemCiphertext | kemSecret | kemDecaps | kexSecret | derivedValue
  | signature | hash | hmac | kmac | hkdfExtract | hkdfExpand | prfPlus
  | aeadSeal | aeadTag | aeadOpen | recordMask | keyWrap | keyUnwrap
  | cookie | finished | transcript | shareEval | shareCombine | spdm | treetop | hbsIndexState
  | pairKey | meshState | measurement | certificate | mirrorMessage | keccakF | sha256Step | sha512Step | sampler
  deriving DecidableEq, Repr

/-- The checks those standards define: signature verification, point on curve, modulus checks,
pairwise tests, chain validation, tag comparison. -/
inductive StdCheck where
  | verify | publicKeyValid | pointOnCurve | keyValueValid | aeadTag | recordTag | unwrap
  | certChain | impression | imageSignature | permit | quorumPolicy | officerCert | officerSignature
  | cookie | finished | spanTag | heartbeatMac | pairStep | migrationTarget | blob | shareKcv
  | archiveMac | shelfMac | flashImage | spdmRequest | secretNonZero | structure
  deriving DecidableEq, Repr

/-- Byte `i` of the output of a standard function on its arguments (UNSPECIFIED HERE: the standard fixes it). -/
opaque stdByte : Std → (alg : Nat) → List Bytes → (i : Nat) → Byte

/-- The verdict of a standard's check on its arguments. -/
opaque stdCheck : StdCheck → (alg : Nat) → List Bytes → Bool

/-- Byte `i` of the `n`-th value the device draws (DRBG output, a seed, a mesh pattern, a nonce: R508). -/
opaque drawByte : (n i : Nat) → Byte

/-- The `n`-th value that the spec leaves open: a number of attempts, an order, a cut OTP pulse. -/
opaque freeNat : (n : Nat) → Nat

/-- The key handle that a record of the custody archive names: the spec gives the record no field for it. -/
opaque archiveHandle : List Byte → Nat

/-- The vendor's fixed contents the spec names without giving: ROM, vendor microcode, known answers. -/
opaque vendorByte : (what i : Nat) → Byte

end Sys2Proof.Config
end

