-- ==== Sys2Proof/Machine/SMap.lean ====
section
/-! DEFINITION. Sparse tables in one canonical form: keys strictly rising, and no entry equal to what an unlisted key
reads as. Registers, counters, flash, OTP and operand memory are held so: equal tables are equal data. -/

namespace Sys2Proof.Machine

/-- A table from numbers to `α`. -/
abbrev SMap (α : Type) := List (Nat × α)

/-- The entry of key `k`, or what an unlisted key reads as. -/
def SMap.get (d : Nat → α) (k : Nat) : SMap α → α
  | [] => d k
  | (i, a) :: r => if i = k then a else SMap.get d k r

/-- A list of keyed entries with one more, before the first whose key is not lower. -/
def insertKey (k : Nat) (v : α) : List (Nat × α) → List (Nat × α)
  | [] => [(k, v)]
  | (i, a) :: r => if i < k then (i, a) :: insertKey k v r else (k, v) :: (i, a) :: r

/-- The entries whose key is not `k`. -/
def dropKey (k : Nat) (m : List (Nat × α)) : List (Nat × α) := m.filter (fun p => decide (p.1 ≠ k))

/-- The table with key `k` set to `v`; an entry equal to the unlisted value is left out. -/
def SMap.set [DecidableEq α] (d : Nat → α) (k : Nat) (v : α) (m : SMap α) : SMap α :=
  if v = d k then dropKey k m else insertKey k v (dropKey k m)

/-- Every listed entry changed by `f`, the form kept. -/
def SMap.mapAll [DecidableEq α] (d : Nat → α) (f : Nat → α → α) (m : SMap α) : SMap α :=
  m.foldl (fun t p => SMap.set d p.1 (f p.1 p.2) t) []

/-- Every key of the table lies above `lo`, rising, and no entry is the unlisted value. -/
def SMap.okFrom [DecidableEq α] (d : Nat → α) : Nat → SMap α → Bool
  | _, [] => true
  | lo, (i, a) :: r => decide (lo ≤ i) && decide (a ≠ d i) && SMap.okFrom d (i + 1) r

/-- The canonical form. -/
def SMap.wf [DecidableEq α] (d : Nat → α) (m : SMap α) : Bool := SMap.okFrom d 0 m

/-- A finite map whose unlisted keys hold nothing. -/
abbrev KMap (α : Type) := List (Nat × α)

/-- What key `k` holds. -/
def KMap.get (k : Nat) : KMap α → Option α
  | [] => none
  | (i, a) :: r => if i = k then some a else KMap.get k r

/-- The map with key `k` holding `v`. -/
def KMap.put (k : Nat) (v : α) (m : KMap α) : KMap α := insertKey k v (dropKey k m)

/-- The map without key `k`. -/
def KMap.del (k : Nat) (m : KMap α) : KMap α := dropKey k m

/-- The map with what key `k` holds changed, if it holds anything. -/
def KMap.mod (k : Nat) (f : α → α) (m : KMap α) : KMap α :=
  match KMap.get k m with
  | some a => KMap.put k (f a) m
  | none => m

/-- Every entry changed. -/
def KMap.mapVals (f : Nat → α → α) (m : KMap α) : KMap α := m.map (fun p => (p.1, f p.1 p.2))

/-- Every key lies above `lo`, rising. -/
def KMap.okFrom : Nat → KMap α → Bool
  | _, [] => true
  | lo, (i, _) :: r => decide (lo ≤ i) && KMap.okFrom (i + 1) r

/-- The canonical form: keys strictly rising. -/
def KMap.wf (m : KMap α) : Bool := KMap.okFrom 0 m

end Sys2Proof.Machine
end

