-- ==== Sys2Proof/Machine/State.lean ====
section
/-! DEFINITION. The state of the STQ6440, as plain data: one structure per unit, after the chapters of spec/. -/

namespace Sys2Proof.Machine

open Sys2Proof

/-! ### Device state, clocks, resets and pins (chapters 18 and 20) -/

/-- STATE of GLB_DEV_STATE (R726). -/
inductive DevState where
  | off | islandOnly | reset | romBoot | fwVerify | post | ready | halted | falsework
  deriving DecidableEq, Repr

/-- LSTATE of the life cycle (R147). -/
inductive LState where
  | blank | trial | proof | edition | restrike | cancelled
  deriving DecidableEq, Repr

/-- What the device puts on its interfaces, oldest first (assumption log 3): reads of and writes to host memory and MSI-X
messages through a VI's function, on its selective IDE stream where TDISP binds it (R518, R559), register read completions (none:
Unsupported Request), frames, span frames and heartbeat words, DOE responses in clear and in a secured session, card commands, SMBus answers
and test-port data. -/
inductive Out where
  | hostRead (vi : Nat) (stream : Option Nat) (addr len : Nat)
  | dma (vi : Nat) (stream : Option Nat) (addr : Nat) (data : Bytes)
  | msix (vi : Nat) (stream : Option Nat) (vector : Nat)
  | readReply (value : Option Word)
  | frame (port link : Nat) (bytes : Bytes)
  | span (bytes : Bytes)
  | mirror (id : Nat) (items : List MirrorItem)
  | mirrorAck (id : Nat)
  | heartbeat (bytes : Bytes)
  | doe (bytes : Bytes)
  | secured (session : Nat) (bytes : Bytes)
  | smbus (bytes : Bytes)
  | testPort (bytes : Bytes)
  | sdCommand (index arg : Nat) (data : Bytes)
  | cardBlock (slot : Nat) (bytes : Bytes)
  | avsWrite (millivolts : Nat)
  | avsRead
  /-- An interrupt to the PF whose vector the spec does not give (assumption log 26): 0 fault collector, 1 Crosshatch, 2 Tollhouse, 3 line ports. -/
  | pfInterrupt (what : Nat)
  deriving DecidableEq, Repr

/-- A command pair, receive, transmit, event or exception ring: the registers of R35 to R41 and what the doorbells of R42
last wrote. -/
structure Ring where
  /-- SQ_BASE, ENT_BASE or BASE (R36, R37). -/
  baseA : BitVec 64
  /-- CQ_BASE, DATA_BASE or WB (R36, R37). -/
  baseB : BitVec 64
  enable : Bool
  log2Data : BitVec 5
  log2Size : BitVec 5
  weight : BitVec 4
  vector : BitVec 11
  /-- COUNT and TIMER of _MOD (R39). -/
  modCount : BitVec 8
  modTimer : BitVec 10
  /-- INDEX of SQ_HEAD or TX HEAD: the next entry the device fetches (R40). -/
  fetchIdx : Nat
  /-- The tail that the last accepted tail doorbell wrote (R47). -/
  tail : Nat
  /-- INDEX and PHASE of CQ_TAIL, RX_TAIL, EV_TAIL, XQ_TAIL: the next entry the device writes (R40, R50). -/
  writeIdx : Nat
  phase : Bool
  /-- The head that the last accepted head doorbell wrote (R50). -/
  head : Nat
  /-- DROP, REJECT or LOST (R41). -/
  losses : Word
  /-- Entries written since the last message (R83). -/
  unsignalled : Nat
  /-- Data-area pieces of entries not yet returned, as (entry index, offset, bytes), oldest first (R74). -/
  pieces : List (Nat × Nat × Nat)
  deriving DecidableEq, Repr

/-- A ring at reset (R36 to R41). -/
def Ring.reset : Ring :=
  { baseA := 0, baseB := 0, enable := false, log2Data := 0, log2Size := 0, weight := 1, vector := 0,
    modCount := 1, modTimer := 0, fetchIdx := 0, tail := 0, writeIdx := 0, phase := true, head := 0,
    losses := 0, unsignalled := 0, pieces := [] }

/-- A quota record (R522). -/
structure Quota where
  burinWeight : Nat
  graverWeight : Nat
  laneWeight : Nat
  fetchWeight : Nat
  cmdRings : Nat
  rxRings : Nat
  txRings : Nat
  dgeCtx : Nat
  stateful : Nat
  sessionBase : Nat
  sessions : Nat
  handles : Nat
  pkMib : Nat
  shelfKib : Nat
  deriving DecidableEq, Repr

/-- The quota record of a VI after a main power-up (R528). -/
def Quota.reset (vi : Nat) : Quota :=
  if vi = 0 then
    { burinWeight := 16, graverWeight := 16, laneWeight := 16, fetchWeight := 16, cmdRings := 16, rxRings := 16,
      txRings := 16, dgeCtx := 2, stateful := 0, sessionBase := 0, sessions := 0, handles := 65536, pkMib := 0,
      shelfKib := 0 }
  else
    { burinWeight := 0, graverWeight := 0, laneWeight := 0, fetchWeight := 1, cmdRings := 0, rxRings := 0,
      txRings := 0, dgeCtx := 0, stateful := 0, sessionBase := 0, sessions := 0, handles := 0, pkMib := 0,
      shelfKib := 0 }

/-- STATE of VI_STATE (R520). -/
inductive ViState where
  | detached | running | resetting | frozen | saved | restoring
  deriving DecidableEq, Repr

/-- TDI of VI_STATE (R520, R556). -/
inductive Tdi where
  | unlocked | locked | run | error
  deriving DecidableEq, Repr

/-- A virtual instance. -/
structure Vi where
  gen : BitVec 16
  state : ViState
  serviceOff : Bool
  noBuffer : Bool
  tdi : Tdi
  /-- The selective stream the VF is bound to (R556). -/
  stream : Option Nat
  lateDiscard : Word
  quota : Quota
  /-- VI_INT_STATUS and VI_INT_ENABLE, bits [3:0] (R85). -/
  intStatus : BitVec 4
  intEnable : BitVec 4
  intVector : BitVec 11
  /-- VI_RING_ERR (R86). -/
  ringErr : Word
  /-- The next event written carries LOST_BEFORE (R81). -/
  lostBefore : Bool
  /-- Allocation cursor (R442). -/
  cursor : Nat
  /-- Bus Master Enable of the function (R518). -/
  bme : Bool
  /-- VI_FREEZE accepted and not yet replied to (R540). -/
  freezing : Bool
  /-- Datagrams stored while frozen, in arrival order, as (port, session, frame) (R541). -/
  freezeBuf : List (Nat × Nat × Bytes)
  freezeDrop : Nat
  /-- VI reset of R535: step 4 to 6 still to come, and the background scrub of step 7. -/
  resetPending : Bool
  scrubPending : Bool
  /-- Tick at which the VI froze: its lifetime timers stand still since then (R542). -/
  frozenAt : Nat
  /-- DGE_CLAIM_RESULT (R491). -/
  claimResult : Word
  /-- Role and takeover mode (R578). -/
  primary : Bool
  auto : Bool
  /-- This device hands its primary role over (R579 steps 1 to 3). -/
  handover : Bool
  /-- Session policies of the VI by slot, as their SESSION_POLICY_SET input (R105, R537). -/
  policies : KMap Bytes
  /-- MSI-X table words by word index (R517). -/
  msix : SMap Word
  /-- Pending-bit array: the set bits, rising (R517). -/
  pba : List Nat
  deriving DecidableEq, Repr

/-- A VI after a main power-up (R516, R520, R528): VI 0 is RUNNING, VIs 1 to 255 are DETACHED. -/
def Vi.reset (vi : Nat) : Vi :=
  { gen := 0, state := if vi = 0 then .running else .detached, serviceOff := false, noBuffer := false, tdi := .unlocked,
    stream := none, lateDiscard := 0, quota := Quota.reset vi, intStatus := 0, intEnable := 0, intVector := 0, ringErr := 0,
    lostBefore := false, cursor := if vi = 0 then 0xFF else 0, bme := false, freezing := false, freezeBuf := [],
    freezeDrop := 0, resetPending := false, scrubPending := false, frozenAt := 0,
    claimResult := 0, primary := true, auto := false, handover := false, policies := [], msix := [], pba := [] }

/-! ### Keys (chapters 5, 6 and 11) -/

/-- The lease state of a stateful key (R241 to R245). -/
structure Stateful where
  /-- SET word of SIG_KEYGEN (R231). -/
  set : Nat
  total : Nat
  /-- Index the next signature consumes (R121). -/
  next : Nat
  /-- First index beyond the current lease (R241). -/
  leaseEnd : Nat
  /-- This device's index range (R245). -/
  rangeStart : Nat
  rangeEnd : Nat
  /-- The twin's range and the first index of its lease (R245, R121). -/
  twinStart : Nat
  twinEnd : Nat
  twinLease : Option Nat
  /-- End of the twin's last known lease, and whether it is uncertain (R252). -/
  twinLeaseEnd : Nat
  twinUncertain : Bool
  /-- A lease record requested and not yet granted: its first index and end (R241). -/
  reqFirst : Nat
  reqEnd : Nat
  requested : Bool
  /-- The record is programmed, and acknowledged by the twin when required (R241). -/
  programmed : Bool
  acked : Bool
  /-- The next lease's subtree is built (R238). -/
  subtreeBuilt : Bool
  /-- The current flash lease record is current (R121). -/
  recordCurrent : Bool
  /-- The key's lease log was found rolled back (R249). -/
  rolledBack : Bool
  deriving DecidableEq, Repr

/-- A staged key (R136, R463). -/
structure StagedKey where
  /-- Lease state of a staged stateful key (R254). -/
  stateful : Option Stateful
  value : Bytes
  pub : Bytes
  kgen : Nat
  attr : BitVec 32
  deriving DecidableEq, Repr

/-- A key record of the Caisson (R439 to R452). -/
structure KeyRec where
  alg : Nat
  /-- RSA modulus size (R92). -/
  modBits : Nat
  attr : BitVec 32
  kgen : Nat
  highKgen : Nat
  /-- The key value, the raw secret, or for a stream context the message so far (R122). -/
  value : Bytes
  pub : Bytes
  /-- The handle holds a private or secret key, not a public one alone (R458). -/
  isPrivate : Bool
  staged : Option StagedKey
  /-- Jobs decided with the key (R450). -/
  uses : Nat
  resident : Bool
  /-- The derived data beside the value is present (R452), and tick of last use (least recently used eviction). -/
  derived : Bool
  lastUse : Nat
  shelved : Bool
  mirrored : Bool
  /-- McEliece public key present; regeneration failed (R273). -/
  publicPresent : Bool
  /-- Marked destroyed; the key waits for KEY_ZEROISE (R138). -/
  destroying : Bool
  unusable : Bool
  /-- The regeneration of its public key failed the check: nothing but KEY_DESTROY may use it (R273). -/
  badValue : Bool
  once : Bool
  /-- Nonce field, invocation counter and written lease end of R446. -/
  nonceField : Bytes
  counter : Nat
  counterLease : Nat
  /-- Record counter and highest record opened of a traffic key (R128, R129); IV and sequence-number key. -/
  recCounter : Nat
  recTop : Nat
  iv : Bytes
  snKey : Bytes
  stateful : Option Stateful
  /-- Unit ID and KGEN of a migration target (R547). -/
  target : Option (Bytes × Nat)
  deriving DecidableEq, Repr

/-! ### The Caisson (chapter 11) -/

/-- A record of the key shelf (R465). -/
structure ShelfRec where
  rtype : Nat
  epoch : Nat
  version : Nat
  handle : Nat
  kgen : Nat
  /-- RTYPE 0x01: the key, its nonce field and the end of its counter lease; RTYPE 0x04: the body. -/
  key : Option KeyRec
  body : Bytes
  /-- What a public record holds: 1 owner anchors, 2 quorum policy, 3 identity chain, 8 a treetop record removed, 9 an owner record revoked by RESTRIKE; 0 otherwise. -/
  pub : Nat
  /-- Erase block that holds it. -/
  block : Nat
  deriving DecidableEq, Repr

/-- A record of the lease log (R247): RTYPE 1 lease, 2 range, 3 key destroyed, 4 the twin's lease, 5 state. -/
structure LeaseRec where
  rtype : Nat
  seq : Nat
  handle : Nat
  kgen : Nat
  first : Nat
  stop : Nat
  aux : Nat
  deriving DecidableEq, Repr

/-- An erase block of the lease log: its erases, its BLOCK_SEQ once it is opened, its records, and whether it is retired (R247, R250). -/
structure LeaseBlock where
  erases : Nat
  blockSeq : Option Nat
  recs : List LeaseRec
  retired : Bool
  deriving DecidableEq, Repr

def LeaseBlock.reset : LeaseBlock := { erases := 0, blockSeq := none, recs := [], retired := false }

/-- The Caisson: handles, shelf, battery-backed memory, owner and officers. -/
structure Csn where
  keys : KMap KeyRec
  ready : Bool
  rollback : Bool
  bbramNew : Bool
  /-- BBRAM of R464. -/
  bbramOk : Bool
  shelfSecret : Bytes
  shelfVersion : Nat
  leaseSeq : Nat
  migSeq : Nat
  shelf : List ShelfRec
  shelfBlocks : Nat
  /-- Quorum policy and identity chain: public shelf records (R465, R473, R478). -/
  policy : Option Bytes
  chain : Option Bytes
  /-- Officers logged in: index to card slot and tick of login (R476, R768). -/
  officers : KMap (Nat × Nat)
  bootNonce : Bytes
  /-- SHA-384 measurements taken at start-up: ROM, active image, inactive slot (R477). -/
  romMeas : Bytes
  fwMeas : Bytes
  stagedMeas : Bytes
  /-- Previous cookie key (R440). -/
  oldCookie : Bytes
  /-- Lease log in the boot flash, of 16 blocks by default, and the last LOG_SEQ written (R247, R251). -/
  leaseLog : List LeaseBlock
  logSeq : Nat
  deriving DecidableEq, Repr

/-- The Caisson after a main power-up: empty, BBRAM not yet judged. -/
def Csn.reset : Csn :=
  { keys := [], ready := false, rollback := false, bbramNew := false, bbramOk := false, shelfSecret := [], shelfVersion := 0,
    leaseSeq := 0, migSeq := 0, shelf := [], shelfBlocks := 128, policy := none, chain := none,
    officers := [], bootNonce := [], romMeas := [], fwMeas := [], stagedMeas := [], oldCookie := [],
    leaseLog := List.replicate 16 LeaseBlock.reset, logSeq := 0 }

/-- What FUNCTION_SET has disabled (R153). -/
structure Fn where
  algs : List Nat
  piers : List Nat
  lanes : List Nat
  /-- Drains under way: KIND, VI or unit, algorithm, as their job (R98). -/
  drains : List (Nat × Nat × Nat)
  deriving DecidableEq, Repr

def Fn.reset : Fn := { algs := [], piers := [], lanes := [], drains := [] }

/-! ### The Carriageway and the cipher lanes (chapter 10) -/

/-- A key slot of a session: AEAD key, IV or salt, sequence-number key (R389, R390). -/
structure KeySlot where
  key : Bytes
  iv : Bytes
  snKey : Bytes
  deriving DecidableEq, Repr

def KeySlot.empty : KeySlot := { key := [], iv := [], snKey := [] }

/-- The receive side of an entry: RX_EPOCH, RX_TOP, window, keys, SPI (R389, R402). -/
structure RxSide where
  epoch : Nat
  top : Nat
  /-- Window bits: bit i is record number RX_TOP − i, 1,024 of them. -/
  window : Nat
  slot : KeySlot
  spi : Nat
  cidCheck : Nat
  ring : Nat
  credit : Nat
  creditUsed : Nat
  ckptCount : Nat
  ckptDue : Nat
  deriving DecidableEq, Repr

/-- The alternate receive slot: ALT_ID, keys, and the lowest sequence number it accepts, one above its top of R395, R400 and R583. -/
structure AltSide where
  id : Nat
  slot : KeySlot
  floor : Nat
  deriving DecidableEq, Repr

/-- The transmit side of an entry (R389, R412, R417). -/
structure TxSide where
  epoch : Nat
  seq : Nat
  leaseEnd : Nat
  slot : KeySlot
  spi : Nat
  peerCid : Bytes
  kuWait : Bool
  kuHost : Bool
  leaseReq : Bool
  /-- The twin has acknowledged the lease requested (R412). -/
  leaseAck : Bool
  kuTries : Nat
  rekeyLeft : Nat
  /-- The SESSION_REKEY job that waits for the KeyUpdate. -/
  kuJob : Option Nat
  /-- A stalled entry was counted in LEASE_STALL (R412). -/
  stalled : Bool
  deriving DecidableEq, Repr

/-- Addresses of an entry (R389). -/
structure Path where
  peerAddr : Bytes
  localAddr : Bytes
  peerPort : Nat
  localPort : Nat
  vlan : Nat
  peerMac : Bytes
  deriving DecidableEq, Repr

/-- The counter record (R389). -/
structure SessionCounts where
  rxRecords : Nat
  rxBytes : Nat
  drops : Nat
  tagFails : Nat
  txRecords : Nat
  txBytes : Nat
  deriving DecidableEq, Repr

/-- A held record: undecrypted for a PENDING entry (R404), plaintext against the ring credit (R405). -/
structure HeldRec where
  port : Nat
  recnum : Nat
  content : Nat
  stamp : Nat
  data : Bytes
  path : Path
  deriving DecidableEq, Repr

/-- An allocated session entry (R389). `state` is STATE: 1 PENDING, 2 ESTABLISHED, 3 CLOSING. -/
structure Session where
  state : Nat
  /-- KIND 0x01 DTLS, 0x02 ESP. -/
  kind : Nat
  vi : Nat
  port : Nat
  ipv6 : Bool
  esn : Bool
  tunnel : Bool
  ownCid : Bool
  outbound : Bool
  dropPending : Bool
  altValid : Bool
  alg : Nat
  maxPlaintext : Nat
  rx : RxSide
  alt : AltSide
  tx : TxSide
  /-- Epoch 3 transmit keys of a PENDING entry, held in WIN_LO (R391). -/
  pend : KeySlot
  path : Path
  estS : Nat
  hardAtS : Nat
  hardLeft : Nat
  /-- Value that REKEY_LEFT is reloaded with (R417, R418). -/
  rekeyReload : Nat
  counts : SessionCounts
  held : List HeldRec
  /-- Verified handshake messages and ACKs that wait for the firmware, oldest first, as (epoch, content type, message) (R396). -/
  inbox : List (Nat × Nat × Bytes)
  /-- The PENDING or ESTABLISHED write waits for the twin (R19, R20). -/
  twinWait : Bool
  deriving DecidableEq, Repr

/-- A record in the pipeline (R392, R394). -/
structure Rec where
  session : Nat
  vi : Nat
  kind : Nat
  port : Nat
  /-- Datagram it belongs to: a failure of checks 2 and 3 drops the rest of it. -/
  datagram : Nat
  first : Bool
  last : Bool
  data : Bytes
  path : Path
  /-- The slot of checks 4 and 5: the alternate one, the record number, the tick of check 6. -/
  alt : Bool
  recnum : Nat
  /-- Keys of the slot that check 4 selected; its epoch or SPI. -/
  slot : KeySlot
  slotId : Nat
  stamp : Nat
  /-- 0 granted its slot, 1 in a lane queue, 2 in a lane, 3 tag verified, 4 tag failed. -/
  stage : Nat
  restarts : Nat
  deriving DecidableEq, Repr

/-- A handshake of the firmware, from an accepted ClientHello (R16 to R22). -/
structure Handshake where
  vi : Nat
  port : Nat
  /-- Policy snapshot of R17. -/
  policy : Bytes
  path : Path
  ipv6 : Bool
  session : Option Nat
  /-- Session found by 5-tuple that the new one replaces (R398). -/
  replaces : Option Nat
  /-- Connection ID that the client gave, if it negotiated the extension. -/
  peerCid : Option Bytes
  /-- Algorithm and client share of the key exchange; PSK resumption; the server's part is computed and signed (R18). -/
  share : Nat × Bytes
  psk : Bool
  signed : Bool
  deriving DecidableEq, Repr

/-- STATE of LNE_LANEl_STATE (R437). -/
inductive LaneState where
  | off | selftest | idle | tokenWait | run | retired
  deriving DecidableEq, Repr

/-- Work in a lane queue or a lane: a record of the pipeline or a look-aside job. -/
structure LaneWork where
  isRec : Bool
  id : Nat
  vi : Nat
  cls : Nat
  cost : Nat
  queuedAt : Nat
  deriving DecidableEq, Repr

structure Lane where
  state : LaneState
  faults : Nat
  work : List LaneWork
  deriving DecidableEq, Repr

def Lane.reset : Lane := { state := .off, faults := 0, work := [] }

/-- The cipher lanes: duty maps of R435, lanes, their queue and the deficits of R425. -/
structure Lne where
  onDuty : Nat
  spare : Nat
  retired : Nat
  lanes : SMap Lane
  queue : List LaneWork
  deficits : SMap Nat
  turn : SMap Nat
  /-- Picks since the last round of eight (R174, R425). -/
  picks : Nat
  deriving DecidableEq, Repr

def Lne.reset : Lne := { onDuty := 0, spare := 0, retired := 0, lanes := [], queue := [], deficits := [], turn := [], picks := 0 }

/-- The Carriageway. -/
structure Cwy where
  sessions : KMap Session
  /-- Flow rules by slot, as their FLOW_RULE_SET input (R110). -/
  rules : KMap Bytes
  hs : KMap Handshake
  nextHs : Nat
  /-- Records in the pipeline, in arrival order. -/
  recs : KMap Rec
  nextRec : Nat
  nextDatagram : Nat
  /-- Heads in the hot cache: session index to the tick of last use (R387). -/
  hot : KMap Nat
  /-- Slots granted in the present round of CWY_ARB, by source (R392). -/
  granted : SMap Nat
  /-- Look-aside lane jobs that wait for their slot (R392). -/
  lookaside : List Nat
  /-- Indices that R422 removed and that wait for their zeroisation, with the VI. -/
  scrub : KMap Nat
  /-- Indices kept for SESSION_INSTALL jobs that wait for their table write, by job (R386). -/
  reserved : KMap Nat
  deriving DecidableEq, Repr

def Cwy.reset : Cwy :=
  { sessions := [], rules := [], hs := [], nextHs := 0, recs := [], nextRec := 0, nextDatagram := 0, hot := [], granted := [],
    lookaside := [], scrub := [], reserved := [] }

/-! ### Jobs (chapters 2, 3, 4 and 8) -/

/-- The engine that performs a job's effect (R67). -/
inductive Engine where
  | burin | graver | both | lane | dge | caisson | firmware | hif
  deriving DecidableEq, Repr

/-- Where a fetched job stands. -/
inductive Stage where
  | fetched   -- checks 1 to 6 passed; waits for JOB_DISPATCH
  | queued    -- in its engine's queue
  | running   -- picked by a burin, a Graver core or a lane, or started in the Caisson or the firmware
  | computed  -- the routine's result stands; a burin job waits for COMMIT and END, a lane job for its end
  | parked    -- a signature candidate waits for its counterproof (R193)
  | waiting   -- the result waits for the needs below before its commit point
  | ready     -- the completion request is outstanding: COMPLETION_REQUEST decides it
  deriving DecidableEq, Repr

/-- Where a job stands in one engine (`dispatch`: it waits for room in the engine's queue, R173, R330): a hybrid job has a part in a burin and one in a Graver core (R278). -/
inductive Part where
  | none | dispatch | queued | running | computed | finished
  deriving DecidableEq, Repr

/-- Who asked for a job: a descriptor, or the device itself (R18, R191). -/
inductive Origin where
  | host | counterproof (of : Nat) | handshake (hs : Nat)
  deriving DecidableEq, Repr

/-- What a job waits for before its commit point (R98, R102). -/
inductive Need where
  | shelf | twin | lease | erase | drain | earlier | card | officer | pair | peerAck | burn | flash | zeroise | safePoint | takeover
  | dma | reset
  deriving DecidableEq, Repr

/-- What follows once a job's reply is written: FALSEWORK with a cause (R146), or the zeroisation of the rings after a crossing, with
FALSEWORK for CANCELLED (R625). -/
inductive AfterReply where
  | falsework (cause : Nat) | restruck | cancelled
  deriving DecidableEq, Repr

/-- What a job changes when it passes its commit point (R67, R69). -/
inductive Effect where
  | putKey (handle : Nat) (key : KeyRec)
  | delKey (handle : Nat)
  | setStaged (handle : Nat) (staged : Option StagedKey)
  | setAttr (handle : Nat) (attr : BitVec 32)
  | swapKey (handle : Nat)
  | setPolicy (vi slot : Nat) (input : Bytes)
  | setRule (slot : Nat) (rule : Bytes)
  | installSa (index vi : Nat) (record : Bytes) (key : Bytes)
  | rekeySa (index : Nat) (spi : Nat) (key : Bytes)
  | rekeyDtls (index : Nat)
  | removeSession (index : Nat)
  | pin (handle kgen : Nat) (piers : Nat) (on : Bool)
  | putQuota (vi : Nat) (quota : Quota)
  | quorum (record : Bytes)
  | ucode (piers : Nat) (image : Bytes)
  | recCounter (handle : Nat) (value : Nat)
  | recTop (handle : Nat) (value : Nat)
  | onceUsed (handle : Nat)
  | clearRollback
  | functionSet (kind vi index : Nat) (on : Bool)
  /-- A stateful index is consumed (R243). -/
  | useIndex (handle index : Nat)
  /-- Roles of some VIs on this device, with the cause of R580 (R576, R588). -/
  | roles (vis : List Nat) (primary : Bool) (auto : Option Bool) (cause : Nat)
  /-- The pairing takes effect (R576), or ends (R577). -/
  | paired (source : Bool)
  | unpair
  /-- VI_FREEZE completes, VI_SAVE destroys the source state (R540, R549). -/
  | freeze (vi : Nat)
  | saved (vi : Nat)
  /-- VI_RESTORE completes (R553): generation of the blob, sessions, rings, VI_INT_ENABLE, VI_INT_VECTOR, MSI-X table, cursor. -/
  | restored (vi gen : Nat) (sessions : List (Nat × Session)) (rings : List (Nat × Ring)) (intEnable intVector : Nat) (msix : SMap Word) (cursor : Nat)
  | logout (officers : Nat)
  | login (officer slot : Nat)
  /-- The owner archive key comes into existence or is split again, with SPLIT_SEQ and the shares that wait for officers (R770, R771). -/
  | archiveKey (key : KeyRec) (isNew : Bool) (splitSeq : Nat) (shares : List (Nat × Bytes))
  /-- A key from the archive, at a free handle or in place of a lower KGEN (R757). -/
  | restoreKey (handle : Nat) (key : KeyRec) (replaces : Bool)
  | after (a : AfterReply)
  deriving DecidableEq, Repr

/-- A part of an ARCHIVE_RESTORE that takes effect by itself: its effects, what they wait for, and the keys it restores (R757). -/
structure RestorePart where
  effects : List Effect
  needs : List Need
  keys : Nat
  deriving DecidableEq, Repr

/-- What is left of an ARCHIVE_RESTORE after the present part: the parts, the keys restored so far, those of the present part, and the
status and DETAIL that end it when no key failed to be restored, 0 for OK. -/
structure RestorePlan where
  left : List RestorePart
  done : Nat
  now : Nat
  status : Nat
  detail : Nat
  deriving DecidableEq, Repr

/-- The outcome a job proposes to the commit arbiter (R68). -/
structure Result where
  status : Nat
  detail : Nat
  lenOut : Nat
  payload : Bytes
  /-- Handles and generations lead the output in the layout of R94. -/
  newKeys : List KeyRec
  effects : List Effect
  /-- Further outputs with their own addresses: the items of a BATCH (R130). -/
  extra : List (Nat × Bytes)
  counterproofed : Bool
  deriving DecidableEq, Repr

/-- No outcome yet. -/
def Result.empty : Result :=
  { status := 0, detail := 0, lenOut := 0, payload := [], newKeys := [], effects := [], extra := [], counterproofed := false }

/-- A fetched descriptor, or a job of the device's own, and what has become of it. -/
structure Job where
  vi : Nat
  ring : Nat
  origin : Origin
  /-- The 64 bytes fetched, the VI field stamped (R51, R53). -/
  desc : Bytes
  /-- VI_GEN in force at the fetch (R60). -/
  gen : BitVec 16
  stage : Stage
  engine : Engine
  cls : Nat
  burinPart : Part
  graverPart : Part
  pier : Option Nat
  /-- Input received so far, the read outstanding, and whether all of it has arrived (R54, R62, R161). -/
  input : Bytes
  reading : Option Nat
  inputDone : Bool
  /-- The abort request pending, as the status of its source (R68). -/
  abortBy : Option Nat
  /-- An abort arrived after the commit point (R68). -/
  late : Bool
  committed : Bool
  restarted : Bool
  restarts : Nat
  preempted : Bool
  /-- Requeued at the head of its class (R180, R181). -/
  head : Bool
  /-- Verdict of the counterproof, once it has arrived (R194). -/
  verdict : Option Bool
  /-- Burin that computed the candidate (R195). -/
  signer : Nat
  approved : Bool
  result : Result
  /-- Handles that check 12 reserved (R95), and those taken for the new keys (R442). -/
  reserve : Nat
  handles : List Nat
  needs : List Need
  /-- The keys that check 11 bound, so later commits and destructions do not change them (R137, R138). -/
  key : Option KeyRec
  key2 : Option KeyRec
  /-- Invocation counter value assigned at dispatch (R126). -/
  nonce : Nat
  /-- Estimate in CLK_ENG cycles and tick of queueing (R163, R174). -/
  estimate : Nat
  queuedAt : Nat
  /-- Targets of an ABORT not yet decided, matched so far, reported ABORTED (R70). -/
  targets : List Nat
  matched : Nat
  abortedN : Nat
  /-- Quorum classes met at dispatch, by their byte of the policy record (R474, R769). -/
  quorum : Nat
  /-- Of an ARCHIVE_RESTORE whose keys are being restored. -/
  plan : Option RestorePlan
  deriving DecidableEq, Repr

/-- A decided reply that waits for its completion ring (R72). -/
structure Reply where
  job : Nat
  vi : Nat
  ring : Nat
  tag : Nat
  opcode : Nat
  status : Nat
  detail : Nat
  lenOut : Nat
  gen : Nat
  /-- APPROVED, COUNTERPROOF_DONE, RESTARTED (R64). -/
  flags : Nat
  stamp : Nat
  ordered : Bool
  fence : Bool
  notify : Bool
  /-- Output held until the reply (R54, R71). -/
  outputs : List (Nat × Bytes)
  /-- What follows once the reply is written (R146, R625). -/
  after : Option AfterReply
  deriving DecidableEq, Repr

/-! ### The line ports (chapter 9) -/

/-- A datagram in a port's hold buffer, bound for the Carriageway (R380). -/
structure HoldItem where
  session : Nat
  /-- Number of the datagram in the Carriageway once its first record has its slot, and the records granted so far (R392). -/
  datagram : Option Nat
  taken : Nat
  /-- The frame from the destination MAC address to the end of the IP datagram. -/
  frame : Bytes
  deriving DecidableEq, Repr

/-- A handshake datagram in the intake queue (R15). -/
structure Intake where
  port : Nat
  vi : Nat
  rule : Nat
  /-- The session that a 5-tuple found (R398). -/
  old : Option Nat
  frame : Bytes
  deriving DecidableEq, Repr

/-- A frame in the exception queue (R381). -/
structure ExcItem where
  port : Nat
  reason : Nat
  vi : Nat
  frame : Bytes
  deriving DecidableEq, Repr

/-- A line port: its registers are in `regs`. -/
structure Port where
  /-- Phase of each member link, 0 off to 4 UP (R360). -/
  phases : List Nat
  /-- Frames queued for transmission, by link, source address and FCS still to come (R369). -/
  txq : List (List Bytes)
  hold : List HoldItem
  /-- IPv4 Identification counter (R378). -/
  ipId : Nat
  /-- Local address table and the words staged for it, by word index (R375). -/
  addr : SMap Word
  staged : KMap Word
  /-- Frames admitted to the exception queue in this interval (R381). -/
  admitted : Nat
  deriving DecidableEq, Repr

def Port.reset : Port :=
  { phases := [0, 0, 0, 0], txq := [[], [], [], []], hold := [], ipId := 0, addr := [], staged := [], admitted := 0 }

/-- Line ports, intake queue and exception queue. -/
structure Lpt where
  ports : SMap Port
  intake : List Intake
  exc : List ExcItem
  deriving DecidableEq, Repr

def Lpt.reset : Lpt := { ports := [], intake := [], exc := [] }

/-- Fetch arbitration: descriptors fetched in the present round, by VI and by ring (R57, R525). -/
structure Hif where
  byVi : SMap Nat
  byRing : SMap Nat
  deriving DecidableEq, Repr

def Hif.reset : Hif := { byVi := [], byRing := [] }
/-! ### Burins, microcode and Graver (chapters 4, 7 and 8) -/

/-- A valid entry of a matrix cache (R204 to R206). -/
structure MatrixEntry where
  handle : Nat
  kgen : Nat
  pinned : Bool
  /-- The matrix is present: a pin whose key changed is empty until the next decapsulation fills it (R206). -/
  filled : Bool
  /-- Tick of last use. -/
  used : Nat
  deriving DecidableEq, Repr

/-- STATE of BUR_BURINb_STATE (R164). -/
inductive BurinState where
  | off | selftest | idle | tokenWait | run | parking | yieldHold | postCommit | zeroise | retired
  deriving DecidableEq, Repr

/-- A base register: ROW, STRIDE as its 8 bits, REGION (R287). -/
structure BaseReg where
  row : Nat
  stride : Nat
  region : Nat
  deriving DecidableEq, Repr

/-- A result in flight: the cycle it lands, its cell, its 32 bytes and the share tag that an operand row takes (R288, R296). -/
structure Landing where
  cycle : Nat
  cell : Nat
  data : Bytes
  tag : Bool
  deriving DecidableEq, Repr

/-- The state of a burin that runs a customer routine (R285 to R301). -/
structure Micro where
  /-- Header and body of the image the job was dispatched for. -/
  image : Bytes
  entry : Nat
  pc : Nat
  /-- Issues left of a repeat (R290). -/
  rep : Nat
  cycle : Nat
  bases : List BaseReg
  lcs : List Nat
  /-- 32 B cells, unlisted ones zero: operand rows below 0x800, hash-core rows, sampler output, accumulators, flags (R285, R294). -/
  mem : SMap Bytes
  /-- Rows whose share tag is set. -/
  tags : List Nat
  landing : List Landing
  /-- Parameter row (R307). -/
  params : Bytes
  /-- Cycle from which each hash core is free again. -/
  busy : SMap Nat
  committed : Bool
  deriving DecidableEq, Repr

/-- A burin. -/
structure Burin where
  state : BurinState
  job : Option Nat
  faults : Nat
  /-- Tick at which YIELD_HOLD began (R180). -/
  since : Nat
  /-- Words issued of a vendor routine, and the state of a customer one. -/
  issued : Nat
  micro : Option Micro
  deriving DecidableEq, Repr

def Burin.reset : Burin := { state := .off, job := none, faults := 0, since := 0, issued := 0, micro := none }

/-- A pier (chapters 4 and 7). -/
structure Pier where
  onDuty : Nat
  spare : Nat
  retired : Nat
  burins : SMap Burin
  /-- Header and body of the customer image it holds, and tick of its load (R303, R314). -/
  image : Option Bytes
  loadedAt : Nat
  /-- A store of the pier is damaged: it takes no job until the rewrite (R284). -/
  damaged : Bool
  matrix : List MatrixEntry
  /-- Parked candidates, oldest first: job and bytes with the job record (R193). -/
  park : List (Nat × Nat)
  picks : Nat
  /-- Deficits of R175 by class × 256 + VI, and the VI last served by class. -/
  deficits : SMap Nat
  turn : SMap Nat
  /-- Stipple generator (R202, R203): passed, waits for a seed, outputs of the present seed, reseeds absorbed, failures. -/
  stippleOk : Bool
  stippleStall : Bool
  stippleUsed : Nat
  stippleSeeds : Nat
  stippleFails : Nat
  /-- The seed it waits for has arrived (R202). -/
  seedReady : Bool
  deriving DecidableEq, Repr

def Pier.reset : Pier :=
  { onDuty := 0, spare := 0, retired := 0, burins := [], image := none, loadedAt := 0, damaged := false, matrix := [], park := [],
    picks := 0, deficits := [], turn := [], stippleOk := false, stippleStall := false, stippleUsed := 0, stippleSeeds := 0,
    stippleFails := 0, seedReady := false }

/-- The burin array. -/
structure Bur where
  piers : SMap Pier
  /-- The current customer image (R311). -/
  current : Option Bytes
  deriving DecidableEq, Repr

def Bur.reset : Bur := { piers := [], current := none }

/-- STATE of GRV_COREc_STATE (R353). -/
inductive CoreState where
  | off | selftest | idle | tokenWait | run | switch | zeroise | retired
  deriving DecidableEq, Repr

/-- An occupied context slot: its job, its yields, and the tick at which it was switched out (R333, R334). -/
structure Slot where
  job : Nat
  yields : Nat
  since : Nat
  deriving DecidableEq, Repr

/-- A Graver core. The computing job is the one `computing` names among `slots`. -/
structure Core where
  state : CoreState
  faults : Nat
  slots : List Slot
  computing : Option Nat
  deriving DecidableEq, Repr

def Core.reset : Core := { state := .off, faults := 0, slots := [], computing := none }

/-- The Graver (R349). -/
structure Grv where
  onDuty : Nat
  spare : Nat
  retired : Nat
  cores : SMap Core
  deficits : SMap Nat
  turn : SMap Nat
  deriving DecidableEq, Repr

def Grv.reset : Grv := { onDuty := 0, spare := 0, retired := 0, cores := [], deficits := [], turn := [] }


/-! ### The digest engine and the entropy source (chapter 12) -/

/-- STATE of DGE_STATUS (R490). -/
inductive DgeStage where
  | free | idle | absorb | done | saving | restoring
  deriving DecidableEq, Repr

/-- What a register context processes (BUSY of R490): a block until a tick, a FINAL, a SQUEEZE, a SAVE or a RESTORE. -/
inductive DgeOp where
  | none | block (ends : Nat) | final | squeeze | save | restore
  deriving DecidableEq, Repr

/-- A register context (R488 to R490). -/
structure DgeCtx where
  owner : Option Nat
  stage : DgeStage
  op : DgeOp
  /-- RELEASE was given and its zeroisation has not ended (R493). -/
  releasing : Bool
  approved : Bool
  err : Nat
  /-- DGE_CTL, DGE_TOTAL, DGE_KEY, DGE_OUTLEN, DGE_CUSTLEN, DGE_SAVE_ADDR. -/
  softPad : Bool
  alg : Nat
  total : Nat
  key : Nat
  outlen : Nat
  custlen : Nat
  saveAddr : Nat
  words : Nat
  /-- Words in the input buffer, oldest first (R497). -/
  buf : List Word
  /-- A word was lost to a full buffer (ERR 0x04). -/
  lost : Bool
  /-- A FINAL was accepted: the message is closed (R497). -/
  closed : Bool
  /-- What INIT or RESTORE took: algorithm, SOFT_PAD, key handle, its value, KGEN and approved flag. -/
  runAlg : Nat
  runSoft : Bool
  runKey : Nat
  keyValue : Bytes
  kgen : Nat
  keyApproved : Bool
  /-- Hash state of a restored computation, and the bytes absorbed since. -/
  base : Bytes
  data : Bytes
  /-- Output stream and the offset of the 64 B in DGE_OUT0 to DGE_OUT15. -/
  stream : Bytes
  pos : Nat
  deriving DecidableEq, Repr

def DgeCtx.reset : DgeCtx :=
  { owner := none, stage := .free, op := .none, releasing := false, approved := false, err := 0, softPad := false, alg := 0, total := 0,
    key := 0xFFFFFFFF, outlen := 0x40, custlen := 0, saveAddr := 0, words := 0, buf := [], lost := false, closed := false, runAlg := 0,
    runSoft := false, runKey := 0xFFFFFFFF, keyValue := [], kgen := 0, keyApproved := false, base := [], data := [], stream := [], pos := 0 }

/-- The digest engine: contexts, the save key, the command units retired. -/
structure Dge where
  ctxs : SMap DgeCtx
  saveKey : Bytes
  retired : Nat
  deriving DecidableEq, Repr

def Dge.reset : Dge := { ctxs := [], saveKey := [], retired := 0 }

/-- Who waits for DRBG output (R508, R510). -/
inductive DrbgUse where
  | stipple (pier : Nat) | job (j : Nat) | firmware
  deriving DecidableEq, Repr

/-- The entropy source (R503 to R514). Source states: 0 in service, 1 awaiting retest, 2 disabled, 3 capture. -/
structure Ent where
  ready : Bool
  drbgOk : Bool
  noEntropy : Bool
  aState : Nat
  bState : Nat
  aFails : Nat
  bFails : Nat
  /-- Conditioned blocks ready (R504). -/
  reserve : Nat
  /-- Generate requests since the last reseed, and its tick (R507). -/
  requests : Nat
  reseedAt : Nat
  /-- Requests that wait, as priority and consumer, oldest first (R508). -/
  waiting : List (Nat × DrbgUse)
  /-- ENT_RAW_CTL (R513). -/
  capture : Bool
  sourceB : Bool
  deriving DecidableEq, Repr

def Ent.reset : Ent :=
  { ready := false, drbgOk := false, noEntropy := false, aState := 0, bState := 0, aFails := 0, bFails := 0, reserve := 0, requests := 0,
    reseedAt := 0, waiting := [], capture := false, sourceB := false }

/-! ### Life cycle (chapter 15) -/

/-- A step of a life-cycle burn (R613): a byte of OTP, or the actions on keys that stand between the bytes. -/
inductive BurnStep where
  | byte (addr : Nat) (value : Byte)
  | restrikeKeys
  | cancelKeys
  deriving DecidableEq, Repr

/-- Who asked for a transition: a job, the test port or a Crosshatch CANCEL (R617, R631). -/
inductive BurnFor where
  | job (j : Nat) | testPort | crosshatch
  deriving DecidableEq, Repr

/-- A transition under way (R613, R625): its target, and the steps still to come; the front byte is being burned. -/
structure Burn where
  target : LState
  code : Bytes
  asker : BurnFor
  steps : List BurnStep
  /-- The drain of R625 has not ended. -/
  draining : Bool
  deriving DecidableEq, Repr

/-- Life cycle and OTP. -/
structure Lcs where
  /-- The 4 KiB array of R605 by byte. -/
  otp : SMap Byte
  /-- The state that governs firmware, keys and commands, and the state of the code, which governs the rest (R616). -/
  lstate : LState
  shown : LState
  /-- The decoded code, B0 first; DECODE_FAIL is the negation of `explained` (R608, R610). -/
  code : Bytes
  explained : Bool
  rolledForward : Bool
  /-- Challenge outstanding (R622). -/
  challenge : Option Bytes
  /-- RESTRIKE_HALF (R624): 0 none, 1 vendor, 2 owner. -/
  half : Nat
  /-- Debug opened by a permit (R626). -/
  debugOpen : Bool
  /-- LCS_REQ_TARGET and REQ_RESULT (R617, R633). -/
  reqTarget : Bytes
  reqResult : Nat
  burn : Option Burn
  /-- Instruction register of the test port (R627). -/
  ir : Byte
  deriving DecidableEq, Repr

def Lcs.reset : Lcs :=
  { otp := [], lstate := .blank, shown := .blank, code := [0, 0, 0, 0, 0], explained := true, rolledForward := false, challenge := none, half := 0,
    debugOpen := false, reqTarget := [0, 0, 0, 0, 0], reqResult := 0, burn := none, ir := 0x01 }

/-! ### Crosshatch and the backup island (chapter 16) -/

/-- The event filter of a source and its counts (R641, R664). -/
structure XhSrc where
  count : Nat
  start : Nat
  fired : Nat
  events : Nat
  /-- Detectors that reported in the current window (R638). -/
  detA : Bool
  detB : Bool
  deriving DecidableEq, Repr

def XhSrc.reset : XhSrc := { count := 0, start := 0, fired := 0, events := 0, detA := false, detB := false }

/-- A source of a decision: which detectors reported, whether it was injected (R638, R662). -/
structure XhHit where
  source : Nat
  detA : Bool
  detB : Bool
  injected : Bool
  deriving DecidableEq, Repr

/-- A response that the first decision unit has decided and the second has not (R650). -/
structure XhPending where
  hits : List XhHit
  resp : Nat
  deriving DecidableEq, Repr

/-- The main side of Crosshatch. The response tables of both decision units, by source ID; unlisted IDs hold the defaults of R637. -/
structure Xh where
  cfgA : KMap Word
  cfgB : KMap Word
  srcs : SMap XhSrc
  pending : Option XhPending
  latched : Nat
  warn : Bool
  halted : Bool
  deferredRun : Bool
  meshSeeded : Bool
  locked : Bool
  lastSource : Nat
  /-- Sources of the HALT in force (R653). -/
  haltBy : List Nat
  /-- LFSR states of the mesh groups (R639). -/
  mesh : List Nat
  /-- XH_ALARM_N held low by a PURGE or stronger response (R645). -/
  alarm : Bool
  /-- Reports of the last microsecond, as source, detector B, tick, and whether the other detector reported too (R638). -/
  recent : List (Nat × Bool × Nat × Bool)
  deriving DecidableEq, Repr

def Xh.reset : Xh :=
  { cfgA := [], cfgB := [], srcs := [], pending := none, latched := 0, warn := false, halted := false, deferredRun := false,
    meshSeeded := false, locked := false, lastSource := 0, haltBy := [], mesh := [0, 0, 0, 0, 0, 0, 0, 0], alarm := false, recent := [] }

/-- The deferred record of R658: severity (6 for the deferred FATAL of R652), source, RTC time. -/
structure Deferred where
  sev : Nat
  source : Nat
  rtcSec : Nat
  rtcSub : Nat
  /-- A deferred HALT that an earlier start-up has carried out. -/
  ran : Bool
  deriving DecidableEq, Repr

/-- The backup island, which keeps its state while VBAT or VDD_IO supplies it (R643, R655 to R658, R666, R792). -/
structure Island where
  vbat : Bool
  /-- The island runs from VBAT although main power is present (R792). -/
  onVbat : Bool
  erased : Bool
  deferred : Option Deferred
  xtalOk : Bool
  rtcSec : Nat
  rtcSub : Nat
  /-- Parts of an RTC tick: 10^8 make one. -/
  rtcPart : Nat
  /-- Island ticks since VBAT was applied (R641). -/
  ticks : Nat
  log : KMap Bytes
  next : Nat
  wraps : Nat
  loopEn : Nat
  cfg : KMap Word
  srcs : SMap XhSrc
  /-- WARN latched on the cell alone (R656). -/
  warn : Bool
  /-- ERASE decisions that the second unit has not taken (R652). -/
  pendingErase : List XhHit
  deriving DecidableEq, Repr

def Island.reset : Island :=
  { vbat := true, onVbat := false, erased := false, deferred := none, xtalOk := false, rtcSec := 0, rtcSub := 0, rtcPart := 0, ticks := 0, log := [],
    next := 0, wraps := 0, loopEn := 0, cfg := [], srcs := [], warn := false, pendingErase := [] }

/-! ### Faults, repair and maintenance (chapter 17) -/

/-- Class of a report (R669). -/
inductive FaultClass where
  | corrected | contained | fatal
  deriving DecidableEq, Repr

/-- A fault-log entry (R673). -/
structure LogEntry where
  seq : Nat
  source : Nat
  cause : Nat
  cls : FaultClass
  injected : Bool
  acked : Bool
  escalated : Bool
  /-- The host alone acknowledges it (R669, R670). -/
  hostAck : Bool
  stamp : Nat
  addr : Nat
  syndrome : Nat
  vi : Nat
  tag : Nat
  deriving DecidableEq, Repr

/-- A maintenance activity (R143). -/
structure Activity where
  mstate : Nat
  progress : Nat
  run : Nat
  result : Nat
  arg : Nat
  /-- Started, not on patrol (R695); the job that started it, if one did. -/
  started : Bool
  job : Option Nat
  deriving DecidableEq, Repr

def Activity.reset : Activity := { mstate := 0, progress := 0, run := 0, result := 0, arg := 0, started := false, job := none }

/-- An armed injection (R678): MODE, INV_MASK, ARM_FATAL. -/
structure Armed where
  mode : Nat
  mask : Nat
  fatal : Bool
  deriving DecidableEq, Repr

/-- The fault collector, the repair map and the scheduler of maintenance. -/
structure Fcl where
  log : KMap LogEntry
  next : Nat
  wraps : Nat
  seq : Nat
  /-- Unacknowledged CONTAINED reports, oldest first (R675). -/
  pending : List LogEntry
  corr : Nat
  cont : Nat
  fatalMap : Nat
  fatal : Bool
  fatalSource : Nat
  /-- Checkers passed: ERR_N follows R672 (R727). -/
  checked : Bool
  armed : KMap Armed
  /-- Repair map as voted at POST (R690): valid words by slot, ignored slots. -/
  slots : KMap Nat
  ignored : List Nat
  mapRead : Bool
  /-- Retirements of this power-up not in OTP, as slot words (R691). -/
  uncommitted : List Nat
  rowsSpared : Nat
  /-- Spare rows used by macro (R687), and rows that a scrub pass found once. -/
  spares : SMap Nat
  seenRows : List (Nat × Nat)
  /-- HBM pages retired and not yet repaired, and pages left in the reserve (R684). -/
  pages : List Nat
  reserve : Nat
  acts : SMap Activity
  runs : Nat
  /-- Activities that the firmware starts as soon as none conflicts (R185, R468, R695). -/
  wanted : List Nat
  /-- Targeted known-answer tests due: SEQ of the report, SOURCEs of the units (R195, R341, R423). -/
  targeted : List (Nat × List Nat)
  deriving DecidableEq, Repr

def Fcl.reset : Fcl :=
  { log := [], next := 0, wraps := 0, seq := 0, pending := [], corr := 0, cont := 0, fatalMap := 0, fatal := false, fatalSource := 0,
    checked := false, armed := [], slots := [], ignored := [], mapRead := false, uncommitted := [], rowsSpared := 0, spares := [],
    seenRows := [], pages := [], reserve := 65536, acts := [], runs := 0, wanted := [], targeted := [] }

/-- The Drafting pairs: duty maps, and the spares under self-test (R688). -/
structure Drf where
  onDuty : Nat
  spare : Nat
  retired : Nat
  testing : Nat
  deriving DecidableEq, Repr

def Drf.reset : Drf := { onDuty := 0, spare := 0, retired := 0, testing := 0 }

/-! ### Tollhouse, start-up and flash (chapters 18 and 20) -/

/-- GLB_DEV_STATE, GLB_RESET_CAUSE, GLB_BOOT, clocks and straps (R724 to R742, R785). -/
structure Glb where
  dev : DevState
  fwCause : Nat
  /-- GLB_RESET_CAUSE: bit 0 POWER, bit 1 PERST, bit 2 SOFTWARE (R742). -/
  cause : BitVec 3
  readyMs : Nat
  fallback : Bool
  trial : Bool
  slotB : Bool
  pll : Bool
  /-- Main reset is released (R724). -/
  released : Bool
  /-- Where HALTED was entered from (R735). -/
  haltedIn : DevState
  /-- Straps (R785). -/
  clkMode : Bool
  smbAddr : BitVec 2
  /-- NumVFs while VF Enable is 1, else 0 (R516, R539). -/
  numVfs : Nat
  deriving DecidableEq, Repr

def Glb.reset : Glb :=
  { dev := .reset, fwCause := 0, cause := 1, readyMs := 0, fallback := false, trial := false, slotB := false, pll := false,
    released := false, haltedIn := .reset, clkMode := false, smbAddr := 0, numVfs := 0 }

/-- The Tollhouse. Token holders are (kind, unit): kinds 0 burin, 1 lane, 2 Graver core, 3 Drafting pair; burins count pier × 9 +
burin. -/
structure Tol where
  /-- T_J and its highest value, signed, in 1/16 °C (R740). -/
  tj : BitVec 16
  tjMax : BitVec 16
  /-- A sample has been taken since the main power-up. -/
  tjSeen : Bool
  effective : Nat
  /-- Domains that are on (R712). -/
  pd : Nat
  /-- Tokens held, newest grant first, and those recalled and not yet returned (R718). -/
  grants : List (Nat × Nat)
  recalled : List (Nat × Nat)
  /-- Grants per kind since its last aged one, and deficits (R717). -/
  counts : SMap Nat
  deficits : SMap Nat
  turn : SMap Nat
  /-- Tick at which a unit began to wait for its token. -/
  asked : KMap Nat
  /-- Samples since the last whole ms with THERMAL, with SHORT. -/
  hotSamples : Nat
  shortSamples : Nat
  /-- AVS loop (R720 to R722). -/
  avsOk : Bool
  slack : Nat
  vddMv : Nat
  high : Nat
  asking : Option Nat
  attempts : Nat
  /-- Consecutive low sentinels by SOURCE (R694), and the slack table of R723. -/
  low : KMap Nat
  slackTable : List Nat
  pcie : PcieLink
  deriving DecidableEq, Repr

def Tol.reset : Tol :=
  { tj := 0, tjMax := 0, tjSeen := false, effective := 0xF0, pd := 0x08000003, grants := [], recalled := [], counts := [], deficits := [], turn := [],
    asked := [], hotSamples := 0, shortSamples := 0, avsOk := false, slack := 0, vddMv := 0x320, high := 0, asking := none,
    attempts := 0, low := [], slackTable := [], pcie := .l2 }

/-- The boot flash apart from shelf and lease log (R729 to R731, R684). Slots hold header, body and signatures. -/
structure Flash where
  layout : Bytes
  slotA : Bytes
  slotB : Bytes
  /-- Ruling boot-control record (R730): SEQ, ACTIVE is B, slot on trial. -/
  seq : Nat
  activeB : Bool
  trial : Option Bool
  /-- HBM page retirement list (R684). -/
  retired : List Nat
  /-- Image being written by FW_STAGE: its job, the slot, the image, blocks left, ACTIVATE (R158). -/
  staging : Option (Nat × Bool × Bytes × Nat × Bool)
  deriving DecidableEq, Repr
/-! ### Custody (chapter 19) -/

/-- The transfer of one 4 KiB unit with the custody card (R746, R749). -/
inductive SdXfer where
  | read (lba : Nat) | write (lba : Nat) (data : Bytes)
  deriving DecidableEq, Repr

/-- Who holds the custody card (R747, R748): the scan after insertion, a job, or the activity ARCHIVE_EXPORT. -/
inductive CardUse where
  | auto | scan (j : Nat) | restore (j : Nat) | export_
  deriving DecidableEq, Repr

/-- An operation of the custody card: transfers still to come, the front one under way, its retries, the units read by LBA, the superblock
that the last write commits, the stateful ranges that an export moved, by handle and old end (R253, R755). -/
structure CardOp where
  use : CardUse
  todo : List SdXfer
  tries : Nat
  got : List (Nat × Bytes)
  commit : Option Bytes
  moved : List (Nat × Nat)
  /-- Archive key of a restore, and whether it came from shares and is to be adopted (R774). -/
  key : Bytes
  adopt : Bool
  /-- Slots whose shares are still to be read, and the shares read (R774). -/
  slots : List Nat
  shares : List Bytes
  /-- Units of the operation in all. -/
  total : Nat
  deriving DecidableEq, Repr

/-- An officer slot (R777): TA1 as negotiated, the last exchange failed; serial, share KCV and public key of the card that logged in. -/
structure OcdSlot where
  fi : Nat
  di : Nat
  error : Bool
  serial : Bytes
  kcv : Bytes
  pubkey : Bytes
  deriving DecidableEq, Repr

def OcdSlot.reset : OcdSlot := { fi := 1, di := 1, error := false, serial := [], kcv := [], pubkey := [] }

/-- What an exchange with an officer card waits for (R768, R774). -/
inductive ExchStep where
  | atr (classB again : Bool) | pps (ta1 : Nat) | ifs | select | cert (page : Nat) | sign | share
  deriving DecidableEq, Repr

/-- An exchange with an officer card (R761 to R768). -/
structure Exch where
  slot : Nat
  job : Nat
  /-- A login, not the reading of a share. -/
  login : Bool
  step : ExchStep
  classB : Bool
  /-- T=1: sequence number of the next I-block each way, the card's IFSC, what is left of the command to send, the command, the last
  block sent, the response so far, retries, and whether S(RESYNCH) is out or has been sent (R765). -/
  ns : Bool
  nr : Bool
  ifsc : Nat
  queue : Bytes
  apdu : Bytes
  last : Bytes
  rx : Bytes
  tries : Nat
  resync : Bool
  resynced : Bool
  /-- SELECT's answer, certificate, challenge, ephemeral private value (R766 to R772). -/
  select : Bytes
  cert : Bytes
  challenge : Bytes
  secret : Bytes
  deriving DecidableEq, Repr

/-- The custody interfaces. -/
structure Cus where
  present : Bool
  ready : Bool
  error : Bool
  width4 : Bool
  speed : Nat
  /-- 512 B blocks of the card (R749). -/
  lbas : Nat
  /-- The ruling superblock's 256 B, the slot that holds it, archive-valid (R754). -/
  ruling : Option Bytes
  slotB : Bool
  valid : Bool
  op : Option CardOp
  /-- Officer slots, presence by slot, the exchange under way. -/
  slots : SMap OcdSlot
  ocd : Nat
  exch : Option Exch
  /-- Shares that wait for officers, and the last SPLIT_SEQ (R770 to R773). -/
  shares : KMap Bytes
  splitSeq : Nat
  deriving DecidableEq, Repr

def Cus.reset : Cus :=
  { present := false, ready := false, error := false, width4 := false, speed := 0, lbas := 0, ruling := none, slotB := false, valid := false,
    op := none, slots := [], ocd := 0, exch := none, shares := [], splitSeq := 0 }


/-! ### SPDM, IDE and TDISP (chapters 11 and 13) -/

/-- How far the SPDM connection has been negotiated (assumption log 58). -/
inductive SpdmPhase where
  | none | version | capabilities | negotiated
  deriving DecidableEq, Repr

/-- A secured SPDM session (R555): open once FINISH has passed; the shared secret and transcript that its keys come from; key updates and
messages of each direction. -/
structure SpdmSession where
  id      : Nat
  isOpen  : Bool
  secret  : Bytes
  record  : Bytes
  reqGen  : Nat
  rspGen  : Nat
  reqSeq  : Nat
  rspSeq  : Nat
  deriving DecidableEq, Repr

/-- The DOE mailbox's responder (R481, R554 to R560). -/
structure Doe where
  phase : SpdmPhase
  version : Nat
  /-- Messages negotiated with, messages of digests and certificates, measurement messages not yet signed (assumption log 58). -/
  vca : Bytes
  certMsgs : Bytes
  measMsgs : Bytes
  /-- At most two sessions, by place 0 or 1 (R555). -/
  sessions : KMap SpdmSession
  /-- IDE keys by place: stream 0 to 3 selective, 4 link; direction; sub-stream; key set (R554). -/
  keys : KMap Bytes
  /-- Places whose key set is in use, rising (K_SET_GO, K_SET_STOP). -/
  going : List Nat
  /-- START_INTERFACE_NONCE of each locked VI (R556). -/
  nonces : KMap Bytes
  /-- VIs whose STOP_INTERFACE_REQUEST is not yet answered, with the session place (R560). -/
  stops : KMap Nat
  deriving DecidableEq, Repr

def Doe.reset : Doe :=
  { phase := .none, version := 0x10, vca := [], certMsgs := [], measMsgs := [], sessions := [], keys := [], going := [], nonces := [], stops := [] }

/-! ### The machine -/

/-- STATE of the pair (R570). -/
inductive PairState where
  | unpaired | starting | syncing | inStep | linkDown | peerLost | fenced | refused
  deriving DecidableEq, Repr

/-- What waits for a twin's acknowledgement (R581). -/
inductive MirrorWait where
  | job (j : Nat)
  | pending (i : Nat)
  | established (i : Nat)
  | altKeys (i : Nat)
  | txKeys (i : Nat)
  | sendLease (i leaseEnd : Nat)
  | counter (h leaseEnd : Nat)
  | stateful (h : Nat)
  | removal (i : Nat)
  | viReset (v : Nat)
  /-- A written CSN_CTL (R484). -/
  | csnCtl (value : Word)
  /-- The old primary has sent the windows and leases of some VIs (with their AUTO flags); message `id` of the peer waits for its answer
  (R579). -/
  | handover (vis : List (Nat × Bool)) (id : Nat)
  | checkpoint (i recnum : Nat)
  deriving DecidableEq, Repr

/-- A frame sent and not yet acknowledged (R566): its bytes go out again unchanged. -/
structure SpanFrame where
  typ : Nat
  seq : Nat
  chan : Nat
  payload : Bytes
  bytes : Bytes
  deriving DecidableEq, Repr

/-- A pairing under way (R575): `step` is the last step message taken from the peer. -/
structure Pairing where
  job : Nat
  source : Bool
  initiator : Bool
  peerId : Bytes
  /-- Identity public keys of the peer's impression. -/
  peerKeys : Bytes
  step : Nat
  transcript : Bytes
  /-- Ephemeral private values, then the secret and the span master. -/
  secret : Bytes
  deriving DecidableEq, Repr

/-- The Twin Span (chapter 14). -/
structure Spn where
  pair : PairState
  /-- Mirrored items that wait for acknowledgement, by message number (R581). -/
  waits : KMap MirrorWait
  nextMsg : Nat
  /-- Checkpoint ledger: RECNUM of the last acknowledged checkpoint by session (R584). -/
  ledger : KMap Nat
  /-- The pairing record (R576): unit ID and digest of the identity keys of the peer, PAIR_SEQ, boot count; the roles are in the VIs. -/
  peerId : Bytes
  peerPub : Bytes
  pairSeq : Nat
  bootCount : Nat
  /-- LINK_UP; link nonces of this alignment, sent and received (R565, R567). -/
  link : Bool
  ourNonce : Option Bytes
  peerNonce : Option Bytes
  txSeq : Nat
  rxSeq : Nat
  sent : List SpanFrame
  /-- Mirror messages that wait for room or for the link, as channel and payload. -/
  queue : List (Nat × Bytes)
  /-- Tick of the last authenticated frame, and of the frames that failed their tag in the last millisecond. -/
  linkRx : Nat
  tagFails : List Nat
  /-- Failed physical lanes (R563). -/
  badLanes : Nat
  /-- Heartbeat (R568, R569): own counter and wraps; boot count, wrap count and COUNTER last accepted; STATE and FENCE of that word. -/
  hbCounter : Nat
  hbWraps : Nat
  hbBoot : Nat
  hbWrap : Nat
  hbCount : Option Nat
  hbAlive : Bool
  hbRx : Nat
  peerState : Nat
  peerFence : Bool
  /-- A claim: FENCE goes out in the heartbeat words (R592), and the job that made it. -/
  fence : Bool
  claim : Option Nat
  permille : Nat
  /-- PAIR_NONCE (R572), the pairing under way, and what has come of the peer's next step message. -/
  pairNonce : Bytes
  pairing : Option Pairing
  early : Bytes
  /-- State from which SYNCING was entered; the sources are settled (R595, R596). -/
  syncFrom : PairState
  settled : Bool
  /-- Messages of the peer that take the role of some VIs (with their AUTO flags): the records inside the Carriageway are decided first
  (R579). -/
  draining : List (Nat × List (Nat × Bool))
  /-- Pair state, PAIR_SEQ, primary and AUTO flags that the peer sent for this synchronisation (R595, R596). -/
  peerSync : Option (Nat × Nat × Nat × Nat)
  /-- The twin is newly paired: stateful ranges are split or handed on (R245, R252). -/
  fresh : Bool
  /-- VIs that this device is source of the sessions for, and of the keys and configuration for. -/
  sessionSource : List Nat
  keySource : List Nat
  /-- VIs that this device takes as primary after synchronisation (R595). -/
  returning : List Nat
  /-- VIs for which it held the primary role since it declared its peer lost (R597), and those it reset then (R596). -/
  wasPrimary : List Nat
  resets : List Nat
  /-- Sessions and keys received in this synchronisation (R597). -/
  gotSessions : List Nat
  gotKeys : List Nat
  deriving DecidableEq, Repr

def Spn.reset : Spn :=
  { pair := .unpaired, waits := [], nextMsg := 0, ledger := [], peerId := [], peerPub := [], pairSeq := 0, bootCount := 0, link := false,
    ourNonce := none, peerNonce := none, txSeq := 0, rxSeq := 0, sent := [], queue := [], linkRx := 0, tagFails := [], badLanes := 0,
    hbCounter := 0, hbWraps := 0, hbBoot := 0, hbWrap := 0, hbCount := none, hbAlive := false, hbRx := 0, peerState := 0, peerFence := false, fence := false,
    claim := none, permille := 0, pairNonce := [], pairing := none, early := [], syncFrom := .unpaired, settled := false, draining := [], peerSync := none, fresh := false,
    sessionSource := [], keySource := [], returning := [], wasPrimary := [], resets := [], gotSessions := [], gotKeys := [] }

/-- The machine. -/
structure State where
  /-- Commands that wait, first in, first out. -/
  pending : List Instr
  out : List Out
  /-- TIMESTAMP (R13). -/
  time : Nat
  /-- The model's own counters of free values and draws (assumption log 2). -/
  frees : Nat
  draws : Nat
  regs : SMap Word
  glb : Glb
  lcs : Lcs
  vis : SMap Vi
  rings : SMap Ring
  jobs : KMap Job
  nextJob : Nat
  replies : List Reply
  csn : Csn
  fn : Fn
  bur : Bur
  grv : Grv
  lne : Lne
  cwy : Cwy
  lpt : Lpt
  hif : Hif
  dge : Dge
  ent : Ent
  spn : Spn
  xh : Xh
  island : Island
  fcl : Fcl
  drf : Drf
  tol : Tol
  flash : Flash
  cus : Cus
  doe : Doe
  deriving DecidableEq, Repr

/-- Why a command stops the machine: no command does. -/
inductive Fault where
  /-- Raised by no command: the spec gives every command an effect (safe). -/
  | never
  deriving DecidableEq, Repr

/-- Why a command is not modelled: none is left. -/
inductive Refusal where
  /-- Raised by no command: every row of the table has its meaning (safe: the machine would stop). -/
  | notModelled (mnemonic : String)
  deriving DecidableEq, Repr

/-- The boot flash as it leaves the factory: erased, with the default layout header taken as written (assumption log 30). -/
def Flash.reset : Flash :=
  { layout := [70, 76, 83, 84, 1, 0, 0, 0, 0, 2, 0, 0, 1, 0, 0, 0, 129, 0, 0, 0, 128, 0, 0, 0, 1, 1, 0, 0, 3, 1, 0, 0, 128, 0, 0, 0, 131, 1, 0, 0,
      16, 0, 0, 0, 147, 1, 0, 0] ++ List.replicate 204 0 ++ [129, 45, 86, 14],
    slotA := [], slotB := [], seq := 0, activeB := false, trial := none, retired := [], staging := none }

def State.reset : State :=
  { pending := [], out := [], time := 0, frees := 0, draws := 0, regs := [], glb := Glb.reset, lcs := Lcs.reset, vis := [],
    rings := [], jobs := [], nextJob := 0, replies := [], csn := Csn.reset, fn := Fn.reset, bur := Bur.reset, grv := Grv.reset, lne := Lne.reset,
    cwy := Cwy.reset, lpt := Lpt.reset, hif := Hif.reset, dge := Dge.reset, ent := Ent.reset,
    spn := Spn.reset, xh := Xh.reset, island := Island.reset, fcl := Fcl.reset, drf := Drf.reset,
    tol := Tol.reset, flash := Flash.reset, cus := Cus.reset, doe := Doe.reset }

end Sys2Proof.Machine
end

