-- ==== Sys2Proof/Machine/Ops.lean ====
section
/-! DEFINITION. Named operations over the state: tables, free values, outputs, interrupts, ring entries and events. -/

namespace Sys2Proof

/-- The place of a ring among the 50 rings of a VI (R33). -/
def RingId.key : RingId → Nat
  | .cmd n => n.val
  | .rx n => 16 + n.val
  | .tx n => 32 + n.val
  | .ev => 48
  | .xq => 49

/-- KIND of VI_RING_ERR (R86). -/
def RingId.kind : RingId → Nat
  | .cmd _ => 0
  | .rx _ => 1
  | .tx _ => 2
  | .ev => 3
  | .xq => 4

/-- Ring index of VI_RING_ERR (R86). -/
def RingId.index : RingId → Nat
  | .cmd n => n.val
  | .rx n => n.val
  | .tx n => n.val
  | .ev => 0
  | .xq => 0

/-- Rings with a data area. -/
def RingId.hasData : RingId → Bool
  | .rx _ => true | .xq => true | _ => false

/-- Rings that the device fetches from. -/
def RingId.fetched : RingId → Bool
  | .cmd _ => true | .tx _ => true | _ => false

namespace Machine

/-! ### Tables -/

def ringDef (_ : Nat) : Ring := Ring.reset
def pierDef (_ : Nat) : Pier := Pier.reset

/-- The quota record (R522). -/
def Quota.bytes (q : Quota) : Bytes :=
  leBytes 2 1 ++ leBytes 1 q.burinWeight ++ leBytes 1 q.graverWeight ++ leBytes 1 q.laneWeight ++ leBytes 1 q.fetchWeight ++ leBytes 1 q.cmdRings ++
    leBytes 1 q.rxRings ++ leBytes 1 q.txRings ++ leBytes 1 q.dgeCtx ++ leBytes 2 q.stateful ++ leBytes 4 q.sessionBase ++ leBytes 4 q.sessions ++
    leBytes 4 q.handles ++ leBytes 2 q.pkMib ++ leBytes 2 q.shelfKib ++ zeros 36

/-- The record's fields. -/
def Quota.ofBytes (b : Bytes) : Quota :=
  { burinWeight := rd b 2 1, graverWeight := rd b 3 1, laneWeight := rd b 4 1, fetchWeight := rd b 5 1, cmdRings := rd b 6 1, rxRings := rd b 7 1,
    txRings := rd b 8 1, dgeCtx := rd b 9 1, stateful := rd b 10 2, sessionBase := rd b 12 4, sessions := rd b 16 4, handles := rd b 20 4,
    pkMib := rd b 24 2, shelfKib := rd b 26 2 }

/-- The virtual instance `v` (R516). -/
def State.vi (s : State) (v : Nat) : Vi := SMap.get Vi.reset v s.vis

def State.setVi (s : State) (v : Nat) (x : Vi) : State := { s with vis := SMap.set Vi.reset v x s.vis }

def State.modVi (s : State) (v : Nat) (f : Vi → Vi) : State := s.setVi v (f (s.vi v))

/-- Ring `k` of VI `v`. -/
def State.ring (s : State) (v k : Nat) : Ring := SMap.get ringDef (v * 64 + k) s.rings

def State.setRing (s : State) (v k : Nat) (r : Ring) : State := { s with rings := SMap.set ringDef (v * 64 + k) r s.rings }

def State.modRing (s : State) (v k : Nat) (f : Ring → Ring) : State := s.setRing v k (f (s.ring v k))

/-- Pier `p`. -/
def State.pier (s : State) (p : Nat) : Pier := SMap.get pierDef p s.bur.piers

def State.setPier (s : State) (p : Nat) (x : Pier) : State :=
  { s with bur := { s.bur with piers := SMap.set pierDef p x s.bur.piers } }

def State.modPier (s : State) (p : Nat) (f : Pier → Pier) : State := s.setPier p (f (s.pier p))

def State.job (s : State) (j : Nat) : Option Job := KMap.get j s.jobs

def State.putJob (s : State) (j : Nat) (x : Job) : State := { s with jobs := KMap.put j x s.jobs }

def State.modJob (s : State) (j : Nat) (f : Job → Job) : State := { s with jobs := KMap.mod j f s.jobs }

/-- A new job takes the next identifier. -/
def State.addJob (s : State) (x : Job) : State := { (s.putJob s.nextJob x) with nextJob := s.nextJob + 1 }

def State.emit (s : State) (o : Out) : State := { s with out := s.out ++ [o] }

/-! ### Free values and draws (assumption log 2) -/

/-- The next value that the spec leaves open. -/
def State.freeVal (s : State) : Nat := Config.freeNat s.frees

def State.nextFree (s : State) : State := { s with frees := s.frees + 1 }

/-- `n` bytes drawn from the DRBG (R508). -/
def drawBytes (k n : Nat) : Bytes := (List.range n).map (Config.drawByte k)

/-- `n` bytes of the output of a standard's function (assumption log 1). -/
def stdOut (f : Config.Std) (alg : Nat) (args : List Bytes) (n : Nat) : Bytes :=
  (List.range n).map (Config.stdByte f alg args)

/-! ### Interrupts (R83 to R86, R517) -/

/-- The device may issue DMA for a VI (R518, R540, R560): Bus Master Enable, no TDISP error, and the VI runs. -/
def State.dmaOk (s : State) (v : Nat) : Bool :=
  let x := s.vi v
  x.bme && decide (x.tdi ≠ .error) && decide (x.state = .running)

/-- The selective stream that carries a VI's DMA: the bound one while the TDI is in RUN (R559). -/
def State.via (s : State) (v : Nat) : Option Nat := if (s.vi v).tdi = .run then (s.vi v).stream else none

/-- Words of the MSI-X table: vectors start masked (assumption log 5). -/
def msixDef (i : Nat) : Word := if i % 4 = 3 then 1 else 0

/-- A vector is masked: bit 0 of its vector control word (assumption log 5). -/
def Vi.masked (x : Vi) (vec : Nat) : Bool := (SMap.get msixDef (vec * 4 + 3) x.msix).getLsbD 0

/-- Insert a number into a rising list. -/
def insertNat (n : Nat) : List Nat → List Nat
  | [] => [n]
  | a :: r => if n = a then a :: r else if n < a then n :: a :: r else a :: insertNat n r

/-- Send an MSI-X message, or leave it pending while its vector is masked or DMA stops (R83, R518). -/
def State.sendMsix (s : State) (v vec : Nat) : State :=
  if s.dmaOk v && !((s.vi v).masked vec) then s.emit (.msix v (s.via v) vec)
  else s.modVi v (fun x => { x with pba := insertNat vec x.pba })

/-- Pending messages whose vectors are unmasked go out once DMA may run. -/
def State.flushMsix (s : State) (v : Nat) : State :=
  if s.dmaOk v then
    let go := (s.vi v).pba.filter (fun vec => !((s.vi v).masked vec))
    let s1 := go.foldl (fun t vec => t.emit (.msix v (s.via v) vec)) s
    s1.modVi v (fun x => { x with pba := x.pba.filter (fun vec => x.masked vec) })
  else s

/-- Set bit `b` of VI_INT_STATUS; a message goes out when the bit rises while it is enabled (R85). -/
def State.raiseStatus (s : State) (v b : Nat) : State :=
  let x := s.vi v
  let s1 := s.setVi v { x with intStatus := x.intStatus ||| BitVec.ofNat 4 (2 ^ b) }
  if !(x.intStatus.getLsbD b) && x.intEnable.getLsbD b then s1.sendMsix v x.intVector.toNat else s1

/-- Capture a ring error in VI_RING_ERR: the first after RING_ERR was cleared (R86). -/
def State.ringError (s : State) (v cause : Nat) (kind ring value : Nat) : State :=
  if (s.vi v).intStatus.getLsbD 0 then s
  else
    let w := BitVec.ofNat 32 (cause * 2 ^ 24 + kind * 2 ^ 20 + ring * 2 ^ 16 + value % 65536)
    (s.modVi v (fun x => { x with ringErr := w })).raiseStatus v 0

/-! ### Ring entries (R48, R50, R79 to R85) -/

/-- Entries of a ring (R38). -/
def Ring.size (r : Ring) : Nat := 2 ^ r.log2Size.toNat

/-- Entries between two indices, modulo the ring size (R47). -/
def Ring.dist (r : Ring) (a b : Nat) : Nat := (b + r.size - a % r.size) % r.size

/-- Entries the host has not returned (R48). -/
def Ring.unreturned (r : Ring) : Nat := r.dist r.head r.writeIdx

/-- A device-written ring has no free entry: at most size − 1 are unconsumed (R48). -/
def Ring.full (r : Ring) : Bool := decide (r.size - 1 ≤ r.unreturned)

/-- The write index moves past one entry; PHASE toggles at the wrap (R50). -/
def Ring.advance (r : Ring) : Ring :=
  if r.writeIdx + 1 = r.size then { r with writeIdx := 0, phase := !r.phase } else { r with writeIdx := r.writeIdx + 1 }

/-- One more unsignalled entry, with its message when the count reaches COUNT, or at once on NOTIFY (R83, R52). -/
def State.countEntry (s : State) (v k : Nat) (notify : Bool) : State :=
  let r := s.ring v k
  let n := r.unsignalled + 1
  if notify || (decide (r.modCount.toNat ≠ 0) && decide (r.modCount.toNat ≤ n)) then
    (s.setRing v k { r with unsignalled := 0 }).sendMsix v r.vector.toNat
  else s.setRing v k { r with unsignalled := n }

/-- Byte `i` of an entry with bit 7 set to the ring's PHASE (R50). -/
def withPhase (b : Bytes) (i : Nat) (ph : Bool) : Bytes :=
  listMod b i (fun x => if ph then x ||| 0x80 else x &&& 0x7F)

/-- Write the 32 B entry at the ring's write index (R50): `base` is the entry memory, `phAt` the byte with PHASE. -/
def State.writeEntry (s : State) (v k : Nat) (base : BitVec 64) (phAt : Nat) (e : Bytes) (notify : Bool) : State :=
  let r := s.ring v k
  let s1 := s.emit (.dma v (s.via v) (base.toNat + 32 * r.writeIdx) (withPhase e phAt r.phase))
  (s1.setRing v k r.advance).countEntry v k notify

/-- Counters of a ring (R41) count up and saturate. -/
def State.ringLoss (s : State) (v k : Nat) : State := s.modRing v k (fun r => { r with losses := satInc r.losses })

/-- The 32 B of an event entry, PHASE apart (R79). -/
def eventBytes (code : Nat) (lost : Bool) (session d0 d1 tag stamp : Nat) : Bytes :=
  leBytes 2 code ++ [if lost then 1 else 0, 0] ++ leBytes 4 session ++ leBytes 4 d0 ++ leBytes 4 d1 ++ leBytes 4 tag ++
    zeros 4 ++ leBytes 8 stamp

/-- An event is lost (R81): counted, EV_LOST set, and the next event written carries LOST_BEFORE. -/
def State.loseEvent (s : State) (v : Nat) : State :=
  ((s.ringLoss v 48).modVi v (fun x => { x with lostBefore := true })).raiseStatus v 3

/-- An event of a VI: written to its event ring, or lost (R79 to R81). -/
def State.event (s : State) (v code session d0 d1 tag : Nat) : State :=
  let r := s.ring v 48
  if !r.enable || r.full || !(s.dmaOk v) || decide (s.glb.dev = .falsework) then s.loseEvent v
  else
    let e := eventBytes code (s.vi v).lostBefore session d0 d1 tag s.time
    (s.modVi v (fun x => { x with lostBefore := false })).writeEntry v 48 r.baseA 2 e false

/-! ### OTP (R605) -/

def otpDef (_ : Nat) : Byte := 0

/-- The OTP byte at an offset (R605). -/
def State.otp (s : State) (a : Nat) : Byte := SMap.get otpDef a s.lcs.otp

def State.setOtp (s : State) (a : Nat) (v : Byte) : State := { s with lcs := { s.lcs with otp := SMap.set otpDef a v s.lcs.otp } }

/-- `n` OTP bytes. -/
def State.otpBytes (s : State) (a n : Nat) : Bytes := (List.range n).map (fun i => s.otp (a + i))

/-- UNIT_ID (R147, R605). -/
def State.unitId (s : State) : Bytes := s.otpBytes 0x60 16

/-! ### Device questions -/

/-- A live key: a handle marked destroyed is not found (R56, R138). -/
def State.key (s : State) (h : Nat) : Option KeyRec :=
  match KMap.get h s.csn.keys with
  | some k => if k.destroying then none else some k
  | none => none

def State.paired (s : State) : Bool := decide (s.spn.pair ≠ .unpaired)

/-! ### The twin (R581, R590) -/

/-- Leases are granted without the twin under the parity rule: PEER_LOST, FENCED, or while a claim is pending. -/
def State.lone (s : State) : Bool := decide (s.spn.pair = .peerLost ∨ s.spn.pair = .fenced) || (s.spn.fence && decide (s.spn.pair = .linkDown))

/-- What is not yet copied needs no message of its own (R598). -/
def State.uncopied (s : State) : Bool := decide (s.spn.pair = .syncing) && !s.spn.settled

/-- Changes of a session entry wait for the twin. -/
def State.entryWaits (s : State) : Bool := s.paired && !s.lone && !s.uncopied

end Machine
end Sys2Proof
end

