-- ==== Sys2Proof/Machine/Desc.lean ====
section
/-! DEFINITION. Descriptor fields and the opcode map (R51, R52, R90, R91, R100, R101). -/

namespace Sys2Proof.Machine

/-! ### Fields of a descriptor (R51) -/

def dOp (b : Bytes) : Nat := rd b 0 2
def dFlags (b : Bytes) : Nat := rd b 2 1
def dClass (b : Bytes) : Nat := rd b 3 1
def dGen (b : Bytes) : Nat := rd b 4 2
def dTag (b : Bytes) : Nat := rd b 8 4
def dLenIn (b : Bytes) : Nat := rd b 12 4
def dOutMax (b : Bytes) : Nat := rd b 16 4
def dKey (b : Bytes) : Nat := rd b 20 4
def dInAddr (b : Bytes) : Nat := rd b 24 8
def dOutAddr (b : Bytes) : Nat := rd b 32 8
def dP0 (b : Bytes) : Nat := rd b 40 8
def dP1 (b : Bytes) : Nat := rd b 48 8
def dP2 (b : Bytes) : Nat := rd b 56 4
def dChk (b : Bytes) : Nat := rd b 60 4

/-- KEY_HANDLE 0xFFFF_FFFF names no key (R51). -/
def noKey : Nat := 0xFFFFFFFF

/-- FLAGS of a descriptor (R52). -/
def dOrdered (b : Bytes) : Bool := (dFlags b).testBit 0
def dFence (b : Bytes) : Bool := (dFlags b).testBit 1
def dNotify (b : Bytes) : Bool := (dFlags b).testBit 2
def dRequireApproved (b : Bytes) : Bool := (dFlags b).testBit 3

/-- ALG of PARAM0 (R92). -/
def dAlg (b : Bytes) : Nat := bits (dP0 b) 15 0

/-- MODBITS of PARAM0 (R116). -/
def dModBits (b : Bytes) : Nat := bits (dP0 b) 63 48

/-- The descriptor with the owning VI stamped at bytes 6 and 7 (R51, R53). -/
def stampVi (b : Bytes) (v : Nat) : Bytes := putAt b 6 (leBytes 2 v)

/-! ### Status codes (R66) -/

namespace St
def ok := 0x0000
def okLate := 0x0001
def badOpcode := 0x0100
def badParam := 0x0101
def length := 0x0102
def inputInvalid := 0x0103
def notOnCurve := 0x0104
def badEncoding := 0x0105
def descCheck := 0x0106
def staleGen := 0x0107
def keyNotFound := 0x0200
def keyUsage := 0x0201
def keyStaged := 0x0202
def keyExhausted := 0x0203
def wrapInvalid := 0x0204
def busy := 0x0300
def quota := 0x0301
def maintConflict := 0x0302
def claimed := 0x0303
def functionDisabled := 0x0304
def cardRemoved := 0x0305
def state := 0x0400
def policy := 0x0401
def notApproved := 0x0402
def permitInvalid := 0x0403
def quorum := 0x0404
def aborted := 0x0500
def faultContained := 0x0501
def cpMismatch := 0x0502
def invariantFail := 0x0503
def uncorrectable := 0x0504
def hostDma := 0x0505
def twinUnavailable := 0x0600
def leaseWait := 0x0601
def notPrimary := 0x0602
end St

/-- A status of the 0x00xx kind: the job succeeded (R71). -/
def statusOk (st : Nat) : Bool := decide (st < 0x100)

/-! ### The opcode map (R101) -/

/-- The Key column (R91). -/
inductive KeyCol where
  | none | req | opt
  deriving DecidableEq, Repr

/-- A row of the opcode map: Class, Key and Access columns. -/
structure OpInfo where
  cls : Nat
  key : KeyCol
  pf : Bool
  fw : Bool
  deriving DecidableEq, Repr

/-- The opcode map (R101): unassigned opcodes have no row (R90). The class of KEM_KEYGEN and SIG_KEYGEN may change with
their algorithm (R100). -/
def opInfo (op : Nat) : Option OpInfo :=
  let a (c : Nat) (k : KeyCol) : Option OpInfo := some { cls := c, key := k, pf := false, fw := false }
  let p (c : Nat) (k : KeyCol) : Option OpInfo := some { cls := c, key := k, pf := true, fw := false }
  let f (c : Nat) (k : KeyCol) : Option OpInfo := some { cls := c, key := k, pf := true, fw := true }
  match op with
  | 0x0101 => a 1 .none | 0x0102 => a 1 .req | 0x0103 => a 1 .opt | 0x0104 => a 1 .none | 0x0105 => a 1 .none
  | 0x0106 => p 1 .none
  | 0x0201 => a 0 .none | 0x0202 => a 0 .opt | 0x0203 => a 0 .req | 0x0204 => a 1 .req | 0x0205 => a 0 .req
  | 0x0301 => a 1 .none | 0x0302 => a 0 .req | 0x0303 => a 0 .opt | 0x0304 => a 0 .req | 0x0305 => a 1 .req
  | 0x0401 => a 2 .opt | 0x0402 => a 2 .req | 0x0403 => a 0 .req
  | 0x0501 => a 2 .req | 0x0502 => a 2 .req | 0x0503 => a 1 .req | 0x0504 => a 1 .req | 0x0505 => a 2 .none
  | 0x0601 => a 1 .none | 0x0602 => a 1 .opt | 0x0603 => a 1 .req | 0x0604 => a 1 .req | 0x0605 => a 1 .req
  | 0x0606 => a 1 .req | 0x0607 => a 1 .req | 0x0608 => a 0 .req
  | 0x0701 => a 1 .none | 0x0702 => a 1 .req | 0x0703 => a 1 .none
  | 0x0801 => p 3 .none | 0x0802 => p 3 .none | 0x0803 => p 3 .none | 0x0804 => p 3 .none | 0x0805 => f 3 .none
  | 0x0901 => f 1 .none | 0x0902 => p 1 .none | 0x0903 => p 1 .none | 0x0904 => p 1 .none
  | 0x0A01 => p 3 .none | 0x0A02 => p 3 .none | 0x0A03 => p 3 .none | 0x0A04 => p 1 .none | 0x0A05 => p 1 .none
  | 0x0A06 => p 1 .none
  | 0x0B01 => p 3 .none | 0x0B02 => p 1 .none | 0x0B03 => p 1 .none | 0x0B04 => p 0 .none | 0x0B05 => p 3 .none
  | 0x0C01 => p 1 .none | 0x0C02 => p 1 .none | 0x0C03 => p 1 .none | 0x0C04 => p 3 .req | 0x0C05 => p 3 .none
  | 0x0C06 => p 1 .none | 0x0C07 => p 1 .none | 0x0C08 => p 1 .none
  | 0x0D01 => p 3 .none | 0x0D02 => a 2 .opt | 0x0D03 => a 1 .none
  | 0x0F00 => a 1 .none | 0x0F01 => a 1 .none | 0x0F02 => a 0 .none
  | 0x0F03 => some { cls := 1, key := .none, pf := false, fw := true }
  | 0x0F04 => f 3 .none
  | _ => none

/-- The job's class: CLASS, or the opcode's default for 0xFF (R100). -/
def classOf (b : Bytes) : Nat :=
  if dClass b ≠ 0xFF then dClass b
  else if dOp b = 0x0201 ∧ Alg.isMce (dAlg b) then 3
  else if dOp b = 0x0301 ∧ (dAlg b = 0x0403 ∨ (dAlg b = 0x0401 ∧ 2 ≤ bits (dP2 b) 19 16)) then 3
  else ((opInfo (dOp b)).map (·.cls)).getD 1

/-- The bits of PARAM0, PARAM1 and PARAM2 that each opcode's layout defines; the others are reserved (R90). -/
def paramMask (op : Nat) : Nat × Nat × Nat :=
  let w := 0xFFFFFFFF
  match op with
  | 0x0101 => (0xF, 0, 0) | 0x0102 => (0xFF, 0, 0) | 0x0103 => (0xFFFFFF, w, 0) | 0x0104 => (0x100FFFFFF, 0, 0)
  | 0x0105 => (0xFFFFFF, 0, 0) | 0x0106 => (0xFFF, 0, 0)
  | 0x0201 => (0x1FFFF, w, 0) | 0x0202 => (0x1FFFF, w, 0) | 0x0203 => (0x1FFFF, w, 0) | 0x0204 => (0xFF01, 0, 0)
  | 0x0205 => (0x1FFFF, w, 0)
  | 0x0301 => (0xFFFF00000000FFFF, w, w)
  | 0x0302 => (0xFFFF0003FF01FFFF, w, 0) | 0x0304 => (0xFFFF0003FF01FFFF, w, 0)
  | 0x0303 => (0xFFFF0003FF03FFFF, w, w) | 0x0305 => (0, 0, 0)
  | 0x0401 => (0x3FFFF, w, 0) | 0x0402 => (0x1FFFF, w, w) | 0x0403 => (0xFFFFFF, w, 0xF)
  | 0x0501 => (0x1FFFF, w, 0) | 0x0502 => (0xFFFF, w, 0) | 0x0503 => (w, 0xFFFF001F, 0) | 0x0504 => (0xFF, 0xFFFF001F, 0)
  | 0x0505 => (1, 0, 0)
  | 0x0601 => (0xFFFF, w, w) | 0x0602 => (0xFFFFFF, w, 0) | 0x0603 => (0xFF0000, w, 0) | 0x0604 => (0xFF0000, w, 0)
  | 0x0605 => (w, 0, 0) | 0x0606 => (1, 0, 0) | 0x0607 => (1, w, 0) | 0x0608 => (0, w, w)
  | 0x0801 => (0xFF, w, 0) | 0x0802 => (0xFF, 0, 0) | 0x0803 => (0xFF, 0, 0) | 0x0805 => (0x1F, 0, 0)
  | 0x0902 => (0xFFFFFFFFFF, w, 0) | 0x0904 => (0xFF, 0, 0)
  | 0x0A03 => (0xFFFFFFFFFFFFFFFF, 0, 0) | 0x0A05 => (0xFF, 0, 0)
  | 0x0B01 => (1, 0, 0) | 0x0B03 => (0x3FF, 0, 0) | 0x0B04 => (0xFF, 0, 0)
  | 0x0C01 => (0xFF, 0, 0) | 0x0C02 => (0xFF, 0, 0) | 0x0C03 => (0xFF, 0, 0) | 0x0C04 => (0xFF, 0, 0)
  | 0x0C05 => (0xFF, 0, 0) | 0x0C06 => (0xFF, 0, 0) | 0x0C07 => (0x1FFFFFFFF, w, 0) | 0x0C08 => (0xFF, 0, 0)
  | 0x0D01 => (0xFF, 0, 0) | 0x0D02 => (0xFF, 0xFFFFFFFFFFFFFFFF, w)
  | 0x0F02 => (0xFFFFFFFF0000000F, 0, 0) | 0x0F04 => (1, 0, 0)
  | _ => (0, 0, 0)

/-- Offsets, from `base`, of the bytes that hold a set bit outside the mask. -/
def reservedBytes (base n v mask : Nat) : List Nat :=
  ((List.range n).filter (fun i => decide ((v / 256 ^ i) % 256 &&& (255 - (mask / 256 ^ i) % 256) ≠ 0))).map (base + ·)

/-- The lowest of some offsets. -/
def lowest (l : List Nat) : Option Nat := l.foldl (fun m x => match m with | none => some x | some y => some (min x y)) none

/-- The bytes that fail check 5 (R55, R65, R90). -/
def bad5 (b : Bytes) : List Nat :=
  let m := paramMask (dOp b)
  (if dFlags b / 16 = 0 then [] else [2]) ++ (if dClass b ≤ 3 ∨ dClass b = 0xFF then [] else [3]) ++
    (if dLenIn b ≤ 0x10000000 then [] else [12]) ++ (if dOutMax b ≤ 0x10000000 then [] else [16]) ++
    reservedBytes 40 8 (dP0 b) m.1 ++ reservedBytes 48 8 (dP1 b) m.2.1 ++ reservedBytes 56 4 (dP2 b) m.2.2

/-- Opcodes whose PARAM0[15:0] is an algorithm ID (R92). -/
def takesAlg (op : Nat) : Bool :=
  [0x0201, 0x0202, 0x0203, 0x0205, 0x0301, 0x0302, 0x0303, 0x0304, 0x0401, 0x0402, 0x0403, 0x0501, 0x0502, 0x0601,
   0x0602].contains op

/-- Outputs that begin in the layout of R94 (R808). -/
def makesKey (op : Nat) (b : Bytes) : Bool :=
  [0x0201, 0x0202, 0x0203, 0x0205, 0x0301, 0x0403, 0x0601, 0x0602, 0x0604, 0x0608].contains op ||
    (decide (op = 0x0401) && decide (bits (dP0 b) 17 16 ≠ 0))

/-- A key opcode (R808). -/
def isKeyOp (b : Bytes) : Bool :=
  let op := dOp b
  match opInfo op with
  | none => false
  | some i =>
    decide (i.key = .req) || (decide (i.key = .opt) && decide (dKey b ≠ noKey)) || decide (op = 0x0101) || makesKey op b ||
      decide (op / 256 = 6) || decide (op / 256 = 7) || decide (op = 0x0C04) || decide (op = 0x0C05) || decide (op = 0x0A03)

/-! ### Device-state admission (check 3: R70, R88, R457, R603, R626, R739, R808) -/

/-- STATE of GLB_DEV_STATE (R726). -/
def DevState.code : DevState → Nat
  | .off => 0 | .islandOnly => 1 | .reset => 2 | .romBoot => 3 | .fwVerify => 4 | .post => 5 | .ready => 6 | .halted => 7
  | .falsework => 8

/-- LSTATE (R147). -/
def LState.code : LState → Nat
  | .blank => 0 | .trial => 1 | .proof => 2 | .edition => 3 | .restrike => 4 | .cancelled => 5

/-- What R457 lists for the present life-cycle state. -/
def keyOpAdmitted (l : LState) (b : Bytes) : Bool :=
  let op := dOp b
  match l with
  | .edition => true
  | .proof =>
    (decide (op = 0x0602) && (BitVec.ofNat 32 (dP1 b)).getLsbD 24) || decide (op = 0x0A06) || decide (op / 256 = 7) ||
      (decide (op = 0x0603) && decide (bits (dP0 b) 23 16 = 3)) || decide (op = 0x0607)
  | .restrike => decide (op = 0x0701) || decide (op = 0x0703)
  | _ => false

/-- The KIND of a crossing permit that a state admits (R621); the values that are no KIND are left to check 7. -/
def permitAdmitted (l : LState) (kind : Nat) : Bool :=
  if kind = 1 ∨ kind = 2 then decide (l = .proof ∨ l = .edition) else if kind = 3 then decide (l = .proof ∨ l = .restrike) else true

/-- Check 3: does the device state admit the descriptor of VI `v`? -/
def State.admits (s : State) (v : Nat) (b : Bytes) : Bool :=
  let op := dOp b
  let info := opInfo op
  if s.lcs.lstate = .blank then false
  else if s.lcs.lstate = .cancelled || !s.lcs.explained then decide (op = 0x0F03) || (decide (op = 0x0901) && decide (v = 0))
  else
    (if s.glb.dev = .falsework then
      match info with
      | some i => i.fw && (!i.pf || decide (v = 0))
      | none => false
     else true) &&
    (if isKeyOp b then !s.lcs.debugOpen && keyOpAdmitted s.lcs.lstate b else true) &&
    (if op = 0x0904 then permitAdmitted s.lcs.lstate (bits (dP0 b) 7 0) else true)

end Sys2Proof.Machine
end

