-- ==== Sys2Proof/Machine/Checks.lean ====
section
/-! DEFINITION. The ordered checks of a descriptor (R55): checks 1 to 6 at fetch, checks 7 to 12 at dispatch. -/

namespace Sys2Proof.Machine

open Sys2Proof

/-! ### Units on duty, quorums and keys -/

/-- The engines' clocks run: READY and the root PLL locked (R708, R734). -/
def State.clocked (s : State) : Bool := decide (s.glb.dev = .ready) && s.glb.pll

/-- The firmware and the host interface serve jobs: READY, or FALSEWORK for what R88 admits. -/
def State.serving (s : State) : Bool := decide (s.glb.dev = .ready) || decide (s.glb.dev = .falsework)

/-- Pier `p` is ENABLED: FUNCTION_SET has not disabled it and a burin is on duty (R153, R162). -/
def State.pierOn (s : State) (p : Nat) : Bool := !(s.fn.piers.contains p) && decide ((s.pier p).onDuty ≠ 0)

/-- Enabled piers, lowest first. -/
def State.piersOn (s : State) : List Nat := (List.range 8).filter s.pierOn

/-- Burins on duty over the piers that are on (R157, R171). -/
def State.burinsOnDuty (s : State) : Nat := (List.range 8).foldl (fun n p => n + popCount 9 (s.pier p).onDuty) 0

def State.graversOnDuty (s : State) : Nat := popCount 18 s.grv.onDuty

/-- Lanes that can take work (R436). -/
def State.lanesOnDuty (s : State) : Nat := ((onesOf 8 s.lne.onDuty).filter (fun l => !(s.fn.lanes.contains l))).length

/-- The officers logged in meet the threshold byte `at` of the policy (R151, R473, R474). -/
def State.quorumMet (s : State) (at_ : Nat) : Bool :=
  match s.csn.policy with
  | none => false
  | some p => decide (rd p at_ 1 ≤ s.csn.officers.length)

/-- The classes of R474 whose quorum is met, as the bits of their bytes in the policy record (R769). -/
def State.quorumMask (s : State) : Nat := maskOf (([8, 9, 10, 11, 12, 13] : List Nat).filter s.quorumMet)

/-- The key a VI names: it exists, it is not marked destroyed, and the VI owns it (R56). -/
def State.ownKey (s : State) (v h : Nat) : Option KeyRec := if h / 2 ^ 24 = v then s.key h else none

/-- A fixed handle of VI 0 (R440). -/
def isFixed (h : Nat) : Bool := decide (1 ≤ h) && decide (h ≤ 255)

/-- The twin has been declared lost (R570). -/
def State.twinLost (s : State) : Bool := decide (s.spn.pair = .peerLost)

/-- This device is standby for the VI (R578): it is not primary, hands the role over (R579), or does not know its role yet (R595). -/
def State.standby (s : State) (v : Nat) : Bool :=
  s.paired && (!(s.vi v).primary || (s.vi v).handover || decide (s.spn.pair = .starting))

/-- A key change that must be mirrored (R448, R466, R581). -/
def State.mirrors (s : State) (attr : BitVec 32) : Bool := s.paired && decide (1 ≤ Alg.aExport attr)

/-- Handles held, waiting for scrub or reserved by jobs in flight (R524, R535). -/
def State.handlesUsed (s : State) (v : Nat) : Nat :=
  (s.csn.keys.filter (fun p => decide (p.1 / 2 ^ 24 = v) && !(isFixed p.1))).length +
    (s.jobs.filter (fun p => decide (p.2.vi = v))).foldl (fun n p => n + p.2.reserve) 0

/-- Stateful keys held or being created (R524). -/
def State.statefulUsed (s : State) (v : Nat) : Nat :=
  (s.csn.keys.filter (fun p => decide (p.1 / 2 ^ 24 = v) && p.2.stateful.isSome)).length

/-- 64 KiB tiles of a McEliece public key (R265). -/
def pkTiles (alg : Nat) : Nat := if Alg.isMce alg then (Alg.pkLen alg 0 0 + 65535) / 65536 else 0

/-- Public-key space of a VI, in tiles (R265). -/
def State.pkUsed (s : State) (v : Nat) : Nat :=
  (s.csn.keys.filter (fun p => decide (p.1 / 2 ^ 24 = v))).foldl (fun n p => n + pkTiles p.2.alg) 0

/-- Pages of 256 B that a shelf record with a body of `n` bytes takes (R465). -/
def shelfPages (n : Nat) : Nat := (64 + n + 255) / 256

/-- Bytes of a wrapped record's WRAPPED part (R459). -/
def wrappedLen (valueLen : Nat) : Nat := 8 + 8 * ((48 + valueLen + 7) / 8)

/-- Pages that a key's shelf record takes (R459, R465). -/
def keyPages (k : KeyRec) : Nat := shelfPages (48 + wrappedLen k.value.length + 12)

/-- Shelf space of a VI in pages: its persistent keys' live records. -/
def State.shelfUsed (s : State) (v : Nat) : Nat :=
  (s.csn.keys.filter (fun p => decide (p.1 / 2 ^ 24 = v) && p.2.shelved)).foldl (fun n p => n + keyPages p.2) 0

/-- Pages of the whole shelf still unused (R468). -/
def State.shelfFree (s : State) : Nat :=
  s.csn.shelfBlocks * 256 - s.csn.keys.foldl (fun n p => n + (if p.2.shelved then keyPages p.2 else 0)) 0

/-! ### Customer microcode entries (R305) -/

/-- Record of entry `e` of the current image, when VALID. -/
def State.ucodeEntry (s : State) (e : Nat) : Option Bytes :=
  match s.bur.current with
  | none => none
  | some im =>
    if e < rd im 16 2 then
      let r := slice im (256 + 16 * e) 16
      if (rd r 2 1).testBit 0 then some r else none
    else none

/-! ### Checks 1 to 6 (R55) -/

/-- A refusal: status, DETAIL and LEN_OUT. -/
abbrev Refused := Nat × Nat × Nat

/-- The opcode still works while the VI's service is off (R153). -/
def servedWhenOff (v op : Nat) : Bool :=
  decide (op = 0x0F02) || decide (op = 0x0F03) || (decide (v = 0) && (decide (op / 256 = 9) || decide (op / 256 = 0xC)))

/-- Jobs that need counterproof (R191). -/
def needsCounterproof (b : Bytes) : Bool :=
  let op := dOp b
  (decide (op = 0x0302 ∨ op = 0x0304 ∨ op = 0x0301) && Alg.isBurinSig (dAlg b)) || decide (op = 0x0701) || decide (op = 0x0702)

/-- The engine that performs the job's effect (R67), by opcode and algorithm. -/
def engineOf (b : Bytes) : Engine :=
  let op := dOp b
  let alg := dAlg b
  if op = 0x0201 ∨ op = 0x0202 ∨ op = 0x0203 ∨ op = 0x0205 then
    (if Alg.isHybrid alg then .both else if Alg.isKex alg then .graver else .burin)
  else if op = 0x0301 ∨ op = 0x0302 ∨ op = 0x0303 ∨ op = 0x0304 then (if Alg.isBurinSig alg then .burin else .graver)
  else if op = 0x0701 ∨ op = 0x0702 then .both
  else if op = 0x0401 ∨ op = 0x0402 then .dge
  else if op = 0x0501 ∨ op = 0x0502 ∨ op = 0x0503 ∨ op = 0x0504 ∨ op = 0x0505 then .lane
  else if op = 0x0D02 then .burin
  else if op = 0x0403 ∨ op / 256 = 6 ∨ op = 0x0204 ∨ op = 0x0305 ∨ op = 0x0703 ∨ op = 0x0A06 then .caisson
  else if op / 256 = 0xF then .hif
  else .firmware

def Engine.burins : Engine → Bool
  | .burin => true | .both => true | _ => false

def Engine.gravers : Engine → Bool
  | .graver => true | .both => true | _ => false

/-- A RESTRIKE or CANCELLED transition drains or burns (R625). -/
def State.crossing (s : State) : Bool :=
  match s.lcs.burn with
  | some b => decide (b.target = .restrike ∨ b.target = .cancelled)
  | none => false

/-- Check 6: the opcode, the algorithm or the VI's service is disabled, or no unit is left for it (R153, R197, R348, R429). -/
def State.disabled (s : State) (v : Nat) (b : Bytes) : Bool :=
  let e := engineOf b
  ((s.vi v).serviceOff && !(servedWhenOff v (dOp b))) ||
    (s.crossing && !(decide (v = 0) && decide (dOp b / 256 = 9))) ||
    (takesAlg (dOp b) && s.fn.algs.contains (dAlg b)) ||
    (needsCounterproof b && decide (s.piersOn.length < 2)) ||
    (e.gravers && decide (s.graversOnDuty = 0)) ||
    (decide (e = .lane) && decide (s.lanesOnDuty = 0))

/-- Checks 1 to 6: the first that fails, with its DETAIL (R55, R65). -/
def State.checkFetch (s : State) (v : Nat) (b : Bytes) : Option Refused :=
  if dChk b ≠ crc32c (b.take 60) then some (St.descCheck, crc32c (b.take 60), 0)
  else if dGen b ≠ (s.vi v).gen.toNat then some (St.staleGen, (s.vi v).gen.toNat, 0)
  else if !(s.admits v b) then some (St.state, s.glb.dev.code, 0)
  else if (opInfo (dOp b)).isNone || (decide (dOp b / 256 = 0xC) && decide (v ≠ 0)) then some (St.badOpcode, 0, 0)
  else match lowest (bad5 b) with
    | some off => some (St.badParam, off, 0)
    | none => if s.disabled v b then some (St.functionDisabled, 0, 0) else none

/-! ### Check 7: algorithm IDs and parameter values -/

/-- The field at a byte offset is wrong when its condition holds. -/
def wrong (off : Nat) (c : Bool) : List Nat := if c then [off] else []

/-- MODBITS is right for the algorithm (R116). -/
def modBitsOk (alg m : Nat) : Bool :=
  if Alg.isRsa alg then m == 2048 || m == 3072 || m == 4096 || m == 6144 || m == 8192 else m == 0

/-- An attribute word of a new key is wrong at check 7 (R445, R447): USAGE by kind, SUBALG, APPROVED, PERSISTENT. `src` is the
source key, parent or wrapper; `okSub` the SUBALG rule; `mayPersist` false for shared secrets and ONCE keys. -/
def badAttr (attr : BitVec 32) (usable okSub mayPersist approvable : Bool) (src : Option KeyRec) (derived : Bool) : Bool :=
  !usable || !okSub || (Alg.aPersistent attr && !mayPersist) ||
    (Alg.aApproved attr && (!approvable || Alg.hasUse attr Alg.uUcode ||
      (match src with | some k => !(Alg.aApproved k.attr) | none => false))) ||
    (derived && (match src with | some k => decide (Alg.aExport k.attr < Alg.aExport attr) | none => false))

/-- The kind, algorithm and length that KDF and KEY_DERIVE give a new key by usage and SUBALG (R445): none when the table has
no row for them. -/
def derivedAlg (attr : BitVec 32) (len : Nat) : Option Nat :=
  let u := Alg.aUsage attr
  let sub := Alg.aSubalg attr
  let use (b : Nat) : Bool := u.testBit b
  let aead (n128 n256 : Nat) : Option Nat :=
    if sub = 1 ∧ len = n128 then some 0x0901 else if sub = 2 ∧ len = n256 then some 0x0902
    else if sub = 3 ∧ len = n256 then some 0x0903 else none
  if u = 0x800 then aead 16 32
  else if use Alg.uSession then (if u ||| 0x3180 = 0x3180 then aead 20 36 else none)
  else if use Alg.uSeal || use Alg.uOpen then (if u ||| 0x2180 = 0x2180 then aead 16 32 else none)
  else if use Alg.uWrap || use Alg.uUnwrap then
    (if u ||| 0x2600 = 0x2600 ∧ sub = 4 ∧ len = 32 then some 0x0904 else none)
  else if u ≠ 0 ∧ u ||| 0x2060 = 0x2060 ∧ ((1 ≤ sub ∧ sub ≤ 6) ∨ sub = 9) ∧ 16 ≤ len ∧ len ≤ 64 then some (0x0A00 + sub)
  else none

/-- The length that the row of a derived key's usage and SUBALG asks for, or the length given where the row leaves it free
(R445). -/
def rowLen (attr : BitVec 32) (n : Nat) : Nat :=
  let u := Alg.aUsage attr
  let k := if Alg.aSubalg attr = 1 then 16 else 32
  if u.testBit Alg.uSession then k + 4
  else if u.testBit Alg.uSeal || u.testBit Alg.uOpen || u.testBit Alg.uTraffic then k
  else if u.testBit Alg.uWrap || u.testBit Alg.uUnwrap then 32
  else if 16 ≤ n ∧ n ≤ 64 then n else 16

/-- SUBALG of a shared secret (R445). -/
def secretSub (attr : BitVec 32) : Bool :=
  let n := Alg.aSubalg attr
  (decide (1 ≤ n) && decide (n ≤ 6)) || decide (n = 9)

/-- ATTR of PARAM1 of a descriptor. -/
def dAttr (b : Bytes) : BitVec 32 := BitVec.ofNat 32 (dP1 b)

/-- The algorithm may be named by the opcode (R111, R116, R122 to R125, R132). -/
def algOk (op alg : Nat) : Bool :=
  match op with
  | 0x0201 => Alg.isKem alg || Alg.isKex alg
  | 0x0202 => Alg.isKem alg
  | 0x0203 => Alg.isKem alg
  | 0x0205 => Alg.isKex alg
  | 0x0301 => Alg.isSig alg
  | 0x0302 => Alg.isSig alg
  | 0x0303 => Alg.isSig alg
  | 0x0304 => Alg.isMlDsa alg || Alg.isSlh alg || Alg.isPCurve alg || Alg.isRsa alg
  | 0x0401 => Alg.isHashFn alg || Alg.isShake alg
  | 0x0402 => Alg.isHashFn alg || Alg.isKmac alg
  | 0x0403 => alg == 0x0A01 || alg == 0x0A02 || alg == 0x0A03
  | 0x0501 => Alg.isAead alg
  | 0x0502 => Alg.isAead alg
  | 0x0601 => Alg.isAead alg || Alg.isKw alg || Alg.isHashFn alg || Alg.isKmac alg
  | 0x0602 => Alg.isAlg alg && !(Alg.isShake alg)
  | _ => true

/-- Wrong parameter fields of SIG_SIGN, SIG_SIGN_PREHASH and SIG_VERIFY (R116, R117, R224). -/
def badSig (b : Bytes) : List Nat :=
  let op := dOp b
  let alg := dAlg b
  let p0 := dP0 b
  let pre := decide (op = 0x0304) || (decide (op = 0x0303) && p0.testBit 17)
  let h := bits (dP1 b) 15 0
  let hashNeeded := Alg.isPCurve alg || Alg.isRsa alg || pre
  let det := Alg.isMlDsa alg || Alg.isSlh alg || Alg.isPCurve alg
  let ctx := Alg.isMlDsa alg || Alg.isSlh alg || alg == 0x0722
  let pss := Alg.isRsa alg && decide (bits p0 33 32 = 1)
  wrong 0x2A (p0.testBit 16 && !det) ++ wrong 0x2A (p0.testBit 17 && !(algOk 0x0304 alg)) ++
    wrong 0x2B (decide (bits p0 31 24 ≠ 0) && !ctx) ++
    wrong 0x2C (decide (2 ≤ bits p0 33 32) || (!(Alg.isRsa alg) && decide (bits p0 33 32 ≠ 0))) ++
    wrong 0x2E (!(modBitsOk alg (bits p0 63 48))) ++
    wrong 0x30 (if hashNeeded then !(Alg.isHashFn h) else decide (h ≠ 0)) ++
    wrong 0x32 (if pss then decide (Alg.hashLen h < bits (dP1 b) 31 16) else decide (bits (dP1 b) 31 16 ≠ 0)) ++
    wrong 0x38 (decide (op = 0x0303) && pre && decide (dP2 b ≠ Alg.hashLen h))

/-- Wrong attribute word in PARAM1 of an opcode that creates a key. -/
def State.badNewAttr (s : State) (v : Nat) (b : Bytes) : Bool :=
  let op := dOp b
  let alg := dAlg b
  let a := dAttr b
  let u := Alg.aUsage a
  let src := s.ownKey v (dKey b)
  let once := (dP0 b).testBit 16
  match op with
  | 0x0201 => badAttr a (Alg.usageOk alg true u) (decide (Alg.aSubalg a = 0)) (!once) (Alg.approvedAlg alg) none false
  | 0x0301 => badAttr a (Alg.usageOk alg true u) (decide (Alg.aSubalg a = 0)) true (Alg.approvedAlg alg) none false
  | 0x0202 => badAttr a (Alg.usageOk 0x0A01 true u) (secretSub a) false (Alg.approvedAlg alg) src false
  | 0x0203 => badAttr a (Alg.usageOk 0x0A01 true u) (secretSub a) false (Alg.approvedAlg alg) src false
  | 0x0205 => badAttr a (Alg.usageOk 0x0A01 true u) (secretSub a) false (Alg.approvedAlg alg) src false
  | 0x0601 => badAttr a (Alg.usageOk alg true u) (decide (Alg.aSubalg a = 0)) true (Alg.approvedAlg alg) none false
  | 0x0602 =>
    badAttr a (Alg.usageOk alg true u || (decide (bits (dP0 b) 23 16 = 3) && Alg.usageOk alg false u))
      (decide (Alg.aSubalg a = 0)) true (Alg.approvedAlg alg && decide (bits (dP0 b) 23 16 ≠ 3)) src false
  | 0x0608 =>
    let d := derivedAlg a (rowLen a (dP2 b))
    badAttr a d.isSome true true ((d.map Alg.approvedAlg).getD false) src true || decide (u = 0x800)
  | _ => false

/-- The bytes that fail check 7 (R65, R91 to R93 and the parameter tables of each group). -/
def State.bad7 (s : State) (v : Nat) (b : Bytes) : List Nat :=
  let op := dOp b
  let alg := dAlg b
  let p0 := dP0 b
  let p1 := dP1 b
  let p2 := dP2 b
  let keyGiven := decide (dKey b ≠ noKey)
  wrong 0x14 (keyGiven && decide ((opInfo op).map (·.key) = some .none)) ++
  wrong 0x28 (takesAlg op && !(Alg.isAlg alg && algOk op alg)) ++
  wrong 0x30 (s.badNewAttr v b) ++
  (match op with
  | 0x0102 => wrong 0x28 (decide (p0 ≠ 2))
  | 0x0204 => wrong 0x29 (decide (bits p0 15 8 = 0))
  | 0x0301 =>
    wrong 0x2E (!(modBitsOk alg (dModBits b))) ++
      wrong 0x38 (if Alg.isStateful alg then (Alg.genSet alg p2).isNone else decide (p2 ≠ 0))
  | 0x0302 => badSig b
  | 0x0303 => badSig b
  | 0x0304 => badSig b
  | 0x0401 =>
    let step := bits p0 17 16
    wrong 0x14 (keyGiven && decide (step < 2)) ++
      wrong 0x30 (if Alg.isShake alg ∧ (step = 0 ∨ step = 3) then decide (p1 = 0 ∨ 65536 < p1) else decide (p1 ≠ 0))
  | 0x0402 =>
    let top := if Alg.isKmac alg then 64 else Alg.hashLen alg
    wrong 0x30 (decide (p1 < 16 ∨ top < p1)) ++
      wrong 0x38 (if Alg.isKmac alg then decide (255 < p2) else decide (p2 ≠ 0))
  | 0x0403 =>
    let mode := bits p0 23 16
    wrong 0x2A (decide (mode = 0 ∨ 5 < mode)) ++ wrong 0x30 (decide (mode ≠ 1) && decide (p1 ≠ noKey)) ++
      wrong 0x38 (decide (p2 = 0 ∨ 8 < p2) || (decide (mode = 1 ∨ mode = 5) && decide (p2 ≠ 1)))
  | 0x0503 =>
    wrong 0x28 (decide (bits p0 7 0 ≠ 1 ∧ bits p0 7 0 ≠ 2)) ++ wrong 0x2A (decide (255 < bits p0 31 16)) ++
      wrong 0x30 (decide (20 < bits p1 4 0))
  | 0x0504 => wrong 0x28 (decide (p0 ≠ 1 ∧ p0 ≠ 2)) ++ wrong 0x30 (decide (20 < bits p1 4 0))
  | 0x0601 =>
    wrong 0x38 (if Alg.isSecret alg then decide (p2 < 16 ∨ 128 < p2) else decide (p2 ≠ 0))
  | 0x0602 =>
    let f := bits p0 23 16
    wrong 0x14 (decide (f = 3) && keyGiven) ++ wrong 0x2A (decide (f = 0 ∨ 3 < f))
  | 0x0603 =>
    let f := bits p0 23 16
    wrong 0x2A (decide (f = 0 ∨ 3 < f)) ++ wrong 0x30 (decide (f = 3) && decide (p1 ≠ noKey))
  | 0x0604 =>
    let f := bits p0 23 16
    wrong 0x2A (decide (2 < f)) ++ wrong 0x30 (decide (f = 0) && decide (p1 ≠ noKey))
  | 0x0608 => wrong 0x38 (decide (p2 < 16 ∨ 64 < p2) || decide (p2 ≠ rowLen (dAttr b) p2))
  | 0x0801 =>
    wrong 0x28 (decide (p0 = 0 ∨ 9 < p0 ∨ p0 = 8)) ++
      wrong 0x30 (if p0 = 3 then decide (64 ≤ p1) else if p0 = 4 then decide (p1 ≠ 0) && !(s.fcl.uncommitted.contains p1) else if p0 = 7 then decide (8 ≤ p1)
        else decide (p1 ≠ 0))
  | 0x0802 => wrong 0x28 (decide (9 < p0))
  | 0x0803 => wrong 0x28 (decide (p0 = 0 ∨ 9 < p0))
  | 0x0805 => wrong 0x28 (p0.testBit 2 && decide (s.glb.dev ≠ .falsework))
  | 0x0902 =>
    wrong 0x30 (if p0 = 0xFF00000000 then decide (p1 ≠ 0xFFFFFFFF) else decide (p1 ≠ 0xFFFFFFFF - p0 % 2 ^ 32))
  | 0x0904 => wrong 0x28 (decide (p0 = 0 ∨ 3 < p0))
  | 0x0A05 => wrong 0x28 (decide (7 < p0 ∧ p0 ≠ 0xFF))
  | 0x0C02 => wrong 0x28 (decide (p0 = 0))
  | 0x0C03 => wrong 0x28 (decide (p0 = 0))
  | 0x0C04 => wrong 0x28 (decide (p0 = 0))
  | 0x0C05 => wrong 0x28 (decide (p0 = 0))
  | 0x0C06 => wrong 0x28 (decide (p0 = 0))
  | 0x0C07 =>
    let kind := bits p0 15 8
    let unit := bits p0 31 16
    wrong 0x29 (decide (kind = 0 ∨ 4 < kind)) ++
      wrong 0x2A (if kind = 1 then !(Alg.isAlg unit)
        else if kind = 2 then decide (8 ≤ unit) || decide ((s.pier unit).onDuty = 0)
        else if kind = 3 then decide (8 ≤ unit) || !(s.lne.onDuty.testBit unit)
        else decide (unit ≠ 0)) ++
      wrong 0x28 (decide (kind = 2) && !(p0.testBit 32) && decide ((s.piersOn.filter (· ≠ unit)).length < 2))
  | 0x0D01 => wrong 0x28 (decide (p0 = 0) || !((onesOf 8 p0).all s.pierOn))
  | 0x0D02 =>
    match s.ucodeEntry p0 with
    | none => [0x28]
    | some r => wrong 0x14 (keyGiven && !((rd r 2 1).testBit 1))
  | _ => [])

/-! ### Check 8: approved services (R99) -/

/-- The service is approved for the opcode, algorithm and options (R99); `keyAlg` is the algorithm of the key used. -/
def approvedService (b : Bytes) (keyAlg : Nat) : Bool :=
  let op := dOp b
  let alg := dAlg b
  match op / 256 with
  | 1 => decide (op = 0x0105)
  | 2 => if op = 0x0204 then Alg.approvedAlg keyAlg else Alg.approvedAlg alg
  | 3 => true
  | 4 => true
  | 5 =>
    if op = 0x0501 then decide (alg = 0x0901 ∨ alg = 0x0902) && (dP0 b).testBit 16
    else if op = 0x0502 then decide (alg = 0x0901 ∨ alg = 0x0902)
    else if op = 0x0505 then true
    else decide (keyAlg = 0x0901 ∨ keyAlg = 0x0902)
  | 6 => !(decide (op = 0x0602) && decide (bits (dP0 b) 23 16 = 3))
  | 0xD => decide (op ≠ 0x0D02)
  | _ => true

/-- The further handle a descriptor names in PARAM1: KDF SECOND, WRAPPER. -/
def secondHandle (b : Bytes) : Option Nat :=
  let op := dOp b
  if (op = 0x0403 ∧ bits (dP0 b) 23 16 = 1 ∨ op = 0x0603 ∨ op = 0x0604) ∧ dP1 b ≠ noKey then some (dP1 b) else none

/-- Every key the job names, of those that exist and that the VI owns, is an approved key (R99). -/
def State.keysApproved (s : State) (v : Nat) (b : Bytes) : Bool :=
  let good (h : Nat) : Bool := match s.ownKey v h with | some k => Alg.aApproved k.attr | none => true
  (decide (dKey b = noKey) || good (dKey b)) && (match secondHandle b with | some h => good h | none => true)

/-- The job runs as an approved service with approved keys (R99), its status apart. -/
def State.runsApproved (s : State) (v : Nat) (b : Bytes) : Bool :=
  decide (s.lcs.lstate = .edition) && approvedService b (((s.ownKey v (dKey b)).map (·.alg)).getD 0) && s.keysApproved v b

/-! ### Check 9: policy -/

/-- FORMAT 0x03 of KEY_IMPORT implies a secret (R134): a symmetric algorithm, or a usage that no public key may carry. -/
def impliesSecret (b : Bytes) : Bool :=
  let alg := dAlg b
  !(Alg.isAsym alg) || !(Alg.usageOk alg false (Alg.aUsage (dAttr b)))

/-- The import of a migration target (R546). -/
def isMigImport (b : Bytes) : Bool :=
  decide (dOp b = 0x0602) && decide (bits (dP0 b) 23 16 = 3) && decide (dAlg b = 0x0103) && Alg.hasUse (dAttr b) Alg.uWrap

/-- The load of an owner anchor (R472). -/
def isAnchorImport (b : Bytes) : Bool :=
  decide (dOp b = 0x0602) && decide (bits (dP0 b) 23 16 = 3) && Alg.aAnchor (dAttr b) &&
    decide (dAlg b = 0x0203 ∨ dAlg b = 0x0712) && decide (Alg.aUsage (dAttr b) = 2)

/-- Opcodes whose PARAM1 is the attribute word of a new key. -/
def hasNewAttr (op : Nat) : Bool := [0x0201, 0x0202, 0x0203, 0x0205, 0x0301, 0x0601, 0x0602, 0x0608].contains op

/-- Check 9: the VI's or the owner's policy forbids the operation (R100, R134, R441, R447, R546, R578). -/
def State.forbidden (s : State) (v : Nat) (b : Bytes) : Bool :=
  let op := dOp b
  let a := dAttr b
  (((opInfo op).map (·.pf)).getD false && decide (v ≠ 0)) ||
  (hasNewAttr op && Alg.aOwner a && (decide (v ≠ 0) || !(s.quorumMet 13))) ||
  (hasNewAttr op && Alg.aAnchor a && !(isAnchorImport b && decide (v = 0) && decide (s.lcs.lstate = .proof))) ||
  (decide (op = 0x0602) && decide (bits (dP0 b) 23 16 = 3) && impliesSecret b) ||
  (isMigImport b && decide (v ≠ 0)) ||
  (isFixed (dKey b) && decide (v = 0) &&
    (decide (op = 0x0604 ∨ op = 0x0605 ∨ op = 0x0606) || (decide (op = 0x0607) && (dP0 b).testBit 0))) ||
  (s.standby v && ((decide (op = 0x0501) && (dP0 b).testBit 16) || decide (op = 0x0503) || decide (op = 0x0504)) &&
    (match s.ownKey v (dKey b) with | some k => decide (1 ≤ Alg.aExport k.attr) | none => false))

/-! ### Check 10: lengths -/

/-- What an opcode asks of LEN_IN at check 10 (R62). -/
inductive InRule where
  | none                       -- takes no input: any LEN_IN is BAD_PARAM (assumption log 6)
  | fixed (n : Nat)
  | atLeast (n : Nat)
  | between (lo hi : Nat)
  | items                      -- BATCH: a multiple of 64 from 64 to 4,096
  deriving DecidableEq, Repr

/-- The parameter set of a stateful key, as its SET word. -/
def KeyRec.setWord (k : KeyRec) : Nat := (k.stateful.map (·.set)).getD 0

/-- The input rule of a descriptor (R62, R112, R117, R122 to R130, R133, R140, R151 to R158). -/
def State.inRule (s : State) (v : Nat) (b : Bytes) : InRule :=
  let op := dOp b
  let alg := dAlg b
  let p0 := dP0 b
  let p1 := dP1 b
  let p2 := dP2 b
  let byKey := decide (dKey b ≠ noKey)
  match op with
  | 0x0101 => .atLeast 64
  | 0x0102 => .fixed 96
  | 0x0106 => .fixed 64
  | 0x0202 => .fixed (if byKey then 0 else Alg.pkLen alg 0 0)
  | 0x0203 => .fixed (Alg.ctLen alg)
  | 0x0205 => .fixed (Alg.ctLen alg)
  | 0x0302 => .atLeast (bits p0 31 24)
  | 0x0303 =>
    let m := bits p0 63 48
    let ctx := bits p0 31 24
    if alg = 0x0401 then .atLeast (ctx + p2)
    else if Alg.isStateful alg then
      (match (if byKey then s.ownKey v (dKey b) else none) with
      | some k => .fixed (ctx + p2 + Alg.sigLen alg 0 k.setWord)
      | none => .atLeast (ctx + p2))
    else .fixed ((if byKey then 0 else Alg.pkLen alg m 0) + ctx + p2 + Alg.sigLen alg m 0)
  | 0x0304 => .fixed (bits p0 31 24 + Alg.hashLen (bits p1 15 0))
  | 0x0401 => .atLeast 0
  | 0x0402 => .atLeast (p2 + (if p0.testBit 16 then p1 else 0))
  | 0x0403 =>
    if bits p0 23 16 = 1 then .fixed (8 * p2) else if bits p0 23 16 = 3 then .atLeast (8 * p2 + 2) else .atLeast (8 * p2)
  | 0x0501 => .atLeast (p1 + (if p0.testBit 16 then 0 else 12))
  | 0x0502 => .atLeast (p1 + 28)
  | 0x0503 => .atLeast (if bits p0 7 0 = 2 then bits p1 4 0 else 0)
  | 0x0504 => .atLeast (if p0 = 1 then 5 else 5 + bits p1 4 0)
  | 0x0505 => .items
  | 0x0602 =>
    let f := bits p0 23 16
    if f = 1 then .atLeast 48 else if f = 2 then .atLeast 1616
    else if isMigImport b then .atLeast (4 + 856 + 4723 + 1568)
    else if Alg.isRsa alg then .atLeast 0 else if Alg.isStateful alg then .atLeast (if alg = 0x0401 then 12 else 4) else .fixed (Alg.pkLen alg 0 0)
  | 0x0604 => if bits p0 23 16 = 0 then .fixed 0 else if bits p0 23 16 = 1 then .atLeast 48 else .atLeast 1616
  | 0x0608 => .atLeast 1
  | 0x0701 => .between 16 64
  | 0x0702 => .between 16 64
  | 0x0904 => .fixed 4803
  | 0x0A06 => .atLeast 4755
  | 0x0B01 => .atLeast 4
  | 0x0C01 => .fixed 64
  | 0x0C05 => .atLeast 6419
  | 0x0D01 => .atLeast 4979
  | 0x0D02 => .fixed (match s.ucodeEntry p0 with | some r => rd r 12 2 | none => 0)
  | 0x0F01 => .between 0 65536
  | 0x0F04 => .atLeast 4979
  | _ => .none

/-- Bytes of a wrapped record of a key in a FORMAT (R459). -/
def recordLen (format valueLen : Nat) : Nat := (if format = 2 then 1616 else 48) + wrappedLen valueLen

/-- Bytes of a VI state blob, as R550 and R551 lay it out, for the VI's present contents. -/
def State.blobLen (s : State) (v : Nat) : Nat :=
  let keys := s.csn.keys.filter (fun p => decide (p.1 / 2 ^ 24 = v) && !p.2.destroying)
  let sect (items : Nat) : Nat := 8 + items
  let keyItem (k : KeyRec) : Nat := 4 + recordLen 1 (if k.isPrivate then k.value.length else k.pub.length) + (if Alg.isAead k.alg && Alg.hasUse k.attr Alg.uSeal then 12 else 0)
  128 + ((s.csn.chain.map List.length).getD 0) +
    (sect 2120 + sect ((s.vi v).policies.foldl (fun n p => n + 1 + p.2.length) 0) +
     sect (keys.foldl (fun n p => n + keyItem p.2) 0) +
     sect ((keys.filter (fun p => p.2.stateful.isSome)).foldl (fun n p => n + 28 + Alg.treetopLen p.2.alg ((p.2.stateful.map (·.set)).getD 0)) 0) +
     sect (576 * (s.cwy.sessions.filter (fun p => decide (p.2.vi = v) && decide (p.2.state ≠ 1))).length) + sect 4 + 16) + 1568 + 4627 + 96

/-- The largest output a descriptor can produce (check 10). -/
def State.maxOut (s : State) (v : Nat) (b : Bytes) : Nat :=
  let op := dOp b
  let alg := dAlg b
  let p0 := dP0 b
  let p1 := dP1 b
  let p2 := dP2 b
  let n := dLenIn b
  let key := s.ownKey v (dKey b)
  match op with
  | 0x0102 => 4
  | 0x0105 => 64
  | 0x0201 => 8 + Alg.pkLen alg 0 0
  | 0x0202 => 8 + Alg.ctLen alg
  | 0x0203 => 8
  | 0x0205 => 8
  | 0x0301 => 8 + Alg.pkLen alg (dModBits b) p2
  | 0x0302 => Alg.sigLen alg (dModBits b) ((key.map KeyRec.setWord).getD 0)
  | 0x0304 => Alg.sigLen alg (dModBits b) 0
  | 0x0305 => 48
  | 0x0401 =>
    let step := bits p0 17 16
    if step = 1 then 8 else if step = 2 then 0 else if Alg.isShake alg then p1 else Alg.hashLen alg
  | 0x0402 => if p0.testBit 16 then 0 else p1
  | 0x0403 => 8 * p2
  | 0x0501 => if p0.testBit 16 then n - p1 + 28 else n - p1 - 12 + 16
  | 0x0502 => n - p1 - 28
  | 0x0503 =>
    let cid := if bits p0 7 0 = 2 then bits p1 4 0 else 0
    5 + cid + (n - cid) + 1 + bits p0 31 16 + 16
  | 0x0504 => 16 + (n - (if p0 = 1 then 5 else 5 + bits p1 4 0) - 17)
  | 0x0505 => 16 * (n / 64)
  | 0x0601 => 8
  | 0x0602 => 8
  | 0x0603 =>
    (match key with
    | some k => if bits p0 23 16 = 3 then k.pub.length else recordLen (bits p0 23 16) k.value.length
    | none => 0)
  | 0x0604 => 8 + ((key.map (fun k => k.pub.length)).getD 0)
  | 0x0607 => 32
  | 0x0608 => 8
  | 0x0701 => 12288
  | 0x0702 => 12288
  | 0x0703 => 32768
  | 0x0802 => if p0 = 0 then 144 else 16
  | 0x0804 => 4096
  | 0x0805 => 32
  | 0x0901 => 48
  | 0x0903 => 48
  | 0x0A01 => 32
  | 0x0B02 => 64
  | 0x0C04 => s.blobLen p0
  | 0x0C08 => 128
  | 0x0D02 => (match s.ucodeEntry p0 with | some r => rd r 14 2 | none => 0)
  | 0x0D03 => 512
  | 0x0F01 => n
  | 0x0F03 => 256
  | _ => 0

/-- Check 10 (R55, R62, R65). The DETAIL of a BATCH length that is no multiple of 64, and of a nonce or an ECHO that is too long,
is the model's free value (assumption log 7). -/
def State.checkLengths (s : State) (v : Nat) (b : Bytes) : Option Refused :=
  let n := dLenIn b
  let mismatch (d : Nat) : Option Refused := some (St.length, d % 2 ^ 32, 0)
  let len : Option Refused :=
    match s.inRule v b with
    | .none => if n = 0 then none else some (St.badParam, 12, 0)
    | .fixed k => if n = k then none else mismatch k
    | .atLeast k => if k ≤ n then none else mismatch k
    | .between lo hi => if n < lo then mismatch lo else if hi < n then mismatch s.freeVal else none
    | .items => if n % 64 = 0 ∧ 64 ≤ n ∧ n ≤ 4096 then none else if n < 64 then mismatch 64 else mismatch s.freeVal
  match len with
  | some r => some r
  | none => if dOutMax b < s.maxOut v b then some (St.badParam, 16, s.maxOut v b) else none

/-! ### Check 11: key handles -/

/-- The usage bit that an opcode needs of its key (R444). -/
def needUse (b : Bytes) : Option Nat :=
  match dOp b with
  | 0x0102 => some Alg.uSession
  | 0x0103 => some Alg.uSession
  | 0x0202 => some Alg.uEncaps
  | 0x0203 => some Alg.uDecaps
  | 0x0205 => some Alg.uAgree
  | 0x0302 => some Alg.uSign
  | 0x0303 => some Alg.uVerify
  | 0x0304 => some Alg.uSign
  | 0x0401 => some Alg.uStream
  | 0x0402 => some Alg.uMac
  | 0x0403 => some Alg.uDerive
  | 0x0501 => some Alg.uSeal
  | 0x0502 => some Alg.uOpen
  | 0x0503 => some Alg.uTraffic
  | 0x0504 => some Alg.uTraffic
  | 0x0602 => some Alg.uUnwrap
  | 0x0608 => some Alg.uDerive
  | 0x0D02 => some Alg.uUcode
  | _ => none

/-- A fixed handle may be named by the opcode (R440, R441). `second` is true for a WRAPPER in PARAM1. -/
def fixedMay (h : Nat) (b : Bytes) (second : Bool) : Bool :=
  let op := dOp b
  let export3 := decide (op = 0x0603) && decide (bits (dP0 b) 23 16 = 3) && !second
  if op = 0x0607 then true
  else if h = 1 ∨ h = 2 ∨ h = 3 then export3 || decide (op = 0x0702)
  else if h = 4 ∨ h = 5 then export3 || decide (op = 0x0303)
  else if h = 6 then second && decide (op = 0x0603) && decide (bits (dP0 b) 23 16 = 1)
  else false

/-- The key has an unused index left (R119, R234). -/
def Stateful.spent (t : Stateful) : Bool := decide (t.rangeEnd ≤ t.next)

/-- One key handle against check 11: `use` the bit it needs, `want` a further condition on the key. -/
def State.checkKey (s : State) (v h : Nat) (b : Bytes) (second : Bool) (use : Option Nat) (want : KeyRec → Bool) : Option Refused :=
  match s.ownKey v h with
  | none => some (St.keyNotFound, 0, 0)
  | some k =>
    if (isFixed h && !(fixedMay h b second)) || (match use with | some u => !(Alg.hasUse k.attr u) && !(isFixed h) | none => false) ||
        !(want k) then some (St.keyUsage, 0, 0)
    else if k.value.isEmpty && k.pub.isEmpty && k.staged.isSome then some (St.keyStaged, 0, 0)
    else if k.unusable && decide (dOp b ≠ 0x0606) then some (St.uncorrectable, 0, 0)
    else if k.badValue && decide (dOp b ≠ 0x0606) then some (St.wrapInvalid, 0, 0)
    else none

/-- The condition an opcode lays on its key besides the usage bit (R92, R307, R444, R479, R548). -/
def State.keyFits (s : State) (b : Bytes) (k : KeyRec) : Bool :=
  let op := dOp b
  let alg := dAlg b
  match op with
  | 0x0202 => decide (k.alg = alg)
  | 0x0203 => decide (k.alg = alg)
  | 0x0205 => decide (k.alg = alg)
  | 0x0204 => Alg.isMlKem k.alg && k.isPrivate && !k.once
  | 0x0302 => decide (k.alg = alg) && decide (k.modBits = dModBits b)
  | 0x0303 => decide (k.alg = alg) && decide (k.modBits = dModBits b)
  | 0x0304 => decide (k.alg = alg) && decide (k.modBits = dModBits b)
  | 0x0305 => k.stateful.isSome
  | 0x0401 => decide (k.alg = alg)
  | 0x0402 => decide (k.alg = alg)
  | 0x0403 => decide (k.alg = alg)
  | 0x0501 => decide (k.alg = alg)
  | 0x0502 => decide (k.alg = alg)
  | 0x0602 => if bits (dP0 b) 23 16 = 1 then decide (k.alg = 0x0904) else decide (k.alg = 0x0103) && k.isPrivate
  | 0x0603 => if bits (dP0 b) 23 16 = 3 then Alg.isAsym k.alg else true
  | 0x0702 => Alg.isAsym k.alg && k.isPrivate
  | 0x0C04 => k.target.isSome
  | 0x0D02 =>
    (match s.ucodeEntry (dP0 b) with
    | some r => decide (k.value.length ≤ rd r 10 2 / 3 * 32)
    | none => true)
  | _ => true

/-- KEY_EXHAUSTED of check 11 (R119, R126, R128, R249, R449). -/
def exhausted (b : Bytes) (k : KeyRec) : Bool :=
  match dOp b with
  | 0x0302 => (match k.stateful with | some t => t.spent || t.rolledBack | none => false)
  | 0x0501 => (dP0 b).testBit 16 && decide (2 ^ 64 ≤ k.counter)
  | 0x0503 => decide (2 ^ (if bits (dP0 b) 7 0 = 2 then 48 else 64) ≤ k.recCounter)
  | 0x0604 => decide (0xFFFFFFFF ≤ k.highKgen)
  | _ => false

/-- Check 11 (R55, R56, R91, R92, R440 to R444). -/
def State.checkKeys (s : State) (v : Nat) (b : Bytes) : Option Refused :=
  let op := dOp b
  let col := ((opInfo op).map (·.key)).getD .none
  let keyedEntry : Bool := match s.ucodeEntry (dP0 b) with | some r => (rd r 2 1).testBit 1 | none => false
  let asked : Bool :=
    match col with
    | .none => false
    | .req => true
    | .opt => decide (dKey b ≠ noKey) || (decide (op = 0x0401) && decide (2 ≤ bits (dP0 b) 17 16)) ||
        (decide (op = 0x0602) && decide (bits (dP0 b) 23 16 ≠ 3)) || (decide (op = 0x0D02) && keyedEntry)
  let first : Option Refused := if asked then s.checkKey v (dKey b) b false (needUse b) (s.keyFits b) else none
  match first with
  | some r => some r
  | none =>
    let second : Option Refused :=
      if op = 0x0403 ∧ bits (dP0 b) 23 16 = 1 ∧ dP1 b ≠ noKey then s.checkKey v (dP1 b) b true (some Alg.uDerive) (fun _ => true)
      else if op = 0x0603 ∧ bits (dP0 b) 23 16 ≠ 3 then
        s.checkKey v (dP1 b) b true (some Alg.uWrap) (fun _ => true)
      else if op = 0x0604 ∧ bits (dP0 b) 23 16 ≠ 0 then
        s.checkKey v (dP1 b) b true (some Alg.uUnwrap)
          (fun k => if bits (dP0 b) 23 16 = 1 then decide (k.alg = 0x0904) else decide (k.alg = 0x0103) && k.isPrivate)
      else none
    match second with
    | some r => some r
    | none =>
      if asked then
        (match s.ownKey v (dKey b) with
        | some k => if exhausted b k then some (St.keyExhausted, 0, 0) else none
        | none => none)
      else none

/-! ### Check 12: quotas and the twin -/

/-- Handles that the job creates (R95). -/
def newHandles (b : Bytes) : Nat :=
  if dOp b = 0x0604 ∨ isAnchorImport b then 0
  else if dOp b = 0x0403 then dP2 b
  else if makesKey (dOp b) b then 1 else 0

/-- Free session indices of a VI (R386, R524). -/
def State.sessionsUsed (s : State) (v : Nat) : Nat :=
  (s.cwy.sessions.filter (fun p => decide (p.2.vi = v))).length + (s.cwy.reserved.filter (fun p => decide (((s.job p.1).map (·.vi)) = some v) && !(KMap.get p.2 s.cwy.sessions).isSome)).length + (s.cwy.scrub.filter (fun p => decide (p.2 = v))).length

/-- Check 12, quotas (R265, R468, R524): burin, Graver and lane shares, sessions, handles, McEliece space, shelf, stateful keys. -/
def State.checkQuota (s : State) (v : Nat) (b : Bytes) : Option Refused :=
  let q := (s.vi v).quota
  let e := engineOf b
  let op := dOp b
  let alg := dAlg b
  let need := newHandles b
  let refuse (id : Nat) : Option Refused := some (St.quota, id, 0)
  let persistent := hasNewAttr op && Alg.aPersistent (dAttr b)
  let tiles := if op = 0x0201 ∨ op = 0x0602 then pkTiles alg else 0
  if e.burins ∧ q.burinWeight = 0 then refuse 1
  else if e.gravers ∧ q.graverWeight = 0 then refuse 2
  else if e = .lane ∧ q.laneWeight = 0 then refuse 3
  else if op = 0x0102 ∧ q.sessions ≤ s.sessionsUsed v then refuse 4
  else if 0 < need ∧ q.handles < s.handlesUsed v + need then refuse 5
  else if 0 < tiles ∧ q.pkMib * 16 < s.pkUsed v + tiles then refuse 0xA
  else if persistent ∧ (q.shelfKib * 4 < s.shelfUsed v + 1 ∨ s.shelfFree = 0) then refuse 0xB
  else if op = 0x0301 ∧ Alg.isStateful alg ∧ q.stateful ≤ s.statefulUsed v then refuse 0xC
  else none

/-- The job changes a key that is mirrored, or creates one (R470, R578). -/
def State.changesMirrored (s : State) (v : Nat) (b : Bytes) : Bool :=
  let op := dOp b
  let old : Bool := match s.ownKey v (dKey b) with | some k => decide (1 ≤ Alg.aExport k.attr) | none => false
  (hasNewAttr op && decide (1 ≤ Alg.aExport (dAttr b))) ||
    ((decide (op = 0x0605 ∨ op = 0x0606) || (decide (op = 0x0607) && (dP0 b).testBit 0)) && old)

/-- Check 12, the twin (R246, R470, R578, R586): NOT_PRIMARY, or TWIN_UNAVAILABLE under MIRROR_STRICT or in FENCED. -/
def State.checkTwin (s : State) (v : Nat) (strict : Bool) (b : Bytes) : Option Refused :=
  let op := dOp b
  let sess := decide (op = 0x0101 ∨ op = 0x0102 ∨ op = 0x0103 ∨ op = 0x0104)
  let signing := decide (op = 0x0302) && Alg.isStateful (dAlg b)
  let change := s.changesMirrored v b
  if s.standby v ∧ (sess ∨ signing ∨ change) then some (St.notPrimary, 0, 0)
  else if s.twinLost ∧ strict ∧ change then some (St.twinUnavailable, 0, 0)
  else none

/-- Checks 7 to 12 in their order (R55): the first that fails. `strict` is MIRROR_STRICT of CSN_CTL. -/
def State.checkDispatch (s : State) (v : Nat) (strict : Bool) (b : Bytes) : Option Refused :=
  match lowest (s.bad7 v b) with
  | some off => some (St.badParam, off, 0)
  | none =>
    if dRequireApproved b && !(s.runsApproved v b) then some (St.notApproved, 0, 0)
    else if s.forbidden v b then some (St.policy, 0, 0)
    else match s.checkLengths v b with
      | some r => some r
      | none => match s.checkKeys v b with
        | some r => some r
        | none => match s.checkQuota v b with
          | some r => some r
          | none => s.checkTwin v strict b

end Sys2Proof.Machine
end

