-- ==== Sys2Proof/Machine/Regs.lean ====
section
/-! DEFINITION. The registers of PF BAR0 that are held as words (R29): addresses, RW fields with their reset values and ranges,
and the RC counters (R10, R11). -/

namespace Sys2Proof.Machine

open Sys2Proof

/-- An RW field: bits [hi:lo]; a written value outside `min` to `max` leaves the field unchanged. -/
structure RwField where
  hi : Nat
  lo : Nat
  min : Nat
  max : Nat
  deriving DecidableEq, Repr

/-- A register with RW fields and its reset value. -/
structure RwReg where
  addr : Nat
  reset : Nat
  fields : List RwField
  deriving DecidableEq, Repr

def fld (hi lo mn mx : Nat) : RwField := { hi := hi, lo := lo, min := mn, max := mx }

namespace Reg
def cwyCtl := 0x200000
def cwyArb := 0x200004
def hcHit := 0x200100
def hcMiss := 0x200104
def bodyFetch := 0x200108
def replayDrop := 0x20010C
def tagFail := 0x200110
def epochMiss := 0x200114
def headerDrop := 0x200118
def pendingDrop := 0x20011C
def creditDrop := 0x200120
def holdPoolDrop := 0x200124
def shareDrop := 0x200128
def pathChange := 0x20012C
def ckptSent := 0x200130
def leaseStall := 0x200134
def toFirmware := 0x200138
def espDummy := 0x20013C
def lneRestart := 0x300040
def lneCheckFail := 0x300044
def vimHsDrop := 0x104000
def vimFreezeDrop := 0x104004
def vimTdiReject := 0x104008
def csnCtl := 0x800020
def csnFetch := 0x800100
def csnEvict := 0x800104
def csnDeriveJobs := 0x800108
def csnShelfWrite := 0x80010C
def csnWrapFail := 0x800110
def csnExport := 0x800114
def csnReplace := 0x800118
def csnDestroy := 0x80011C
def csnQuorumFail := 0x800120
def csnLoginFail := 0x800124
/-- Base of line port `p` (R29, R361). -/
def port (p : Nat) : Nat := 0x1100000 + p * 0x40000
def portCtl (p : Nat) : Nat := port p
def portMacLo (p : Nat) : Nat := port p + 0x10
def portMacHi (p : Nat) : Nat := port p + 0x14
def portMaxFrame (p : Nat) : Nat := port p + 0x18
def portTxHdr (p : Nat) : Nat := port p + 0x1C
def laneTxEq (p l : Nat) : Nat := port p + 0x100 + 4 * l
def fecSymbol (p l : Nat) : Nat := port p + 0x180 + 4 * l
/-- Counter `c` of link `k` (R382). -/
def linkCtr (p k c : Nat) : Nat := port p + 0x200 + k * 0x40 + c
def clsCtl := 0x1180000
def lptInt := 0x1180008
/-- Pier registers (R162 to R167). -/
def pier (p c : Nat) : Nat := 0x400000 + p * 0x10000 + c
def burCtl := 0x480000
def burStarve := 0x480004
def burYieldHold := 0x480008
def grvCtl := 0x500020
def grv (c : Nat) : Nat := 0x500000 + c
def dgeClaimRefused := 0x600100
def dgeFinalFail := 0x600104
def dgeCleared := 0x600108
def dgeSaves := 0x60010C
def dgeRestoreFail := 0x600110
def entCtl := 0x700004
def entRctFail := 0x700100
def entAptFail := 0x700104
def entBlocks := 0x700108
def entReseeds := 0x70010C
def entWaits := 0x700110
def tolBudget := 0xB00000
def tolShare := 0xB00008
def tolAvs := 0xB00020
def tolPdReq := 0xB00034
def tolRecalls := 0xB00100
def tolThermalMs := 0xB00104
def tolShortMs := 0xB00108
def tolAvsSteps := 0xB0010C
def tolPdSwitch := 0xB00110
def fclCtl := 0xC00004
def fclEscTimeout := 0xC00008
def fclRaise := 0xC0001C
def fclInjTarget := 0xC00040
def fclScrubCtl := 0xC00050
def fclSweepCtl := 0xC00054
def fclCorrected := 0xC00100
def fclContained := 0xC00104
def fclEscalated := 0xC00108
def fclSramCe := 0xC0010C
def fclSramUe := 0xC00110
def fclHbmRetry := 0xC00114
def fclHbmUe := 0xC00118
def fclVoteFail := 0xC0011C
def fclSweepFail := 0xC00120
def fclSentinel := 0xC00124
def fclInjected := 0xC00128
def xhSplit := 0xD00600
def xhWriteRefused := 0xD00604
def xhSelftestFail := 0xD00608
def xhResumeRefused := 0xD0060C
def xhDecisionSplit := 0xD00610
def lcsBurnFail := 0xE00100
def lcsPermitFail := 0xE00104
def spnCtl := 0xF00004
/-- Span counters (R602). -/
def spn (c : Nat) : Nat := 0xF00000 + c
def spnTxEq (l : Nat) : Nat := 0xF00100 + 4 * l
def cusCtl := 0x1000004
/-- Custody counters (R778). -/
def cus (c : Nat) : Nat := 0x1000000 + c
/-- Classifier counter of port `p` (R383). -/
def clsCtr (p c : Nat) : Nat := 0x1180100 + p * 0x80 + c
end Reg

/-- The registers with RW fields that a REGISTER_WRITE reaches, with their reset values and ranges. -/
def rwRegs : List RwReg :=
  [ { addr := Reg.cwyCtl, reset := 0x1E4003E8, fields := [fld 31 24 0 255, fld 23 20 1 15, fld 15 0 10 65535] },
    { addr := Reg.cwyArb, reset := 0x11111,
      fields := [fld 19 16 1 15, fld 15 12 1 15, fld 11 8 1 15, fld 7 4 1 15, fld 3 0 1 15] },
    { addr := Reg.csnCtl, reset := 0, fields := [fld 31 31 0 1] },
    { addr := Reg.burCtl, reset := 0xC2140032, fields := [fld 31 31 0 1, fld 30 30 0 1, fld 27 24 1 8, fld 23 16 0 255, fld 15 0 0 65535] },
    { addr := Reg.burStarve, reset := 0x640A01, fields := [fld 23 16 0 255, fld 15 8 0 255, fld 7 0 0 255] },
    { addr := Reg.burYieldHold, reset := 0x7D0, fields := [fld 15 0 0 65535] },
    { addr := Reg.grvCtl, reset := 0x23E80028, fields := [fld 31 28 1 15, fld 27 16 10 4000, fld 15 0 2 65535] },
    { addr := Reg.entCtl, reset := 0x3E8, fields := [fld 15 0 1 1000] },
    { addr := Reg.tolBudget, reset := 0xF0, fields := [fld 7 0 0x20 0xF0] },
    { addr := Reg.tolShare, reset := 0x09091A38, fields := [] },
    { addr := Reg.tolAvs, reset := 0x40000000, fields := [] },
    { addr := Reg.tolPdReq, reset := 0x04700000, fields := [fld 26 26 0 1, fld 22 22 0 1, fld 21 21 0 1, fld 20 20 0 1] },
    { addr := Reg.fclCtl, reset := 0, fields := [fld 31 31 0 1, fld 30 30 0 1] },
    { addr := Reg.fclEscTimeout, reset := 0x2710, fields := [fld 21 0 1 4000000] },
    { addr := Reg.fclRaise, reset := 0, fields := [] },
    { addr := Reg.fclInjTarget, reset := 0, fields := [fld 31 24 0 255, fld 15 0 0 65535] },
    { addr := Reg.fclScrubCtl, reset := 0x3C0018, fields := [fld 31 16 1 65535, fld 15 0 1 65535] },
    { addr := Reg.fclSweepCtl, reset := 0x03E803E8, fields := [fld 31 16 0 65535, fld 15 0 0 65535] },
    { addr := Reg.spnCtl, reset := 0x07D00032, fields := [fld 31 16 100 60000, fld 9 0 1 1000] },
    { addr := Reg.cusCtl, reset := 0x1005, fields := [fld 19 12 0 255, fld 11 11 0 1, fld 3 3 0 1, fld 2 0 1 5] },
    { addr := Reg.clsCtl, reset := 0x23EA * 2 ^ 18 + 0x400, fields := [fld 31 18 576 9194, fld 15 0 0 65535] } ] ++
  (([0, 1] : List Nat).map (fun p =>
    [ { addr := Reg.portCtl p, reset := 0xE4, fields := [] },
      { addr := Reg.portMacLo p, reset := 0, fields := [fld 31 0 0 0xFFFFFFFF] },
      { addr := Reg.portMacHi p, reset := 0, fields := [fld 15 0 0 0xFFFF] },
      { addr := Reg.portMaxFrame p, reset := 0x5F2, fields := [fld 13 0 1522 9216] },
      { addr := Reg.portTxHdr p, reset := 0x140, fields := [fld 14 9 0 63, fld 8 8 0 1, fld 7 0 1 255] } ] ++
    ([0, 1, 2, 3] : List Nat).map (fun l => { addr := Reg.laneTxEq p l, reset := 0x3A * 2 ^ 12 + 0x34 * 2 ^ 6, fields := [] }))).flatten ++
  ([0, 1, 2, 3, 4] : List Nat).map (fun l => { addr := Reg.spnTxEq l, reset := 0x3A * 2 ^ 12 + 0x34 * 2 ^ 6, fields := [] })

/-- The RW description of an address. -/
def rwReg (a : Nat) : Option RwReg := rwRegs.find? (fun r => decide (r.addr = a))

/-- What an address of the word registers reads as until something else is written (R10: counters start at 0). -/
def regReset (a : Nat) : Word := BitVec.ofNat 32 (((rwReg a).map (·.reset)).getD 0)

/-- The word at a BAR0 address. -/
def State.reg (s : State) (a : Nat) : Nat := (SMap.get regReset a s.regs).toNat

def State.setReg (s : State) (a v : Nat) : State := { s with regs := SMap.set regReset a (BitVec.ofNat 32 v) s.regs }

/-- A counter counts and saturates at 0xFFFF_FFFF (R167, R382). -/
def State.bump (s : State) (a : Nat) (n : Nat := 1) : State := s.setReg a (satAdd 32 (s.reg a) n)

/-- A write of a word to RW fields: a value out of its range leaves the field unchanged, reserved bits stay 0 (R10, R11). -/
def writeFields (fs : List RwField) (old new : Nat) : Nat :=
  fs.foldl (fun w f =>
    let v := bits new f.hi f.lo
    if f.min ≤ v ∧ v ≤ f.max then setBits w v f.hi f.lo else w) old

/-! ### Draws (R507, R508) -/

/-- A conditioned block goes to the DRBG: from the reserve, or conditioned for it (R504, R507). -/
def State.takeBlock (s : State) : State :=
  if 0 < s.ent.reserve then { s with ent := { s.ent with reserve := s.ent.reserve - 1 } } else s.bump Reg.entBlocks

/-- The DRBG reseeds with one block (R507). -/
def State.reseed (s : State) : State :=
  let s1 := s.takeBlock.bump Reg.entReseeds
  { s1 with ent := { s1.ent with requests := 0, reseedAt := s1.time } }

/-- A draw: the next generate request, with the reseed that its count brings (R507, R508, assumption log 2). -/
def State.nextDraw (s : State) : State :=
  let s1 := { s with draws := s.draws + 1, ent := { s.ent with requests := s.ent.requests + 1 } }
  if 2 ^ 20 ≤ s1.ent.requests then s1.reseed else s1

/-- MIRROR_STRICT of CSN_CTL (R484). -/
def State.strict (s : State) : Bool := (s.reg Reg.csnCtl).testBit 31

end Sys2Proof.Machine
end

