-- ==== Sys2Proof/Machine/LptOps.lean ====
section
/-! DEFINITION. Frames that the device builds and the transmit queues of the line ports (R365, R369, R377, R378). -/

namespace Sys2Proof.Machine

open Sys2Proof

def portDef (_ : Nat) : Port := Port.reset

def State.port (s : State) (p : Nat) : Port := SMap.get portDef p s.lpt.ports

def State.setPort (s : State) (p : Nat) (x : Port) : State :=
  { s with lpt := { s.lpt with ports := SMap.set portDef p x s.lpt.ports } }

def State.modPort (s : State) (p : Nat) (f : Port → Port) : State := s.setPort p (f (s.port p))

/-- Links of a MODE (R357). -/
def modeLinks (m : Nat) : Nat := if m = 4 then 4 else if 1 ≤ m ∧ m ≤ 3 then 1 else 0

/-- MODE and ENABLE of a port (R361). -/
def State.portMode (s : State) (p : Nat) : Nat := bits (s.reg (Reg.portCtl p)) 30 28
def State.portOn (s : State) (p : Nat) : Bool := (s.reg (Reg.portCtl p)).testBit 31

/-- Member links that are up, ascending (R360, R377). -/
def State.linksUp (s : State) (p : Nat) : List Nat :=
  (List.range (modeLinks (s.portMode p))).filter (fun k => decide ((s.port p).phases.getD k 0 = 4))

/-- The station address as it travels, first octet first (R367). -/
def State.stationMac (s : State) (p : Nat) : Bytes :=
  beBytes 6 (bits (s.reg (Reg.portMacHi p)) 15 0 * 2 ^ 32 + s.reg (Reg.portMacLo p))

/-- The IPv4 header of a transmitted packet (R378). -/
def ipv4Header (dscp df ttl id proto : Nat) (src dst : Bytes) (n : Nat) : Bytes :=
  let h (ck : Nat) : Bytes :=
    [0x45, BitVec.ofNat 8 (dscp * 4)] ++ beBytes 2 (20 + n) ++ beBytes 2 id ++ beBytes 2 (df * 0x4000) ++
      [BitVec.ofNat 8 ttl, BitVec.ofNat 8 proto] ++ beBytes 2 ck ++ src.take 4 ++ dst.take 4
  h (inetSum (h 0))

/-- The IPv6 header of a transmitted packet (R378); the flow label is the model's free value (assumption log 18). -/
def ipv6Header (dscp flow hop proto : Nat) (src dst : Bytes) (n : Nat) : Bytes :=
  beBytes 4 (6 * 2 ^ 28 + dscp * 2 ^ 22 + flow % 2 ^ 20) ++ beBytes 2 n ++ [BitVec.ofNat 8 proto, BitVec.ofNat 8 hop] ++
    src.take 16 ++ dst.take 16

/-- A UDP datagram with its checksum, present in both IP versions (R378). -/
def udpDatagram (v6 : Bool) (src dst : Bytes) (sport dport : Nat) (payload : Bytes) : Bytes :=
  let n := 8 + payload.length
  let pseudo := if v6 then src.take 16 ++ dst.take 16 ++ beBytes 4 n ++ [0, 0, 0, 17]
    else src.take 4 ++ dst.take 4 ++ [0, 17] ++ beBytes 2 n
  let u (ck : Nat) : Bytes := beBytes 2 sport ++ beBytes 2 dport ++ beBytes 2 n ++ beBytes 2 ck ++ payload
  let ck := inetSum (pseudo ++ u 0)
  u (if ck = 0 then 0xFFFF else ck)

/-- An IP packet from the device to a session's peer, with the fields of the port's TXHDR (R378). -/
def State.ipPacket (s : State) (p : Nat) (v6 : Bool) (proto : Nat) (src dst payload : Bytes) : Bytes :=
  let t := s.reg (Reg.portTxHdr p)
  if v6 then ipv6Header (bits t 14 9) s.freeVal (bits t 7 0) proto src dst payload.length ++ payload
  else ipv4Header (bits t 14 9) (bits t 8 8) (bits t 7 0) (s.port p).ipId proto src dst payload.length ++ payload

/-- A frame from the destination address to the end of its payload; the source address is the MAC's to write (R369). -/
def ethFrame (dst : Bytes) (vlan etherType : Nat) (payload : Bytes) : Bytes :=
  dst.take 6 ++ zeros 6 ++ (if vlan = 0xFFFF then [] else beBytes 2 0x8100 ++ beBytes 2 vlan) ++ beBytes 2 etherType ++ payload

/-- Queue a frame on a member link. -/
def State.queueOnLink (s : State) (p k : Nat) (f : Bytes) : State :=
  s.modPort p (fun x => { x with txq := listMod x.txq k (fun q => q ++ [f]) })

/-- Queue a frame of session `i` on its member link (R377); with no link up it is discarded and counted (R365). -/
def State.queueFrame (s : State) (p i : Nat) (f : Bytes) : State :=
  match s.linksUp p with
  | [] => s.bump (Reg.linkCtr p 0 0x24)
  | l => s.queueOnLink p (l.getD (i % l.length) 0) f

/-- Send an IP packet to a session's peer: the Identification counter of the port moves on (R378). -/
def State.sendPacket (s : State) (p i : Nat) (v6 : Bool) (proto : Nat) (pa : Path) (payload : Bytes) : State :=
  let pkt := s.ipPacket p v6 proto pa.localAddr pa.peerAddr payload
  let f := ethFrame pa.peerMac pa.vlan (if v6 then 0x86DD else 0x0800) pkt
  let s1 := if v6 then s.nextFree else s.modPort p (fun x => { x with ipId := (x.ipId + 1) % 65536 })
  s1.queueFrame p i f

/-- Send a UDP datagram to a peer. -/
def State.sendUdp (s : State) (p i : Nat) (v6 : Bool) (pa : Path) (payload : Bytes) : State :=
  s.sendPacket p i v6 17 pa (udpDatagram v6 pa.localAddr pa.peerAddr pa.localPort pa.peerPort payload)

/-- Bytes that the IP packet adds around a UDP payload or an ESP packet. -/
def ipOverhead (v6 : Bool) : Nat := if v6 then 40 else 20

end Sys2Proof.Machine
end

