-- ==== Sys2Proof/Machine/SpnOps.lean ====
section
/-! DEFINITION. The span link and the messages on it (R564 to R567, R581). -/

namespace Sys2Proof.Machine

open Sys2Proof

/-- The ASCII bytes of a label. -/
def ascii (t : String) : Bytes := t.toList.map (fun c => BitVec.ofNat 8 c.toNat)

/-- KMAC256 of the device's own derivations (R454, R455). -/
def kmac256 (key context : Bytes) (label : Bytes) (n : Nat) : Bytes := stdOut .kmac 0x0A09 [key, [], label, context] n

/-- This unit's ID is the lower one (R565, R572, R590). -/
def State.lowerId (s : State) : Bool := decide (leNat s.unitId < leNat s.spn.peerId)

/-- Span master and heartbeat master: handle 7 (R576). -/
def State.spanMaster (s : State) : Bytes := slice (((KMap.get 7 s.csn.keys).map (·.value)).getD []) 0 32
def State.hbMaster (s : State) : Bytes := slice (((KMap.get 7 s.csn.keys).map (·.value)).getD []) 32 32

/-! ### Frames (R564, R565) -/

def tIdle := 1
def tData := 2
def tNak := 3
def tHello := 4
def tPair := 5

/-- Bytes 0 to 31 of a frame. -/
def spanHead (typ len chan seq ack : Nat) : Bytes :=
  leBytes 2 0x4E53 ++ leBytes 1 typ ++ [0] ++ leBytes 2 len ++ leBytes 2 chan ++ leBytes 8 seq ++ leBytes 8 ack ++ zeros 8

/-- Body and tag under their CRC. -/
def withCrc (b : Bytes) : Bytes := b ++ leBytes 4 (crc32c b)

/-- A HELLO or PAIR frame: in clear, its tag zero. -/
def clearFrame (typ : Nat) (payload : Bytes) : Bytes := withCrc (spanHead typ payload.length 0 0 0 ++ payload ++ zeros 16)

/-- The key of a direction for key index k = SEQ[63:32]; `fromLower`: the frames of the device with the lower unit ID. -/
def State.spanKey (s : State) (fromLower : Bool) (seq : Nat) : Bytes :=
  let us := s.spn.ourNonce.getD []
  let peer := s.spn.peerNonce.getD []
  let x := (if s.lowerId then us ++ peer else peer ++ us) ++ leBytes 4 (seq / 2 ^ 32) ++ [if fromLower then 0 else 1]
  kmac256 s.spanMaster x (ascii "STQ6440 SPAN KEY") 32

/-- Nonce of a frame. -/
def spanNonce (seq : Nat) : Bytes := zeros 4 ++ leBytes 8 seq

/-- Both HELLOs of this alignment are exchanged and a span master stands: frames can be protected. -/
def State.aligned (s : State) : Bool := s.paired && s.spn.ourNonce.isSome && s.spn.peerNonce.isSome

/-- Send a protected frame under the next SEQ and keep it until it is acknowledged (R566). -/
def State.sendSpan (s : State) (typ chan : Nat) (payload : Bytes) : State :=
  let n := s.spn.txSeq
  let head := spanHead typ payload.length chan n s.spn.rxSeq
  let b := withCrc (head ++ stdOut .aeadSeal 0x0902 [s.spanKey s.lowerId n, spanNonce n, [], head, payload] (payload.length + 16))
  let f : SpanFrame := { typ := typ, seq := n, chan := chan, payload := payload, bytes := b }
  (({ s with spn := { s.spn with txSeq := n + 1, sent := s.spn.sent ++ [f] } }).emit (.span b)).bump (Reg.spn 0x200)

/-- Frames that may be unacknowledged at once (R566). -/
def spanWindow := 16384

/-- Send the messages that wait, while the link is aligned and the window has room. -/
def State.pumpSpan (s : State) : State :=
  if !s.aligned then s
  else
    let n := spanWindow - s.spn.sent.length
    let go := s.spn.queue.take n
    go.foldl (fun t m => t.sendSpan tData m.1 m.2) { s with spn := { s.spn with queue := s.spn.queue.drop n } }

/-! ### Mirror messages (R581): each goes as one DATA frame of free contents and length (assumption log 41) -/

/-- CHANNEL of an item (R564). -/
def itemChannel : MirrorItem → Nat
  | .key .. => 1 | .delKey .. => 1
  | .session .. => 2 | .removal .. => 2 | .sessionKeys .. => 2 | .windows .. => 2
  | .sendLease .. => 3 | .counter .. => 3 | .indexLease .. => 3 | .indexRange .. => 3 | .ownRange .. => 3
  | .checkpoint .. => 4
  | _ => 5

/-- Put a message of the twin protocol on the link. -/
def State.spanMessage (s : State) (chan : Nat) : State :=
  let body := stdOut .mirrorMessage s.spn.nextMsg [] (s.freeVal % 1025)
  ({ s.nextFree with spn := { s.spn with queue := s.spn.queue ++ [(chan, body)] } }).pumpSpan

/-- Mirrored items go to the twin in one message that waits for its acknowledgement (R581). -/
def State.mirror (s : State) (w : MirrorWait) (items : List MirrorItem) : State :=
  let id := s.spn.nextMsg
  let chan := if s.spn.pair = .syncing ∧ !s.spn.settled then 6 else (items.head?.map itemChannel).getD 5
  let s1 := (s.spanMessage chan).emit (.mirror id items)
  { s1 with spn := { s1.spn with waits := KMap.put id w s1.spn.waits, nextMsg := id + 1 } }

/-- Items that wait for no acknowledgement: receive checkpoints, the copies of a synchronisation (R581, R598). Nothing is sent to a twin
that is lost. -/
def State.mirrorOnly (s : State) (items : List MirrorItem) : State :=
  if s.lone ∨ s.spn.pair = .refused then s
  else
    let id := s.spn.nextMsg
    let chan := if s.spn.pair = .syncing then 6 else (items.head?.map itemChannel).getD 5
    let s1 := (s.spanMessage chan).emit (.mirror id items)
    { s1 with spn := { s1.spn with nextMsg := id + 1 } }

/-- Acknowledge message `id` of the peer, applied (R566). -/
def State.mirrorAck (s : State) (id : Nat) : State := (s.spanMessage 0).emit (.mirrorAck id)

end Sys2Proof.Machine
end

