-- ==== Sys2Proof/Machine/CwyOps.lean ====
section
/-! DEFINITION. Operations on sessions: records that the device sends, removal, installation, rekeying (R386, R391, R408, R413,
R415 to R422). -/

namespace Sys2Proof.Machine

open Sys2Proof

def State.session (s : State) (i : Nat) : Option Session := KMap.get i s.cwy.sessions

def State.setSession (s : State) (i : Nat) (x : Session) : State :=
  { s with cwy := { s.cwy with sessions := KMap.put i x s.cwy.sessions } }

def State.modSession (s : State) (i : Nat) (f : Session → Session) : State :=
  { s with cwy := { s.cwy with sessions := KMap.mod i f s.cwy.sessions } }

def State.delSession (s : State) (i : Nat) : State :=
  { s with cwy := { s.cwy with sessions := KMap.del i s.cwy.sessions } }

/-- XOR of two byte strings, as long as the first. -/
def xorBytes (a b : Bytes) : Bytes := List.zipWith (· ^^^ ·) a (b ++ zeros (a.length - b.length))

/-- An AEAD output: ciphertext and 16 B tag of a standard's function. -/
def sealed (alg : Nat) (key iv : Bytes) (num : Nat) (aad text : Bytes) : Bytes :=
  stdOut .aeadSeal alg [key, iv, beBytes 8 num, aad, text] (text.length + 16)

/-- The plaintext under a verified tag. -/
def opened (alg : Nat) (key iv : Bytes) (num : Nat) (aad body : Bytes) : Bytes :=
  stdOut .aeadOpen alg [key, iv, beBytes 8 num, aad, body] (body.length - 16)

/-- Does the tag verify? -/
def tagOk (alg : Nat) (key iv : Bytes) (num : Nat) (aad body : Bytes) : Bool :=
  Config.stdCheck .aeadTag alg [key, iv, beBytes 8 num, aad, body]

/-- A protected DTLS record with a 16-bit sequence field and a length (R408, R128): header, masked sequence number, body. -/
def dtlsRecord (alg : Nat) (k : KeySlot) (epoch seq : Nat) (cid inner : Bytes) : Bytes :=
  let b0 : Byte := BitVec.ofNat 8 (0x2C + (if cid.isEmpty then 0 else 0x10) + epoch % 4)
  let len := beBytes 2 (inner.length + 16)
  let hdr := [b0] ++ cid ++ beBytes 2 seq ++ len
  let ct := sealed alg k.key k.iv seq hdr inner
  [b0] ++ cid ++ xorBytes (beBytes 2 seq) (stdOut .recordMask alg [k.snKey, ct.take 16] 2) ++ len ++ ct

/-- Send one protected DTLS record of session `i` under its transmit epoch: it consumes the next send number (R26, R408). With no
leased number left nothing is sent. -/
def State.sendRecord (s : State) (i content : Nat) (msg : Bytes) : State :=
  match s.session i with
  | none => s
  | some x =>
    if x.tx.leaseEnd ≤ x.tx.seq then s
    else
      let r := dtlsRecord x.alg x.tx.slot x.tx.epoch x.tx.seq x.tx.peerCid (msg ++ [BitVec.ofNat 8 content])
      (s.sendUdp x.port i x.ipv6 x.path r).modSession i (fun y => { y with tx := { y.tx with seq := y.tx.seq + 1 } })

/-- Alert of level 1 warning or 2 fatal (R397). -/
def State.sendAlert (s : State) (i level desc : Nat) : State :=
  s.sendRecord i 21 [BitVec.ofNat 8 level, BitVec.ofNat 8 desc]

/-- Second of CLK_SLOW time: 10^8 ticks (R13). -/
def State.second (s : State) : Nat := s.time / 100000000

/-- Allocated session entries, with those that wait for their zeroisation (R432). -/
def State.sessionsInUse (s : State) : Nat := s.cwy.sessions.length + s.cwy.scrub.length

/-- Cells of 2 KiB that held bytes occupy (R406). -/
def holdCells (n : Nat) : Nat := (n + 2047) / 2048

/-- Hold-pool cells in use (R406, R433). -/
def State.holdUse (s : State) : Nat :=
  s.cwy.sessions.foldl (fun n p => n + p.2.held.foldl (fun m h => m + holdCells h.data.length) 0) 0

/-- Remove session `i` (R422): its records in the pipeline that have not passed check 7, and its held records, go without a
count; its mappings go with the entry. -/
def State.dropSession (s : State) (i : Nat) : State :=
  if (s.session i).isNone then s
  else
    let c := { s.cwy with
      sessions := KMap.del i s.cwy.sessions
      recs := s.cwy.recs.filter (fun p => decide (p.2.session ≠ i))
      hot := KMap.del i s.cwy.hot
      hs := s.cwy.hs.filter (fun p => decide (p.2.session ≠ some i)) }
    { s with
      cwy := c
      spn := { s.spn with ledger := KMap.del i s.spn.ledger }
      lne := { s.lne with queue := s.lne.queue.filter (fun w => !w.isRec || (KMap.get w.id c.recs).isSome) }
      lpt := { s.lpt with ports := SMap.mapAll portDef (fun _ p => { p with hold := p.hold.filter (fun h => decide (h.session ≠ i)) }) s.lpt.ports } }

/-- Removal by the device: mirrored when paired, and the index is free once the twin has acknowledged it (R386, R581). -/
def State.dropMirrored (s : State) (i : Nat) : State :=
  match s.session i with
  | none => s
  | some x =>
    let s1 := s.dropSession i
    if s.entryWaits then
      ({ s1 with cwy := { s1.cwy with scrub := KMap.put i x.vi s1.cwy.scrub } }).mirror (.removal i) [.removal (BitVec.ofNat 24 i)]
    else s1

/-- The receive side that starts at a new epoch with no record yet. -/
def freshWindow (r : RxSide) (epoch : Nat) (k : KeySlot) : RxSide :=
  { r with epoch := epoch, top := epoch * 2 ^ 48, window := 0, slot := k }

/-- Removal with its one SESSION_REMOVED event (R421, R422). -/
def State.removeSession (s : State) (i cause : Nat) : State :=
  match s.session i with
  | none => s
  | some x => (s.dropMirrored i).event x.vi 0x0004 i cause 0 0

/-- Removal by a limit: a DTLS session sends close_notify first (R420). -/
def State.limitSession (s : State) (i cause : Nat) : State :=
  match s.session i with
  | none => s
  | some x => (if x.kind = 1 ∧ x.state = 2 then s.sendAlert i 1 0 else s).removeSession i cause

/-- The device closes the session with a fatal alert (R397): cause 0x07, the description in [15:8]. -/
def State.closeFatal (s : State) (i desc : Nat) : State := (s.sendAlert i 2 desc).removeSession i (7 + 256 * desc)

/-- Free index for a new session of a VI: the lowest free one of its range (R386, R522; the order is the model's, assumption
log 19). -/
def State.freeIndex (s : State) (v : Nat) : Option Nat :=
  let q := (s.vi v).quota
  let used (i : Nat) : Bool := (KMap.get i s.cwy.sessions).isSome || (KMap.get i s.cwy.scrub).isSome || s.cwy.reserved.any (fun p => decide (p.2 = i))
  if q.sessions ≤ s.sessionsUsed v then none
  else (List.range (Nat.min q.sessions (s.cwy.sessions.length + s.cwy.scrub.length + s.cwy.reserved.length + 1))).find? (fun k => !(used (q.sessionBase + k)))
    |>.map (q.sessionBase + ·)

def SessionCounts.zero : SessionCounts := { rxRecords := 0, rxBytes := 0, drops := 0, tagFails := 0, txRecords := 0, txBytes := 0 }

/-- All ones: no limit (R389). -/
def noLimit : Nat := 2 ^ 64 - 1

/-- The key slot of an SA: AEAD key and 4 B salt (R106, R445). -/
def saSlot (key : Bytes) : KeySlot :=
  { key := key.take (key.length - 4), iv := key.drop (key.length - 4) ++ zeros 8, snKey := [] }

/-- The entry of a new ESP SA from its SA record (R106, R389, R413). -/
def saEntry (v : Nat) (rec key : Bytes) (second : Nat) : Session :=
  let out := decide (rd rec 0 1 = 1)
  let fl := rd rec 10 1
  let src := slice rec 16 16
  let dst := slice rec 32 16
  let slot := saSlot key
  let hardS := rd rec 72 4
  { state := 2, kind := 2, vi := v, port := rd rec 2 1, ipv6 := fl.testBit 1, esn := fl.testBit 0, tunnel := decide (rd rec 1 1 = 1),
    ownCid := false, outbound := out, dropPending := false, altValid := false, alg := rd rec 8 2, maxPlaintext := 0,
    rx := { epoch := 0, top := 0, window := 0, slot := if out then KeySlot.empty else slot, spi := if out then 0 else rd rec 4 4,
            cidCheck := 0, ring := rd rec 3 1, credit := rd rec 11 1, creditUsed := 0, ckptCount := 0, ckptDue := 0 },
    alt := { id := 0, slot := KeySlot.empty, floor := 0 },
    tx := { epoch := 0, seq := if out then 1 else 0, leaseEnd := if out then 65537 else 0, slot := if out then slot else KeySlot.empty,
            spi := if out then rd rec 4 4 else 0, peerCid := [], kuWait := false, kuHost := false, leaseReq := false, leaseAck := false, kuTries := 0,
            rekeyLeft := if rd rec 56 8 = 0 then noLimit else rd rec 56 8, kuJob := none, stalled := false },
    pend := KeySlot.empty,
    path := { peerAddr := if out then dst else src, localAddr := if out then src else dst, peerPort := 0, localPort := 0,
              vlan := rd rec 54 2, peerMac := slice rec 48 6 },
    estS := second, hardAtS := if hardS = 0 then 0 else second + hardS,
    hardLeft := if rd rec 64 8 = 0 then noLimit else rd rec 64 8, rekeyReload := noLimit, counts := SessionCounts.zero, held := [], inbox := [],
    twinWait := false }

/-- New keys for an SA (R107, R419): an inbound SA takes them in its alternate slot, an outbound one at once. NEW_SPI 0 keeps the
SPI of an outbound SA (assumption log 20). -/
def Session.rekeySa (x : Session) (spi : Nat) (key : Bytes) : Session :=
  if x.outbound then
    { x with tx := { x.tx with slot := saSlot key, spi := if spi = 0 then x.tx.spi else spi, seq := 1, leaseEnd := 65537,
                               leaseReq := false, leaseAck := false, stalled := false } }
  else { x with altValid := true, alt := { id := spi, slot := saSlot key, floor := 1 } }

/-- The next epoch's keys of a DTLS traffic secret (RFC 9147 key update; uninterpreted, assumption log 1). -/
def nextSlot (alg : Nat) (k : KeySlot) : KeySlot :=
  { key := stdOut .hkdfExpand alg [k.key, [1]] k.key.length, iv := stdOut .hkdfExpand alg [k.key, [2]] 12,
    snKey := stdOut .hkdfExpand alg [k.key, [3]] k.key.length }

/-- The transmit epoch change of R417: next keys, a new lease, the epoch one higher, REKEY_LEFT reloaded. -/
def Session.rekeyTx (x : Session) : Session :=
  { x with tx := { x.tx with slot := nextSlot x.alg x.tx.slot, epoch := x.tx.epoch + 1, seq := 0, leaseEnd := 65536,
                             leaseReq := false, leaseAck := false, stalled := false, kuWait := false, kuTries := 0, rekeyLeft := x.rekeyReload } }

end Sys2Proof.Machine
end

