-- ==== Sys2Proof/Machine/CsnOps.lean ====
section
/-! DEFINITION. Operations of the Caisson: new keys, handles, the key store, the shelf, zeroisation and what goes to the twin
(R439 to R471, R581). -/

namespace Sys2Proof.Machine

open Sys2Proof

/-- A key record as it comes into existence (R449, R450); `origin` is ORIGIN of R458. -/
def newKey (alg modBits : Nat) (attr : BitVec 32) (origin : Nat) (value pub : Bytes) (isPrivate : Bool) : KeyRec :=
  { alg := alg, modBits := modBits, attr := BitVec.ofNat 32 (setBits (attr.toNat % 2 ^ 32) origin 27 26), kgen := 1, highKgen := 1,
    value := value, pub := pub, isPrivate := isPrivate, staged := none, uses := 0, resident := true, derived := true, lastUse := 0, shelved := false,
    mirrored := false, publicPresent := !pub.isEmpty, destroying := false, unusable := false, badValue := false, once := false, nonceField := [],
    counter := 0, counterLease := 0, recCounter := 0, recTop := 0, iv := [], snKey := [], stateful := none, target := none }

/-- ORIGIN codes (R443). -/
def oGenerated := 0
def oWrapped := 1
def oDerived := 2
def oPublic := 3

/-- A key of R446 takes a fresh nonce field and an invocation counter of 0 when it comes into existence on this device. -/
def freshNonce (k : KeyRec) (draw : Nat) : KeyRec :=
  if Alg.isAead k.alg && Alg.hasUse k.attr Alg.uSeal then { k with nonceField := drawBytes draw 4, counter := 0, counterLease := 0 }
  else k

def State.setKey (s : State) (h : Nat) (k : KeyRec) : State := { s with csn := { s.csn with keys := KMap.put h k s.csn.keys } }

def State.modKey (s : State) (h : Nat) (f : KeyRec → KeyRec) : State :=
  { s with csn := { s.csn with keys := KMap.mod h f s.csn.keys } }

/-- The first index from `i` on that is not used, wrapping from 0xFF_FFFE to `lo` (R442). -/
def nextIndex (used : Nat → Bool) (lo : Nat) : Nat → Nat → Option Nat
  | 0, _ => none
  | fuel + 1, i =>
    let k := if i < lo ∨ 0xFFFFFE < i then lo else i
    if used k then nextIndex used lo fuel (k + 1) else some k

/-- Allocate a handle for a new key of VI `v`: the first free index above the cursor, which moves to it (R442). -/
def State.allocHandle (s : State) (v : Nat) : Option (Nat × State) :=
  let lo := if v = 0 then 0x100 else 1
  let taken := s.jobs.foldl (fun l p => p.2.handles ++ l) []
  let used (i : Nat) : Bool := (KMap.get (v * 2 ^ 24 + i) s.csn.keys).isSome || taken.contains (v * 2 ^ 24 + i)
  match nextIndex used lo (s.csn.keys.length + taken.length + 2) ((s.vi v).cursor + 1) with
  | some i => some (v * 2 ^ 24 + i, s.modVi v (fun x => { x with cursor := i }))
  | none => none

/-- Allocate `n` handles. -/
def State.allocHandles (s : State) (v : Nat) : Nat → List Nat × State
  | 0 => ([], s)
  | n + 1 =>
    match s.allocHandle v with
    | some (h, s1) => let r := s1.allocHandles v n; (h :: r.1, r.2)
    | none => ([], s)

/-- A job is bound to KGEN `g` of handle `h` (R207). -/
def State.boundTo (s : State) (h g : Nat) : Bool :=
  s.jobs.any (fun p => decide (dKey p.2.desc = h) && (match p.2.key with | some k => decide (k.kgen = g) | none => false))

/-- Matrix lines of keys that changed or went are invalidated, each when no job is bound to its KGEN any more; a pinned line of a key
that lives on is emptied and keeps its pin (R206, R207). -/
def State.sweepMatrix (s : State) : State :=
  let step (e : MatrixEntry) : Option MatrixEntry :=
    match KMap.get e.handle s.csn.keys with
    | some k =>
      if k.kgen = e.kgen ∨ s.boundTo e.handle e.kgen then some e
      else if e.pinned then some { e with kgen := k.kgen, filled := false } else none
    | none => if s.boundTo e.handle e.kgen then some e else none
  { s with bur := { s.bur with piers := SMap.mapAll pierDef (fun _ p => { p with matrix := p.matrix.filterMap step }) s.bur.piers } }

/-- Resident bytes of a key record: value and derived public data (assumption log 22). -/
def KeyRec.size (k : KeyRec) : Nat := k.value.length + k.pub.length

/-- A record that must stay resident: a fixed handle, the key of a job in the device, a staged key (R452). -/
def State.mustStay (s : State) (h : Nat) (k : KeyRec) : Bool :=
  isFixed h || k.staged.isSome || s.jobs.any (fun p => decide (dKey p.2.desc = h))

/-- Evict least recently used records until key SRAM holds 7 MiB of resident records at most (R451, R452). -/
def State.evict (s : State) : Nat → State
  | 0 => s
  | fuel + 1 =>
    if s.csn.keys.foldl (fun n p => n + (if p.2.resident then p.2.size else 0)) 0 ≤ 7 * 2 ^ 20 then s
    else
      let l := s.csn.keys.filter (fun p => p.2.resident && !(s.mustStay p.1 p.2))
      match l.foldl (fun (m : Option (Nat × KeyRec)) p =>
          match m with
          | none => some p
          | some q => if p.2.lastUse < q.2.lastUse then some p else some q) none with
      | none => s
      | some (h, k) => State.evict ((s.setKey h { k with resident := false, derived := false }).bump Reg.csnEvict) fuel

/-- The item that carries a key (R581). -/
def keyItem (h : Nat) (k : KeyRec) : MirrorItem :=
  .key (BitVec.ofNat 32 h) k.alg k.modBits k.attr k.kgen k.value k.pub k.nonceField k.isPrivate

/-- A treetop record removed (R254): its contents are gone, its page and version stay until the shelf is compacted. -/
def ShelfRec.removed (r : ShelfRec) : ShelfRec := { r with body := [], pub := 8 }

/-- Pages of a shelf record (R465). -/
def ShelfRec.pages (r : ShelfRec) : Nat := match r.key with | some k => if r.rtype = 1 then keyPages k else shelfPages r.body.length | none => shelfPages r.body.length

/-- The block that takes a record: the one of the last record while it has the pages, else the first erased one (R465). -/
def State.shelfPlace (s : State) (pages : Nat) : Nat :=
  let free := ((List.range s.csn.shelfBlocks).find? (fun b => s.csn.shelf.all (fun r => decide (r.block ≠ b)))).getD 0
  match s.csn.shelf.getLast? with
  | none => 0
  | some l =>
    let used := (s.csn.shelf.filter (fun r => decide (r.block = l.block))).foldl (fun n r => n + r.pages) 0
    if used + pages ≤ 256 then l.block else free

/-- Erased blocks of the shelf (R483). -/
def State.shelfErased (s : State) : Nat :=
  ((List.range s.csn.shelfBlocks).filter (fun b => s.csn.shelf.all (fun r => decide (r.block ≠ b)))).length

/-- Append a record at its place. -/
def State.putShelf (s : State) (r : ShelfRec) : State :=
  { s with csn := { s.csn with shelf := s.csn.shelf ++ [{ r with block := s.shelfPlace r.pages }] } }.bump Reg.csnShelfWrite

/-- Program one record into the key shelf at the next version, and raise the BBRAM version (R466 steps 1 and 2). -/
def State.shelfRecord (s : State) (rtype h kgen : Nat) (key : Option KeyRec) (body : Bytes) (epoch : Nat) : State :=
  let v := s.csn.shelfVersion + 1
  let s1 := s.putShelf { rtype := rtype, epoch := epoch, version := v, handle := h, kgen := kgen, key := key, body := body, pub := 0, block := 0 }
  { s1 with csn := { s1.csn with shelfVersion := v } }

/-- A public record, of VERSION 0: the newest of its kind counts (R465). -/
def State.publicRecord (s : State) (kind : Nat) (body : Bytes) (epoch : Nat) : State :=
  s.putShelf { rtype := 4, epoch := epoch, version := 0, handle := 0, kgen := 0, key := none, body := body, pub := kind, block := 0 }

/-- Bits burned in the OTP shelf epoch (R469, R605): 16 bytes at `0x160`, one bit each. -/
def shelfEpochAt : Nat := 0x160

def State.shelfEpoch (s : State) : Nat :=
  (List.range 16).foldl (fun n i => n + popCount 8 (SMap.get (fun _ => (0 : Byte)) (shelfEpochAt + i) s.lcs.otp).toNat) 0

end Sys2Proof.Machine
end

