-- ==== Sys2Proof/Machine/LeaseOps.lean ====
section
/-! DEFINITION. The lease log and the leases of stateful keys; storing and swapping keys (R137, R241 to R254, R446, R463). -/

namespace Sys2Proof.Machine

open Sys2Proof

/-! ### The lease log (R247, R250) -/

/-- Blocks in use, not retired (R251). -/
def State.logUsable (s : State) : Nat := (s.csn.leaseLog.filter (fun b => !b.retired)).length

/-- The block that takes the next record: the opened one of highest BLOCK_SEQ. -/
def activeBlock (l : List LeaseBlock) : Option (Nat × LeaseBlock) :=
  ((List.range l.length).zip l).foldl (fun (m : Option (Nat × LeaseBlock)) p =>
    if p.2.retired then m
    else match p.2.blockSeq, m with
      | none, _ => m
      | some _, none => some p
      | some q, some o => if o.2.blockSeq.getD 0 < q then some p else m) none

/-- Open the first erased block: its header gets the next BLOCK_SEQ. -/
def openBlock (l : List LeaseBlock) : List LeaseBlock :=
  let top := l.foldl (fun n b => Nat.max n (b.blockSeq.getD 0)) 0
  match findIdx l (fun b => !b.retired && b.blockSeq.isNone) with
  | some i => listMod l i (fun b => { b with blockSeq := some (top + 1) })
  | none => l

/-- A record is written at the end of the active block with the next LOG_SEQ. -/
def State.putLeaseRec (s : State) (rtype h kgen first stop aux : Nat) : State :=
  match activeBlock s.csn.leaseLog with
  | none => s
  | some (i, _) =>
    let r : LeaseRec := { rtype := rtype, seq := s.csn.logSeq + 1, handle := h, kgen := kgen, first := first, stop := stop, aux := aux }
    { s with csn := { s.csn with logSeq := r.seq, leaseLog := listMod s.csn.leaseLog i (fun b => { b with recs := b.recs ++ [r] }) } }

/-- The active block has a slot left: slot 0 is its header. -/
def State.logRoom (s : State) : Bool :=
  match activeBlock s.csn.leaseLog with
  | some (_, b) => decide (b.recs.length < 1023)
  | none => false

/-- The next unused lease start of a key. -/
def Stateful.leaseStart (t : Stateful) : Nat := Nat.max t.leaseEnd t.rangeStart

/-- AUX of a state record: the twin's last known lease end, and bit 63 when it is uncertain (R247). -/
def Stateful.twinAux (t : Stateful) : Nat := t.twinLeaseEnd % 2 ^ 63 + bitAt 63 t.twinUncertain

/-- One record of the lease log, with a new block and a state record of every stateful key first when the active block is full (R250). -/
def State.leaseRecord (s : State) (rtype h kgen first stop aux : Nat) : State :=
  let s1 :=
    if s.logRoom then s
    else
      let o := { s with csn := { s.csn with leaseLog := openBlock s.csn.leaseLog } }
      o.csn.keys.foldl (fun t p =>
        match p.2.stateful with
        | some x => t.putLeaseRec 5 p.1 p.2.kgen x.leaseStart x.rangeEnd x.twinAux
        | none => t) o
  s1.putLeaseRec rtype h kgen first stop aux

/-- The BBRAM sequence is raised to the last record's (R241). -/
def State.raiseLeaseSeq (s : State) : State := { s with csn := { s.csn with leaseSeq := s.csn.logSeq } }

/-! ### Ranges and leases (R241 to R245) -/

/-- Where a remaining range is split (R245). -/
def splitAt (first stop : Nat) : Nat :=
  let n := stop - first
  let mid := first + n / 2
  if n ≤ 1 then stop else if 2048 ≤ n then mid / 1024 * 1024 else mid

/-- The lease state of a new stateful key: its whole index space (R234). -/
def newStateful (set total : Nat) : Stateful :=
  { set := set, total := total, next := 0, leaseEnd := 0, rangeStart := 0, rangeEnd := total, twinStart := total, twinEnd := total, twinLease := none,
    twinLeaseEnd := total, twinUncertain := false,
    reqFirst := 0, reqEnd := 0, requested := false, programmed := false, acked := false, subtreeBuilt := false, recordCurrent := false,
    rolledBack := false }

/-- The range is split with the twin (R245). -/
def Stateful.split (t : Stateful) : Stateful :=
  let m := splitAt t.leaseStart t.rangeEnd
  { t with rangeEnd := m, twinStart := m, twinEnd := t.rangeEnd, twinLease := some m, twinLeaseEnd := m, twinUncertain := false }

/-- The AVAILABLE policy of SET (R231, R244). -/
def Stateful.available (t : Stateful) : Bool := t.set.testBit 20

/-- The next lease is granted and its subtree built (R241). -/
def Stateful.granted (t : Stateful) : Bool := t.requested && t.programmed && t.acked && t.subtreeBuilt

/-- An index can be signed with now. -/
def Stateful.ready (t : Stateful) : Bool := !t.rolledBack && (decide (t.next < t.leaseEnd) || t.granted)

/-- The next unused index: of the current lease, or of the next one. -/
def Stateful.index (t : Stateful) : Nat := if t.next < t.leaseEnd then t.next else t.reqFirst

/-- Ask for the next lease, from the end of the present one for 1,024 indices or to the range end (R241). -/
def Stateful.request (t : Stateful) : Stateful :=
  if t.requested ∨ t.rangeEnd ≤ t.leaseStart then t
  else { t with reqFirst := t.leaseStart, reqEnd := Nat.min (t.leaseStart + 1024) t.rangeEnd, requested := true, programmed := false,
                acked := false, subtreeBuilt := false }

/-- Index `i` is consumed: a granted lease becomes current when the last one is used up, and the next lease is asked for 256 indices
before the end (R242, R243). -/
def Stateful.consume (t : Stateful) (i : Nat) : Stateful :=
  let t1 := if t.next < t.leaseEnd then t else { t with leaseEnd := t.reqEnd, requested := false, recordCurrent := true }
  let t2 := { t1 with next := i + 1 }
  if t2.leaseEnd ≤ t2.next + 256 then t2.request else t2

def State.modStateful (s : State) (h : Nat) (f : Stateful → Stateful) : State := s.modKey h (fun k => { k with stateful := k.stateful.map f })

/-- The live lease state of a key. -/
def State.leaseOf (s : State) (h : Nat) : Option Stateful := (KMap.get h s.csn.keys).bind (·.stateful)

/-! ### Storing keys -/

/-- The treetop record of a stateful key (R236; its nodes are the standard's, assumption log 1). -/
def treetop (k : KeyRec) : Bytes := stdOut .treetop k.alg [k.value] (Alg.treetopLen k.alg ((k.stateful.map (·.set)).getD 0))

/-- The range record and the treetop record of a stateful key that comes into existence (R236, R245). -/
def State.storeStateful (s : State) (h : Nat) (k : KeyRec) : State :=
  match k.stateful with
  | none => s
  | some t =>
    let s1 := s.shelfRecord 3 h k.kgen none (treetop k) s.shelfEpoch
    if t.twinStart < t.twinEnd then (s1.leaseRecord 2 h k.kgen t.rangeStart t.rangeEnd 0).raiseLeaseSeq else s1

/-- Zeroise a key: a stateful one gets its destroyed record and loses its treetop record (R254); it leaves the key store, its matrix lines
go, and the destruction is counted (R138, R485). -/
def State.zeroiseKey (s : State) (h : Nat) : State :=
  match KMap.get h s.csn.keys with
  | none => s
  | some k =>
    let s1 : State :=
      if k.stateful.isSome then
        let t := (s.leaseRecord 3 h k.kgen 0 0 0).raiseLeaseSeq
        { t with csn := { t.csn with shelf := t.csn.shelf.map (fun r => if r.rtype = 3 ∧ r.handle = h then r.removed else r) } }
      else s
    ({ s1 with csn := { s1.csn with keys := KMap.del h s1.csn.keys } }.sweepMatrix).bump Reg.csnDestroy

/-- Store a new key at a handle: the key-store write that is the commit point of its job (R67), with its nonce field (R446). -/
def State.storeKey (s : State) (h : Nat) (k : KeyRec) : State :=
  let k1 := freshNonce k s.draws
  let k2 := { k1 with mirrored := s.mirrors k.attr && decide (s.spn.pair = .inStep), shelved := Alg.aPersistent k.attr, lastUse := s.time }
  let s1 := ((s.storeStateful h k1).setKey h k2).nextDraw
  s1.evict s1.csn.keys.length

/-- Swap the staged key into the handle (R137, R446, R463): the live KGEN becomes the staged one, the slot is empty. -/
def State.swapStaged (s : State) (h : Nat) : State :=
  match KMap.get h s.csn.keys with
  | none => s
  | some k =>
    match k.staged with
    | none => s
    | some g =>
      let t := g.stateful.map (fun x => if s.mirrors g.attr then x.split else x)
      let k1 := freshNonce { k with value := g.value, pub := g.pub, kgen := g.kgen, attr := g.attr, staged := none, uses := k.uses,
                                    stateful := if k.stateful.isSome then t else none } s.draws
      (((s.storeStateful h k1).setKey h k1).nextDraw.sweepMatrix).bump Reg.csnReplace

end Sys2Proof.Machine
end

