-- ==== Sys2Proof/Machine/TolOps.lean ====
section
/-! DEFINITION. The Tollhouse: standing charges, the pool and its shares, tokens held and recalled (R713 to R718). -/

namespace Sys2Proof.Machine

open Sys2Proof

/-! ### Standing charges in mW (R709, R714) -/

/-- Base charge of a domain. -/
def baseCharge (d : Nat) : Nat :=
  if d = 1 then 1000 else if d = 2 then 400 else if 3 ≤ d ∧ d ≤ 14 then 125 else if 15 ≤ d ∧ d ≤ 17 then 500 else if d = 18 then 1000
  else if d = 19 then 500 else if d = 20 ∨ d = 21 then 250 else if d = 22 then 200 else if d = 23 then 750 else if d = 24 then 250
  else if d = 25 then 500 else if d = 26 ∨ d = 27 then 250 else 0

/-- Charge of the PCIe link: a narrower width counts as ×8, a lower rate as 8 GT/s, retraining as ×16 at 64 GT/s. -/
def pcieCharge (l : PcieLink) : Nat :=
  match l with
  | .l0 width rate =>
    let full := if 64 ≤ rate then 4500 else if 32 ≤ rate then 3000 else if 16 ≤ rate then 2000 else 1250
    if 16 ≤ width then full else full / 2
  | .retrain => 4500
  | .l1 => 250
  | .l2 => 0

/-- SerDes lanes that MODE of a port powers up (R357). -/
def modeLanes (m : Nat) : Nat := if m = 3 then 1 else if m = 2 then 2 else if m = 1 ∨ m = 4 then 4 else 0

/-- Domain `d` is on. -/
def State.pdOn (s : State) (d : Nat) : Bool := s.tol.pd.testBit d

/-- The standing charges. -/
def State.standing (s : State) : Nat :=
  let when (c : Bool) (n : Nat) : Nat := if c then n else 0
  (onesOf 30 s.tol.pd).foldl (fun n d => n + baseCharge d) 0 + when (s.pdOn 18 && decide (s.glb.dev ≠ .halted)) 5500 +
    when (s.pdOn 20) (625 * modeLanes (s.portMode 0)) + when (s.pdOn 21) (625 * modeLanes (s.portMode 1)) + pcieCharge s.tol.pcie +
    when (s.pdOn 22 && decide (s.glb.dev ≠ .falsework)) 1400 + when (s.pdOn 16) 1500 + when (s.pdOn 17) 1500

/-- The pool: the effective budget less the standing charges. -/
def State.poolMw (s : State) : Nat := s.tol.effective * 250 - s.standing

/-- SHORT: the standing charges and the floor of 2.01 W exceed the effective budget (R716). -/
def State.short (s : State) : Bool := decide (s.tol.effective * 250 < s.standing + 2010)

/-- THERMAL and LIMIT of the last sample (R715). -/
def State.thermal (s : State) : Bool := decide (2000 < s.tol.tj.toInt)
def State.limit (s : State) : Bool := decide (2160 < s.tol.tj.toInt)

/-! ### Shares and tokens (R716) -/

/-- mW of a token of kind 0 burin, 1 lane, 2 Graver core, 3 Drafting pair. -/
def tokenCost (k : Nat) : Nat := [280, 1200, 180, 350].getD k 0

/-- Percentage of a kind in TOL_SHARE. -/
def State.sharePct (s : State) (k : Nat) : Nat := bits (s.reg Reg.tolShare) (8 * k + 7) (8 * k)

/-- Whole tokens of a kind's share, and its remainder in units of 10 µW. -/
def State.shareOf (s : State) (k : Nat) : Nat × Nat :=
  let mine := s.poolMw * s.sharePct k
  (mine / (tokenCost k * 100), mine % (tokenCost k * 100))

/-- Tokens of a kind among those granted. -/
def heldOf (g : List (Nat × Nat)) (k : Nat) : Nat := (g.filter (fun x => decide (x.1 = k))).length

/-- What is left of the common remainder when the tokens beyond each share are taken from it, in units of 10 µW, the kinds in their
order; a token that finds no remainder stands as the floor token of its kind when it is that kind's only one. No value when a token
finds neither. -/
def State.remainderLeft (s : State) (g : List (Nat × Nat)) : Option Nat :=
  let common := (List.range 4).foldl (fun n k => n + (s.shareOf k).2) 0
  (List.range 4).foldl (fun m k =>
    match m with
    | none => none
    | some left =>
      let beyond := heldOf g k - (s.shareOf k).1
      let cost := tokenCost k * 100
      let fit := Nat.min beyond (left / cost)
      if beyond - fit = 0 ∨ (beyond - fit = 1 ∧ heldOf g k = 1) then some (left - fit * cost) else none) (some common)

/-- The tokens held fit the pool and the floor. -/
def State.fits (s : State) (g : List (Nat × Nat)) : Bool := (s.remainderLeft g).isSome

/-- A further token of a kind from its own share, and from the remainder or the floor. -/
def State.ownRoom (s : State) (k : Nat) : Bool := decide (heldOf s.tol.grants k < (s.shareOf k).1)
def State.spareRoom (s : State) (k : Nat) : Bool :=
  decide (heldOf s.tol.grants k = 0) ||
    (match s.remainderLeft s.tol.grants with
     | some left => decide (tokenCost k * 100 ≤ left)
     | none => false)

/-- Key of a unit among those that wait for a token. -/
def askKey (kind u : Nat) : Nat := kind * 1000 + u

/-- A unit asks for a token (R177, R338, R426), or no longer waits for one. -/
def State.ask (s : State) (kind u : Nat) : State := { s with tol := { s.tol with asked := KMap.put (askKey kind u) s.time s.tol.asked } }
def State.unask (s : State) (kind u : Nat) : State := { s with tol := { s.tol with asked := KMap.del (askKey kind u) s.tol.asked } }

/-- A unit holds a token. -/
def State.hasToken (s : State) (kind u : Nat) : Bool := s.tol.grants.contains (kind, u)

/-- A unit gives its token back. -/
def State.releaseToken (s : State) (k u : Nat) : State :=
  let keep (x : Nat × Nat) : Bool := decide (x ≠ (k, u))
  { s with tol := { s.tol with grants := s.tol.grants.filter keep, recalled := s.tol.recalled.filter keep } }

/-- Tokens recalled until those left fit: from the kinds that hold more than their share, most recently granted first (R718). -/
def State.recallList (s : State) : Nat → List (Nat × Nat) → List (Nat × Nat) → List (Nat × Nat)
  | 0, _, acc => acc
  | fuel + 1, g, acc =>
    if s.fits g then acc
    else match g.find? (fun x => decide ((s.shareOf x.1).1 < heldOf g x.1)) with
      | none => acc
      | some x => s.recallList fuel (g.erase x) (acc ++ [x])

/-- The Tollhouse recalls what exceeds the budget, the charges or a lender's request (R718). -/
def State.recall (s : State) : State :=
  let kept := s.tol.grants.filter (fun x => !(s.tol.recalled.contains x))
  let more := s.recallList kept.length kept []
  if more.isEmpty then s
  else { s with tol := { s.tol with recalled := s.tol.recalled ++ more } }.bump Reg.tolRecalls more.length

/-- A unit's token is recalled. -/
def State.recalledFrom (s : State) (k u : Nat) : Bool := s.tol.recalled.contains (k, u)

/-- Token number of a burin: pier × 9 + burin. -/
def burinUnit (p b : Nat) : Nat := p * 9 + b

end Sys2Proof.Machine
end

