-- ==== Sys2Proof/Machine/EngOps.lean ====
section
/-! DEFINITION. Burins, Graver cores and lanes as places where jobs stand: accessors, release, deficit round robin, estimates
(R163, R172 to R176, R330 to R333, R355). -/

namespace Sys2Proof.Machine

open Sys2Proof

/-! ### Accessors -/

def burinDef (_ : Nat) : Burin := Burin.reset
def coreDef (_ : Nat) : Core := Core.reset
def laneDef (_ : Nat) : Lane := Lane.reset

def State.burin (s : State) (p b : Nat) : Burin := SMap.get burinDef b (s.pier p).burins

def State.setBurin (s : State) (p b : Nat) (x : Burin) : State :=
  s.modPier p (fun y => { y with burins := SMap.set burinDef b x y.burins })

def State.modBurin (s : State) (p b : Nat) (f : Burin → Burin) : State := s.setBurin p b (f (s.burin p b))

def State.core (s : State) (c : Nat) : Core := SMap.get coreDef c s.grv.cores

def State.setCore (s : State) (c : Nat) (x : Core) : State := { s with grv := { s.grv with cores := SMap.set coreDef c x s.grv.cores } }

def State.modCore (s : State) (c : Nat) (f : Core → Core) : State := s.setCore c (f (s.core c))

def State.lane (s : State) (l : Nat) : Lane := SMap.get laneDef l s.lne.lanes

def State.setLane (s : State) (l : Nat) (x : Lane) : State := { s with lne := { s.lne with lanes := SMap.set laneDef l x s.lne.lanes } }

def State.modLane (s : State) (l : Nat) (f : Lane → Lane) : State := s.setLane l (f (s.lane l))

/-- A job that computes on shares; the others are the unmasked row of R201. -/
def Job.masked (x : Job) : Bool :=
  (match x.origin with | .counterproof _ => false | _ => true) && decide (dOp x.desc ≠ 0x0303) &&
    !(decide (dOp x.desc = 0x0202) && (Alg.isHqc (dAlg x.desc) || Alg.isMce (dAlg x.desc)))

/-- KEM_ENCAPS with an inline McEliece public key, which is staged before a burin takes the job (R268). -/
def Job.mceInline (x : Job) : Bool := decide (dOp x.desc = 0x0202) && Alg.isMce (dAlg x.desc) && decide (dKey x.desc = noKey)

/-- A job that streams a McEliece public key (R267). -/
def Job.mceStream (x : Job) : Bool := decide (dOp x.desc = 0x0202) && Alg.isMce (dAlg x.desc)

/-- A McEliece key generation, which takes a workspace (R270). -/
def Job.mceKeygen (x : Job) : Bool := decide (dOp x.desc = 0x0201) && Alg.isMce (dAlg x.desc)

/-- A job that needs burin random inputs or creates a key (R508, R510). -/
def Job.random (x : Job) : Bool :=
  (match x.origin with | .counterproof _ => false | _ => true) &&
    ([0x0201, 0x0202, 0x0203, 0x0301, 0x0701, 0x0702, 0x0D02].contains (dOp x.desc) ||
      ((decide (dOp x.desc = 0x0302 ∨ dOp x.desc = 0x0304)) && !((dP0 x.desc).testBit 16)))

/-- A stateful signing job has an index to sign with; other jobs need none (R238, R241). -/
def State.leaseReady (s : State) (x : Job) : Bool :=
  !(decide (dOp x.desc = 0x0302) && decide (x.origin = .host)) ||
    (match s.leaseOf (dKey x.desc) with | some t => t.ready | none => true)

/-- Every (pier, burin). -/
def allBurins : List (Nat × Nat) := ((List.range 8).map (fun p => (List.range 9).map (fun b => (p, b)))).flatten

/-- The burin that holds a job. -/
def State.burinOf (s : State) (j : Nat) : Option (Nat × Nat) := allBurins.find? (fun x => decide ((s.burin x.1 x.2).job = some j))

/-- The core whose slots hold a job. -/
def State.coreOf (s : State) (j : Nat) : Option Nat :=
  (List.range 18).find? (fun c => (s.core c).slots.any (fun x => decide (x.job = j)))

/-! ### Release -/

/-- A burin after a job: zeroised, its token returned, IDLE when it is on duty (R160, R177). -/
def State.idleBurin (s : State) (p b : Nat) : State :=
  ((s.releaseToken 0 (burinUnit p b)).unask 0 (burinUnit p b)).modBurin p b (fun x =>
    { x with state := if (s.pier p).onDuty.testBit b then .idle else x.state, job := none, issued := 0, micro := none })

def State.freeBurin (s : State) (j : Nat) : State :=
  match s.burinOf j with
  | some (p, b) => s.idleBurin p b
  | none => s

/-- Microseconds between two ticks of TIMESTAMP, 100 ticks each. -/
def usSince (now t : Nat) : Nat := (now - t) / 100

/-- The slot computed next when no job runs (R333): one switched out for longer than AGE_US, else the most urgent class; the
longest switched out first. -/
def State.nextSlot (s : State) (l : List Slot) : Option Nat :=
  let age := bits (s.reg Reg.grvCtl) 27 16
  let cls (x : Slot) : Nat := ((s.job x.job).map (·.cls)).getD 3
  let older (m : Option Slot) (x : Slot) : Option Slot :=
    match m with
    | none => some x
    | some y => if x.since < y.since then some x else some y
  let aged := l.filter (fun x => decide (age < usSince s.time x.since))
  let pool := if aged.isEmpty then l.filter (fun x => l.all (fun y => decide (cls x ≤ cls y))) else aged
  (pool.foldl older none).map (·.job)

/-- A job leaves its core: the slot is zeroised, and the core computes the next resident job or is IDLE (R318, R333). -/
def State.freeCore (s : State) (j : Nat) : State :=
  match s.coreOf j with
  | none => s
  | some c =>
    let last := (s.core c).slots.all (fun y => decide (y.job = j))
    (if last then (s.releaseToken 2 c).unask 2 c else s).modCore c (fun x =>
      let l := x.slots.filter (fun y => decide (y.job ≠ j))
      if l.isEmpty then { x with slots := [], computing := none, state := if x.state = .retired then .retired else .idle }
      else { x with slots := l, computing := if x.computing = some j then s.nextSlot l else x.computing })

/-- A look-aside job leaves the lanes. -/
def State.freeLane (s : State) (j : Nat) : State :=
  let keep (w : LaneWork) : Bool := w.isRec || decide (w.id ≠ j)
  { s with lne := { s.lne with queue := s.lne.queue.filter keep,
                               lanes := SMap.mapAll laneDef (fun _ x => { x with work := x.work.filter keep }) s.lne.lanes },
           cwy := { s.cwy with lookaside := s.cwy.lookaside.filter (fun x => decide (x ≠ j)) } }

/-- The park entry of a job is zeroised. -/
def State.unpark (s : State) (j : Nat) : State :=
  { s with bur := { s.bur with piers := SMap.mapAll pierDef (fun _ x => { x with park := x.park.filter (fun e => decide (e.1 ≠ j)) }) s.bur.piers } }

def State.delJob (s : State) (j : Nat) : State := { s with jobs := KMap.del j s.jobs }

/-- The verification jobs of a signer are abandoned with it (R196). -/
def State.dropVerifiers (s : State) (j : Nat) : State :=
  (s.jobs.filter (fun p => decide (p.2.origin = .counterproof j))).foldl (fun t p => (t.freeBurin p.1).delJob p.1) s

/-- A job leaves every engine; its operand memory is zeroised (R69). -/
def State.leaveEngines (s : State) (j : Nat) : State :=
  ((((s.freeBurin j).freeCore j).freeLane j).unpark j).dropVerifiers j

/-! ### Deficit round robin (R175, R330, R425) -/

def zeroDef (_ : Nat) : Nat := 0

/-- A candidate of a round: VI, estimate of its oldest job, job. -/
abbrev Cand := Nat × Nat × Nat

/-- Rounds of quanta that a VI needs before it may take its job. -/
def roundsFor (est deficit quantum : Nat) : Nat := if est ≤ deficit then 0 else (est - deficit + quantum - 1) / Nat.max quantum 1

/-- The candidates in serving order: from the VI that was served last on, cyclically. -/
def fromTurn (turn : Nat) (l : List Cand) : List Cand :=
  l.filter (fun c => decide (turn ≤ c.1)) ++ l.filter (fun c => decide (c.1 < turn))

/-- Deficit round robin over one class: the VI whose oldest job first falls within its deficit, and the deficits after it. `w` is the
share weight, `base` the key of the class in the table of deficits. The round stands at the VI served last, which needs no further
quantum while its deficit lasts. -/
def drr (w : Nat → Nat) (base turn : Nat) (d : SMap Nat) (l : List Cand) : Option (Nat × SMap Nat × Nat) :=
  let q (v : Nat) : Nat := Nat.max (w v) 1 * 8192
  let df (v : Nat) : Nat := SMap.get zeroDef (base + v) d
  let order := fromTurn turn l
  let best := order.foldl (fun (m : Option (Nat × Cand)) c =>
    let r := roundsFor c.2.1 (df c.1) (q c.1)
    match m with
    | none => some (r, c)
    | some (r0, c0) => if r < r0 then some (r, c) else some (r0, c0)) none
  match best with
  | none => none
  | some (r, (v, est, j)) =>
    let upto := order.takeWhile (fun c => decide (c.1 ≠ v))
    let d1 := order.foldl (fun t c =>
      let k := if c.1 = v ∨ upto.any (fun x => decide (x.1 = c.1)) then r else r - 1
      SMap.set zeroDef (base + c.1) (df c.1 + k * q c.1) t) d
    some (j, SMap.set zeroDef (base + v) (df v + r * q v - est) d1, v)

/-- The oldest job of each VI among some jobs in queue order. -/
def oldestPerVi (l : List (Nat × Job)) : List Cand :=
  (List.range 256).filterMap (fun v => (l.find? (fun p => decide (p.2.vi = v))).map (fun p => (v, p.2.estimate, p.1)))

/-- Jobs in queue order: those requeued at the head first, then by age (R180, R181). -/
def queueOrder (l : List (Nat × Job)) : List (Nat × Job) := l.filter (fun p => p.2.head) ++ l.filter (fun p => !p.2.head)

/-- A VI whose queue in the class empties loses its deficit (R175). -/
def loseDeficit (base : Nat) (left : List (Nat × Job)) (d : SMap Nat) (v : Nat) : SMap Nat :=
  if left.any (fun p => decide (p.2.vi = v)) then d else SMap.set zeroDef (base + v) 0 d

/-! ### Estimates (R163, R209, R330, R355) -/

/-- Burin cycles for message bytes beyond 4 KiB: 4 per 64 B (R209). -/
def msgCycles (n : Nat) : Nat := if 4096 < n then 4 * ((n - 4096 + 63) / 64) else 0

/-- The ML-KEM or other burin algorithm of a job: the post-quantum part of a hybrid. -/
def burinAlg (b : Bytes) : Nat := if Alg.isHybrid (dAlg b) then Alg.hybridKem (dAlg b) else dAlg b

/-- Cycle estimate of a burin job. -/
def burinEstimate (b : Bytes) : Nat :=
  let a := burinAlg b
  match dOp b with
  | 0x0201 => Alg.burinCycles a 0
  | 0x0202 => Alg.burinCycles a 1
  | 0x0203 => Alg.burinCycles a 2
  | 0x0301 => Alg.burinCycles a 0 + Alg.burinCycles a 1 + Alg.burinCycles a 2
  | 0x0302 => Alg.burinCycles a 1 + msgCycles (dLenIn b)
  | 0x0304 => Alg.burinCycles a 1
  | 0x0303 => Alg.burinCycles a 2 + msgCycles (dLenIn b)
  | 0x0701 => Alg.burinCycles 0x0203 1
  | 0x0702 => Alg.burinCycles 0x0203 1
  | _ => 0

/-- Cycle estimate of a Graver job. -/
def graverEstimate (b : Bytes) : Nat :=
  let a := if Alg.isHybrid (dAlg b) then Alg.hybridCurve (dAlg b) else dAlg b
  let m := dModBits b
  let extra := if 4096 < dLenIn b then 64 * ((dLenIn b - 4096 + 127) / 128) else 0
  match dOp b with
  | 0x0201 => Alg.graverCycles a 0 0
  | 0x0202 => Alg.graverCycles a 0 0 + Alg.graverCycles a 0 1
  | 0x0203 => Alg.graverCycles a 0 1
  | 0x0205 => Alg.graverCycles a 0 1
  | 0x0301 => Alg.graverCycles a m 0 + Alg.graverCycles a m 1 + Alg.graverCycles a m 2
  | 0x0302 => Alg.graverSign a m + (if Alg.isEd a then 2 * extra else extra)
  | 0x0304 => Alg.graverSign a m
  | 0x0303 => Alg.graverCycles a m 2 + extra
  | 0x0701 => Alg.graverSign 0x0712 0
  | 0x0702 => Alg.graverSign 0x0712 0
  | _ => 0

/-! ### Pier queues (R163, R172, R173) -/

/-- Jobs queued in a pier. -/
def State.pierQueue (s : State) (p : Nat) : List (Nat × Job) :=
  queueOrder (s.jobs.filter (fun x => decide (x.2.burinPart = .queued) && decide (x.2.pier = some p)))

/-- WORK_US of a pier (R163). -/
def State.workUs (s : State) (p : Nat) : Nat :=
  let n := popCount 9 (s.pier p).onDuty
  if n = 0 then 0
  else Nat.min 65535 ((s.pierQueue p).foldl (fun t x => t + x.2.estimate) 0 / 1200 / n)

/-- Piers of a list with room in their queue, and the one of least WORK_US; ties go to the lowest (R172, R173). -/
def State.leastWork (s : State) (l : List Nat) : Option Nat :=
  (l.filter (fun p => decide ((s.pierQueue p).length < 1024))).foldl (fun (m : Option Nat) p =>
    match m with
    | none => some p
    | some q => if s.workUs p < s.workUs q then some p else some q) none

/-- Piers whose cache holds the matrix of a key (R204, R207). -/
def State.holdsMatrix (s : State) (h kgen p : Nat) : Bool :=
  (s.pier p).matrix.any (fun e => decide (e.handle = h) && decide (e.kgen = kgen) && e.filled)

/-- A decapsulation with a static ML-KEM key, or the post-quantum half of a hybrid one (R172, R204). -/
def Job.usesMatrix (x : Job) : Bool :=
  decide (dOp x.desc = 0x0203) && (Alg.isMlKem (dAlg x.desc) || Alg.isHybrid (dAlg x.desc)) &&
    (match x.key with | some k => !k.once | none => false)

/-- KGEN that a job bound at check 11. -/
def Job.boundKgen (x : Job) : Nat := (x.key.map (·.kgen)).getD 0

/-- A load of customer microcode into pier `p` waits or writes (R311, R315). -/
def State.loading (s : State) (p : Nat) : Bool :=
  s.jobs.any (fun x => decide (dOp x.2.desc = 0x0D01) && decide (x.2.stage = .waiting) && !x.2.committed && (dP0 x.2.desc).testBit p)

/-- The piers that a job may run in: enabled, not the signer's for its counterproof, and with the image for UCODE_INVOKE
(R172, R191, R312). -/
def State.piersFor (s : State) (x : Job) : List Nat :=
  s.piersOn.filter (fun p =>
    (match x.origin with
     | .counterproof c => decide ((s.job c).bind (·.pier) ≠ some p)
     | _ => true) &&
    ((s.pier p).stippleOk || !x.masked) &&
    (if dOp x.desc = 0x0D02 then decide ((s.pier p).image = s.bur.current) && !(s.loading p) else true))

/-- The pier of a job (R172). -/
def State.choosePier (s : State) (x : Job) : Option Nat :=
  let l := s.piersFor x
  let least := s.leastWork l
  let h := dKey x.desc
  if x.usesMatrix then
    match s.leastWork (l.filter (s.holdsMatrix h x.boundKgen)), least with
    | some p, some q => if s.workUs p ≤ s.workUs q + bits (s.reg Reg.burCtl) 23 16 then some p else some q
    | _, m => m
  else least

end Sys2Proof.Machine
end

