-- ==== Sys2Proof/Machine/Entry.lean ====
section
/-! DEFINITION. Session entries as bytes, and the leases of new sequence spaces (R389, R391, R413, R590). -/

namespace Sys2Proof.Machine

open Sys2Proof

/-! ### The 512 B entry (R389) -/

/-- CRC-32C of PEER_ADDR, PEER_PORT, VLAN and PEER_MAC. -/
def Path.tag (p : Path) : Nat := crc32c (padTo 16 p.peerAddr ++ leBytes 2 p.peerPort ++ leBytes 2 p.vlan ++ padTo 6 p.peerMac)

/-- HFLAGS of an entry. -/
def Session.hflags (x : Session) : Nat :=
  x.port % 2 + bitAt 1 x.ipv6 + bitAt 2 x.esn + bitAt 3 x.tunnel + bitAt 4 x.ownCid + bitAt 5 x.outbound + bitAt 6 x.dropPending + bitAt 7 x.altValid

/-- TXFLAGS of an entry. -/
def Session.txflags (x : Session) : Nat := bitAt 0 x.tx.kuWait + bitAt 1 x.tx.kuHost + bitAt 2 x.tx.leaseReq + (x.tx.kuTries % 16) * 16

/-- WIN_LO: window bits 128 to 1,023, or the epoch 3 transmit keys of a PENDING entry (R391). -/
def Session.winLo (x : Session) : Bytes :=
  if x.state = 1 then padTo 112 (padTo 32 x.pend.key ++ padTo 12 x.pend.iv ++ padTo 32 x.pend.snKey) else leBytes 112 (x.rx.window / 2 ^ 128)

/-- The entry as R389 lays it out. -/
def Session.bytes (x : Session) : Bytes :=
  [BitVec.ofNat 8 x.state, BitVec.ofNat 8 x.kind, BitVec.ofNat 8 x.vi, BitVec.ofNat 8 x.hflags] ++ leBytes 2 x.alg ++ leBytes 2 x.rx.epoch ++
  leBytes 8 x.rx.top ++ leBytes 16 (x.rx.window % 2 ^ 128) ++ padTo 32 x.rx.slot.key ++ padTo 12 x.rx.slot.iv ++ beBytes 5 x.rx.cidCheck ++
  leBytes 1 x.rx.ring ++ leBytes 1 x.rx.credit ++ leBytes 1 x.rx.creditUsed ++ leBytes 2 x.rx.ckptCount ++ leBytes 2 x.maxPlaintext ++
  padTo 32 x.rx.slot.snKey ++ leBytes 4 x.rx.spi ++ leBytes 4 x.path.tag ++
  leBytes 2 x.tx.epoch ++ leBytes 1 x.tx.peerCid.length ++ leBytes 1 x.txflags ++ leBytes 4 x.tx.spi ++ leBytes 8 x.tx.seq ++ leBytes 8 x.tx.leaseEnd ++
  padTo 32 x.tx.slot.key ++ padTo 12 x.tx.slot.iv ++ padTo 20 x.tx.peerCid ++ padTo 32 x.tx.slot.snKey ++ leBytes 8 x.tx.rekeyLeft ++
  leBytes 4 x.alt.id ++ padTo 12 x.alt.slot.iv ++ padTo 32 x.alt.slot.key ++ padTo 32 x.alt.slot.snKey ++
  padTo 16 x.path.peerAddr ++ padTo 16 x.path.localAddr ++ leBytes 2 x.path.peerPort ++ leBytes 2 x.path.localPort ++ leBytes 2 x.path.vlan ++
  padTo 6 x.path.peerMac ++ leBytes 4 x.estS ++ leBytes 4 x.hardAtS ++ leBytes 8 x.hardLeft ++ x.winLo ++ leBytes 4 x.rx.ckptDue

/-- Records per epoch of a suite before KeyUpdate, when nothing else is known (R105). -/
def suiteLimit (suite : Nat) : Nat := if suite = 0x1303 then 2 ^ 40 else 8388608

/-- The entry that 512 B hold. Keys have the length that the algorithm gives; what no field carries starts anew, and REKEY_LEFT is reloaded
with the suite's limit (assumption log 43). -/
def Session.ofBytes (b : Bytes) : Session :=
  let f (i : Nat) : Bool := (rd b 3 1).testBit i
  let alg := rd b 4 2
  let esp := decide (rd b 1 1 = 2)
  let n := if alg = 0x1301 ∨ alg = 0x0901 then 16 else 32
  let ip := if f 1 then 16 else 4
  let state := rd b 0 1
  let slot (k i q : Nat) : KeySlot := { key := slice b k n, iv := slice b i 12, snKey := if esp then [] else slice b q n }
  { state := state, kind := rd b 1 1, vi := rd b 2 1, port := if f 0 then 1 else 0, ipv6 := f 1, esn := f 2, tunnel := f 3, ownCid := f 4,
    outbound := f 5, dropPending := f 6, altValid := f 7, alg := alg, maxPlaintext := rd b 86 2,
    rx := { epoch := rd b 6 2, top := rd b 8 8, window := rd b 16 16 + (if state = 1 then 0 else rd b 396 112 * 2 ^ 128), slot := slot 32 64 88,
            spi := rd b 120 4, cidCheck := rdBe b 76 5, ring := rd b 81 1, credit := rd b 82 1, creditUsed := 0, ckptCount := 0, ckptDue := 0 },
    alt := { id := rd b 256 4, slot := slot 272 260 304, floor := 0 },
    tx := { epoch := rd b 128 2, seq := rd b 136 8, leaseEnd := rd b 144 8, slot := slot 152 184 216, spi := rd b 132 4,
            peerCid := slice b 196 (rd b 130 1), kuWait := false, kuHost := false, leaseReq := false, leaseAck := false, kuTries := 0,
            rekeyLeft := rd b 248 8, kuJob := none, stalled := false },
    pend := if state = 1 then slot 396 428 440 else KeySlot.empty,
    path := { peerAddr := slice b 336 ip, localAddr := slice b 352 ip, peerPort := rd b 368 2, localPort := rd b 370 2, vlan := rd b 372 2,
              peerMac := slice b 374 6 },
    estS := rd b 380 4, hardAtS := rd b 384 4, hardLeft := rd b 388 8, rekeyReload := if esp then noLimit else suiteLimit alg,
    counts := SessionCounts.zero, held := [], inbox := [], twinWait := false }

/-- The counter record of 64 B (R389). -/
def SessionCounts.bytes (c : SessionCounts) : Bytes :=
  leBytes 8 c.rxRecords ++ leBytes 8 c.rxBytes ++ leBytes 8 c.drops ++ leBytes 8 c.tagFails ++ leBytes 8 c.txRecords ++ leBytes 8 c.txBytes ++ zeros 16

def SessionCounts.ofBytes (b : Bytes) : SessionCounts :=
  { rxRecords := rd b 0 8, rxBytes := rd b 8 8, drops := rd b 16 8, tagFails := rd b 24 8, txRecords := rd b 32 8, txBytes := rd b 40 8 }

/-- The takeover form of an entry: TX_SEQ at LEASE_END, RX_TOP 1,024 above what the twin knows with every window bit set, and numbers 0 to
1,023 of the alternate slot failing (R583). -/
def Session.takeoverForm (x : Session) : Session :=
  { x with
    tx := { x.tx with seq := x.tx.leaseEnd, leaseReq := false, leaseAck := false, kuWait := false, kuJob := none }
    rx := { x.rx with top := x.rx.top + 1024, window := 2 ^ 1024 - 1 }
    alt := { x.alt with floor := 1024 } }

/-- The mirrored copy of session `i`. -/
def sessionItem (i : Nat) (x : Session) : MirrorItem := .session (BitVec.ofNat 24 i) x.bytes

/-! ### Leases (R412, R413, R590) -/

/-- The first lease of the form B + i × 65,536 at or above `e` with this device's parity: the lower unit ID takes the even ones. -/
def State.parityStart (s : State) (b e : Nat) : Nat :=
  let i := (e - b + 65535) / 65536
  let j := if (i % 2 = 0) = s.lowerId then i else i + 1
  b + j * 65536

/-- Start of the lease after `e` for a counter with base `b`. -/
def State.leaseStart (s : State) (b e : Nat) : Nat := if s.lone then s.parityStart b e else e

/-- Base of the leases of a session: 0 for DTLS, 1 for ESP. -/
def Session.base (x : Session) : Nat := if x.kind = 2 then 1 else 0

/-- A session takes the first lease of a new sequence space (R413). -/
def State.freshLease (s : State) (x : Session) : Session :=
  let b := s.leaseStart x.base x.base
  { x with tx := { x.tx with seq := b, leaseEnd := b + 65536, leaseReq := false, leaseAck := false, stalled := false } }

end Sys2Proof.Machine
end

