-- ==== Sys2Proof/Machine/ShelfOps.lean ====
section
/-! DEFINITION. The key shelf as a whole: its live records and its compaction (R465, R467, R468). -/

namespace Sys2Proof.Machine

open Sys2Proof

/-- Records of this epoch that the BBRAM version covers (R467). -/
def State.shelfSeen (s : State) : List ShelfRec :=
  s.csn.shelf.filter (fun r => decide (r.rtype ≠ 4) && decide (r.epoch = s.shelfEpoch) && decide (r.version ≤ s.csn.shelfVersion))

/-- A later record replaces or destroys a key or treetop record: one of its own type and handle, a destroyed record of the handle, or one of
its whole VI (R467, R535). -/
def superseded (l : List ShelfRec) (r : ShelfRec) : Bool :=
  l.any (fun q => decide (r.version < q.version) &&
    ((decide (q.rtype = r.rtype) && decide (q.handle = r.handle)) ||
      (decide (q.rtype = 2) && decide (q.handle = r.handle ∨ q.handle = r.handle / 2 ^ 24 * 2 ^ 24 + 0xFFFFFF))))

/-- The newest public record of each kind (R465). -/
def State.publicLive (s : State) : List ShelfRec :=
  ([1, 2, 3, 4] : List Nat).filterMap (fun k => (s.csn.shelf.filter (fun r => decide (r.rtype = 4) && decide (r.pub = k))).getLast?)

/-- Live key and treetop records. -/
def State.keysLive (s : State) : List ShelfRec :=
  let l := s.shelfSeen
  l.filter (fun r => decide (r.rtype = 1 ∨ r.rtype = 3) && decide (r.pub ≠ 8) && !(superseded l r))

/-- Rising order of handles. -/
def insertByHandle (r : ShelfRec) : List ShelfRec → List ShelfRec
  | [] => [r]
  | a :: l => if r.handle < a.handle then r :: a :: l else a :: insertByHandle r l

/-- SHA-384 over the (HANDLE, KGEN, VERSION) triples in ascending handle order (R465). -/
def liveDigest (l : List ShelfRec) : Bytes :=
  stdOut .hash 0x0A02
    [[0], [], ((l.foldl (fun m r => insertByHandle r m) []).map (fun r => leBytes 4 r.handle ++ leBytes 4 r.kgen ++ leBytes 8 r.version)).flatten] 48

/-- Body of a base record (R465). -/
def baseBody (l : List ShelfRec) : Bytes := leBytes 8 l.length ++ liveDigest l

/-- Copy a record into the blocks that were erased before the compaction, which `kept` records precede. -/
def State.moveRecord (s : State) (kept : Nat) (r : ShelfRec) : State :=
  let free := ((List.range s.csn.shelfBlocks).find? (fun b => s.csn.shelf.all (fun q => decide (q.block ≠ b)))).getD 0
  let b := if s.csn.shelf.length = kept then free else s.shelfPlace r.pages
  { s with csn := { s.csn with shelf := s.csn.shelf ++ [{ r with block := b }] } }.bump Reg.csnShelfWrite

/-- Compaction (R468): live records unchanged into erased blocks, a base record at the next version, then the blocks that hold only
superseded records are erased. -/
def State.compactShelf (s : State) : State :=
  let kept := s.csn.shelf.length
  let keys := s.keysLive
  let s1 := (keys ++ s.publicLive).foldl (fun t r => t.moveRecord kept r) s
  let v := s.csn.shelfVersion + 1
  let base : ShelfRec := { rtype := 5, epoch := s.shelfEpoch, version := v, handle := 0, kgen := 0, key := none, body := baseBody keys, pub := 0, block := 0 }
  let s2 := s1.moveRecord kept base
  { s2 with csn := { s2.csn with shelf := s2.csn.shelf.drop kept, shelfVersion := v } }

/-! ### The owner archive key's record (R770, R771) -/

/-- What the archive key's shelf record holds beside the key: SPLIT_SEQ and the shares that wait for officers (R771). -/
def archiveBody (splitSeq : Nat) (shares : List (Nat × Bytes)) : Bytes :=
  leBytes 4 splitSeq ++ (shares.map (fun p => leBytes 1 p.1 ++ padTo 46 p.2)).flatten

/-- What a key's shelf record holds beside the key. -/
def State.keyBody (s : State) (h : Nat) : Bytes := if h = 6 then archiveBody s.cus.splitSeq s.cus.shares else []

/-- The record of a persistent key. -/
def State.keyRecord (s : State) (h : Nat) (k : KeyRec) : State := s.shelfRecord 1 h k.kgen (some { k with staged := none }) (s.keyBody h) s.shelfEpoch

/-! ### Rewriting (R467) -/

/-- The shelf written anew at a new version: the public records, the records of every persistent key that is held, and a base record. -/
def State.rewriteShelf (s : State) : State :=
  let kept := s.csn.shelf.length
  let keys := s.csn.keys.filter (fun p => Alg.aPersistent p.2.attr && !p.2.destroying)
  let s1 := s.publicLive.foldl (fun t r => t.moveRecord kept r) s
  let n := s1.csn.shelf.length
  let s2 := keys.foldl (fun t p =>
    let u := t.keyRecord p.1 p.2
    if p.2.stateful.isSome then u.shelfRecord 3 p.1 p.2.kgen none (treetop p.2) u.shelfEpoch else u) s1
  let v := s2.csn.shelfVersion + 1
  let base : ShelfRec := { rtype := 5, epoch := s.shelfEpoch, version := v, handle := 0, kgen := 0, key := none, body := baseBody (s2.csn.shelf.drop n), pub := 0, block := 0 }
  let s3 := s2.moveRecord kept base
  { s3 with csn := { s3.csn with shelf := s3.csn.shelf.drop kept, shelfVersion := v } }

/-- SHELF_ROLLBACK clears when a resynchronisation or an ARCHIVE_RESTORE rewrites the shelf at a new version. -/
def State.clearRollback (s : State) : State :=
  if s.csn.rollback then { s.rewriteShelf with csn := { s.rewriteShelf.csn with rollback := false } } else s

end Sys2Proof.Machine
end

