-- ==== Sys2Proof/Machine/TwinOps.lean ====
section
/-! DEFINITION. The pair: states and events, roles, the pairing record, the start of a synchronisation, takeover, the end of a pairing
(R570, R571, R576 to R580, R588, R595 to R598). -/

namespace Sys2Proof.Machine

open Sys2Proof

/-- Codes of R570. -/
def PairState.code : PairState → Nat
  | .unpaired => 0 | .starting => 1 | .syncing => 2 | .inStep => 3 | .linkDown => 4 | .peerLost => 5 | .fenced => 6 | .refused => 7

/-- VIs whose event ring is enabled. -/
def State.eventVis (s : State) : List Nat :=
  (s.rings.filter (fun p => decide (p.1 % 64 = 48) && p.2.enable)).map (fun p => p.1 / 64)

/-- A TWIN_LINK event to every VI with its event ring enabled (R571). -/
def State.twinLinkEvents (s : State) : State :=
  let d := s.spn.pair.code + bitAt 3 s.spn.link + bitAt 4 s.spn.hbAlive + bitAt 5 s.spn.peerFence
  s.eventVis.foldl (fun t v => t.event v 0x0011 0 d 0 0) s

/-- The pair state changes (R570, R571). -/
def State.setPair (s : State) (p : PairState) : State :=
  if s.spn.pair = p then s else ({ s with spn := { s.spn with pair := p } }).twinLinkEvents

/-! ### The span link goes down (R566, R567) -/

/-- The alignment is lost: its nonces go, and DATA frames that were not acknowledged wait for the next one. -/
def Spn.unalign (x : Spn) : Spn :=
  { x with link := false, ourNonce := none, peerNonce := none, txSeq := 0, rxSeq := 0, tagFails := [], sent := [],
           queue := (x.sent.filter (fun f => decide (f.typ = tData))).map (fun f => (f.chan, f.payload)) ++ x.queue }

/-- A HELLO with a fresh link nonce begins an alignment (R565). -/
def State.sendHello (s : State) : State :=
  let n := drawBytes s.draws 32
  (({ s with spn := { s.spn with ourNonce := some n } }).nextDraw.emit (.span (clearFrame tHello n))).bump (Reg.spn 0x200)

/-! ### Roles (R576, R578 to R580) -/

/-- One bit per VI. -/
def State.primaryMap (s : State) : Nat := maskOf ((List.range 256).filter (fun v => (s.vi v).primary))
def State.autoMap (s : State) : Nat := maskOf ((List.range 256).filter (fun v => (s.vi v).auto))

/-- Body of the pairing record: peer unit ID, digest of its identity keys, PAIR_SEQ, own boot count, the peer's last one, primary flags,
AUTO flags (R576; the layout is the model's, assumption log 42). -/
def State.pairingBody (s : State) : Bytes :=
  padTo 16 s.spn.peerId ++ padTo 48 s.spn.peerPub ++ leBytes 4 s.spn.pairSeq ++ leBytes 4 s.spn.bootCount ++ leBytes 4 s.spn.hbBoot ++
    leBytes 32 s.primaryMap ++ leBytes 32 s.autoMap

/-- The pairing record is rewritten after `n` role changes, each of which raises PAIR_SEQ by 1. -/
def State.writePairing (s : State) (n : Nat) : State :=
  let s1 := { s with spn := { s.spn with pairSeq := s.spn.pairSeq + n } }
  s1.publicRecord 4 s1.pairingBody s1.shelfEpoch

/-- Roles of some VIs, with one ROLE_CHANGED event for each VI whose role changes. -/
def State.setRoles (s : State) (vs : List Nat) (p : Bool) (auto : Option Bool) (cause : Nat) : State :=
  let changed := vs.filter (fun v => decide ((s.vi v).primary ≠ p))
  let s1 := vs.foldl (fun t v => t.modVi v (fun x => { x with primary := p, auto := auto.getD x.auto, handover := false })) s
  let s2 := if changed.isEmpty ∧ auto.isNone then s1 else s1.writePairing (Nat.max 1 changed.length)
  let s3 : State := if p && s.lone then { s2 with spn := { s2.spn with wasPrimary := changed.foldl (fun l v => insertNat v l) s2.spn.wasPrimary } } else s2
  changed.foldl (fun t v => t.event v 0x0010 0 (if p then 1 else 0) cause 0) s3

/-- PENDING entries of some VIs are removed with cause 0x09 (R588 step 2). -/
def State.dropPendingOf (s : State) (vs : List Nat) : State :=
  (s.cwy.sessions.filter (fun p => decide (p.2.state = 1) && vs.contains p.2.vi)).foldl (fun t p => t.removeSession p.1 9) s

/-- Taking the primary role (R588). -/
def State.takeRoles (s : State) (vs : List Nat) (cause : Nat) : State :=
  let new := vs.filter (fun v => !(s.vi v).primary)
  ((s.dropPendingOf new).setRoles new true none cause).bump (Reg.spn 0x224) new.length

/-- Every VI. -/
def allVis : List Nat := List.range 256

/-! ### Handover (R579) -/

/-- Windows and lease ends of a VI: the exact RX_TOP and window of every session, the ends of the session and key-counter leases (R579 step 2,
R597). -/
def State.handItems (s : State) (v : Nat) : List MirrorItem :=
  ((s.cwy.sessions.filter (fun p => decide (p.2.vi = v))).map (fun p =>
    [MirrorItem.windows (BitVec.ofNat 24 p.1) p.2.rx.top p.2.rx.window, .sendLease (BitVec.ofNat 24 p.1) p.2.tx.leaseEnd])).flatten ++
  (s.csn.keys.filter (fun p => decide (p.1 / 2 ^ 24 = v) && decide (1 ≤ Alg.aExport p.2.attr))).map (fun p =>
    MirrorItem.counter (BitVec.ofNat 32 p.1) p.2.counterLease p.2.counterLease)

/-- Records of a VI are inside the Carriageway. -/
def State.recsOf (s : State) (v : Nat) : Bool := s.cwy.recs.any (fun p => decide (p.2.vi = v))

/-- The old primary sends windows and lease ends once the records inside the Carriageway are decided (R579 steps 1 and 2). -/
def State.drainHandovers (s : State) : State :=
  s.spn.draining.foldl (fun t e =>
    if e.2.any (fun v => t.recsOf v.1) then t
    else
      let left := t.spn.draining.filter (fun d => decide (d ≠ e))
      let t1 : State := { t with spn := { t.spn with draining := left } }
      t1.mirror (.handover e.2 e.1) ((e.2.map (fun v => t.handItems v.1)).flatten)) s

/-- The sessions of VIs that this device no longer serves stand in takeover form. -/
def State.standDown (s : State) (vs : List Nat) : State :=
  { s with cwy := { s.cwy with sessions := KMap.mapVals (fun _ x => if vs.contains x.vi then x.takeoverForm else x) s.cwy.sessions } }

/-- The ledger of sessions that this device takes in a handover: the old primary knows their exact tops. -/
def State.ledgerFrom (s : State) (vs : List Nat) : State :=
  let l := (s.cwy.sessions.filter (fun p => vs.contains p.2.vi)).foldl (fun m p => KMap.put p.1 p.2.rx.top m) s.spn.ledger
  { s with spn := { s.spn with ledger := l } }

/-- Step 4 of a handover on this device: role, AUTO, event. -/
def State.handRole (s : State) (v : Nat) (p : Bool) (auto : Option Bool) : State :=
  let old := (s.vi v).primary
  let s1 := s.setRoles [v] p auto 1
  if old = p then s1 else if p then s1.ledgerFrom [v] else s1.standDown [v]

/-! ### Synchronisation (R252, R595 to R598) -/

/-- The keys that this device copies: of the VIs that it is source for, with EXPORT TWIN or above. -/
def State.copiedKeys (s : State) : KMap KeyRec :=
  s.csn.keys.filter (fun p => decide (1 ≤ Alg.aExport p.2.attr) && !p.2.destroying && s.spn.keySource.contains (p.1 / 2 ^ 24))

/-- Configuration of the VIs that this device is source for. -/
def State.configItems (s : State) : List MirrorItem :=
  let mine (v : Nat) : Bool := s.spn.keySource.contains v
  (s.spn.keySource.map (fun v =>
    .quota (Fin.ofNat 256 v) (s.vi v).quota.bytes :: (s.vi v).policies.map (fun p => MirrorItem.policy (Fin.ofNat 256 v) (Fin.ofNat 16 p.1) p.2))).flatten ++
  (s.cwy.rules.filter (fun p => mine (rd p.2 4 2))).map (fun p => MirrorItem.rule (Fin.ofNat 4096 p.1) p.2) ++
  (if mine 0 then (s.csn.policy.toList.map MirrorItem.quorum) ++ [.csnCtl (s.reg Reg.csnCtl)] else [])

/-- Range and current lease of a stateful key for the twin. -/
def rangeItem (h : Nat) (t : Stateful) : MirrorItem := .indexRange (BitVec.ofNat 32 h) t.set t.total t.twinStart t.twinEnd
def leaseItem (h : Nat) (t : Stateful) : MirrorItem :=
  .indexLease (BitVec.ofNat 32 h) (Nat.max t.rangeStart (t.leaseEnd - 1024)) (Nat.max t.rangeStart t.leaseEnd)

/-- A stateful key gets a new twin: a lost twin's range goes on from its last lease end when that is known, else the own range is
split (R245, R252). -/
def Stateful.handOn (t : Stateful) : Stateful :=
  if t.twinStart < t.twinEnd ∧ !t.twinUncertain then
    { t with twinStart := Nat.max t.twinStart t.twinLeaseEnd, twinLease := some (Nat.max t.twinStart t.twinLeaseEnd) }
  else t.split

/-- The range record of a new division (R245). -/
def State.recordRange (s : State) (h : Nat) (k : KeyRec) (t : Stateful) : State :=
  ((s.modStateful h (fun _ => t)).leaseRecord 2 h k.kgen t.rangeStart t.rangeEnd 0).raiseLeaseSeq

/-- Stateful records of a copied key. -/
def State.copyStateful (s : State) (h : Nat) (k : KeyRec) (t : Stateful) : State :=
  if s.spn.fresh then
    let u := t.handOn
    (s.recordRange h k u).mirrorOnly [rangeItem h u, leaseItem h u]
  else s.mirrorOnly [leaseItem h t]

/-- Keys whose own lease log was rolled back ask the twin for their range with an empty one (R252; the form of the request is the model's,
assumption log 48). -/
def State.askRanges (s : State) : State :=
  (s.csn.keys.filter (fun p => decide (1 ≤ Alg.aExport p.2.attr))).foldl (fun t p =>
    match p.2.stateful with
    | some x => if x.rolledBack then t.mirrorOnly [.indexRange (BitVec.ofNat 32 p.1) x.set x.total 0 0] else t
    | none => t) s

/-- The copies of a source: configuration, keys, stateful records, sessions in index order with their checkpoints (R598). -/
def State.copyOut (s : State) : State :=
  let items (l : List MirrorItem) (t : State) : State := if l.isEmpty then t else t.mirrorOnly l
  let s1 := items s.configItems s
  let ks := s1.copiedKeys
  let s2 := items ((ks.map (fun p => [keyItem p.1 p.2, .counter (BitVec.ofNat 32 p.1) p.2.counterLease p.2.counterLease])).flatten) s1
  let s3 := ks.foldl (fun t p => match p.2.stateful with | some x => t.copyStateful p.1 p.2 x | none => t) s2
  let mine := s3.cwy.sessions.filter (fun p => s3.spn.sessionSource.contains p.2.vi)
  mine.foldl (fun t p => (t.mirrorOnly [sessionItem p.1 p.2]).mirror (.checkpoint p.1 p.2.rx.top) [.checkpoint (BitVec.ofNat 24 p.1) p.2.rx.top]) s3

/-- What decides the sources of a synchronisation (R595, R596). -/
structure Settled where
  /-- VIs that this device is primary for, is source of the sessions for, is source of keys and configuration for, and takes as primary
  afterwards. -/
  primary : List Nat
  sessions : List Nat
  keys : List Nat
  returning : List Nat
  cause : Nat
  deriving DecidableEq, Repr

/-- The sources: `st`, `seq`, `prim` are the peer's pair state, PAIR_SEQ and primary flags. -/
def State.sources (s : State) (st seq prim : Nat) : Settled :=
  let mine (v : Nat) : Bool := (s.vi v).primary
  let theirs (v : Nat) : Bool := prim.testBit v
  let we := decide (s.spn.syncFrom = .starting)
  let they := decide (st = 1)
  if we && !they then
    let back := allVis.filter (fun v => !(theirs v))
    { primary := [], sessions := [], keys := back, returning := back, cause := 5 }
  else if !we && they then
    let p := allVis.filter mine
    { primary := p, sessions := allVis, keys := p, returning := [], cause := 5 }
  else if we && they then
    let ours := decide (seq < s.spn.pairSeq) || (decide (seq = s.spn.pairSeq) && s.lowerId)
    let p := allVis.filter (fun v => if ours then mine v else !(theirs v))
    { primary := p, sessions := p, keys := p, returning := [], cause := 5 }
  else
    let p := allVis.filter (fun v => if mine v = theirs v then s.lowerId else mine v)
    { primary := p, sessions := p, keys := p, returning := [], cause := 7 }

/-- Both devices know what decides the sources: roles are settled and the copies start. -/
def State.settleSync (s : State) : State :=
  match s.spn.peerSync with
  | none => s
  | some (st, seq, prim, auto) =>
    if s.spn.pair ≠ .syncing ∨ s.spn.settled then s
    else
      let x := s.sources st seq prim
      let s1 := (s.setRoles (allVis.filter (fun v => !(x.primary.contains v))) false none x.cause).setRoles x.primary true none x.cause
      let s2 := (allVis.filter (fun v => !(x.keys.contains v))).foldl (fun t v =>
        if (t.vi v).auto = auto.testBit v then t else t.modVi v (fun y => { y with auto := auto.testBit v })) s1
      let s3 : State := { s2 with
        spn := { s2.spn with settled := true, peerSync := none, sessionSource := x.sessions, keySource := x.keys, returning := x.returning,
                             pairSeq := Nat.max s2.spn.pairSeq seq } }
      (s3.askRanges).copyOut

/-- The pair enters SYNCING: the devices tell each other their resets, what they used while the other was lost, and what decides the
sources. -/
def State.enterSyncing (s : State) : State :=
  let old := s.spn.pair
  let news := s.spn.resets.map (fun v => MirrorItem.viReset (Fin.ofNat 256 v)) ++ (s.spn.wasPrimary.map s.handItems).flatten
  let s1 : State := { s with
    vis := SMap.mapAll Vi.reset (fun _ x => { x with handover := false }) s.vis
    spn := { s.spn with syncFrom := old, settled := false, permille := 0, sessionSource := [], keySource := [], returning := [], gotSessions := [],
                        gotKeys := [], fence := false, ledger := [], draining := [], resets := [],
                        waits := s.spn.waits.filter (fun p => match p.2 with | .handover _ _ => false | _ => true) } }
  ((s1.setPair .syncing).mirrorOnly (news ++ [.pairing old.code s.spn.pairSeq s.primaryMap s.autoMap])).settleSync

/-! ### The end of a pairing (R577) -/

/-- Handle 7 and the pairing record go, the roles go with them, stateful keys no longer have a twin, and the state is UNPAIRED. -/
def State.endPairing (s : State) : State :=
  let alone (k : KeyRec) : KeyRec :=
    { k with mirrored := false, stateful := k.stateful.map (fun t =>
        { t with twinStart := t.rangeEnd, twinEnd := t.rangeEnd, twinLease := none, twinLeaseEnd := t.rangeEnd, twinUncertain := false,
                 acked := t.acked || t.programmed }) }
  { s with
    csn := { s.csn with keys := KMap.mapVals (fun _ k => alone k) (KMap.del 7 s.csn.keys), shelf := s.csn.shelf.filter (fun r => decide (r.pub ≠ 4)) }
    vis := SMap.mapAll Vi.reset (fun _ x => { x with primary := true, auto := false, handover := false }) s.vis
    spn := { Spn.reset with nextMsg := s.spn.nextMsg, pairNonce := s.spn.pairNonce, badLanes := s.spn.badLanes } }

/-- A standby copy of a VI: its mirrored keys with their shelf records and stateful ranges, its sessions and its policies (R577). -/
def State.dropCopy (s : State) (v : Nat) : State :=
  let ks := s.csn.keys.filter (fun p => decide (p.1 / 2 ^ 24 = v) && p.2.mirrored)
  let s1 := ks.foldl (fun t p =>
    (if Alg.aPersistent p.2.attr then t.shelfRecord 2 p.1 p.2.kgen none [] t.shelfEpoch else t).zeroiseKey p.1) s
  let s2 := (s1.cwy.sessions.filter (fun p => decide (p.2.vi = v))).foldl (fun t p => t.dropSession p.1) s1
  s2.modVi v (fun x => { x with policies := [] })

/-- TWIN_UNPAIR takes effect (R577). -/
def State.unpair (s : State) : State :=
  let s1 : State :=
    if s.spn.pair = .inStep then (allVis.filter (fun v => !(s.vi v).primary)).foldl State.dropCopy s else s.takeRoles allVis 6
  ((s1.shelfRecord 2 7 0 none [] s1.shelfEpoch).endPairing).twinLinkEvents

/-- The pairing takes effect (R576): the keys of handle 7 and the record stand, the roles are set, and the pair enters SYNCING. -/
def State.pairedUp (s : State) (source : Bool) : State :=
  match s.spn.pairing with
  | none => s
  | some p =>
    let old := s.spn
    let s1 : State := { s with
      vis := allVis.foldl (fun m v => SMap.set Vi.reset v { (SMap.get Vi.reset v m) with primary := source, auto := false } m) s.vis
      spn := { old with pairing := none, early := [], peerId := p.peerId, peerPub := stdOut .hash 0x0A02 [[0], [], p.peerKeys] 48, pairSeq := 1,
                        bootCount := 0, hbBoot := 0, hbWrap := 0, hbCount := none, hbCounter := 0, hbWraps := 0, hbAlive := false, peerFence := false,
                        fence := false, ledger := [], queue := [], sent := [], resets := [], wasPrimary := [], fresh := true, peerSync := none } }
    s1.enterSyncing

/-- PAIR_NONCE is drawn anew after each outcome of TWIN_PAIR (R572). -/
def State.redrawPairNonce (s : State) : State := ({ s with spn := { s.spn with pairNonce := drawBytes s.draws 32 } }).nextDraw

end Sys2Proof.Machine
end

