-- ==== Sys2Proof/Machine/ViOps.lean ====
section
/-! DEFINITION. Virtual instances: what a reset, a detachment, a freeze, a migration do to the state of a VI (R535 to R544, R549, R553). -/

namespace Sys2Proof.Machine

open Sys2Proof

/-- Step 1 of R535: the generation is incremented, and every window register but VI_ID, VI_GEN, VI_STATE, the quota registers and
VI_LATE_DISCARD returns to its reset value. -/
def State.resetWindow (s : State) (v : Nat) (st : ViState) : State :=
  let s1 := s.modVi v (fun x =>
    { x with gen := x.gen + 1, state := st, freezing := false, noBuffer := false, intStatus := 0, intEnable := 0, intVector := 0, ringErr := 0,
             lostBefore := false, claimResult := 0, msix := [], pba := [] })
  { s1 with rings := s1.rings.filter (fun p => decide (p.1 / 64 ≠ v)),
            hif := { byVi := SMap.set (fun _ => 0) v 0 s1.hif.byVi, byRing := s1.hif.byRing.filter (fun p => decide (p.1 / 64 ≠ v)) } }

/-- A VI-wide destroyed record: its HANDLE has index 0xFF_FFFF (R535 step 5). -/
def State.viGone (s : State) (v : Nat) : State := s.shelfRecord 2 (v * 2 ^ 24 + 0xFFFFFF) 0 none [] s.shelfEpoch

/-- Step 3 of R535: the handles of the VI are marked destroyed, its sessions and handshakes go without alert or event, and their indices wait
for the scrub. -/
def State.destroyVi (s : State) (v : Nat) : State :=
  let mine := (s.cwy.sessions.filter (fun p => decide (p.2.vi = v))).map (·.1)
  let s1 := mine.foldl (fun t i =>
    let d := t.dropSession i
    { d with cwy := { d.cwy with scrub := KMap.put i v d.cwy.scrub } }) s
  { s1 with
    csn := { s1.csn with keys := KMap.mapVals (fun h k => if h / 2 ^ 24 = v ∧ 256 ≤ h then { k with destroying := true, staged := none } else k) s1.csn.keys }
    cwy := { s1.cwy with hs := s1.cwy.hs.filter (fun p => decide (p.2.vi ≠ v)) } }

/-- Steps 1, 3 and 5 of R535, and what R537 clears: session policies go; quota, policy slots and cursor stay. -/
def State.wipeVi (s : State) (v : Nat) : State :=
  let s1 := ((s.resetWindow v .resetting).destroyVi v).viGone v
  s1.modVi v (fun x => { x with resetPending := true, scrubPending := true, freezeBuf := [], policies := [] })

/-- The twin resets the VI too (R534): a mirrored commit, or a note for the next synchronisation while the twin is lost (R596). -/
def State.mirrorReset (s : State) (v : Nat) : State :=
  if s.lone then { s with spn := { s.spn with resets := insertNat v s.spn.resets } }
  else if s.entryWaits then s.mirror (.viReset v) [.viReset (Fin.ofNat 256 v)] else s

/-- Step 6 of R535. -/
def State.endReset (s : State) (v : Nat) (attached : Bool) : State :=
  (((s.modVi v (fun x => { x with state := if attached then .running else .detached, resetPending := false, tdi := .unlocked, stream := none })).raiseStatus
    v 1)).flushMsix v

/-- Step 7 of R535, the Caisson's and the Carriageway's part: what is marked is zeroised and returns to quota. -/
def State.scrubVi (s : State) (v : Nat) : State :=
  let gone (h : Nat) (k : KeyRec) : Bool := decide (h / 2 ^ 24 = v) && k.destroying
  let n := (s.csn.keys.filter (fun p => gone p.1 p.2)).length
  let dead (h : Nat) : Bool := (KMap.get h s.csn.keys).any (gone h)
  let s1 : State := { s with
    csn := { s.csn with keys := s.csn.keys.filter (fun p => !(gone p.1 p.2)), shelf := s.csn.shelf.map (fun r => if r.rtype = 3 ∧ dead r.handle then r.removed else r),
                        leaseLog := s.csn.leaseLog.map (fun b => { b with recs := b.recs.filter (fun r => !(dead r.handle)) }) }
    cwy := { s.cwy with scrub := s.cwy.scrub.filter (fun p => decide (p.2 ≠ v)) } }
  ((s1.sweepMatrix).bump Reg.csnDestroy n).modVi v (fun x => { x with scrubPending := false })

/-- VI_FREEZE completes (R540). -/
def State.freezeDone (s : State) (v : Nat) : State := s.modVi v (fun x => { x with state := .frozen, freezing := false })

/-- The freeze buffer is discarded and counted; keys, sessions and stateful ranges are destroyed, with a destroyed record in the lease log for each
stateful key; the VI is SAVED (R549 steps 2, 3 and 5). -/
def State.savedVi (s : State) (v : Nat) : State :=
  let n := (s.vi v).freezeBuf.length
  let s1 := (s.modVi v (fun x => { x with freezeBuf := [], freezeDrop := satAdd 32 x.freezeDrop n })).bump Reg.vimFreezeDrop n
  let s2 := (s1.csn.keys.filter (fun p => decide (p.1 / 2 ^ 24 = v) && p.2.stateful.isSome)).foldl
    (fun t p => (t.leaseRecord 3 p.1 p.2.kgen 0 0 0).raiseLeaseSeq) s1
  (s2.destroyVi v).modVi v (fun x => { x with state := .saved, scrubPending := true })

/-- VI_RESTORE completes (R553 steps 4 to 8): sessions with times rebased, rings, window, cursor, the generation one above the blob's. -/
def State.restoredVi (s : State) (v gen : Nat) (sessions : List (Nat × Session)) (rings : List (Nat × Ring)) (ie iv : Nat) (msix : SMap Word)
    (cursor : Nat) : State :=
  let now := s.second
  let s1 := sessions.foldl (fun t p =>
    t.setSession p.1 { p.2 with vi := v, estS := now - p.2.estS, hardAtS := if p.2.hardAtS = 0 then 0 else now + p.2.hardAtS }) s
  let s2 := rings.foldl (fun t p => t.setRing v p.1 p.2) s1
  s2.modVi v (fun x => { x with gen := BitVec.ofNat 16 (gen + 1), state := .frozen, frozenAt := s.time, intEnable := BitVec.ofNat 4 ie,
                                intVector := BitVec.ofNat 11 iv, msix := msix, cursor := cursor })

end Sys2Proof.Machine
end

