-- ==== Sys2Proof/Machine/Effects.lean ====
section
/-! DEFINITION. What a job changes when it passes its commit point (R67, R69, R102): one operation per effect, and the mirrored
items that go with it (R581). -/

namespace Sys2Proof.Machine

open Sys2Proof

/-! ### The matrix cache (R204 to R206) -/

/-- An entry that a running job of the pier reads. -/
def State.matrixInUse (s : State) (p : Nat) (e : MatrixEntry) : Bool :=
  s.jobs.any (fun x => decide (x.2.pier = some p) && decide (x.2.burinPart = .running) && x.2.usesMatrix &&
    decide (dKey x.2.desc = e.handle) && decide (x.2.boundKgen = e.kgen))

/-- The entry that a new line of pier `p` takes: the least recently used one that is neither pinned nor in use (R205). -/
def State.matrixVictim (s : State) (p : Nat) : Option MatrixEntry :=
  ((s.pier p).matrix.filter (fun m => !m.pinned && !(s.matrixInUse p m))).foldl
    (fun (o : Option MatrixEntry) m => match o with | none => some m | some n => if m.used < n.used then some m else some n) none

/-- Pier `p` has an entry that may be pinned for a key: its own, or a free or replaceable one below the limit of 48 (R115, R206). -/
def State.mayPin (s : State) (h p : Nat) : Bool :=
  let l := (s.pier p).matrix
  l.any (fun m => decide (m.handle = h) && m.pinned) ||
    (decide ((l.filter (·.pinned)).length < 48) &&
      (l.any (fun m => decide (m.handle = h)) || decide (l.length < 64) || (s.matrixVictim p).isSome))

/-- Pin the matrix of a key in pier `p`, filled (R206): its own entry, a free one, or one that may be replaced. -/
def State.pinIn (s : State) (h kgen p : Nat) : State :=
  let e : MatrixEntry := { handle := h, kgen := kgen, pinned := true, filled := true, used := s.time }
  let l := (s.pier p).matrix.map (fun m => if m.handle = h ∧ m.kgen ≠ kgen then { m with pinned := false } else m)
  let l1 :=
    if l.any (fun m => decide (m.handle = h) && decide (m.kgen = kgen)) then l.map (fun m => if m.handle = h ∧ m.kgen = kgen then e else m)
    else if l.length < 64 then l ++ [e]
    else match s.matrixVictim p with
      | some old => l.map (fun m => if m = old then e else m)
      | none => l
  s.modPier p (fun x => { x with matrix := l1 })

/-- Pin or unpin the matrix of a key in a mask of piers (R115, R206). -/
def State.pinMatrix (s : State) (h kgen mask : Nat) (on : Bool) : State :=
  (onesOf 8 mask).foldl (fun t p =>
    if on then t.pinIn h kgen p
    else t.modPier p (fun x => { x with matrix := x.matrix.map (fun m => if m.handle = h then { m with pinned := false } else m) })) s

/-- Fill the matrix of a key into a pier: its emptied pin, a free entry, or the least recently used unpinned one (R205, R206). -/
def State.fillMatrix (s : State) (p h kgen : Nat) : State :=
  let y := s.pier p
  let e : MatrixEntry := { handle := h, kgen := kgen, pinned := false, filled := true, used := s.time }
  if y.matrix.any (fun m => decide (m.handle = h) && decide (m.kgen = kgen)) then
    s.setPier p { y with matrix := y.matrix.map (fun m => if m.handle = h ∧ m.kgen = kgen then { m with filled := true, used := s.time } else m) }
  else if y.matrix.length < 64 then s.setPier p { y with matrix := y.matrix ++ [e] }
  else
    match s.matrixVictim p with
    | some old => s.setPier p { y with matrix := y.matrix.map (fun m => if m = old then e else m) }
    | none => s

/-- A decapsulation looks its matrix up in its pier: counted as a hit, or as a miss that fills the cache (R167, R204, R205). -/
def State.lookMatrix (s : State) (p : Nat) (x : Job) : State :=
  if !x.usesMatrix then s
  else
    let h := dKey x.desc
    if s.holdsMatrix h x.boundKgen p then
      (s.modPier p (fun y => { y with matrix := y.matrix.map (fun m => if m.handle = h ∧ m.kgen = x.boundKgen then { m with used := s.time } else m) })).bump
        (Reg.pier p 0x44)
    else (s.fillMatrix p h x.boundKgen).bump (Reg.pier p 0x48)

/-! ### Tables -/

/-- Officers whose digest no longer stands at their index are logged out (R475). -/
def keptOfficers (old new : Bytes) (l : KMap (Nat × Nat)) : KMap (Nat × Nat) :=
  l.filter (fun p => decide (p.1 < rd new 2 1) && decide (slice old (32 + 48 * p.1) 48 = slice new (32 + 48 * p.1) 48))

/-- A new quorum policy: the logins that outlive it stay (R475). -/
def State.putPolicy (s : State) (rec : Bytes) : State :=
  let old := s.csn.policy.getD []
  { s with csn := { s.csn with policy := some rec, officers := keptOfficers old rec s.csn.officers } }

/-- The live key takes an attribute word (R139). -/
def State.setAttr (s : State) (h : Nat) (a : BitVec 32) : State := s.modKey h (fun k => { k with attr := a })

/-- Load a customer image into piers, at the present tick (R311). -/
def State.loadImage (s : State) (mask : Nat) (image : Bytes) : State :=
  let s1 := (onesOf 8 mask).foldl (fun t p => t.modPier p (fun x => { x with image := some image, loadedAt := t.time })) s
  { s1 with bur := { s1.bur with current := some image } }

/-- An outbound SA starts its new sequence space with a new lease (R413). -/
def State.newSpace (s : State) (x : Session) : Session := if x.outbound then s.freshLease x else x

/-- Install an ESP SA at an index (R106, R413). -/
def State.installSa (s : State) (i v : Nat) (rec key : Bytes) : State :=
  let x := s.newSpace (saEntry v rec key s.second)
  (s.setSession i x).event v 0x0001 i (rd rec 3 1) x.alg 0

/-- FUNCTION_SET (R153): a unit, an algorithm or a VI's service is disabled, or enabled again. -/
def State.setFunction (s : State) (kind v unit : Nat) (on : Bool) : State :=
  let put (l : List Nat) : List Nat := if on then l.filter (fun x => decide (x ≠ unit)) else insertNat unit l
  match kind with
  | 1 => { s with fn := { s.fn with algs := put s.fn.algs } }
  | 2 => { s with fn := { s.fn with piers := put s.fn.piers } }
  | 3 => { s with fn := { s.fn with lanes := put s.fn.lanes } }
  | _ => s.modVi v (fun x => { x with serviceOff := !on })

/-- A key at a handle of its own: an owner anchor, or a key of a restored VI, whose index range the lease log then holds (R472, R553). -/
def State.placeKey (s : State) (h : Nat) (k : KeyRec) : State :=
  match k.stateful with
  | none => s.setKey h k
  | some t => (((s.leaseRecord 5 h k.kgen t.leaseStart t.rangeEnd t.twinAux).raiseLeaseSeq).storeStateful h k).setKey h k

/-- A quota record applies: QUOTA_CHANGED, and ERROR for a locked or running TDI whose resources move (R526, R558). -/
def State.putQuota (s : State) (v : Nat) (q : Quota) : State :=
  let old := (s.vi v).quota
  let moved := decide (old.sessionBase ≠ q.sessionBase ∨ old.sessions ≠ q.sessions ∨ old.handles ≠ q.handles)
  (s.modVi v (fun x => { x with quota := q, tdi := if moved && decide (x.tdi = .locked ∨ x.tdi = .run) then .error else x.tdi })).raiseStatus v 2

/-- A key changed while the twin is lost is marked as not mirrored (R470). -/
def State.unmirrored (s : State) (h : Nat) : State := if s.twinLost then s.modKey h (fun k => { k with mirrored := false }) else s

/-- The owner archive key and its shares (R770): a new one takes its fixed handle. -/
def State.putArchive (s : State) (k : KeyRec) (isNew : Bool) (seq : Nat) (shares : List (Nat × Bytes)) : State :=
  let s1 := if isNew then s.storeKey 6 k else s
  { s1 with cus := { s1.cus with splitSeq := seq, shares := shares.foldl (fun m p => KMap.put p.1 p.2 m) [] } }

/-- A key from the archive comes into existence at its handle, or replaces the key of a lower KGEN as a replacement commit does
(R446, R757); the range of a stateful one goes into the lease log (R253). -/
def State.restoreKey (s : State) (h : Nat) (k : KeyRec) (replaces : Bool) : State :=
  let s1 := match k.stateful with
    | some t => (s.leaseRecord 5 h k.kgen t.leaseStart t.rangeEnd t.twinAux).raiseLeaseSeq
    | none => s
  let old := ((KMap.get h s.csn.keys).map (·.uses)).getD 0
  if replaces then ((s1.storeKey h { k with uses := old }).sweepMatrix).bump Reg.csnReplace else s1.storeKey h k

/-- Apply one effect. -/
def State.applyEffect (s : State) (e : Effect) : State :=
  match e with
  | .putKey h k => s.placeKey h k
  | .delKey h => s.zeroiseKey h
  | .setStaged h g => s.modKey h (fun k => { k with staged := g, highKgen := match g with | some x => x.kgen | none => k.highKgen })
  | .setAttr h a => (s.setAttr h a).unmirrored h
  | .swapKey h => (s.swapStaged h).unmirrored h
  | .setPolicy v slot input => s.modVi v (fun x => { x with policies := KMap.put slot input x.policies })
  | .setRule slot rule =>
    { s with cwy := { s.cwy with rules := if rd rule 0 1 = 0 then KMap.del slot s.cwy.rules else KMap.put slot rule s.cwy.rules } }
  | .installSa i v rec key => s.installSa i v rec key
  | .rekeySa i spi key =>
    (match s.session i with
    | some x =>
      let y := s.newSpace (x.rekeySa spi key)
      if x.outbound then (s.setSession i y).event x.vi 0x0005 i y.tx.spi 0 0 else s.setSession i y
    | none => s)
  | .rekeyDtls i => (match s.session i with | some x => s.event x.vi 0x0005 i x.tx.epoch 0 0 | none => s)
  | .removeSession i => s.dropSession i
  | .pin h kgen mask on => s.pinMatrix h kgen mask on
  | .putQuota v q => s.putQuota v q
  | .quorum rec => s.putPolicy rec
  | .ucode mask image => s.loadImage mask image
  | .recCounter h n => s.modKey h (fun k => { k with recCounter := n })
  | .recTop h n => s.modKey h (fun k => { k with recTop := n })
  | .onceUsed h => s.zeroiseKey h
  | .clearRollback => s.clearRollback
  | .functionSet kind v unit on => s.setFunction kind v unit on
  | .useIndex h i => s.modStateful h (fun t => t.consume i)
  | .roles vs p a cause => if cause = 1 then vs.foldl (fun t v => t.handRole v p a) s else if p then s.takeRoles vs cause else s.setRoles vs p a cause
  | .paired source => s.pairedUp source
  | .unpair => s.unpair
  | .freeze v => s.freezeDone v
  | .saved v => s.savedVi v
  | .restored v gen ss rs ie iv m c => s.restoredVi v gen ss rs ie iv m c
  | .logout m => { s with csn := { s.csn with officers := s.csn.officers.filter (fun p => decide (m ≠ 0xFF ∧ p.1 ≠ m)) } }
  | .login o slot => { s with csn := { s.csn with officers := KMap.put o (slot, s.time) s.csn.officers } }
  | .archiveKey k n seq l => s.putArchive k n seq l
  | .restoreKey h k r => s.restoreKey h k r
  | .after _ => s

/-- The items of a key that comes into existence (R581). -/
def newKeyItems (h : Nat) (k : KeyRec) : List MirrorItem :=
  if 1 ≤ Alg.aExport k.attr then
    keyItem h k :: (match k.stateful with | some t => [.indexRange (BitVec.ofNat 32 h) t.set t.total t.twinStart t.twinEnd] | none => [])
  else []

/-- What the twin is sent of an effect (R581). -/
def State.effectItems (s : State) (e : Effect) : List MirrorItem :=
  let h32 (h : Nat) : Word := BitVec.ofNat 32 h
  let mirrored (h : Nat) : Bool := match KMap.get h s.csn.keys with | some k => decide (1 ≤ Alg.aExport k.attr) | none => false
  match e with
  | .delKey h => if mirrored h then [.delKey (h32 h)] else []
  | .setAttr h a =>
    (match KMap.get h s.csn.keys with | some k => if mirrored h then [keyItem h { k with attr := a }] else [] | none => [])
  | .swapKey h =>
    (match KMap.get h s.csn.keys with
    | some k =>
      (match k.staged with
      | some g => if 1 ≤ Alg.aExport g.attr then [keyItem h { k with value := g.value, pub := g.pub, kgen := g.kgen, attr := g.attr }] else []
      | none => [])
    | none => [])
  | .setPolicy v slot input => [.policy (Fin.ofNat 256 v) (Fin.ofNat 16 slot) input]
  | .setRule slot rule => [.rule (Fin.ofNat 4096 slot) rule]
  | .installSa i v rec key => [sessionItem i (s.newSpace (saEntry v rec key s.second))]
  | .rekeySa i spi key => ((s.session i).map (fun x => MirrorItem.sessionKeys (BitVec.ofNat 24 i) (s.newSpace (x.rekeySa spi key)).bytes)).toList
  | .removeSession i => [.removal (BitVec.ofNat 24 i)]
  | .quorum rec => [.quorum rec]
  | .putQuota v q => [.quota (Fin.ofNat 256 v) q.bytes]
  | .putKey h k => newKeyItems h k
  | .restoreKey h k _ => newKeyItems h k
  | .archiveKey k true _ _ => newKeyItems 6 k
  | .roles vs p a 1 =>
    ((vs.filter (fun v => !p && (s.vi v).primary)).map s.handItems).flatten ++
      vs.map (fun v => MirrorItem.role (Fin.ofNat 256 v) p (a.getD (s.vi v).auto))
  | .unpair => if s.spn.pair = .inStep then [.unpair] else []
  | .saved v => [.viReset (Fin.ofNat 256 v)]
  | .restored v _ ss _ _ _ _ _ => .restore (Fin.ofNat 256 v) :: ss.map (fun p => sessionItem p.1 { p.2 with vi := v })
  | _ => []

end Sys2Proof.Machine
end

