-- ==== Sys2Proof/Machine/Input.lean ====
section
/-! DEFINITION. Inputs that carry their own length fields: what length they imply (R62). -/

namespace Sys2Proof.Machine

open Sys2Proof

/-- What the bytes read so far say of the whole input. -/
inductive Implied where
  | more (n : Nat)       -- the first `n` bytes are needed to go on
  | is (n : Nat)         -- the input is exactly `n` bytes
  | least (n : Nat)      -- the input has at least `n` bytes
  | any                  -- no length of its own
  | stop                 -- the outcome stands; nothing further is read
  deriving DecidableEq, Repr

/-- Bytes of an LM-OTS signature and of an LMS signature (R233). -/
def lmsSigLen (n chains h : Nat) : Nat := 8 + (4 + n * (chains + 1)) + h * n

/-- Walk the levels of an HSS signature: `off` is the offset of the present LMS signature, `typ` and `ots` the types of the public
key that it answers to, `left` the signed public keys still to come (R233, R235). -/
def hssWalk (b : Bytes) : Nat → Nat → Nat → Nat → Nat → Implied
  | 0, _, _, _, _ => .stop
  | fuel + 1, off, typ, ots, left =>
    match Alg.lmsType typ, Alg.otsType ots with
    | some (n, h), some (_, _, p) =>
      if b.length < off + 8 then .more (off + 8)
      else if rdBe b (off + 4) 4 ≠ ots then .stop
      else
        let tAt := off + 8 + n * (p + 1)
        if b.length < tAt + 4 then .more (tAt + 4)
        else if rdBe b tAt 4 ≠ typ then .stop
        else
          let next := off + lmsSigLen n p h
          if left = 0 then .is next
          else if b.length < next + 8 then .more (next + 8)
          else hssWalk b fuel (next + 24 + n) (rdBe b next 4) (rdBe b (next + 4) 4) (left - 1)
    | _, _ => .stop

/-- The type codes of a stateful public key: for LMS/HSS the level count, LMS type and LM-OTS type; for the others the OID. -/
def hbsKeyTypes (alg : Nat) (pk : Bytes) : Option (Nat × Nat × Nat) :=
  if alg = 0x0401 then
    let l := rdBe pk 0 4
    let t := rdBe pk 4 4
    let o := rdBe pk 8 4
    if 1 ≤ l ∧ l ≤ 8 ∧ (Alg.lmsType t).isSome ∧ (Alg.otsType o).isSome ∧ Alg.sameFamily t o then some (l, t, o) else none
  else if alg = 0x0402 then (Alg.xmssOid (rdBe pk 0 4)).map (fun _ => (1, rdBe pk 0 4, 0))
  else (Alg.xmssMtOid (rdBe pk 0 4)).map (fun _ => (1, rdBe pk 0 4, 0))

/-- Public key bytes of a stateful key from its types (R233). -/
def hbsPkLen (alg typ : Nat) : Nat :=
  if alg = 0x0401 then 28 + (((Alg.lmsType typ).map (·.1)).getD 0)
  else if alg = 0x0402 then 4 + 2 * (((Alg.xmssOid typ).map (·.1)).getD 0)
  else 4 + 2 * (((Alg.xmssMtOid typ).map (·.1)).getD 0)

/-- Signature bytes of an XMSS or XMSS^MT key from its OID (R233). -/
def xmssSigLen (alg oid : Nat) : Nat :=
  if alg = 0x0402 then
    ((Alg.xmssOid oid).map (fun x => 4 + x.1 + ((if x.1 = 32 then 67 else 51) + x.2) * x.1)).getD 0
  else
    ((Alg.xmssMtOid oid).map (fun x => (x.2.1 + 7) / 8 + x.1 + (x.2.2 * (if x.1 = 32 then 67 else 51) + x.2.1) * x.1)).getD 0

/-- A stateful verification: `pk` is the key's public key when a handle names it (R117, R235). -/
def impliedHbs (alg msg : Nat) (pk : Option Bytes) (b : Bytes) : Implied :=
  let head := if alg = 0x0401 then 12 else 4
  match (match pk with | some k => some (k, 0) | none => if b.length < head then none else some (b, 1)) with
  | none => .more head
  | some (k, inline_) =>
    match hbsKeyTypes alg k with
    | none => .stop
    | some (_, t, o) =>
      let at_ := (if inline_ = 1 then hbsPkLen alg t else 0) + msg
      if alg = 0x0401 then
        if b.length < at_ + 4 then .more (at_ + 4) else hssWalk b 8 (at_ + 4) t o (rdBe b at_ 4)
      else .is (at_ + xmssSigLen alg t)

/-- Bytes of a wrapped record from its header (R459). -/
def recordImplied (b : Bytes) : Implied :=
  if b.length < 48 then .more 48 else .is ((if rd b 4 1 = 2 then 1616 else 48) + rd b 44 4)

/-- A chain and an impression after a CHAIN_LEN, and `tail` bytes more (R546, R574). -/
def chainImplied (tail : Nat) (b : Bytes) : Implied :=
  if b.length < 4 then .more 4
  else
    let c := 4 + rd b 0 4
    if b.length < c + 44 then .more (c + 44) else .is (c + rd b (c + 40) 4 + 4723 + tail)

/-- Bytes of a VI state blob (R550). -/
def blobImplied (b : Bytes) : Implied :=
  if b.length < 128 then .more 128 else .is (128 + rd b 100 4 + rd b 104 8 + 1568 + 4627 + 96)

/-- A TLS or DTLS record of RECORD_OPEN (R129): header and length field. A DTLS header without the fixed bits, with a connection ID
other than CID_LEN says or with an 8-bit sequence number cannot be parsed (assumption log 21). -/
def recordOpenImplied (p0 cid : Nat) (b : Bytes) : Implied :=
  if p0 = 1 then (if b.length < 5 then .more 5 else .is (5 + rdBe b 3 2))
  else if b.length < 1 then .more 1
  else
    let h := rd b 0 1
    if h / 32 ≠ 1 ∨ h.testBit 4 ≠ decide (cid ≠ 0) ∨ !h.testBit 3 then .stop
    else if !h.testBit 2 then .any
    else if b.length < 5 + cid then .more (5 + cid) else .is (5 + cid + rdBe b (3 + cid) 2)

/-- What an opcode's input implies of its length (R62, R105, R117, R124, R133, R151, R154, R158). `pk` is the public key of the
key named by handle. -/
def implied (d : Bytes) (pk : Option Bytes) (b : Bytes) : Implied :=
  let p0 := dP0 d
  match dOp d with
  | 0x0101 => if b.length < 64 then .more 64 else .is (64 + 4 * rd b 24 2 + rd b 28 4)
  | 0x0303 => if Alg.isStateful (dAlg d) then impliedHbs (dAlg d) (dP2 d) pk b else .any
  | 0x0403 =>
    if bits p0 23 16 = 3 then
      let a := 8 * dP2 d
      if b.length < a + 1 then .more (a + 1)
      else
        let l := rd b a 1
        if b.length < a + 2 + l then .more (a + 2 + l) else .is (a + 2 + l + rd b (a + 1 + l) 1)
    else .any
  | 0x0504 => recordOpenImplied p0 (if p0 = 2 then bits (dP1 d) 4 0 else 0) b
  | 0x0602 =>
    if bits p0 23 16 = 3 then
      (if isMigImport d then chainImplied 1568 b
       else if Alg.isStateful (dAlg d) then
         (if b.length < (if dAlg d = 0x0401 then 12 else 4) then .more (if dAlg d = 0x0401 then 12 else 4)
          else match hbsKeyTypes (dAlg d) b with
            | some (_, t, _) => .is (hbsPkLen (dAlg d) t)
            | none => .stop)
       else .any)
    else recordImplied b
  | 0x0604 => if bits p0 23 16 = 0 then .any else recordImplied b
  | 0x0608 => if b.length < 1 then .more 1 else .least (1 + rd b 0 1)
  | 0x0A06 => if b.length < 3 then .more 3 else .is (4755 + 48 * rd b 2 1)
  | 0x0B01 => chainImplied 0 b
  | 0x0C05 => blobImplied b
  | 0x0D01 => if b.length < 256 then .more 256 else .is (256 + rd b 24 4 + 4723)
  | 0x0F04 => if b.length < 256 then .more 256 else .is (256 + rd b 20 4 + 4723)
  | _ => .any

end Sys2Proof.Machine
end

