-- ==== Sys2Proof/Machine/Jobs.lean ====
section
/-! DEFINITION. The course of a job: input, result, needs, commit point, outcome, abort (R60, R62, R67 to R72, R102). -/

namespace Sys2Proof.Machine

open Sys2Proof

/-! ### Results -/

/-- A failing result (R65): status and DETAIL. -/
def failWith (st det : Nat) : Result := { Result.empty with status := st, detail := det }

/-- A successful result with its payload. -/
def okWith (det : Nat) (payload : Bytes) : Result := { Result.empty with detail := det, payload := payload }

/-- A successful result with effects. -/
def okEff (det : Nat) (payload : Bytes) (e : List Effect) : Result := { okWith det payload with effects := e }

/-- A successful result that creates keys (R94). -/
def okKeys (det : Nat) (payload : Bytes) (ks : List KeyRec) (e : List Effect) : Result :=
  { okEff det payload e with newKeys := ks }

/-! ### Replies (R63 to R65) -/

/-- A reply that is decided for a descriptor. -/
def mkReply (s : State) (j : Nat) (x : Job) (st det len : Nat) (fl : Nat) (outs : List (Nat × Bytes)) (fw : Option AfterReply) : Reply :=
  { job := j, vi := x.vi, ring := x.ring, tag := dTag x.desc, opcode := dOp x.desc, status := st, detail := det, lenOut := len,
    gen := dGen x.desc, flags := fl, stamp := s.time, ordered := dOrdered x.desc, fence := dFence x.desc, notify := dNotify x.desc,
    outputs := outs, after := fw }

/-- What a job's effects ask for once its reply is written (R146, R625). -/
def afterOf (e : List Effect) : Option AfterReply :=
  e.findSome? (fun x => match x with | .after c => some c | _ => none)

/-- The reply of a job from its result; `late` success reads OK_ABORT_LATE with DETAIL 0 (R64, R65, R68). -/
def Job.outcome (x : Job) : Nat × Nat × Nat × Nat :=
  let r := x.result
  let good := statusOk r.status
  let st := if good && x.late then St.okLate else r.status
  let det := if good && x.late then 0 else r.detail
  let len := if good ∧ r.lenOut = 0 then r.payload.length else r.lenOut
  let fl := bitAt 0 (good && x.approved) + bitAt 1 (good && r.counterproofed) + bitAt 2 x.restarted
  (st, det, len, fl)

/-- Record a decided outcome of a descriptor: its reply waits for the completion ring (R60, R72), or the job was fetched before a
change of generation and leaves none. -/
def State.pushOutcome (s : State) (j : Nat) (x : Job) : State :=
  if x.gen ≠ (s.vi x.vi).gen then s.modVi x.vi (fun v => { v with lateDiscard := satInc v.lateDiscard })
  else
    let o := x.outcome
    let outs := if statusOk o.1 then (if x.result.payload.isEmpty then [] else [(dOutAddr x.desc, x.result.payload)]) ++ x.result.extra else []
    { s with replies := s.replies ++ [mkReply s j x o.1 o.2.1 o.2.2.1 o.2.2.2 outs (afterOf x.result.effects)] }

/-- USES of the key counts the decided job (R450); WRAP_INVALID and QUORUM outcomes are counted (R485). -/
def State.countOutcome (s : State) (x : Job) : State :=
  let st := x.result.status
  let s1 := if x.key.isSome then s.modKey (dKey x.desc) (fun k => { k with uses := satAdd 64 k.uses 1, lastUse := s.time }) else s
  let s2 := if st = St.wrapInvalid then s1.bump Reg.csnWrapFail else s1
  if st = St.quorum then s2.bump Reg.csnQuorumFail else s2

/-- An ABORT whose last target is decided gets its own outcome (R70). -/
def State.settleAbort (s : State) (j : Nat) (x : Job) : State :=
  let y := { x with result := okWith (x.matched % 65536 + 65536 * (x.abortedN % 65536)) [] }
  (s.delJob j).pushOutcome j y

/-- The outcome of job `j` is decided: every ABORT that matched it hears of it (R70). -/
def State.noteDecided (s : State) (j : Nat) (aborted : Bool) : State :=
  (s.jobs.filter (fun p => p.2.targets.contains j)).foldl (fun t p =>
    let x := p.2
    let y := { x with targets := x.targets.filter (fun k => decide (k ≠ j)), abortedN := if aborted then x.abortedN + 1 else x.abortedN }
    if y.targets.isEmpty then t.settleAbort p.1 y else t.putJob p.1 y) s

/-- What a job that ends waits for is dropped: its acknowledgement, its random bits. -/
def State.dropWaits (s : State) (j : Nat) : State :=
  { s with spn := { s.spn with waits := s.spn.waits.filter (fun p => decide (p.2 ≠ .job j)) },
           cwy := { s.cwy with reserved := KMap.del j s.cwy.reserved },
           ent := { s.ent with waiting := s.ent.waiting.filter (fun w => decide (w.2 ≠ .job j)) } }

/-! ### Needs and the commit point (R67, R102, R466) -/

/-- The twin must acknowledge a change before it takes effect: paired, and the twin not declared lost (R470, R581, R586). -/
def State.twinWaits (s : State) : Bool := s.paired && !s.twinLost && !s.uncopied

/-- What a change to a key with an attribute word waits for, in the order of R466. -/
def State.keyNeeds (s : State) (a : BitVec 32) : List Need :=
  (if Alg.aPersistent a then [Need.shelf] else []) ++ (if decide (1 ≤ Alg.aExport a) && s.twinWaits then [Need.twin] else [])

/-- What the key-store writes of some new keys wait for: a shelf record for each persistent one, then the twin (R67, R466). -/
def State.newNeeds (s : State) (ks : List KeyRec) : List Need :=
  (ks.filter (fun k => Alg.aPersistent k.attr)).map (fun _ => Need.shelf) ++
    (if ks.any (fun k => decide (1 ≤ Alg.aExport k.attr)) && s.twinWaits then [Need.twin] else [])

/-- What a change to a table waits for (R102, R581). -/
def State.tableNeeds (s : State) : List Need := if s.twinWaits then [Need.twin] else []

/-- The items that a job's change sends to the twin. -/
def State.jobItems (s : State) (x : Job) : List MirrorItem :=
  (x.result.effects.map s.effectItems).flatten ++
    ((List.range x.result.newKeys.length).filterMap (fun i =>
      match x.result.newKeys[i]?, x.handles[i]? with
      | some k, some h => some (newKeyItems h k)
      | _, _ => none)).flatten

/-- The test of a static ML-KEM key at its generation fills the matrix cache of its pier, as a miss (R217). -/
def State.fillNew (s : State) (x : Job) : State :=
  match x.pier, x.handles with
  | some p, [h] =>
    if dOp x.desc = 0x0201 ∧ (Alg.isMlKem (dAlg x.desc) ∨ Alg.isHybrid (dAlg x.desc)) ∧ !((dP0 x.desc).testBit 16) then
      (s.fillMatrix p h 1).bump (Reg.pier p 0x48)
    else s
  | _, _ => s

/-- A key created with ONCE is destroyed by its first use with status 0x00xx: a job that needs a usage bit of it (R111). -/
def Job.usesOnce (x : Job) : Bool := (needUse x.desc).isSome && (match x.key with | some k => k.once | none => false)
def Job.usesOnce2 (x : Job) : Bool := match x.key2 with | some k => k.once | none => false

/-- The commit point (R67): new keys are stored at their handles, the effects take place, and the output gets the layout of R94. -/
def State.reachCommit (s : State) (j : Nat) : State :=
  match s.job j with
  | none => s
  | some x =>
    let r := x.result
    let pairs := x.handles.zip r.newKeys
    let s1 := pairs.foldl (fun t p => t.storeKey p.1 p.2) s
    let s2 := r.effects.foldl State.applyEffect (s1.fillNew x)
    let s2 := if x.usesOnce then s2.zeroiseKey (dKey x.desc) else s2
    let s2 := if x.usesOnce2 then s2.zeroiseKey (dP1 x.desc) else s2
    let head := (pairs.map (fun p => leBytes 4 p.1 ++ leBytes 4 p.2.kgen)).flatten
    s2.modJob j (fun y => { y with stage := .ready, committed := true, reserve := 0, handles := [], needs := [],
                                   result := { y.result with payload := head ++ y.result.payload, newKeys := [] } })

/-- A waiting job that ends before its commit point leaves things as they were (R68, R98): the key of a KEY_DESTROY, what FUNCTION_SET
disables, the VI that VI_FREEZE stops, the role that a hand-over gives away. A restore that fails resets its VI (R553). -/
def State.undoJob (s : State) (j : Nat) : State :=
  match s.job j with
  | some x =>
    if x.stage ≠ .waiting ∨ x.committed then s
    else
      let p0 := dP0 x.desc
      let v := bits p0 7 0
      (match dOp x.desc with
      | 0x0606 => s.modKey (dKey x.desc) (fun k => { k with destroying := false })
      | 0x0B01 => { s with spn := { s.spn with pairing := none } }
      | 0x0B03 => s.modVi v (fun y => { y with handover := false })
      | 0x0B04 =>
        if s.spn.claim = some j then { s with spn := { s.spn with fence := false, claim := none } }
        else s
      | 0x0C03 => s.modVi v (fun y => { y with freezing := false, noBuffer := false })
      | 0x0C05 => (s.wipeVi v).mirrorReset v
      | 0x0C07 => s.setFunction (bits p0 15 8) v (bits p0 31 16) true
      | _ => s)
  | none => s

/-- Start what the first need of a waiting job asks for: the mirror message, when it is the twin's turn (R466 step 3). -/
def State.startNeed (s : State) (j : Nat) : State :=
  match s.job j with
  | none => s
  | some x =>
    if x.needs.head? ≠ some .twin then s
    else if s.spn.pair = .fenced then
      ((s.undoJob j).dropWaits j).modJob j (fun y => { y with stage := .ready, needs := [], handles := [], reserve := 0, result := failWith St.twinUnavailable 0 })
    else s.mirror (.job j) (s.jobItems x)

/-- The parts of an ARCHIVE_RESTORE one after another: those that wait for nothing take effect, the next one that waits becomes the job's,
and after the last the job succeeds or ends with the status that stopped it; what was restored stays (R757). -/
def State.runParts (s : State) (j : Nat) (p : RestorePlan) : List RestorePart → Nat → State
  | [], n =>
    if statusOk p.status then
      (s.modJob j (fun x => { x with plan := none, result := { Result.empty with detail := n, effects := [.clearRollback] } })).reachCommit j
    else
      s.modJob j (fun x => { x with plan := none, stage := .ready, needs := [], result := { Result.empty with status := p.status, detail := p.detail } })
  | a :: r, n =>
    if a.needs.isEmpty then (a.effects.foldl State.applyEffect s).runParts j p r (n + a.keys)
    else
      (s.modJob j (fun x => { x with stage := .waiting, needs := a.needs, plan := some { p with left := r, done := n, now := a.keys },
                                     result := { x.result with effects := a.effects } })).startNeed j

/-- All that a job waits for has come: its commit point, or the end of the present part of a restore. -/
def State.needsMet (s : State) (j : Nat) (x : Job) : State :=
  match x.plan with
  | some p => (x.result.effects.foldl State.applyEffect s).runParts j p p.left (p.done + p.now)
  | none => s.reachCommit j

/-- The first need of a waiting job is met. -/
def State.popNeed (s : State) (j : Nat) (n : Need) : State :=
  match s.job j with
  | none => s
  | some x =>
    if x.stage = .waiting ∧ x.needs.head? = some n then
      let s1 := s.putJob j { x with needs := x.needs.tail }
      if x.needs.tail.isEmpty then s1.needsMet j x else s1.startNeed j
    else s

/-! ### Drains (R98, R138, R153, R311, R540) -/

/-- Job `k` holds the drain of job `j` open: an invocation in a pier of a UCODE_LOAD, a job of what FUNCTION_SET disables, a job of a VI that is
being frozen, a job bound to a key that is being destroyed. -/
def State.holdsDrain (s : State) (j : Nat) (x : Job) (k : Nat) (y : Job) : Bool :=
  let b := x.desc
  let p0 := dP0 b
  let unit := bits p0 18 16
  match dOp b with
  | 0x0D01 => decide (dOp y.desc = 0x0D02) && (y.pier.map p0.testBit).getD false
  | 0x0C07 =>
    (match bits p0 15 8 with
    | 1 => takesAlg (dOp y.desc) && decide (dAlg y.desc = bits p0 31 16) && decide (y.stage ≠ .ready)
    | 2 => (match s.burinOf k with | some (p, _) => decide (p = unit) | none => (s.pier unit).park.any (fun e => decide (e.1 = k)))
    | 3 => (s.lane unit).work.any (fun w => !w.isRec && decide (w.id = k))
    | _ => decide (y.vi = bits p0 7 0) && decide (y.origin = .host) && !(servedWhenOff y.vi (dOp y.desc)) && decide (y.stage ≠ .ready))
  | 0x0C03 => decide (y.vi = bits p0 7 0)
  | 0x0606 => decide (k < j) && decide (dKey y.desc = dKey b ∨ secondHandle y.desc = some (dKey b)) && decide (y.stage ≠ .fetched)
  | _ => false

/-- The jobs that hold a drain open. -/
def State.drainHolders (s : State) (j : Nat) (x : Job) : List Nat :=
  (s.jobs.filter (fun p => decide (p.1 ≠ j) && s.holdsDrain j x p.1 p.2)).map (·.1)

/-- The drain has ended: no job holds it, and no record in the lane, no reply of the VI is left. -/
def State.drained (s : State) (j : Nat) (x : Job) : Bool :=
  let p0 := dP0 x.desc
  (s.drainHolders j x).isEmpty &&
    (if dOp x.desc = 0x0C07 ∧ bits p0 15 8 = 3 then (s.lane (bits p0 18 16)).work.isEmpty else true) &&
    (if dOp x.desc = 0x0B03 then !(s.recsOf (bits p0 7 0)) else true) &&
    (if dOp x.desc = 0x0C03 then s.replies.all (fun r => decide (r.vi ≠ bits p0 7 0)) else true)

/-- Drains that have ended let their jobs, and the peer's role changes, go on. -/
def State.settleDrains (s : State) : State :=
  let s0 := s.drainHandovers
  s0.jobs.foldl (fun t p =>
    match t.job p.1 with
    | none => t
    | some x =>
      if x.stage = .waiting ∧ (x.needs.head? = some .drain ∨ x.needs.head? = some .earlier) ∧ t.drained p.1 x then
        t.popNeed p.1 (x.needs.headD .drain)
      else t) s0

/-! ### Jobs of inline handshakes (R18) -/

/-- A job as fetched (R53, R60). -/
def newJob (v ring : Nat) (origin : Origin) (desc : Bytes) (gen : BitVec 16) : Job :=
  { vi := v, ring := ring, origin := origin, desc := stampVi desc v, gen := gen, stage := .fetched, engine := engineOf desc,
    cls := classOf desc, burinPart := .none, graverPart := .none, pier := none, input := [], reading := none, inputDone := false,
    abortBy := none, late := false, committed := false, restarted := false, restarts := 0, preempted := false, head := false,
    verdict := none, signer := 0, approved := false, result := Result.empty, reserve := 0, handles := [], needs := [], key := none,
    key2 := none, nonce := 0, estimate := 0, queuedAt := 0, targets := [], matched := 0, abortedN := 0, quorum := 0, plan := none }

/-- A descriptor of the device's own: opcode, PARAM0, key. -/
def ownDesc (op p0 key : Nat) : Bytes := leBytes 2 op ++ zeros 18 ++ leBytes 4 key ++ zeros 16 ++ leBytes 8 p0 ++ zeros 16

/-- A job that handshake `h` starts, in CLASS 0, charged to the VI of its flow rule. -/
def State.addHsJob (s : State) (h v : Nat) (desc input : Bytes) (key : Option KeyRec) : State :=
  let e := engineOf desc
  let burin := decide (e = .burin ∨ e = .both)
  let x := newJob v 0 (.handshake h) desc (s.vi v).gen
  s.addJob { x with stage := .queued, cls := 0, key := key, input := input, inputDone := true,
                    estimate := if e = .graver then graverEstimate desc else burinEstimate desc, queuedAt := s.time,
                    burinPart := if burin then .dispatch else .none, graverPart := if e = .graver ∨ e = .both then .dispatch else .none }

def State.modHs (s : State) (h : Nat) (f : Handshake → Handshake) : State := { s with cwy := { s.cwy with hs := KMap.mod h f s.cwy.hs } }

def State.delHs (s : State) (h : Nat) : State := { s with cwy := { s.cwy with hs := KMap.del h s.cwy.hs } }

/-- A job of handshake `h` is decided: the key exchange is followed by the CertificateVerify signature, unless a PSK stands for it; a failure ends
a handshake that has not reached PENDING without trace (R18, R22). -/
def State.handshakeStep (s : State) (h : Nat) (x : Job) : State :=
  match KMap.get h s.cwy.hs with
  | none => s
  | some y =>
    if !(statusOk x.result.status) then (if y.session.isNone then s.delHs h else s)
    else if dOp x.desc = 0x0302 ∨ y.psk then s.modHs h (fun z => { z with signed := true })
    else
      let k := rd y.policy 16 4
      match s.key k with
      | some r => s.addHsJob h y.vi (ownDesc 0x0302 r.alg k) [] (some r)
      | none => s.delHs h

/-! ### Deciding -/

/-- The commit arbiter decides a job's outcome (R68): the engines are released, the reply is recorded, ABORTs are told, and matrix
lines that waited for the job go (R207). -/
def State.settle (s : State) (j : Nat) : State :=
  match s.job j with
  | none => s
  | some x =>
    let s1 := (((s.leaveEngines j).dropWaits j).delJob j).countOutcome x
    let s2 := match x.origin with | .host => s1.pushOutcome j x | .handshake h => s1.handshakeStep h x | _ => s1
    let s3 := if dOp x.desc = 0x0B01 then s2.redrawPairNonce else s2
    ((s3.noteDecided j (decide (x.outcome.1 = St.aborted))).sweepMatrix).settleDrains

/-- A job is abandoned before its commit point and its outcome decided at once (R68, R69). -/
def State.abandon (s : State) (j st : Nat) : State :=
  ((s.undoJob j).modJob j (fun x => { x with result := failWith st 0, needs := [] })).settle j

/-- A waiting job ends without its commit, with a status and DETAIL; its completion request is outstanding. -/
def State.failJob (s : State) (j st det : Nat) : State :=
  ((s.undoJob j).dropWaits j).modJob j (fun x => { x with stage := .ready, needs := [], handles := [], reserve := 0, result := failWith st det })

/-- SESSION_REKEY jobs whose session has gone while they waited for the peer's ACK return STATE (R417). -/
def State.sweepRekey (s : State) : State :=
  s.jobs.foldl (fun t p =>
    if p.2.stage = .waiting ∧ p.2.needs.head? = some .peerAck ∧ !((KMap.get (bits (dP0 p.2.desc) 23 0) t.cwy.sessions).any (fun x => decide (x.tx.kuJob = some p.1))) then
      t.failJob p.1 St.state t.glb.dev.code
    else t) s

/-- The job's engine is done (R67): an abort that was pending abandons it, a failing result asks for completion, and a good one
waits for what its commit needs. -/
def State.finishJob (s : State) (j : Nat) (r : Result) (needs : List Need) : State :=
  match s.job j with
  | none => s
  | some x =>
    match x.abortBy with
    | some st => s.abandon j st
    | none =>
      let s1 := s.leaveEngines j
      let r := match x.origin with | .handshake _ => { r with newKeys := [], effects := [] } | _ => r
      if statusOk r.status then
        let a := s1.allocHandles x.vi r.newKeys.length
        let s2 := a.2.putJob j { x with result := r, stage := .waiting, needs := needs, handles := a.1, reserve := 0,
                                        burinPart := .finished, graverPart := .finished }
        if needs.isEmpty then s2.reachCommit j else s2.startNeed j
      else s1.putJob j { x with result := r, stage := .ready, reserve := 0, burinPart := .finished, graverPart := .finished }

/-! ### Abort requests (R68, R70, R300, R336) -/

/-- An abort request reaches job `j` from a source whose status is `st`. -/
def State.requestAbort (s : State) (j st : Nat) : State :=
  match s.job j with
  | none => s
  | some x =>
    match x.stage with
    | .fetched => s.abandon j st
    | .queued => s.abandon j st
    | .parked => s.abandon j st
    | .waiting => if x.committed then s.putJob j { x with late := true } else s.abandon j st
    | .ready => s.putJob j { x with late := x.late || x.committed }
    | _ =>
      if x.committed then s.putJob j { x with late := true }
      else
        let heldBurin : Bool := match s.burinOf j with
          | some (p, b) => decide ((s.burin p b).state = .tokenWait ∨ (s.burin p b).state = .yieldHold)
          | none => true
        let heldCore : Bool := match s.coreOf j with
          | some c => decide ((s.core c).state = .tokenWait ∨ (s.core c).computing ≠ some j)
          | none => true
        let inLane : Bool := (List.range 8).any (fun l => decide ((s.lane l).state ≠ .tokenWait) && (s.lane l).work.any (fun w => !w.isRec && decide (w.id = j)))
        if (s.burinOf j).isNone && (s.coreOf j).isNone && !inLane then s.putJob j { x with abortBy := some st }
        else if heldBurin && heldCore && !inLane then s.abandon j st
        else s.putJob j { x with abortBy := some st }

/-! ### Input (R54, R62, R87) -/

/-- Read `n` bytes of a job's input from where it stands. -/
def State.readInput (s : State) (j : Nat) (x : Job) (n : Nat) : State :=
  (s.putJob j { x with reading := some n }).emit (.hostRead x.vi (s.via x.vi) (dInAddr x.desc + x.input.length) n)

/-- The job ends because its input does: LENGTH_MISMATCH or HOST_DMA_ERROR, its operand memory zeroised (R62). -/
def State.inputFails (s : State) (j : Nat) (r : Result) : State :=
  let s1 := s.modJob j (fun x => { x with input := [], reading := none, inputDone := true })
  match s.job j with
  | some x =>
    if x.restarts = 0 ∧ x.burinPart = .none ∧ x.graverPart = .none then s1.finishJob j r []
    else s1.finishJob j r []
  | none => s1

/-- The public key that a verification by handle reads its types from. -/
def Job.keyPub (x : Job) : Option Bytes := x.key.map (·.pub)

/-- Go on with a job's input: read the next part that its length fields allow, or see that it is complete (R62). -/
def State.nextInput (s : State) (j : Nat) : State :=
  match s.job j with
  | none => s
  | some x =>
    let n := dLenIn x.desc
    let have_ := x.input.length
    let rest (m : Nat) : State :=
      if m ≤ have_ then s.putJob j { x with inputDone := true, reading := none } else s.readInput j x (m - have_)
    match implied x.desc x.keyPub x.input with
    | .more m => if n < m then s.inputFails j (failWith St.length m) else rest m
    | .is m => if m = n then rest n else s.inputFails j (failWith St.length m)
    | .least m => if n < m then s.inputFails j (failWith St.length m) else rest n
    | .any => rest n
    | .stop => s.putJob j { x with inputDone := true, reading := none }

/-- Input starts, or starts again after a restart, when the job starts in its engine (R161, R301). -/
def State.startInput (s : State) (j : Nat) : State :=
  match s.job j with
  | none => s
  | some x =>
    let y := { x with input := match x.origin with | .handshake _ => x.input | _ => [], reading := none, inputDone := decide (dLenIn x.desc = 0) }
    if dLenIn x.desc = 0 then s.putJob j y else (s.putJob j y).nextInput j

/-- Input starts once, in the first engine that takes the job; a staged key stays staged (R161, R268, R278). -/
def State.beginInput (s : State) (j : Nat) : State :=
  match s.job j with
  | some x => if x.reading.isSome || x.inputDone || !x.input.isEmpty then s else s.startInput j
  | none => s

/-! ### What an opcode row finds -/

/-- An earlier job that R103 puts before this one: undecided, with the same key or context. -/
def State.heldBack (s : State) (j : Nat) (x : Job) : Bool :=
  let op := dOp x.desc
  let ctx (b : Bytes) : Bool := decide (dOp b = 0x0401) && decide (2 ≤ bits (dP0 b) 17 16)
  let group6 (b : Bytes) : Bool := decide (dOp b / 256 = 6) || ctx b
  let rec5 (b : Bytes) : Bool := decide (dOp b = 0x0503 ∨ dOp b = 0x0504)
  let hbs (b : Bytes) : Bool := decide (dOp b = 0x0302) && Alg.isStateful (dAlg b)
  decide (dKey x.desc ≠ noKey) &&
    s.jobs.any (fun p => decide (p.1 < j) && decide (dKey p.2.desc = dKey x.desc) && decide (p.2.origin = .host) &&
      decide (p.2.stage ≠ .fetched) && decide (dOp p.2.desc ≠ 0x0F02) &&
      ((group6 x.desc && group6 p.2.desc) || (rec5 x.desc && rec5 p.2.desc) || (hbs x.desc && hbs p.2.desc))) && decide (op ≠ 0x0F02)

/-- The job runs in every engine it needs: its burin and its core compute, its lane holds it (R278). -/
def State.inEngine (s : State) (j : Nat) (x : Job) : Bool :=
  let burinOk : Bool := match s.burinOf j with
    | some (p, b) =>
      decide ((s.burin p b).state = .run) && !(x.masked && (s.pier p).stippleStall) &&
        !(x.mceStream && decide (8 ≤ (s.jobs.filter (fun y => y.2.mceStream && decide (y.2.burinPart = .running) && decide (y.1 < j))).length))
    | none => false
  let coreOk : Bool := match s.coreOf j with
    | some c => decide ((s.core c).state = .run) && decide ((s.core c).computing = some j)
    | none => false
  let laneOk : Bool := (List.range 8).any (fun l =>
    decide ((s.lane l).state = .run) && ((s.lane l).work.head?.map (fun w => !w.isRec && decide (w.id = j))).getD false)
  match x.engine with
  | .burin => burinOk
  | .graver => coreOk
  | .both => burinOk && (coreOk || decide (x.graverPart = .finished))
  | .lane => laneOk
  | _ => true

/-- A McEliece public key that is still being regenerated holds back what needs it (R273). -/
def State.publicMissing (s : State) (x : Job) : Bool :=
  let op := dOp x.desc
  let needs := (decide (op = 0x0603) && decide (bits (dP0 x.desc) 23 16 = 3)) || decide (op = 0x0702) || (decide (op = 0x0202) && decide (dKey x.desc ≠ noKey))
  needs && (match KMap.get (dKey x.desc) s.csn.keys with | some k => Alg.isMce k.alg && !k.publicPresent | none => false)

/-- The job's key is not resident, or its derived data is missing (R452). -/
def State.keyAway (s : State) (x : Job) : Bool :=
  decide (dKey x.desc ≠ noKey) && x.key.isSome &&
    (match KMap.get (dKey x.desc) s.csn.keys with
     | some k => !k.resident || (!k.derived && k.isPrivate && Alg.isAsym k.alg)
     | none => false)

/-- A job that takes DRBG output before its result: burin and Graver randomness, new keys, envelopes (R508, R510). -/
def Job.draws (x : Job) : Bool := x.random || [0x0601, 0x0603, 0x0604].contains (dOp x.desc)

/-- A job that cannot have its random bits joins the requests that wait, counted once (R510, R514). -/
def State.noteWait (s : State) (j op : Nat) : State :=
  match s.job j with
  | some x =>
    if s.ent.noEntropy && x.draws && decide (dOp x.desc = op) && decide (x.stage = .running) && x.inputDone &&
        !(s.ent.waiting.any (fun w => decide (w.2 = .job j))) then
      let prio := if x.engine = .caisson ∨ x.engine = .firmware then 3 else 2
      { s with ent := { s.ent with waiting := s.ent.waiting ++ [(prio, DrbgUse.job j)] } }.bump Reg.entWaits
    else s
  | none => s

/-- A verification of the device's own (R191). -/
def Origin.isCounterproof : Origin → Bool
  | .counterproof _ => true
  | _ => false

/-- Job `j` is ready for the effect of opcode `op`: it runs, its input is complete, and no earlier job holds it back. A counterproof runs
the verification that its verdict reports (R193), not the opcode. -/
def State.startable (s : State) (j op : Nat) : Option Job :=
  match s.job j with
  | some x =>
    let clock := if x.engine = .burin ∨ x.engine = .graver ∨ x.engine = .both ∨ x.engine = .lane then s.clocked else s.serving
    if clock ∧ !x.origin.isCounterproof ∧ dOp x.desc = op ∧ x.stage = .running ∧ x.inputDone ∧ s.inEngine j x ∧ !(s.heldBack j x) ∧ !(s.publicMissing x) ∧ !(s.keyAway x) ∧ !(s.ent.noEntropy && x.draws) then
      some x else none
  | none => none

/-- A burin or lane routine has its result: it stands until the routine's COMMIT and END, or the lane job's end. A Graver part of the
job is done (R278). -/
def State.computed (s : State) (j : Nat) (r : Result) : State :=
  (s.freeCore j).modJob j (fun x =>
    { x with stage := .computed, result := r, burinPart := if x.burinPart = .running then .computed else x.burinPart,
             graverPart := if x.graverPart = .running then .finished else x.graverPart })

/-- Run the effect of an opcode whose engine ends with it: the Caisson, the firmware, the DGE, the HIF, a Graver core. -/
def State.runJob (s : State) (j op : Nat) (f : State → Job → State × Result × List Need) : State :=
  match s.startable j op with
  | some x =>
    let a := f s x
    a.1.finishJob j a.2.1 a.2.2
  | none => s.noteWait j op

/-- Run the effect of an opcode whose result waits in its engine. -/
def State.runEngine (s : State) (j op : Nat) (f : State → Job → State × Result) : State :=
  match s.startable j op with
  | some x =>
    let a := f s x
    a.1.computed j a.2
  | none => s.noteWait j op

end Sys2Proof.Machine
end

