-- ==== Sys2Proof/Machine/Hif.lean ====
section
/-! DEFINITION. The host interface: descriptor fetch, dispatch, commit arbiter, replies, doorbells, ring control and interrupts
(R33 to R89). -/

namespace Sys2Proof.Machine

open Sys2Proof

/-! ### Which requests reach an instance window -/

/-- The part answers PCIe requests: main power, out of reset and past the ROM (R726, R728). -/
def State.pcieUp (s : State) : Bool :=
  match s.glb.dev with
  | .off => false
  | .islandOnly => false
  | .reset => false
  | .romBoot => false
  | _ => true

/-- The host reaches the window of a VI: VI 0 through the PF, others while their VF is enabled (R516), unless the TDI is in ERROR
(R560). -/
def State.reaches (s : State) (v : Nat) : Bool :=
  s.pcieUp && (decide (v = 0) || decide ((s.vi v).state ≠ .detached)) && decide ((s.vi v).tdi ≠ .error)

/-- A request to a window that does not take it: counted when the TDI refuses it (R560, R561). -/
def State.rejected (s : State) (v : Nat) : State :=
  if s.pcieUp && (decide (v = 0) || decide ((s.vi v).state ≠ .detached)) && decide ((s.vi v).tdi = .error) then s.bump Reg.vimTdiReject else s

/-- A request to the window of a VI: `f`, or refused. -/
def State.windowed (s : State) (v : Nat) (f : State → State) : State := if s.reaches v then f s else s.rejected v

/-- The device fetches descriptors: READY, or FALSEWORK (R88, R89, R727). -/
def State.fetching (s : State) : Bool := decide (s.glb.dev = .ready) || decide (s.glb.dev = .falsework)

/-! ### Doorbells (R47 to R50, R86) -/

/-- Record a refused doorbell. -/
def State.bellError (s : State) (v cause : Nat) (id : RingId) (index : Nat) : State := s.ringError v cause id.kind id.index index

/-- A tail doorbell hands entries to the device, or is refused by the first case of R48. -/
def State.tailBell (s : State) (v : Nat) (id : RingId) (index : Nat) : State :=
  let r := s.ring v id.key
  if !(s.reaches v) then s.rejected v
  else if !r.enable then s.bellError v 3 id index
  else if r.size ≤ index then s.bellError v 1 id index
  else if r.dist r.fetchIdx index < r.dist r.fetchIdx r.tail then s.bellError v 2 id index
  else s.setRing v id.key { r with tail := index }

/-- A head doorbell returns entries and their data-area pieces, or is refused by the first case of R48. -/
def State.headBell (s : State) (v : Nat) (id : RingId) (index : Nat) : State :=
  let r := s.ring v id.key
  if !(s.reaches v) then s.rejected v
  else if !r.enable then s.bellError v 3 id index
  else if r.size ≤ index then s.bellError v 1 id index
  else if r.unreturned < r.dist r.head index then s.bellError v 2 id index
  else s.setRing v id.key { r with head := index, pieces := r.pieces.drop (r.dist r.head index) }

def execSqDoorbell (v : Fin 256) (n : Fin 16) (i : BitVec 16) (s : State) : Host.Outcome State Fault Refusal :=
  .next (s.tailBell v.val (.cmd n) i.toNat)

def execCqDoorbell (v : Fin 256) (n : Fin 16) (i : BitVec 16) (s : State) : Host.Outcome State Fault Refusal :=
  .next (s.headBell v.val (.cmd n) i.toNat)

def execRxDoorbell (v : Fin 256) (n : Fin 16) (i : BitVec 16) (s : State) : Host.Outcome State Fault Refusal :=
  .next (s.headBell v.val (.rx n) i.toNat)

def execTxDoorbell (v : Fin 256) (n : Fin 16) (i : BitVec 16) (s : State) : Host.Outcome State Fault Refusal :=
  .next (s.tailBell v.val (.tx n) i.toNat)

def execEvDoorbell (v : Fin 256) (i : BitVec 16) (s : State) : Host.Outcome State Fault Refusal :=
  .next (s.headBell v.val .ev i.toNat)

/-- The exception ring exists for VI 0 alone (R33). -/
def execXqDoorbell (i : BitVec 16) (s : State) : Host.Outcome State Fault Refusal :=
  .next (s.headBell 0 .xq i.toNat)

/-! ### Ring control (R38, R43 to R45) -/

/-- The quota admits the ring's index (R34). -/
def State.ringQuota (s : State) (v : Nat) (id : RingId) : Bool :=
  let q := (s.vi v).quota
  match id with
  | .cmd n => decide (n.val < q.cmdRings)
  | .rx n => decide (n.val < q.rxRings)
  | .tx n => decide (n.val < q.txRings)
  | _ => true

/-- Largest MSI-X vector of a VI (R38). -/
def maxVector (v : Nat) : Nat := if v = 0 then 2047 else 31

/-- CAUSE of a refused enable: the first failing condition of R43 in its order (R86). -/
def State.enableRefused (s : State) (v : Nat) (id : RingId) (r : Ring) : Option Nat :=
  let top := match id with | .cmd _ => 12 | _ => 16
  if r.log2Size.toNat < 6 ∨ top < r.log2Size.toNat then some 4
  else if id.hasData ∧ (r.log2Data.toNat < 16 ∨ 28 < r.log2Data.toNat) then some 5
  else if id.fetched ∧ r.weight = 0 then some 8
  else if maxVector v < r.vector.toNat then some 6
  else if !(s.ringQuota v id) then some 7
  else none

/-- The fields of a _CTL write laid over a ring (R38): those of other ring kinds stay at their reset value. -/
def ctlFields (id : RingId) (r : Ring) (w : Nat) : Ring :=
  { r with log2Data := if id.hasData then BitVec.ofNat 5 (bits w 29 25) else r.log2Data
           log2Size := BitVec.ofNat 5 (bits w 24 20)
           weight := if id.fetched then BitVec.ofNat 4 (bits w 19 16) else r.weight
           vector := BitVec.ofNat 11 (bits w 10 0) }

/-- A write of a _CTL register (R43 to R45). A WEIGHT of 0 leaves the weight of an enabled ring as it is (assumption log 24). -/
def State.writeCtl (s : State) (v : Nat) (id : RingId) (w : Nat) : State :=
  let r := s.ring v id.key
  if id = .xq ∧ v ≠ 0 then s
  else if r.enable then
    s.setRing v id.key { r with enable := w.testBit 31,
                                weight := if id.fetched && decide (bits w 19 16 ≠ 0) then BitVec.ofNat 4 (bits w 19 16) else r.weight }
  else
    let r1 := ctlFields id r w
    if !(w.testBit 31) then s.setRing v id.key r1
    else match s.enableRefused v id r1 with
      | some c => (s.setRing v id.key r1).ringError v c id.kind id.index 0
      | none =>
        s.setRing v id.key { r1 with enable := true, fetchIdx := 0, tail := 0, writeIdx := 0, phase := true, head := 0, pieces := [] }

def execRingEnable (v : Fin 256) (id : RingId) (w : Word) (s : State) : Host.Outcome State Fault Refusal :=
  .next (if w.getLsbD 31 then s.windowed v.val (·.writeCtl v.val id w.toNat) else s)

def execRingDisable (v : Fin 256) (id : RingId) (w : Word) (s : State) : Host.Outcome State Fault Refusal :=
  .next (if w.getLsbD 31 then s else s.windowed v.val (·.writeCtl v.val id w.toNat))

/-! ### Interrupts (R83, R85) -/

/-- A moderation timer fires (R83): the message goes out and the count restarts. -/
def execInterruptTimer (v : Fin 256) (id : RingId) (s : State) : Host.Outcome State Fault Refusal :=
  let r := s.ring v.val id.key
  .next (if r.modTimer = 0 ∨ r.unsignalled = 0 then s
    else (s.setRing v.val id.key { r with unsignalled := 0 }).sendMsix v.val r.vector.toNat)

/-- VI_INT_STATUS is RW1C; clearing RING_ERR clears the capture (R85, R86). -/
def State.clearStatus (s : State) (v : Nat) (w : Word) : State :=
  s.modVi v (fun x => { x with intStatus := x.intStatus &&& ~~~(w.setWidth 4), ringErr := if w.getLsbD 0 then 0 else x.ringErr })

def execViIntStatusClear (v : Fin 256) (w : Word) (s : State) : Host.Outcome State Fault Refusal :=
  .next (s.windowed v.val (·.clearStatus v.val w))

/-- A write of VI_INT_ENABLE: one message for each status bit whose AND with its enable bit rises (R85). -/
def State.writeIntEnable (s : State) (v : Nat) (w : Word) : State :=
  let x := s.vi v
  let e := w.setWidth 4
  let rising := x.intStatus &&& e &&& ~~~x.intEnable
  let s1 := s.setVi v { x with intEnable := e }
  ((List.range 4).filter (rising.getLsbD ·)).foldl (fun t _ => t.sendMsix v x.intVector.toNat) s1

def execViIntEnableWrite (v : Fin 256) (w : Word) (s : State) : Host.Outcome State Fault Refusal :=
  .next (s.windowed v.val (·.writeIntEnable v.val w))

/-! ### Descriptor fetch (R47, R55, R57, R87, R525) -/

/-- Descriptors fetched from a ring and not yet replied to (R57). -/
def State.outstanding (s : State) (v k : Nat) : Nat :=
  (s.jobs.filter (fun p => decide (p.2.origin = .host) && decide (p.2.vi = v) && decide (p.2.ring = k))).length +
    (s.replies.filter (fun r => decide (r.vi = v) && decide (r.ring = k))).length

/-- A VI's rings may be fetched from: it runs, is not being frozen, and may issue DMA (R518, R535, R540). -/
def State.viFetches (s : State) (v : Nat) : Bool := s.dmaOk v && !((s.vi v).freezing)

/-- Entries of command ring `k` that the device may fetch at once (R47, R57). -/
def State.fetchable (s : State) (v k : Nat) : Nat :=
  let r := s.ring v k
  if r.enable ∧ k < 16 ∧ s.viFetches v then
    Nat.min (Nat.min 8 (r.dist r.fetchIdx r.tail)) (r.size - 1 - s.outstanding v k)
  else 0

/-- Command rings with descriptors to fetch, as (VI, ring): only rings that were written can be enabled. -/
def State.fetchQueue (s : State) : List (Nat × Nat) :=
  (s.rings.map (fun p => (p.1 / 64, p.1 % 64))).filter (fun p => decide (0 < s.fetchable p.1 p.2))

/-- The arbitration of R525 and R57 admits a fetch of `n` descriptors, and the fetches counted after it. Between VIs the present round
ends when no VI with descriptors has quantum left; within a VI, when no ring with descriptors has weight left. -/
def State.fetchTurn (s : State) (v k n : Nat) : Option Hif :=
  let q := s.fetchQueue
  let share (x : Nat) : Nat := Nat.max (s.vi x).quota.fetchWeight 1
  let usedVi (x : Nat) : Nat := SMap.get zeroDef x s.hif.byVi
  let usedRing (x : Nat) : Nat := SMap.get zeroDef (v * 64 + x) s.hif.byRing
  let otherVis := q.filter (fun p => decide (p.1 ≠ v))
  let viTurn : Option (SMap Nat) :=
    if otherVis.isEmpty then some []
    else if usedVi v + n ≤ share v then some (SMap.set zeroDef v (usedVi v + n) s.hif.byVi)
    else if otherVis.all (fun p => decide (share p.1 ≤ usedVi p.1)) ∧ n ≤ share v then some (SMap.set zeroDef v n [])
    else none
  let others := q.filter (fun p => decide (p.1 = v) && decide (p.2 ≠ k))
  let weight (x : Nat) : Nat := (s.ring v x).weight.toNat
  let ringTurn : Option (SMap Nat) :=
    if usedRing k < weight k then some (SMap.set zeroDef (v * 64 + k) (usedRing k + 1) s.hif.byRing)
    else if others.all (fun p => decide (weight p.2 ≤ usedRing p.2)) then
      some (SMap.set zeroDef (v * 64 + k) 1 (s.hif.byRing.filter (fun p => decide (p.1 / 64 ≠ v))))
    else none
  match viTurn, ringTurn with
  | some a, some b => some { byVi := a, byRing := b }
  | _, _ => none

/-- One fetched descriptor: checks 1 to 6 (R55). A failure is decided at once; a descriptor that fails check 1 has no flag that
counts (R58, assumption log 25). -/
def State.takeDescriptor (s : State) (v ring : Nat) (b : Bytes) : State :=
  let j := s.nextJob
  let x := newJob v ring .host b (s.vi v).gen
  match s.checkFetch v b with
  | none => s.addJob x
  | some (st, det, len) =>
    let r := mkReply s j x st det len 0 [] none
    let r1 := if st = St.descCheck then { r with ordered := false, fence := false, notify := false } else r
    { s with nextJob := j + 1, replies := s.replies ++ [r1] }

/-- DESCRIPTOR_FETCH: entries in ring order, up to 8, each checked; a host read error clears ENABLE and is captured (R87). -/
def execDescriptorFetch (vi : Fin 256) (ring : Fin 16) (entries : List Bytes) (readError : Bool) (s : State) :
    Host.Outcome State Fault Refusal :=
  let v := vi.val
  let k := ring.val
  let n := entries.length
  let most := s.fetchable v k
  if !s.fetching || decide (most < n) || decide (most = 0) || (decide (n = 0) && !readError) then .next s
  else match s.fetchTurn v k n with
    | none => .next s
    | some h =>
      let r := s.ring v k
      let read := (List.range n).foldl
        (fun t i => t.emit (.hostRead v (s.via v) (r.baseA.toNat + 64 * ((r.fetchIdx + i) % r.size)) 64)) { s with hif := h }
      let took := entries.foldl (fun t e => t.takeDescriptor v k (padTo 64 e)) read
      let moved := took.modRing v k (fun x => { x with fetchIdx := (x.fetchIdx + n) % x.size })
      .next (if readError then (moved.modRing v k (fun x => { x with enable := false })).ringError v 9 0 k 0 else moved)

/-! ### Dispatch (R52, R55, R58, R126, R172, R173, R330, R392, R446, R582) -/

/-- ABORT needs no dispatch (R70). -/
def isAbort (b : Bytes) : Bool := decide (dOp b = 0x0F02)

/-- The jobs of one ring fetched before job `j`. -/
def State.earlier (s : State) (j : Nat) (x : Job) : List (Nat × Job) :=
  s.jobs.filter (fun p => decide (p.1 < j) && decide (p.2.origin = .host) && decide (p.2.vi = x.vi) && decide (p.2.ring = x.ring))

/-- Replies of descriptors of the ring fetched before job `j` that are not yet written. -/
def State.earlierReplies (s : State) (j : Nat) (x : Job) : List Reply :=
  s.replies.filter (fun r => decide (r.job < j) && decide (r.vi = x.vi) && decide (r.ring = x.ring))

/-- Ring order within a class, and FENCE, let job `j` be dispatched (R52, R58). -/
def State.inOrder (s : State) (j : Nat) (x : Job) : Bool :=
  let e := s.earlier j x
  let r := s.earlierReplies j x
  e.all (fun p => decide (p.2.stage ≠ .fetched) || decide (p.2.cls ≠ x.cls) || isAbort p.2.desc) &&
    e.all (fun p => !(dFence p.2.desc)) && r.all (fun y => !y.fence) &&
    (!(dFence x.desc) || (e.isEmpty && r.isEmpty))

/-- A key's counters run in leases: it is persistent, or mirrored while the device is paired (R446, R582). -/
def State.leased (s : State) (k : KeyRec) : Bool := Alg.aPersistent k.attr || s.mirrors k.attr

/-- Undecided RECORD_SEAL jobs dispatched before with the key. -/
def State.sealsAhead (s : State) (h : Nat) : Nat :=
  (s.jobs.filter (fun p => decide (dKey p.2.desc = h) && decide (dOp p.2.desc = 0x0503) && decide (p.2.stage ≠ .fetched))).length

/-- The counter value that a job needs lies within the lease: AEAD_SEAL with NONCE_DEVICE, RECORD_SEAL (R446, R582). -/
def State.leaseCovers (s : State) (b : Bytes) : Bool :=
  match KMap.get (dKey b) s.csn.keys with
  | none => true
  | some k =>
    if !(s.leased k) then true
    else if dOp b = 0x0501 ∧ (dP0 b).testBit 16 then decide (k.counter < k.counterLease)
    else if dOp b = 0x0503 then decide (k.recCounter + s.sealsAhead (dKey b) < k.counterLease)
    else true

/-- Jobs queued for the Graver in a class (R330). -/
def State.graverQueue (s : State) (cls : Nat) : List (Nat × Job) :=
  queueOrder (s.jobs.filter (fun x => decide (x.2.graverPart = .queued) && decide (x.2.cls = cls)))

/-- Staging slots in use (R268). -/
def State.stagingUsed (s : State) : Nat :=
  (s.jobs.filter (fun p => p.2.mceInline && (p.2.reading.isSome || p.2.inputDone || !p.2.input.isEmpty))).length

/-- Put the burin part of a job in a pier queue, or leave it in the dispatch queue of its class when every queue is full (R173). An
encapsulation to an inline McEliece key waits there until its key is staged (R268). -/
def State.queueBurin (s : State) (j : Nat) : State :=
  match s.job j with
  | none => s
  | some x =>
    let wait := s.putJob j { x with burinPart := .dispatch, pier := none }
    if x.mceInline && !x.inputDone then
      (if x.reading.isSome || !x.input.isEmpty || decide (64 ≤ s.stagingUsed) then wait else wait.startInput j)
    else match s.choosePier x with
    | some p => s.putJob j { x with burinPart := .queued, pier := some p }
    | none => wait

/-- Put the Graver part of a job in its class queue of 2,048, or leave it in the dispatch queue (R330). -/
def State.queueGraver (s : State) (j : Nat) : State :=
  match s.job j with
  | none => s
  | some x =>
    if (s.graverQueue x.cls).length < 2048 then s.putJob j { x with graverPart := .queued }
    else s.putJob j { x with graverPart := .dispatch }

/-- A stateful signing job that finds its lease used up asks for the next one; under STRICT it ends at once when the twin is declared lost
(R241, R244). -/
def State.findLease (s : State) (j : Nat) : State :=
  match s.job j with
  | none => s
  | some x =>
    let h := dKey x.desc
    match (if dOp x.desc = 0x0302 then s.leaseOf h else none) with
    | none => s
    | some t =>
      if t.ready then s
      else if !t.available && s.twinLost then s.abandon j St.twinUnavailable
      else s.modStateful h (fun y => y.request)

/-- A dispatched job goes to its engine. -/
def State.toEngine (s : State) (j : Nat) (e : Engine) : State :=
  match e with
  | .burin => s.queueBurin j
  | .graver => s.queueGraver j
  | .both => (s.queueBurin j).queueGraver j
  | .lane => { s with cwy := { s.cwy with lookaside := s.cwy.lookaside ++ [j] } }
  | _ => (s.modJob j (fun x => { x with stage := .running })).startInput j

/-- The job's outcome is decided by a check at dispatch (R55). -/
def State.refuseJob (s : State) (j : Nat) (r : Refused) : State :=
  (s.modJob j (fun x => { x with result := { failWith r.1 r.2.1 with lenOut := r.2.2 } })).settle j

/-- JOB_DISPATCH: checks 7 to 12, then the keys are bound, the invocation counter value is assigned, and the job is queued. -/
def execJobDispatch (j : Nat) (s : State) : Host.Outcome State Fault Refusal :=
  match s.job j with
  | none => .next s
  | some x =>
    if x.stage ≠ .fetched ∨ isAbort x.desc ∨ !(s.dmaOk x.vi) ∨ !(s.inOrder j x) ∨ !s.fetching then .next s
    else
      let b := x.desc
      match s.checkDispatch x.vi s.strict b with
      | some r => .next (s.refuseJob j r)
      | none =>
        if !(s.leaseCovers b) then .next s
        else
          let k := s.ownKey x.vi (dKey b)
          let y := { x with stage := .queued, key := k, key2 := (secondHandle b).bind (s.ownKey x.vi), reserve := newHandles b,
                            approved := s.runsApproved x.vi b, nonce := ((k.map (·.counter)).getD 0),
                            estimate := if x.engine = .graver then graverEstimate b else burinEstimate b, queuedAt := s.time,
                            quorum := s.quorumMask }
          let s1 := s.putJob j y
          let s2 := if dOp b = 0x0501 ∧ (dP0 b).testBit 16 then s1.modKey (dKey b) (fun k => { k with counter := k.counter + 1 }) else s1
          .next ((s2.toEngine j x.engine).findLease j)

/-! ### Commit arbiter and replies (R60, R63, R68, R71, R72) -/

/-- COMPLETION_REQUEST: the arbiter decides a finished job. -/
def execCompletionRequest (j : Nat) (s : State) : Host.Outcome State Fault Refusal :=
  .next (match s.job j with
    | some x => if x.stage = .ready then (s.settle j).sweepRekey else s
    | none => s)

/-- The 32 B of a status reply with its PHASE and CHK (R63, R64). -/
def replyBytes (r : Reply) (phase : Bool) : Bytes :=
  let b := leBytes 4 r.tag ++ leBytes 2 r.opcode ++ leBytes 2 r.status ++ leBytes 4 r.detail ++ leBytes 4 r.lenOut ++
    leBytes 2 r.gen ++ [BitVec.ofNat 8 (r.flags + bitAt 7 phase), 0] ++ leBytes 8 r.stamp
  b ++ leBytes 4 (crc32c b)

/-- A reply may be written: the replies of all earlier descriptors of its ring are, when it is ORDERED (R52). -/
def State.mayWrite (s : State) (r : Reply) : Bool :=
  !r.ordered ||
    (s.jobs.all (fun p => !(decide (p.1 < r.job) && decide (p.2.origin = .host) && decide (p.2.vi = r.vi) && decide (p.2.ring = r.ring))) &&
     s.replies.all (fun y => !(decide (y.job < r.job) && decide (y.vi = r.vi) && decide (y.ring = r.ring))))

/-- The reply that goes next to a ring: the first decided that may be written (R72). -/
def State.nextReply (s : State) (v k : Nat) : Option Reply :=
  s.replies.find? (fun r => decide (r.vi = v) && decide (r.ring = k) && s.mayWrite r)

end Sys2Proof.Machine
end

