-- ==== Sys2Proof/Machine/GlbOps.lean ====
section
/-! DEFINITION. The whole device: FALSEWORK, zeroisation, main reset, HALTED and resume, pins (R471, R501, R625, R642, R724 to R727,
R734 to R738). -/

namespace Sys2Proof.Machine

open Sys2Proof

/-! ### Domains (R709, R710) -/

/-- A burn that has ended its drain. -/
def State.burning (s : State) : Bool := match s.lcs.burn with | some b => !b.draining | none => false

/-- DEBUG of R147: 0 until the ROM has decoded the state, and while a burn is in progress (R604). -/
def State.debugCode (s : State) : Nat :=
  if s.burning || decide (s.glb.dev = .off ∨ s.glb.dev = .islandOnly ∨ s.glb.dev = .reset ∨ s.glb.dev = .romBoot) then 0
  else if s.lcs.shown = .blank ∨ s.lcs.shown = .trial then 3
  else if s.lcs.debugOpen ∧ (s.lcs.shown = .proof ∨ s.lcs.shown = .restrike) then 2
  else 1

/-- The domains that are on become `pd`; each switch is counted (R741). -/
def State.switchPd (s : State) (pd : Nat) : State :=
  ({ s with tol := { s.tol with pd := pd } }).bump Reg.tolPdSwitch (onesOf 30 (s.tol.pd ^^^ pd)).length

/-- Domains that stay on in FALSEWORK (R737): PD00, PD01, PD02, PD19, PD23, PD25 and PD27, and PD22 with a pairing record. -/
def State.falseworkDomains (s : State) : Nat := maskOf [0, 1, 2, 19, 23, 25, 27] + (if s.paired then 2 ^ 22 else 0)

/-! ### Digest contexts (R501) -/

def dgeDef (_ : Nat) : DgeCtx := DgeCtx.reset

def State.dgeCtx (s : State) (c : Nat) : DgeCtx := SMap.get dgeDef c s.dge.ctxs

def State.setDgeCtx (s : State) (c : Nat) (x : DgeCtx) : State := { s with dge := { s.dge with ctxs := SMap.set dgeDef c x s.dge.ctxs } }

/-- Zeroise and release a context; `err` is the cause that its ERR field keeps (R495, R501). -/
def State.dropDgeCtx (s : State) (c err : Nat) : State :=
  if (s.dgeCtx c).owner.isSome then (s.setDgeCtx c { DgeCtx.reset with err := err }).bump Reg.dgeCleared else s

/-- Every context is zeroised and released by an alarm or a change of device state (R501). -/
def State.dropDge (s : State) : State := (List.range 8).foldl (fun t c => t.dropDgeCtx c 0x0A) s

/-- The save key is drawn anew (R499). -/
def State.redrawSaveKey (s : State) : State := ({ s with dge := { s.dge with saveKey := drawBytes s.draws 32 } }).nextDraw

/-! ### Keys (R471) -/

/-- BBRAM is cleared: the shelf secret, the versions and the integrity word go (R471, R643). -/
def State.clearBbram (s : State) : State :=
  { s with csn := { s.csn with bbramOk := false, shelfSecret := [], shelfVersion := 0, leaseSeq := 0, migSeq := 0 } }

/-- Key SRAM, the overflow KEK and staged keys are zeroised (R471). -/
def State.zeroiseKeys (s : State) : State :=
  { s with csn := { s.csn with keys := [], ready := false, officers := [], oldCookie := [] }, cus := { s.cus with shares := [], splitSeq := 0 } }.bump Reg.csnDestroy s.csn.keys.length

/-- Unpairing without a quorum (R577, R625): handle 7 is zeroised, the pairing record goes, the state is UNPAIRED. -/
def State.dropPair (s : State) : State :=
  if s.paired then (s.endPairing).twinLinkEvents else s

/-! ### Leaving service (R677, R736) -/

/-- Every job that has not reached its commit point is decided as FAULT_CONTAINED with DETAIL 1; the others run to their end
(R677 step 2, R736). -/
def State.shutJobs (s : State) : State :=
  s.jobs.foldl (fun t p =>
    match t.job p.1 with
    | none => t
    | some x =>
      if x.committed then t.settle p.1
      else (t.putJob p.1 { x with result := failWith St.faultContained 1, needs := [] }).settle p.1) s

/-- The units whose domains are off in FALSEWORK lose their state, after its zeroisation (R710, R711, R737). -/
def State.offUnits (s : State) : State :=
  { s with bur := Bur.reset, grv := Grv.reset, lne := Lne.reset, cwy := Cwy.reset, lpt := Lpt.reset, cus := Cus.reset,
           tol := { s.tol with grants := [], recalled := [], asked := [] },
           drf := { s.drf with onDuty := 2 ^ ((onesOf 10 s.drf.onDuty).headD 0), testing := 0 } }

/-- The device enters FALSEWORK; FW_CAUSE keeps the first cause of this power-up (R737, R738). -/
def State.enterFalsework (s : State) (cause : Nat) : State :=
  let s1 := ((((s.shutJobs).dropDge).zeroiseKeys).offUnits).switchPd (s.falseworkDomains + bits s.tol.pd 29 28 * 2 ^ 28)
  { s1 with glb := { s1.glb with dev := .falsework, fwCause := if s1.glb.fwCause = 0 then cause else s1.glb.fwCause },
            xh := { s1.xh with halted := false },
            spn := { s1.spn.unalign with waits := [], queue := [], draining := [], pairing := none, early := [], fence := false, claim := none } }

/-- The actions of PURGE (R642): the PURGE row of R471, memory-encryption keys and DGE state zeroised, the save key redrawn, FALSEWORK. -/
def State.purge (s : State) (cause : Nat) : State := (s.enterFalsework cause).redrawSaveKey

/-! ### HALTED (R734, R735) -/

/-- Entry to HALTED: tokens are recalled, clocks gated with their state kept, DGE contexts released. -/
def State.enterHalted (s : State) (next : DevState) : State :=
  let s1 := s.dropDge
  { s1 with glb := { s1.glb with dev := .halted, haltedIn := if s1.glb.dev = .halted then s1.glb.haltedIn else next },
            tol := { s1.tol with grants := [], recalled := [] } }

/-- A restart finds the input still there: a staged McEliece key, a job of a handshake. -/
def Job.keepsInput (x : Job) : Bool := x.mceInline || (match x.origin with | .handshake _ => true | _ => false)

/-- The work of a job stands again at its entry: its operand memory is zeroised, its input will be read again, its keys delivered
anew (R181, R301, R345). -/
def State.restartJob (s : State) (j : Nat) : State :=
  match s.job j with
  | none => s
  | some x =>
    let part (p : Part) : Part := if p = .none then .none else .queued
    (s.leaveEngines j).putJob j
      { x with stage := .queued, burinPart := part x.burinPart, graverPart := part x.graverPart, input := if x.keepsInput then x.input else [],
               reading := none, inputDone := x.keepsInput && x.inputDone, verdict := none, result := Result.empty, restarted := true, head := true, needs := [] }

/-- Engine work that is under way: in a burin, a core or a lane, or parked. -/
def Job.inHand (x : Job) : Bool :=
  (decide (x.engine = .burin) || decide (x.engine = .graver) || decide (x.engine = .both) || decide (x.engine = .lane)) && !x.committed &&
    decide (x.stage = .running ∨ x.stage = .computed ∨ x.stage = .parked)

/-- A paired device enters STARTING (R570, R644): no link and no heartbeat of the peer yet, and a HELLO of its own. -/
def State.startPair (s : State) : State :=
  if !s.paired then s
  else
    let s1 : State := { s with spn := { s.spn.unalign with hbAlive := false, hbRx := s.time, linkRx := s.time } }
    let s2 := s1.setPair .starting
    if s2.tol.pd.testBit 22 then s2.sendHello else s2

/-- Leaving HALTED for the state that HALTED interrupted (R735): jobs not past their commit point restart from their entry; look-aside
lane jobs wait for their slot again; a paired device enters STARTING (R644). -/
def State.resume (s : State) : State :=
  let s1 := s.jobs.foldl (fun t p => if p.2.inHand then t.restartJob p.1 else t) s
  let back := (s.jobs.filter (fun p => p.2.inHand && decide (p.2.engine = .lane))).map (·.1)
  let s2 : State := { s1 with
    glb := { s1.glb with dev := s1.glb.haltedIn }
    xh := { s1.xh with halted := false, haltBy := [] }
    cwy := { s1.cwy with lookaside := s1.cwy.lookaside ++ back } }
  s2.startPair

/-! ### Main reset (R724, R725) -/

/-- A pulse that is cut short leaves any subset of the bits it was programming set (R607): a free value. -/
def State.cutPulse (s : State) : State :=
  match s.lcs.burn with
  | none => s
  | some b =>
    match b.draining, b.steps with
    | false, .byte a v :: _ => (s.setOtp a (s.otp a ||| (v &&& BitVec.ofNat 8 s.freeVal))).nextFree
    | _, _ => s

/-- Every unit at its reset state; the island, OTP and the boot flash carry across (R725). `cause` is GLB_RESET_CAUSE. -/
def State.mainReset (s : State) (cause : BitVec 3) : State :=
  let c := s.cutPulse
  let r := State.reset
  { r with
    pending := c.pending, out := c.out, frees := c.frees, draws := c.draws
    glb := { r.glb with cause := cause }
    lcs := { r.lcs with otp := c.lcs.otp }
    csn := { r.csn with bbramOk := c.csn.bbramOk, shelfSecret := c.csn.shelfSecret, shelfVersion := c.csn.shelfVersion,
                        leaseSeq := c.csn.leaseSeq, migSeq := c.csn.migSeq, shelf := c.csn.shelf, leaseLog := c.csn.leaseLog }
    island := c.island
    flash := { c.flash with staging := none } }

/-! ### Pins -/

/-- ERR_N is low (R672, R727, R794): until the checkers have passed, and while a CONTAINED, FATAL or enabled CORRECTED bit is set. -/
def State.errLow (s : State) : Bool :=
  !s.fcl.checked || decide (s.fcl.cont ≠ 0) || decide (s.fcl.fatalMap ≠ 0) || ((s.reg Reg.fclCtl).testBit 31 && decide (s.fcl.corr ≠ 0))

/-- XH_ALARM_N is low (R645). -/
def State.alarmLow (s : State) : Bool := s.xh.warn || s.xh.halted || s.xh.alarm

end Sys2Proof.Machine
end

