-- ==== Sys2Proof/Machine/FclOps.lean ====
section
/-! DEFINITION. The fault collector: classes, reports, the pending table, FATAL faults, repair words (R667 to R677, R689, R691). -/

namespace Sys2Proof.Machine

open Sys2Proof

/-! ### Maintenance activities (R695, R697) -/

def actDef (_ : Nat) : Activity := Activity.reset

/-- Activity numbers (R142). -/
def State.act (s : State) (a : Nat) : Activity := SMap.get actDef a s.fcl.acts

def State.setAct (s : State) (a : Nat) (x : Activity) : State := { s with fcl := { s.fcl with acts := SMap.set actDef a x s.fcl.acts } }

/-- PD28 and PD29 follow DEBUG of R147 and the OTP burns (R607, R709). -/
def State.settlePower (s : State) : State :=
  let burns := s.burning || (decide ((s.act 4).mstate = 1) && (s.act 4).started)
  let pd := s.tol.pd % 2 ^ 28 + bitAt 28 (decide (2 ≤ s.debugCode)) + bitAt 29 burns
  if pd = s.tol.pd then s else s.switchPd pd

/-! ### Sources (R667) -/

/-- SOURCE of an instance of a unit. -/
def src (unit inst : Nat) : Nat := unit * 256 + inst

def uBurin := 0x01
def uPier := 0x02
def uGraver := 0x03
def uLane := 0x04
def uCwy := 0x05
def uVdt := 0x06
def uCsn := 0x07
def uDrf := 0x08
def uDge := 0x09
def uEnt := 0x0A
def uHif := 0x0B
def uLpt := 0x0C
def uSpn := 0x0D
def uTol := 0x0E
def uLcs := 0x0F
def uXh := 0x10
def uFcl := 0x11
def uMap := 0x12

/-- The instance exists (R667). -/
def instOk (u i : Nat) : Bool :=
  if u = uBurin then decide (i < 72) else if u = uPier then decide (i < 8) else if u = uGraver then decide (i < 18)
  else if u = uLane then decide (i < 8) else if u = uCwy ∨ u = uCsn ∨ u = uHif ∨ u = uLcs ∨ u = uFcl then decide (i = 0)
  else if u = uVdt then decide (i < 32 ∨ i = 0xFF) else if u = uDrf then decide (i < 10) else if u = uDge then decide (i < 12)
  else if u = uEnt then decide (i < 4) else if u = uLpt then decide (i < 2) else if u = uSpn then decide (i < 5 ∨ i = 0xFF)
  else if u = uTol then decide (i < 30) else if u = uXh then true else if u = uMap then decide (i < 128) else false

/-! ### Classification (R669, R670) -/

/-- The class of a report by unit, cause and place; none where R669 has no row. A corrected error of any memory is CORRECTED, an uncorrectable
error of Drafting SRAM and a failed shadow job of a Drafting pair are CONTAINED, by R680, R682, R693 and the definitions of R669. Classes that depend on the state of the reporting unit
(ENT under R509, a second span lane under R563, a decision split) are given by the reporter. -/
def classOfFault (u i cause : Nat) (place : FaultPlace) : Option FaultClass :=
  let when (c : Bool) (k : FaultClass) : Option FaultClass := if c then some k else none
  if cause = 1 then when (decide (u ≤ uLpt)) .corrected
  else if u = uBurin then
    (when (cause = 2 || cause = 6 || cause = 7 || cause = 5 || cause = 0xE) .contained)
  else if u = uPier then
    (if cause = 2 then some (if place = .matrixCache then .corrected else .contained) else when (cause = 6) .contained)
  else if u = uGraver then when (cause = 2 || cause = 6 || cause = 7 || cause = 4) .contained
  else if u = uLane then when (cause = 2 || cause = 3 || cause = 6 || cause = 7) .contained
  else if u = uCwy then (if cause = 2 then some .corrected else when (cause = 9) .contained)
  else if u = uVdt then
    (if cause = 9 then some (if place = .retryPassed then .corrected else .contained) else when (cause = 0xA) .fatal)
  else if u = uCsn then (if cause = 2 then some .contained else when (cause = 0xD) .corrected)
  else if u = uDrf then when (cause = 3 || cause = 2 || cause = 6) .contained
  else if u = uDge then (if i < 8 then when (cause = 2) .contained else when (cause = 6 || cause = 2) .contained)
  else if u = uEnt then (if cause = 8 then some .corrected else when (cause = 3 || cause = 7) .fatal)
  else if u = uHif then when (cause = 2) .contained
  else if u = uLpt then when (cause = 2) .corrected
  else if u = uSpn then (if i = 0xFF then when (cause = 0xB) .contained else when (cause = 7) .corrected)
  else if u = uTol then when (cause = 0xC) .contained
  else if u = uLcs then when (cause = 0xD || cause = 7) .contained
  else if u = uXh then (if cause = 7 then some .contained else when (cause = 0xF) .fatal)
  else if u = uFcl then when (cause = 7 || cause = 0x10) .fatal
  else if u = uMap then when (cause = 0xD) .corrected
  else none

/-- FCL_RAISE raises CORRECTED reports of a unit to CONTAINED (R670). -/
def State.raised (s : State) (u : Nat) (c : FaultClass) : FaultClass :=
  if c = .corrected ∧ (s.reg Reg.fclRaise).testBit u then .contained else c

/-! ### The log and the pending table (R671, R673, R675) -/

/-- What a report carries. -/
structure Report where
  source : Nat
  cause : Nat
  cls : FaultClass
  injected : Bool
  escalated : Bool
  hostAck : Bool
  addr : Nat
  syndrome : Nat
  job : Option Nat
  deriving DecidableEq, Repr

def mkReport (source cause : Nat) (cls : FaultClass) : Report :=
  { source := source, cause := cause, cls := cls, injected := false, escalated := false, hostAck := false, addr := 0, syndrome := 0, job := none }

/-- The entry that a report gets. -/
def State.logEntry (s : State) (r : Report) : LogEntry :=
  let x := r.job.bind s.job
  { seq := s.fcl.seq + 1, source := r.source, cause := r.cause, cls := r.cls, injected := r.injected, acked := false,
    escalated := r.escalated, hostAck := r.hostAck, stamp := s.time, addr := r.addr, syndrome := r.syndrome, vi := (x.map (·.vi)).getD 0xFFFF,
    tag := (x.map (fun y => dTag y.desc)).getD 0 }

/-- Write an entry into the ring of 1,024 (R673). -/
def State.appendLog (s : State) (e : LogEntry) : State :=
  let n := s.fcl.next
  { s with fcl := { s.fcl with log := KMap.put n e s.fcl.log, next := (n + 1) % 1024, seq := e.seq,
                               wraps := if n = 1023 then satAdd 16 s.fcl.wraps 1 else s.fcl.wraps } }

/-- Unit of a SOURCE. -/
def unitOf (source : Nat) : Nat := source / 256

/-- Count a report and set its sticky bit; a CONTAINED report interrupts the PF, a CORRECTED one when INT_CORRECTED asks for it
(R669, R671, R701). -/
def State.noteClass (s : State) (r : Report) : State :=
  let m := 2 ^ unitOf r.source
  match r.cls with
  | .corrected =>
    let s1 := { s with fcl := { s.fcl with corr := s.fcl.corr ||| m } }.bump Reg.fclCorrected
    if (s.reg Reg.fclCtl).testBit 30 then s1.emit (.pfInterrupt 0) else s1
  | .contained => ({ s with fcl := { s.fcl with cont := s.fcl.cont ||| m } }.bump Reg.fclContained).emit (.pfInterrupt 0)
  | .fatal =>
    { s with fcl := { s.fcl with fatalMap := s.fcl.fatalMap ||| m, fatal := true,
                                 fatalSource := if s.fcl.fatal then s.fcl.fatalSource else r.source } }

/-- Log a report: entry, sticky bit, counts. -/
def State.record (s : State) (r : Report) : State :=
  let s1 := (s.appendLog (s.logEntry r)).noteClass r
  if r.injected then s1.bump Reg.fclInjected else s1

/-- A FATAL fault takes the device out of service (R677); every maintenance activity stops and a burn ends after its byte (R632, R698). -/
def State.fatalShutdown (s : State) : State :=
  let stop (a : Activity) : Activity := if a.started ∧ a.mstate = 1 then { a with mstate := 4 } else a
  (({ s with fcl := { s.fcl with acts := SMap.mapAll (fun _ => Activity.reset) (fun _ a => stop a) s.fcl.acts }, lcs := { s.lcs with burn := none } }).settlePower).purge 4

/-- An entry of the FCL itself: an escalation or an overflow, FATAL with CAUSE 0x10 and ADDR naming the SEQ (R675, R676). -/
def State.escalate (s : State) (seq : Nat) : State :=
  (s.record { mkReport (src uFcl 0) 0x10 .fatal with escalated := true, addr := seq }).fatalShutdown

/-- A report reaches the fault collector with its class decided (R669 to R677). -/
def State.reportAs (s : State) (r : Report) : State :=
  let s1 := s.record r
  match r.cls with
  | .corrected => s1
  | .contained =>
    if 32 ≤ s.fcl.pending.length then s1.escalate s1.fcl.seq
    else { s1 with fcl := { s1.fcl with pending := s1.fcl.pending ++ [s.logEntry r] } }
  | .fatal => s1.fatalShutdown

/-- Causes of a unit whose CONTAINED reports R669 leaves to the host. -/
def hostCause (u : Nat) : Bool := decide (u = uTol ∨ u = uLcs ∨ u = uXh ∨ u = uMap)

/-- The report of a fault of class `c`, raised by FCL_RAISE (R670). -/
def State.reportOf (s : State) (u i cause : Nat) (c : FaultClass) : Report :=
  { mkReport (src u i) cause (s.raised u c) with hostAck := hostCause u || decide (s.raised u c ≠ c) || (decide (u = uSpn) && decide (cause = 7)) }

/-- A report by unit, instance and cause, of the class that R669 and R670 give it. -/
def State.report (s : State) (u i cause : Nat) : State :=
  match classOfFault u i cause .unit with
  | some c => s.reportAs (s.reportOf u i cause c)
  | none => s

/-- Acknowledge a pending report (R675): ACKED is set in its log entry. -/
def State.ackSeq (s : State) (seq : Nat) : State :=
  if s.fcl.pending.any (fun e => decide (e.seq = seq)) then
    { s with fcl := { s.fcl with pending := s.fcl.pending.filter (fun e => decide (e.seq ≠ seq)),
                                 log := KMap.mapVals (fun _ e => if e.seq = seq then { e with acked := true } else e) s.fcl.log } }
  else s

/-- The firmware acknowledges the pending reports of a source with one of some causes, but for those that are the host's (R669, R670). -/
def State.ackSource (s : State) (source : Nat) (causes : List Nat) : State :=
  (s.fcl.pending.filter (fun e => decide (e.source = source) && causes.contains e.cause && !e.hostAck)).foldl (fun t e => t.ackSeq e.seq) s

/-- Targeted known-answer tests of some units are due; passing, they acknowledge the report (R195, R341). -/
def State.testLater (s : State) (seq : Nat) (sources : List Nat) : State :=
  { s with fcl := { s.fcl with targeted := s.fcl.targeted ++ [(seq, sources)] } }

/-! ### Repair words (R689, R691) -/

/-- KIND of a unit's slot word (R689). -/
def repairKind (u : Nat) : Nat :=
  if u = uBurin then 1 else if u = uGraver then 2 else if u = uLane then 3 else if u = uDrf then 4 else if u = uSpn then 5 else 0

/-- Slot word of a retired instance. -/
def repairWord (u i : Nat) : Nat := repairKind u * 2 ^ 28 + i * 2 ^ 16

/-- A retirement of this power-up: it waits for REPAIR_COMMIT, unless an injected report caused it (R678) or OTP holds it already. -/
def State.noteRetired (s : State) (word : Nat) (injected : Bool) : State :=
  if injected ∨ s.fcl.uncommitted.contains word ∨ s.fcl.slots.any (fun p => decide (p.2 = word)) then s
  else { s with fcl := { s.fcl with uncommitted := s.fcl.uncommitted ++ [word] } }

end Sys2Proof.Machine
end

