-- ==== Sys2Proof/Machine/MaintOps.lean ====
section
/-! DEFINITION. Maintenance activities: compatibility, patrols, start and end (R141, R695 to R698). Codes: 1 SCRUB_SRAM, 2 SCRUB_HBM,
3 HEALTH_SWEEP, 4 REPAIR_COMMIT, 5 CAISSON_COMPACT, 6 XH_SELFTEST, 7 ARCHIVE_EXPORT, 8 FW_STAGE, 9 AVS_RECAL. -/

namespace Sys2Proof.Machine

open Sys2Proof

/-- The No cells of R697, the lower code first. -/
def exclusions : List (Nat × Nat) :=
  [(1, 4), (2, 4), (3, 4), (4, 6), (4, 9), (5, 6), (5, 7), (5, 8), (6, 7), (6, 8), (6, 9)]

/-- Two activities may run together (R697). -/
def compatible (a b : Nat) : Bool := !(exclusions.contains (Nat.min a b, Nat.max a b)) && decide (a ≠ b)

/-- Codes that patrol (R695). -/
def isPatrol (a : Nat) : Bool := decide (1 ≤ a ∧ a ≤ 3)

/-- A started activity runs: from its start until it is idle. -/
def State.startedRuns (s : State) (a : Nat) : Bool := (s.act a).started && decide ((s.act a).mstate = 1)

/-- The running started activity that a start of `a` conflicts with, the lowest code first (R697). -/
def State.conflictWith (s : State) (a : Nat) : Option Nat :=
  ([1, 2, 3, 4, 5, 6, 7, 8, 9] : List Nat).find? (fun c => s.startedRuns c && !(compatible a c))

/-- Patrols pause while a conflicting started activity runs, or one of their own, and resume after it (R695). -/
def State.settlePatrols (s : State) : State :=
  ([1, 2, 3] : List Nat).foldl (fun t a =>
    let x := t.act a
    if x.started then t
    else
      let blocked := ([1, 2, 3, 4, 5, 6, 7, 8, 9] : List Nat).any (fun c => decide (c ≠ a) && t.startedRuns c && !(compatible a c))
      if x.mstate = 1 ∧ blocked then t.setAct a { x with mstate := 2 }
      else if x.mstate = 2 ∧ !blocked then t.setAct a { x with mstate := 1 } else t) s

/-- Start an activity that nothing forbids; its run number is the next one. -/
def State.startAct (s : State) (a arg : Nat) (job : Option Nat) : State :=
  let x : Activity := { mstate := 1, progress := 0, run := s.fcl.runs + 1, result := 0, arg := arg, started := true, job := job }
  let s1 : State := { s with fcl := { s.fcl with runs := s.fcl.runs + 1 } }
  ((s1.setAct a x).settlePatrols).settlePower

/-- Start what the firmware wants, where nothing conflicts (R695). -/
def State.startWanted (s : State) : State :=
  s.fcl.wanted.foldl (fun t a =>
    if (t.conflictWith a).isNone then ({ t with fcl := { t.fcl with wanted := t.fcl.wanted.filter (fun c => decide (c ≠ a)) } }).startAct a 0 none
    else t) s

/-- The firmware asks for an activity (R185, R468, R695). -/
def State.wantAct (s : State) (a : Nat) : State :=
  let l := if s.fcl.wanted.contains a then s.fcl.wanted else s.fcl.wanted ++ [a]
  ({ s with fcl := { s.fcl with wanted := l } }).startWanted

/-- MAINT_STOP jobs that wait for an activity go on once it is idle (R144). -/
def State.stopReplies (s : State) (a : Nat) : State :=
  (s.jobs.filter (fun p => decide (dOp p.2.desc = 0x0803) && decide (bits (dP0 p.2.desc) 7 0 = a))).foldl (fun t p => t.popNeed p.1 .safePoint) s

/-- An activity stands in state `m` after its run: what waits for it goes on. AVS_RECAL follows every REPAIR_COMMIT (R723). -/
def State.idleAct (s : State) (a : Nat) (m : Nat) (status : Nat) : State :=
  let y : Activity := { s.act a with mstate := m, progress := 1000, result := status, started := false, job := none }
  let s1 := ((((s.setAct a y).settlePatrols).settlePower).startWanted).stopReplies a
  if a = 4 then s1.wantAct 9 else s1

/-- A started activity ends: done or failed, and a patrol goes on patrolling (R143, R695). -/
def State.endAct (s : State) (a : Nat) (status : Nat) : State := s.idleAct a (if isPatrol a then 1 else if statusOk status then 3 else 4) status

end Sys2Proof.Machine
end

