-- ==== Sys2Proof/Machine/UcodeOps.lean ====
section
/-! DEFINITION. Customer microcode: the image, what the loader accepts, and one issue of a microword (R285 to R310). -/

namespace Sys2Proof.Machine

open Sys2Proof

/-! ### The image (R303 to R306) -/

def imEntries (im : Bytes) : Nat := rd im 16 2
def imPlate (im : Bytes) : Nat := rd im 18 2
def imEtch (im : Bytes) : Nat := rd im 20 2
def imBases (im : Bytes) : Nat := rd im 22 1
def imConsts (im : Bytes) : Nat := rd im 23 1
def imBodyLen (im : Bytes) : Nat := rd im 24 4

def imPlateAt (im : Bytes) : Nat := 256 + 16 * imEntries im
def imEtchAt (im : Bytes) : Nat := imPlateAt im + 4 * imPlate im
def imBaseAt (im : Bytes) : Nat := imEtchAt im + 32 * imEtch im
def imConstAt (im : Bytes) : Nat := imBaseAt im + 4 * imBases im

/-- BODY_LEN that the counts imply (R304). -/
def imBodySize (im : Bytes) : Nat := imConstAt im + 32 * imConsts im - 256

/-- Entry record `e` (R305). -/
def imEntry (im : Bytes) (e : Nat) : Bytes := slice im (256 + 16 * e) 16

/-- Constant row `k` of the routine, the parameter row apart (R283). -/
def imConst (im : Bytes) (k : Nat) : Bytes := padTo 32 (slice im (imConstAt im + 32 * (k - 1)) 32)

/-- Base-table entry `k` as a base register (R287, R306). -/
def imBase (im : Bytes) (k : Nat) : BaseReg :=
  { row := rd im (imBaseAt im + 4 * k) 2 % 2048, stride := rd im (imBaseAt im + 4 * k + 2) 1, region := rd im (imBaseAt im + 4 * k + 3) 1 }

/-- The microword at a Plate address; none outside the image's words (R283). -/
def plateWord (im : Bytes) (pc : Nat) : Option Nat :=
  if 0x3100 ≤ pc ∧ pc < 0x3100 + imPlate im then some (rd im (imPlateAt im + 4 * (pc - 0x3100)) 4) else none

/-- The nano-word at an Etch address: NULL at 0, the image's from 0x380 on (R283). -/
def etchWord (im : Bytes) (a : Nat) : Nat :=
  if 0x380 ≤ a ∧ a < 0x380 + imEtch im then rd im (imEtchAt im + 32 * (a - 0x380)) 32 else 0

/-! ### Fields (R289, R293) -/

def wSeq (w : Nat) : Nat := bits w 31 30
def wNano (w : Nat) : Nat := bits w 29 20
def wA (w : Nat) : Nat := bits w 19 14
def wB (w : Nat) : Nat := bits w 13 8
def wImm (w : Nat) : Nat := bits w 7 0

def nBfly (n u : Nat) : Nat × Nat := (bits n (224 + 8 * u + 7) (224 + 8 * u + 4), bits n (224 + 8 * u + 3) (224 + 8 * u))
def nMod (n : Nat) : Nat := bits n 223 192
def nPortA (n : Nat) : Nat := bits n 191 160
def nPortB (n : Nat) : Nat := bits n 159 128
def nWb (n : Nat) : Nat := bits n 127 96
def nHash (n : Nat) : Nat := bits n 95 64
def nSamp (n : Nat) : Nat := bits n 63 48
def nMask (n : Nat) : Nat := bits n 47 32
def nCond (n : Nat) : Nat := bits n 31 16

/-- The fields that PORT and WB share. -/
def fEn (f : Nat) : Bool := f.testBit 31
def fSrc (f : Nat) : Nat := bits f 30 28
def fShared (f : Nat) : Bool := f.testBit 27
def fOff (f : Nat) : Nat := bits f 26 19
def fInc (f : Nat) : Bool := f.testBit 18

def mMasked (m : Nat) : Bool := m.testBit 15
def mDraw (m : Nat) : Bool := m.testBit 14
def mA2b (m : Nat) : Bool := m.testBit 13
def mB2a (m : Nat) : Bool := m.testBit 12
def mSplit (m : Nat) : Bool := m.testBit 11
def mCombine (m : Nat) : Bool := m.testBit 10
def mMselect (m : Nat) : Bool := m.testBit 9

/-- An 8-bit two's complement number. -/
def signed8 (n : Nat) : Int := if n < 128 then n else (n : Int) - 256

/-- A row index moved by a signed number, wrapping in `size` rows (R285, R287). -/
def wrapRow (row : Nat) (by_ : Int) (size : Nat) : Nat := (((row : Int) + by_) % (size : Int)).toNat

/-! ### Values: eight 32-bit lanes, one row or three shares (R198, R286) -/

/-- A row, or the three shares of one. -/
abbrev Val := List Bytes

def lanes (b : Bytes) : List Nat := (List.range 8).map (fun i => rd b (4 * i) 4)

def ofLanes (l : List Nat) : Bytes := (l.map (leBytes 4)).flatten

/-- The modulus of a MOD field: none in GF(2) mode (R293). -/
def modulus (im : Bytes) (m : Nat) : Option Nat :=
  match bits m 31 30 with
  | 0 => some 3329
  | 1 => some 8380417
  | 2 => none
  | _ => some (rd im (28 + 4 * bits m 29 28) 4)

/-- The sum and the difference of two lanes; XOR in GF(2) mode. -/
def lAdd (q : Option Nat) (a b : Nat) : Nat := match q with | some n => (a + b) % n | none => a ^^^ b
def lSub (q : Option Nat) (a b : Nat) : Nat := match q with | some n => (a + (n - b % n)) % n | none => a ^^^ b
/-- The product of two lanes; bit by bit in GF(2) mode. -/
def lMul (q : Option Nat) (a b : Nat) : Nat := match q with | some n => (a * b) % n | none => a &&& b

def zipRows (f : Nat → Nat → Nat) (a b : Bytes) : Bytes := ofLanes (List.zipWith f (lanes a) (lanes b))

/-- The value that shares stand for. -/
def joinVal (q : Option Nat) (v : Val) : Bytes := v.foldl (zipRows (lAdd q)) (zeros 32)

/-- Three fresh shares of a row: two are stipple bits, the third completes the sum (R202, assumption log 2). -/
def splitVal (q : Option Nat) (free : Nat) (row : Bytes) : Val :=
  let r (k : Nat) : Bytes :=
    let b := leBytes 32 (Config.freeNat free / 2 ^ (256 * k))
    match q with | some n => ofLanes ((lanes b).map (· % n)) | none => b
  [r 0, r 1, zipRows (lSub q) row (zipRows (lAdd q) (r 0) (r 1))]

/-- Make a value three shares. -/
def asShares (v : Val) : Val := if v.length = 3 then v else [v.headD (zeros 32), zeros 32, zeros 32]

/-- A function of one or two values: on a row, or, on shares, on the value that they stand for with fresh shares of the result. -/
def liftVal (q : Option Nat) (shared : Bool) (free : Nat) (row : Bytes) : Val := if shared then splitVal q free row else [row]

/-! ### Cells -/

def zeroRow (_ : Nat) : Bytes := zeros 32

/-- Hash-core row: core × 64 + share × 8 + row, cores 0 K0, 1 K1, 2 to 5 SHA-2. -/
def hashCell (core share row : Nat) : Nat := 0x1000 + core * 64 + share * 8 + row
def sampleCell (share : Nat) : Nat := 0x2000 + share
def accCell (share : Nat) : Nat := 0x2010 + share
def flagCell : Nat := 0x2020

def Micro.cell (m : Micro) (k : Nat) : Bytes := SMap.get zeroRow k m.mem

def Micro.setCell (m : Micro) (k : Nat) (b : Bytes) : Micro := { m with mem := SMap.set zeroRow k (padTo 32 b) m.mem }

/-- The writes that have landed by the start of the present cycle take effect (R296). -/
def Micro.land (m : Micro) : Micro :=
  let now := m.landing.filter (fun l => decide (l.cycle ≤ m.cycle))
  let m1 := now.foldl (fun t l => t.setCell l.cell l.data) m
  { m1 with landing := m.landing.filter (fun l => decide (m.cycle < l.cycle)),
            tags := now.foldl (fun t l => if l.cell < 0x800 ∧ l.tag then (if t.contains l.cell then t else t ++ [l.cell]) else t) m.tags }

/-- A result that lands `n` cycles after its issue. -/
def Micro.later (m : Micro) (n cell : Nat) (data : Bytes) (tag : Bool) : Micro :=
  { m with landing := m.landing ++ [{ cycle := m.cycle + n, cell := cell, data := data, tag := tag }] }

/-- First row and row count of a region (R285). -/
def Micro.region (m : Micro) (r : Nat) : Nat × Nat :=
  let e := imEntry m.image m.entry
  let i := rd e 4 2
  let s := rd e 6 2
  match r with
  | 0 => (0, i)
  | 1 => (i, s)
  | _ => (i + s, rd e 8 2)

/-- The rows that a field names through a base register: one, or the three of a shared row (R285, R286). -/
def Micro.rows (m : Micro) (reg : Nat) (f : Nat) : List Nat :=
  let b := m.bases.getD reg { row := 0, stride := 0, region := 0 }
  let (base, size) := m.region b.region
  if fShared f then
    if size / 3 = 0 then []
    else let i := wrapRow b.row (signed8 (fOff f)) (size / 3); [base + 3 * i, base + 3 * i + 1, base + 3 * i + 2]
  else if size = 0 then [] else [base + wrapRow b.row (signed8 (fOff f)) size]

/-- The hash core of a HASH field; none for UNIT 0. -/
def hashCore (h : Nat) : Option Nat :=
  match bits h 31 30 with
  | 0 => none
  | 1 => some 0
  | 2 => some 1
  | _ => some (2 + bits h 23 22)

/-- The whole state of a core on one share, and the value that its shares stand for. -/
def Micro.core (m : Micro) (c share : Nat) : Bytes := ((List.range 8).map (fun r => m.cell (hashCell c share r))).flatten
def Micro.coreVal (m : Micro) (c : Nat) : Bytes := List.zipWith (· ^^^ ·) (m.core c 0) (List.zipWith (· ^^^ ·) (m.core c 1) (m.core c 2))

/-- The core computes on three shares: K0, or a SHA-2 core with MASKED (R201, R293). -/
def coreMasked (c h : Nat) : Bool := decide (c = 0) || (decide (2 ≤ c) && h.testBit 21)

/-- What a port reads (R294). -/
def Micro.port (m : Micro) (f reg hash : Nat) : Val :=
  if !(fEn f) then [zeros 32]
  else match fSrc f with
  | 0 => (m.rows reg f).map m.cell
  | 2 =>
    (match hashCore hash with
    | some c => (List.range (if fShared f then 3 else 1)).map (fun s => m.cell (hashCell c s (bits hash 26 24)))
    | none => [zeros 32])
  | 3 => (List.range (if fShared f then 3 else 1)).map (fun s => m.cell (sampleCell s))
  | 6 => [if fOff f = 0 then m.params else imConst m.image (fOff f)]
  | _ => [zeros 32]

/-! ### Datapath (R294 to R296) -/

/-- The result lanes of one butterfly unit, on two lanes of each port; `acc` and `fl` its accumulator and flag lanes, `free` a value
that the spec does not state: an idle unit, a comparison, a modulus of 0. -/
def bflyLanes (q : Option Nat) (op sub : Nat) (a0 a1 b0 b1 acc0 acc1 fl0 fl1 free : Nat) : Nat × Nat :=
  if q = some 0 ∧ 1 ≤ op ∧ op ≤ 6 then (bits free 31 0, bits free 63 32)
  else match op with
  | 1 => (lAdd q a0 b0, lAdd q a1 b1)
  | 2 => (lSub q a0 b0, lSub q a1 b1)
  | 3 => (lMul q a0 b0, lMul q a1 b1)
  | 4 => (lAdd q a0 (lMul q b0 a1), lSub q a0 (lMul q b0 a1))
  | 5 => (lAdd q a0 a1, lMul q (lSub q a0 a1) b0)
  | 6 => (lAdd q (if sub.testBit 0 then 0 else acc0) (lMul q a0 b0), lAdd q (if sub.testBit 0 then 0 else acc1) (lMul q a1 b1))
  | 7 => (a0 ^^^ b0, a1 ^^^ b1)
  | 8 => (a0 &&& b0, a1 &&& b1)
  | 9 =>
    let k := 4 * (sub % 8)
    if sub.testBit 3 then (a0 >>> k, a1 >>> k) else (a0 <<< k % 2 ^ 32, a1 <<< k % 2 ^ 32)
  | 0xB => (if fl0 ≠ 0 then a0 else b0, if fl1 ≠ 0 then a1 else b1)
  | _ => (bits free 31 0, bits free 63 32)

/-- LAZY leaves a result in [0, 2q): which of the two representatives is open. -/
def lazyLane (q : Option Nat) (lazy : Bool) (free i v : Nat) : Nat :=
  match q with
  | some n => if lazy && free.testBit i then (v + n) % 2 ^ 32 else v
  | none => v

/-- Every op of the units on plain rows. -/
def bflyRow (q : Option Nat) (n : Nat) (lazy : Bool) (a b acc fl : Bytes) (free : Nat) : Bytes :=
  let la := lanes a
  let lb := lanes b
  let lc := lanes acc
  let lf := lanes fl
  let g (l : List Nat) (i : Nat) : Nat := l.getD i 0
  ofLanes (((List.range 4).map (fun u =>
    let (op, sub) := nBfly n u
    let r := bflyLanes q op sub (g la (2 * u)) (g la (2 * u + 1)) (g lb (2 * u)) (g lb (2 * u + 1)) (g lc (2 * u)) (g lc (2 * u + 1))
      (g lf (2 * u)) (g lf (2 * u + 1)) (free / 2 ^ (64 * u))
    [lazyLane q (lazy && decide (op ≤ 6)) free (2 * u) r.1, lazyLane q (lazy && decide (op ≤ 6)) free (2 * u + 1) r.2])).flatten)

/-- The units' ops that work on bits: their shares are boolean. -/
def bitOps (n : Nat) : Bool := (List.range 4).any (fun u => decide (7 ≤ (nBfly n u).1 ∧ (nBfly n u).1 ≤ 9))

/-- Some unit works. -/
def bflyWorks (n : Nat) : Bool := (List.range 4).any (fun u => decide ((nBfly n u).1 ≠ 0))

/-- Some unit multiplies, accumulates or runs a butterfly. -/
def bflyMul (n : Nat) : Bool := (List.range 4).any (fun u => decide (3 ≤ (nBfly n u).1 ∧ (nBfly n u).1 ≤ 6))

/-- Cycles until a butterfly result is usable (R296). -/
def bflyLatency (n : Nat) : Nat :=
  let m := nMask n
  if mA2b m || mB2a m then 12
  else if mMasked m then
    (if bflyMul n || mMselect m || (List.range 4).any (fun u => decide ((nBfly n u).1 = 8 ∨ (nBfly n u).1 = 0xA ∨ (nBfly n u).1 = 0xB)) then 6 else 3)
  else if bflyMul n then 4 else 3

/-- Cycles until the written-back value is usable. -/
def wbLatency (n : Nat) : Nat :=
  let m := nMask n
  let base := if fSrc (nWb n) = 0 then bflyLatency n else if mA2b m || mB2a m then 12 else 2
  if mCombine m || mSplit m then Nat.max 4 base else base

/-- Stipple words that an issue takes (R202, R295). -/
def stippleWords (n : Nat) : Nat :=
  let h := nHash n
  let op := bits h 29 27
  (if mDraw (nMask n) then 1 else 0) +
    (match hashCore h with
    | some c =>
      if coreMasked c h then (if op = 3 then 72 else if op = 4 then 192 else if op = 5 then 240 else 0) else 0
    | none => 0)

/-- Rows of operand memory that a nano-word reads, with their SHARED bits. -/
def Micro.readRows (m : Micro) (n a b : Nat) : List (List Nat × Bool) :=
  (if fEn (nPortA n) && decide (fSrc (nPortA n) = 0) then [(m.rows a (nPortA n), fShared (nPortA n))] else []) ++
    (if fEn (nPortB n) && decide (fSrc (nPortB n) = 0) then [(m.rows b (nPortB n), fShared (nPortB n))] else [])

/-- Base register of the write-back. -/
def wbReg (n a b : Nat) : Nat := if (nWb n).testBit 17 then b else a

/-- A nano-word breaks a rule of the share tags (R288). -/
def Micro.tagFault (m : Micro) (n a b : Nat) : Bool :=
  let tagged (l : List Nat) : Bool := l.any m.tags.contains
  let wb := nWb n
  let unmasked : Bool := match hashCore (nHash n) with | some c => !(coreMasked c (nHash n)) | none => false
  (m.readRows n a b).any (fun r => tagged r.1 && !r.2) ||
    (fEn wb && !(fShared wb) && tagged (m.rows (wbReg n a b) wb)) ||
    (unmasked && decide (bits (nHash n) 29 27 = 2) && fEn (nPortA n) && decide (fSrc (nPortA n) = 0) && tagged (m.rows a (nPortA n))) ||
    (fEn wb && mCombine (nMask n) && decide ((m.bases.getD (wbReg n a b) { row := 0, stride := 0, region := 0 }).region ≠ 2))

/-- POSTINC of the registers that the enabled fields name, once each (R287). -/
def Micro.postInc (m : Micro) (n a b : Nat) : Micro :=
  let named (f reg : Nat) : List Nat := if fEn f && fInc f then [reg] else []
  let l := (named (nPortA n) a ++ named (nPortB n) b ++ named (nWb n) (wbReg n a b)).eraseDups
  { m with bases := l.foldl (fun t r => listMod t r (fun x => { x with row := wrapRow x.row (signed8 x.stride) (m.region x.region).2 })) m.bases }

/-- The hash unit of a nano-word: ABSORB, RESET, PERMUTE and the compressions (R294, R296). -/
def Micro.hashUnit (m : Micro) (n : Nat) (pa : Val) (free : Nat) : Micro :=
  let h := nHash n
  match hashCore h with
  | none => m
  | some c =>
    let masked := coreMasked c h
    let row := bits h 26 24
    let put (t : Micro) (lat : Nat) (out : Bytes) : Micro :=
      let sh := if masked then
          let r (k : Nat) : Bytes := leBytes 256 (Config.freeNat (free + k))
          [r 1, r 2, xorAll out (xorAll (r 1) (r 2))]
        else [out]
      (List.range sh.length).foldl (fun t s => (List.range 8).foldl (fun t r =>
        t.later lat (hashCell c s r) (slice (sh.getD s []) (32 * r) 32) false) t) { t with busy := SMap.set (fun _ => 0) c (t.cycle + lat) t.busy }
    let perm (f : Config.Std) : Bytes := (List.range 256).map (Config.stdByte f 0 [m.coreVal c])
    match bits h 29 27 with
    | 1 => (List.range 24).foldl (fun t k => t.later 1 (hashCell c (k / 8) (k % 8)) (zeros 32) false) m
    | 2 => (List.range pa.length).foldl (fun t s => t.later 1 (hashCell c s row) (xorAll (m.cell (hashCell c s row)) (pa.getD s [])) false) m
    | 3 => if c ≤ 1 then put m (if c = 0 then 72 else 24) (perm .keccakF) else m
    | 4 => if 2 ≤ c then put m (if masked then 192 else 64) (perm .sha256Step) else m
    | 5 => if 2 ≤ c then put m (if masked then 240 else 80) (perm .sha512Step) else m
    | _ => m
where
  xorAll (a b : Bytes) : Bytes := List.zipWith (· ^^^ ·) a b

/-- The sampler: its output row from the state of the core that INPUT names (R294); the standards give the sampling, and a masked core
gives shares. -/
def Micro.sampler (m : Micro) (n : Nat) (q : Option Nat) (free : Nat) : Micro :=
  let s := nSamp n
  let c := bits s 7 6
  let core := if c = 2 then 2 + bits (nHash n) 23 22 else c
  if bits s 15 12 = 0 then m
  else
    let out := (List.range 32).map (Config.stdByte .sampler (s / 256) [m.coreVal core])
    let v := liftVal q (coreMasked core (nHash n)) free out
    (List.range v.length).foldl (fun t k => t.later 2 (sampleCell k) (v.getD k []) false) m

/-- One issue of a nano-word (R290 to R296) in the present cycle: ports, butterfly units, write-back, hash core, sampler. `free` names
four free values. -/
def Micro.nano (m : Micro) (n a b free : Nat) : Micro :=
  let q := modulus m.image (nMod n)
  let mk := nMask n
  let pa := m.port (nPortA n) a (nHash n)
  let pb := m.port (nPortB n) b (nHash n)
  let shared := mMasked mk && (decide (pa.length = 3) || decide (pb.length = 3))
  let qs := if bitOps n then none else q
  let acc : Val := (List.range 3).map (fun s => m.cell (accCell s))
  let res := bflyRow q n ((nMod n).testBit 27) (joinVal qs pa) (joinVal qs pb) (joinVal q acc) (m.cell flagCell) (Config.freeNat free)
  let val := liftVal qs shared (free + 1) res
  let m1 := if bflyWorks n && (List.range 4).any (fun u => decide ((nBfly n u).1 = 6)) then
      (List.range 3).foldl (fun t s => t.setCell (accCell s) ((asShares val).getD s [])) m else m
  let m2 := if (List.range 4).any (fun u => decide ((nBfly n u).1 = 0xA)) then
      m1.later (bflyLatency n) flagCell (zipRows (fun x y => if x = y then 1 else 0) (joinVal qs pa) (joinVal qs pb)) false else m1
  let wb := nWb n
  let w0 : Val := match fSrc wb with | 0 => val | 1 => pa | _ => (List.range (if fShared wb then 3 else 1)).map (fun s => m.cell (sampleCell s))
  let w1 : Val := if mA2b mk then splitVal none (free + 2) (joinVal q w0) else if mB2a mk then splitVal q (free + 2) (joinVal none w0) else w0
  let w2 : Val := if mCombine mk then [joinVal q w1] else if mSplit mk then splitVal q (free + 3) (w1.headD (zeros 32)) else w1
  let rows := m.rows (wbReg n a b) wb
  let w3 : Val := if fShared wb then asShares w2 else [w2.headD (zeros 32)]
  let m3 := if fEn wb then (List.range rows.length).foldl (fun t k => t.later (wbLatency n) (rows.getD k 0) (w3.getD k []) (fShared wb)) m2 else m2
  (((m3.hashUnit n pa (free + 4)).sampler n q (free + 7)).postInc n a b)

/-- Free values that one issue may take. -/
def issueFrees : Nat := 8

/-- The condition of a nano-word, and the loop counters after it (R290, R294): LC_NZ counts modulo 1,024. -/
def condOf (n : Nat) (lcs : List Nat) : Bool × List Nat :=
  let c := nCond n
  match bits c 15 12 with
  | 1 => (true, lcs)
  | 2 =>
    let k := bits c 11 10
    let v := (lcs.getD k 0 + 1023) % 1024
    (decide (v ≠ 0), listSet lcs k v)
  | _ => (false, lcs)

/-- A branch target. -/
def branchTo (pc imm : Nat) : Nat := ((pc : Int) + signed8 imm).toNat

/-- Issue a word of SEQ 0 to 2 (R290). -/
def Micro.issue (m : Micro) (w free : Nat) : Micro :=
  let n := etchWord m.image (wNano w)
  let c := condOf n m.lcs
  let m1 := { (m.nano n (wA w) (wB w) free) with lcs := c.2, cycle := m.cycle + 1 }
  match wSeq w with
  | 0 => { m1 with pc := m.pc + 1 }
  | 1 => { m1 with pc := if c.1 then branchTo m.pc (wImm w) else m.pc + 1 }
  | _ =>
    let left := (if m.rep = 0 then (if wImm w = 0 then 256 else wImm w) else m.rep) - 1
    { m1 with rep := left, pc := if left = 0 then m.pc + 1 else m.pc }

/-- Everything in flight lands: the drain of END (R302). -/
def Micro.drain (m : Micro) : Micro := (m.landing.foldl (fun t l => t.setCell l.cell l.data) m)

/-- The output bytes of the routine (R305). -/
def Micro.output (m : Micro) : Bytes :=
  let (base, rows) := m.region 2
  (((List.range rows).map (fun r => m.cell (base + r))).flatten).take (rd (imEntry m.image m.entry) 14 2)

/-- The burin as R307 sets it up: input, key as boolean shares, random rows, parameter row, base registers. -/
def Micro.start (im : Bytes) (e : Nat) (input key : Bytes) (params : Bytes) (draw free : Nat) : Micro :=
  let r := imEntry im e
  let m0 : Micro := { image := im, entry := e, pc := rd r 0 2, rep := 0, cycle := 0, bases := (List.range (imBases im)).map (imBase im),
                      lcs := [0, 0, 0, 0], mem := [], tags := [], landing := [], params := params, busy := [], committed := false }
  let inRows := (input.length + 31) / 32
  let m1 := (List.range inRows).foldl (fun t k => t.setCell k (slice input (32 * k) 32)) m0
  let s := (m0.region 1).1
  let keyRows := rd r 10 2 / 3
  let rand := rd r 3 1
  let put (t : Micro) (k : Nat) (v : Val) : Micro := (List.range 3).foldl (fun t i => t.setCell (s + 3 * k + i) (v.getD i [])) t
  let m2 := (List.range keyRows).foldl (fun t k => put t k (splitVal none (free + k) (padTo 32 (slice key (32 * k) 32)))) m1
  let m3 := (List.range rand).foldl (fun t k => put t (keyRows + k) ((List.range 3).map (fun i => drawBytes32 (draw + k) (32 * i)))) m2
  { m3 with tags := (List.range (3 * (keyRows + rand))).map (s + ·) }
where
  drawBytes32 (k off : Nat) : Bytes := (List.range 32).map (fun i => Config.drawByte k (off + i))

/-! ### What the loader accepts (R297, R303 to R310) -/

/-- MAGIC, FORMAT, TARGET, counts, reserved bytes and BODY_LEN of a header (DETAIL 3). -/
def headerOk (im : Bytes) : Bool :=
  decide (rd im 0 4 = 0x4D495A50) && decide (rd im 4 2 = 1) && decide (rd im 6 2 = 0) && decide (rd im 8 4 = 0x6440B000) &&
    decide (1 ≤ imEntries im ∧ imEntries im ≤ 64) && decide (1 ≤ imPlate im ∧ imPlate im ≤ 3840) && decide (imEtch im ≤ 128) &&
    decide (1 ≤ imBases im ∧ imBases im ≤ 64) && decide (imConsts im ≤ 63) && decide (imBodyLen im = imBodySize im) &&
    ((List.range 4).all (fun k => decide (rd im (28 + 4 * k) 4 ≠ 1))) && decide (rd im 44 4 = 0) && (slice im 116 140).all (fun b => decide (b = 0))

/-- An entry record is in range (R305, R307). -/
def entryOk (im : Bytes) (e : Nat) : Bool :=
  let r := imEntry im e
  let fl := rd r 2 1
  let i := rd r 4 2
  let sc := rd r 6 2
  let o := rd r 8 2
  let k := rd r 10 2
  !(fl.testBit 0) ||
    ((plateWord im (rd r 0 2)).isSome && decide (fl < 4) && decide (rd r 3 1 ≤ 63) && decide (i + sc + o ≤ 2048) && decide (k % 3 = 0) &&
      (fl.testBit 1 || decide (k = 0)) && decide (k + 3 * rd r 3 1 ≤ sc) && decide (rd r 12 2 ≤ 32 * i) && decide (rd r 14 2 ≤ 32 * o))

/-- A base-table entry is in range (R306). -/
def baseOk (im : Bytes) (k : Nat) : Bool :=
  decide (rd im (imBaseAt im + 4 * k) 2 < 2048) && decide (rd im (imBaseAt im + 4 * k + 3) 1 ≤ 2)

/-- A port field: sources 0, 2, 3 and 6, constants of the image (R309). -/
def portOk (im : Bytes) (f : Nat) : Bool :=
  decide (bits f 17 0 = 0) && decide (fSrc f = 0 ∨ fSrc f = 2 ∨ fSrc f = 3 ∨ fSrc f = 6) &&
    (decide (fSrc f ≠ 6) || !(fEn f) || decide (fOff f < imConsts im + 1))

/-- The static rules of R309 on a nano-word: reserved fields and codes, sources, conditions, samplers, DRAW where R295 requires it. -/
def nanoOk (im : Bytes) (n : Nat) : Bool :=
  let mk := nMask n
  let op (u : Nat) : Nat := (nBfly n u).1
  let needs := mMselect mk || mA2b mk || mB2a mk || (mMasked mk && (List.range 4).any (fun u => decide (3 ≤ op u ∧ op u ≤ 6) || decide (op u = 8)))
  (List.range 4).all (fun u => decide (op u ≤ 0xB)) && decide (bits (nMod n) 26 0 = 0) && portOk im (nPortA n) && portOk im (nPortB n) &&
    decide (bits (nWb n) 16 0 = 0) && decide (fSrc (nWb n) ≤ 2) && decide (bits (nHash n) 20 0 = 0) && decide (bits (nHash n) 29 27 ≤ 5) &&
    decide (bits (nSamp n) 5 0 = 0) && decide (bits (nSamp n) 7 6 ≤ 2) && ([0, 2, 3, 4, 6] : List Nat).contains (bits (nSamp n) 15 12) &&
    decide (bits mk 8 0 = 0) && decide (bits (nCond n) 15 12 ≤ 2) && decide (bits (nCond n) 9 0 = 0) && decide (bits n 15 0 = 0) &&
    (!needs || mDraw mk)

/-- The registers that a nano-word uses are below BASE_COUNT. -/
def regsOk (im : Bytes) (n a b : Nat) : Bool :=
  let uses (f reg : Nat) : Bool := !(fEn f) || decide (fSrc f ≠ 0) || decide (reg < imBases im)
  uses (nPortA n) a && uses (nPortB n) b && (!(fEn (nWb n)) || decide (wbReg n a b < imBases im))

/-- The static rules of R309 on a microword. -/
def wordOk (im : Bytes) (w : Nat) : Bool :=
  let n := etchWord im (wNano w)
  let nano : Bool := (decide (wNano w = 0) || decide (0x380 ≤ wNano w ∧ wNano w < 0x380 + imEtch im)) && regsOk im n (wA w) (wB w)
  let i := wImm w
  match wSeq w with
  | 0 => decide (i = 0) && nano
  | 1 => decide (i ≠ 0) && nano
  | 2 => nano
  | _ =>
    if i = 1 ∨ i = 2 ∨ i = 3 ∨ i = 4 then nano
    else if 0x10 ≤ i ∧ i ≤ 0x13 ∨ i = 0x30 then true
    else if i = 0x20 then
      decide (wA w < imBases im) && decide (wNano w < imBases im) && decide ((imBase im (wA w)).region = (imBase im (wNano w)).region)
    else false

/-- The static rules over the whole image (DETAIL 4). -/
def staticOk (im : Bytes) : Bool :=
  (List.range (imEntries im)).all (entryOk im) && (List.range (imBases im)).all (baseOk im) &&
    (List.range (imEtch im)).all (fun k => nanoOk im (etchWord im (0x380 + k))) &&
    (List.range (imPlate im)).all (fun k => match plateWord im (0x3100 + k) with | some w => wordOk im w | none => false)

/-- Where the one path of a customer entry stands: its control flow depends on loop counters alone (R309). -/
structure Walk where
  pc : Nat
  lcs : List Nat
  cycle : Nat
  /-- Cycle of the last YIELD or of the entry, and of COMMIT. -/
  since : Nat
  commit : Option Nat
  /-- Cycle from which each hash core is free. -/
  busy : SMap Nat
  deriving DecidableEq, Repr

/-- What ends a walk: the DETAIL of R310, or 0 for a routine that the loader accepts. -/
abbrev Verdict := Nat

/-- Issue a nano-word `times` times on the walk: a hazard of R296, COMBINE before COMMIT, a write-back to the output region before it. -/
def Walk.nano (im : Bytes) (k : Walk) (n a b times : Nat) : Verdict ⊕ Walk :=
  let h := nHash n
  let op := bits h 29 27
  let busy (c : Nat) : Bool := decide (k.cycle < SMap.get (fun _ => 0) c k.busy)
  let drawBusy := mDraw (nMask n) && ([0, 2, 3, 4, 5] : List Nat).any busy
  let lat : Option (Nat × Nat) :=
    match hashCore h with
    | none => none
    | some c => some (c, if op = 3 then (if c = 0 then 72 else 24) else if op = 4 then (if h.testBit 21 then 192 else 64)
                         else if op = 5 then (if h.testBit 21 then 240 else 80) else 0)
  let hazard : Bool := match lat with
    | some (c, l) => decide (op ≠ 0) && (busy c || (decide (0 < l) && decide (1 < times)))
    | none => false
  let output := fEn (nWb n) && decide ((imBase im (wbReg n a b)).region = 2)
  if output && k.commit.isNone then .inl 2
  else if hazard || drawBusy || (mCombine (nMask n) && k.commit.isNone) then .inl 4
  else
    let b1 := match lat with
      | some (c, l) => if 0 < l then SMap.set (fun _ => 0) c (k.cycle + l) k.busy else k.busy
      | none => k.busy
    .inr { k with cycle := k.cycle + times, busy := b1 }

/-- More than 100,000 issue cycles without a YIELD or COMMIT, or more than 256 after COMMIT. -/
def Walk.tooLong (k : Walk) : Verdict :=
  match k.commit with
  | some c => if 256 < k.cycle - c then 2 else 0
  | none => if 100000 < k.cycle - k.since then 4 else 0

/-- One word of the walk. -/
def Walk.step (im : Bytes) (k : Walk) : Verdict ⊕ Walk :=
  match plateWord im k.pc with
  | none => .inl 4
  | some w =>
    let n := etchWord im (wNano w)
    let i := wImm w
    let done (t : Walk) : Verdict ⊕ Walk := if t.tooLong = 0 then .inr t else .inl t.tooLong
    let after (r : Verdict ⊕ Walk) (f : Walk → Verdict ⊕ Walk) : Verdict ⊕ Walk := match r with | .inl v => .inl v | .inr t => f t
    match wSeq w with
    | 0 => after (k.nano im n (wA w) (wB w) 1) (fun t => done { t with pc := k.pc + 1, lcs := (condOf n k.lcs).2 })
    | 1 =>
      if k.commit.isSome then .inl 2
      else
        let c := condOf n k.lcs
        after (k.nano im n (wA w) (wB w) 1) (fun t => done { t with pc := if c.1 then branchTo k.pc i else k.pc + 1, lcs := c.2 })
    | 2 =>
      let times := if i = 0 then 256 else i
      after (k.nano im n (wA w) (wB w) times)
        (fun t => done { t with pc := k.pc + 1, lcs := (List.range times).foldl (fun l _ => (condOf n l).2) k.lcs })
    | _ =>
      if i = 1 then
        (if k.commit.isSome then .inl 2
         else after ({ k with commit := some k.cycle }.nano im n (wA w) (wB w) 1) (fun t => done { t with pc := k.pc + 1 }))
      else if i = 2 then
        after (k.nano im n (wA w) (wB w) 1) (fun t => if t.commit.isNone then .inl 2 else if t.tooLong = 0 then .inl 0 else .inl t.tooLong)
      else if i = 3 then
        (if k.commit.isSome then .inl 2
         else after (k.nano im n (wA w) (wB w) 1) (fun t => done { t with pc := k.pc + 1, since := t.cycle }))
      else if i = 4 then done { k with pc := k.pc + 1, cycle := k.cycle + 8 }
      else if 0x10 ≤ i ∧ i ≤ 0x13 then done { k with pc := k.pc + 1, cycle := k.cycle + 1, lcs := listSet k.lcs (i - 0x10) (wNano w) }
      else if i = 0x20 then (if k.commit.isSome then .inl 2 else done { k with pc := k.pc + 1, cycle := k.cycle + 1 })
      else if i = 0x30 then done { k with pc := k.pc + 1, cycle := k.cycle + wNano w + 1 }
      else .inl 4

/-- The whole path of an entry; one that does not end within the fuel has no END. -/
def Walk.run (im : Bytes) : Nat → Walk → Verdict
  | 0, _ => 2
  | fuel + 1, k => match k.step im with | .inl v => v | .inr t => Walk.run im fuel t

/-- The first DETAIL that R310 gives for the paths of the valid entries. -/
def pathsOk (im : Bytes) : Verdict :=
  ((List.range (imEntries im)).filter (fun e => (rd (imEntry im e) 2 1).testBit 0)).foldl (fun v e =>
    if v ≠ 0 then v
    else Walk.run im (2 ^ 60) { pc := rd (imEntry im e) 0 2, lcs := [0, 0, 0, 0], cycle := 0, since := 0, commit := none, busy := [] }) 0

end Sys2Proof.Machine
end

