-- ==== Sys2Proof/Machine/BurOps.lean ====
section
/-! DEFINITION. The burin array: picking, stealing, tokens asked, parking and counterproof, restarts, retirement and spares, the matrix
cache (R172 to R197, R204 to R208). -/

namespace Sys2Proof.Machine

open Sys2Proof

/-! ### Queues (R172, R173, R186, R197) -/

/-- Jobs that wait in dispatch for a pier queue with room, most urgent class first. -/
def State.fillQueues (s : State) : State :=
  ([0, 1, 2, 3] : List Nat).foldl (fun t c =>
    (t.jobs.filter (fun p => decide (p.2.burinPart = .dispatch) && decide (p.2.cls = c))).foldl (fun u p => u.queueBurin p.1) t) s

/-- A queued job can still be placed: a pier is enabled, two when it needs counterproof, and for a counterproof one besides the signer's. -/
def State.placeable (s : State) (x : Job) : Bool :=
  match x.origin with
  | .counterproof _ => !(s.piersFor x).isEmpty
  | _ => !s.piersOn.isEmpty && (!(needsCounterproof x.desc) || decide (2 ≤ s.piersOn.length))

/-- Jobs queued or waiting in dispatch after a pier stopped being enabled: moved, or ended with FUNCTION_DISABLED, a counterproof with
the job that it serves (R186, R197, R208). -/
def State.rehome (s : State) : State :=
  s.jobs.foldl (fun t p =>
    match t.job p.1 with
    | none => t
    | some x =>
      if x.burinPart ≠ .queued ∧ x.burinPart ≠ .dispatch then t
      else if !(t.placeable x) then
        (match x.origin with
        | .counterproof c => t.abandon c St.functionDisabled
        | _ => t.abandon p.1 St.functionDisabled)
      else if (x.pier.map (fun q => t.pierOn q && (decide (dOp x.desc = 0x0D02) || (t.piersFor x).contains q))).getD false then t
      else t.queueBurin p.1) s

/-! ### Picking (R174 to R176) -/

/-- CLASSc_MS of BUR_STARVE (R169). -/
def State.starveMs (s : State) (c : Nat) : Nat :=
  let w := s.reg Reg.burStarve
  if c = 1 then bits w 7 0 else if c = 2 then bits w 15 8 else if c = 3 then bits w 23 16 else 0

/-- A class and a tick of queueing make an aged request (R174, R717). -/
def State.aged (s : State) (cls since : Nat) : Bool :=
  let ms := s.starveMs cls
  decide (ms ≠ 0) && decide (ms * 100000 < s.time - since)

/-- A job of 1,000,000 cycles or more (R176). -/
def Job.long (x : Job) : Bool := decide (1000000 ≤ x.estimate)

/-- Long jobs that run in a pier. -/
def State.longRunning (s : State) (p : Nat) : Nat :=
  ((List.range 9).filter (fun b => ((s.burin p b).job.bind s.job).any Job.long)).length

/-- The pier may run the job now: its generator serves masked jobs, or the job needs no masks; its stores are whole; randomness is to be had
for a job that needs it, a lease with its subtree (R238, R241), and a workspace for a McEliece key generation (R203, R270, R284, R510). -/
def State.mayRun (s : State) (p : Nat) (x : Job) : Bool :=
  !((s.pier p).damaged) && ((s.pier p).stippleOk || !x.masked) && !(s.ent.noEntropy && x.random) && s.leaseReady x &&
    !(x.mceKeygen && decide (64 ≤ (s.jobs.filter (fun y => y.2.mceKeygen && decide (y.2.burinPart = .running))).length))

/-- A thief may take the victim's job (R188, R312). -/
def State.mayStealJob (s : State) (v thief : Nat) (x : Job) : Bool :=
  (match x.origin with | .counterproof c => decide ((s.job c).bind (·.pier) ≠ some thief) | _ => true) &&
    !(x.usesMatrix && s.holdsMatrix (dKey x.desc) x.boundKgen v && !(s.holdsMatrix (dKey x.desc) x.boundKgen thief)) &&
    !(decide (dOp x.desc = 0x0D02) && decide ((s.pier v).image ≠ (s.pier thief).image))

/-- Jobs of pier `v` that a burin of pier `p` may be given. -/
def State.offered (s : State) (v p : Nat) : List (Nat × Job) :=
  (s.pierQueue v).filter (fun x => s.mayRun p x.2 && (decide (v = p) || s.mayStealJob v p x.2))

/-- Jobs of a class, the long ones left out while LONG_MAX of them run in the pier and a shorter one waits (R176). -/
def State.classPool (s : State) (p c : Nat) (l : List (Nat × Job)) : List (Nat × Job) :=
  let cs := l.filter (fun x => decide (x.2.cls = c))
  if bits (s.reg Reg.burCtl) 27 24 ≤ s.longRunning p ∧ cs.any (fun x => !x.2.long) then cs.filter (fun x => !x.2.long) else cs

/-- Burin share weight of a VI (R175, R522). -/
def State.burinWeight (s : State) (v : Nat) : Nat := (s.vi v).quota.burinWeight

/-- Rule 3 of R174 in one class of pier `v`, for a burin of pier `p`: the job, and the victim's deficits and turn after it. -/
def State.pickClass (s : State) (v p c : Nat) (l : List (Nat × Job)) : Option (Nat × Pier) :=
  let cs := s.classPool p c l
  let y := s.pier v
  match cs.find? (fun x => x.2.origin.isCounterproof) with
  | some x => some (x.1, y)
  | none =>
    match drr s.burinWeight (c * 256) (SMap.get zeroDef c y.turn) y.deficits (oldestPerVi cs) with
    | none => none
    | some (j, d, turn) =>
      let left := (s.pierQueue v).filter (fun x => decide (x.1 ≠ j) && decide (x.2.cls = c))
      some (j, { y with deficits := loseDeficit (c * 256) left d turn, turn := SMap.set zeroDef c turn y.turn })

/-- The oldest of some jobs by tick of queueing. -/
def oldestJob (l : List (Nat × Job)) : Option Nat :=
  (l.foldl (fun (m : Option (Nat × Job)) x =>
    match m with
    | none => some x
    | some y => if x.2.queuedAt < y.2.queuedAt then some x else some y) none).map (·.1)

/-- Rules 2 and 3 of R174 for pier `v`'s queue and a burin of pier `p`. -/
def State.choose (s : State) (v p : Nat) : Option (Nat × Pier) :=
  let l := s.offered v p
  let aged := if (s.pier v).picks % 8 = 0 then oldestJob (l.filter (fun x => s.aged x.2.cls x.2.queuedAt)) else none
  match aged with
  | some j => some (j, s.pier v)
  | none => ([0, 1, 2, 3] : List Nat).findSome? (fun c => s.pickClass v p c l)

/-- The victim of a steal: the enabled pier of largest WORK_US, the lowest of equals (R187). -/
def State.victim (s : State) (p : Nat) : Option Nat :=
  let l := s.piersOn.filter (fun v => decide (v ≠ p))
  let worst := l.foldl (fun (m : Option Nat) v =>
    match m with
    | none => some v
    | some w => if s.workUs w < s.workUs v then some v else some w) none
  match worst with
  | none => none
  | some v =>
    let us := bits (s.reg Reg.burCtl) 15 0
    let queued := !(s.pierQueue v).isEmpty
    if (us = 0 ∧ queued) ∨ s.workUs p + us < s.workUs v ∨ (popCount 9 (s.pier v).onDuty < 8 ∧ queued) then some v else none

/-- A parked signer of the pier whose verdict has arrived (R174 rule 1). -/
def State.continuation (s : State) (p : Nat) : Option Nat :=
  ((s.pier p).park.find? (fun e => match s.job e.1 with
    | some x => decide (x.stage = .parked) && decide (x.verdict = some true)
    | none => false)).map (·.1)

/-- `take`: the burin holds the job and asks for a token; a continuation keeps its result (R174, R177, R194). -/
def State.take (s : State) (p b j : Nat) : State :=
  let s1 := s.modPier p (fun y => { y with picks := y.picks + 1 })
  let s2 := s1.modJob j (fun x =>
    { x with stage := if x.stage = .parked then .computed else .running, burinPart := if x.stage = .parked then x.burinPart else .running,
             pier := some p, head := false })
  (s2.modBurin p b (fun x => { x with state := .tokenWait, job := some j, issued := 0, micro := none })).ask 0 (burinUnit p b)

/-- An idle burin's pick (R174, R187 to R189). -/
def State.pick (s : State) (p b : Nat) : State :=
  match s.continuation p with
  | some j => s.take p b j
  | none =>
    if !(s.pierOn p) then s
    else match s.choose p p with
    | some (j, y) => (s.setPier p y).take p b j
    | none =>
      if !((s.reg Reg.burCtl).testBit 31) then s
      else match s.victim p with
      | none => s
      | some v =>
        match s.choose v p with
        | some (j, y) => (((s.setPier v y).bump (Reg.pier p 0x70)).bump (Reg.pier v 0x74)).take p b j
        | none => s

/-! ### Parking and counterproof (R191 to R196) -/

/-- Bytes of the park buffer in use (R166). -/
def Pier.parkBytes (y : Pier) : Nat := y.park.foldl (fun n e => n + e.2) 0

/-- Candidate bytes of a job: its signature, an impression's ML-DSA-87 part, a new key's check signature, or a stateful key's root
(R191, R193). -/
def Job.candidate (x : Job) : Nat :=
  let b := x.desc
  if dOp b = 0x0301 then (if Alg.isStateful (dAlg b) then Alg.pkLen (dAlg b) 0 (dP2 b) else Alg.sigLen (dAlg b) 0 0)
  else if dOp b = 0x0302 ∨ dOp b = 0x0304 then Alg.sigLen (dAlg b) 0 ((x.key.map KeyRec.setWord).getD 0)
  else Alg.sigLen 0x0203 0 0

/-- Estimate of a counterproof: a verification, by root recomputation for a stateful key generation (R191, R209). -/
def Job.proofEstimate (x : Job) : Nat :=
  let b := x.desc
  if dOp b / 256 = 7 then Alg.burinCycles 0x0203 2 else Alg.burinCycles (dAlg b) 2 + (if dOp b = 0x0301 then 0 else msgCycles (dLenIn b))

/-- The candidate has room in its pier's park buffer of 256 KiB (R193). -/
def State.parkRoom (s : State) (p : Nat) (x : Job) : Bool := decide ((s.pier p).parkBytes + x.candidate + 256 ≤ 262144)

/-- The counterproof of a parked job is queued in another pier, with its class, charged to its VI (R172, R175, R193). -/
def State.sendProof (s : State) (j : Nat) (x : Job) : State :=
  let y := { newJob x.vi x.ring (.counterproof j) x.desc x.gen with
             stage := .queued, engine := .burin, cls := x.cls, key := x.key, estimate := x.proofEstimate, queuedAt := s.time }
  let id := s.nextJob
  if (s.piersFor y).isEmpty then s.abandon j St.functionDisabled else (s.addJob y).queueBurin id

/-- Park the candidate of the job in a burin: its record goes to the park buffer, the burin is zeroised and freed, the counterproof is
dispatched (R193). -/
def State.parkJob (s : State) (p b j : Nat) (x : Job) : State :=
  let s1 := (s.modPier p (fun y => { y with park := y.park ++ [(j, x.candidate + 256)] })).bump (Reg.pier p 0x60)
  let s2 := s1.putJob j { x with stage := .parked, signer := burinUnit p b }
  (s2.idleBurin p b).sendProof j x

/-- A burin whose job has its candidate parks it, or waits in PARKING for room (R193). -/
def State.tryPark (s : State) (p b j : Nat) : State :=
  match s.job j with
  | none => s
  | some x => if s.parkRoom p x then s.parkJob p b j x else s.modBurin p b (fun y => { y with state := .parking })

/-- A job's burin result stands; one that needs counterproof goes to the park buffer (R191, R193). -/
def State.burinComputed (s : State) (j : Nat) (r : Result) : State :=
  let s1 := s.computed j r
  match s1.job j, s1.burinOf j with
  | some x, some (p, b) => if statusOk r.status && needsCounterproof x.desc then s1.tryPark p b j else s1
  | _, _ => s1

/-- Run the effect of a burin opcode whose result waits for COMMIT and END; a failing result ends the job. -/
def State.runBurin (s : State) (j op : Nat) (f : State → Job → State × Result) : State :=
  match s.startable j op with
  | some x =>
    let a := f s x
    if statusOk a.2.status then a.1.burinComputed j a.2 else a.1.finishJob j a.2 []
  | none => s.noteWait j op

/-! ### Restarts, retirement and spares (R181 to R186, R301) -/

/-- The burin part of a hybrid job stands again at its entry; the other part stays where it is (R280). -/
def State.restartBurinPart (s : State) (j : Nat) (x : Job) : State :=
  (((s.freeBurin j).unpark j).dropVerifiers j).putJob j
    { x with stage := .queued, burinPart := .queued, input := [], reading := none, inputDone := false, verdict := none, result := Result.empty,
             restarted := true, head := true }

/-- A restart from entry, counted in the pier that the job leaves (R167); a job of a pier that is not enabled moves. -/
def State.restartBurinJob (s : State) (j : Nat) (counted : Bool) : State :=
  match s.job j with
  | none => s
  | some x =>
    let s1 := if x.engine = .both then s.restartBurinPart j x else s.restartJob j
    let s2 := match x.pier with | some p => s1.bump (Reg.pier p 0x78) | none => s1
    (s2.modJob j (fun y => { y with restarts := if counted then y.restarts + 1 else y.restarts })).rehome

/-- The job of a burin ends with FAULT_CONTAINED: a third fault, or a fault after COMMIT; a counterproof's with its signer (R181, R182). -/
def State.faultEnds (s : State) (j : Nat) : State :=
  match s.job j with
  | none => s
  | some x =>
    match x.origin with
    | .counterproof c => (s.failJob c St.faultContained 0).leaveEngines c
    | _ => (s.failJob j St.faultContained 0).leaveEngines j

/-- A contained fault hits the job in a burin (R181, R182, R196). -/
def State.hitBurinJob (s : State) (p b : Nat) (counted : Bool) : State :=
  match (s.burin p b).job with
  | none => s
  | some j =>
    match s.job j with
    | none => s
    | some x =>
      if x.committed ∨ (s.burin p b).state = .postCommit then s.faultEnds j
      else if counted && decide (2 ≤ x.restarts) then s.faultEnds j
      else s.restartBurinJob j counted

/-- The pier lost its last burin on duty: its matrices go, parked jobs restart elsewhere, queued jobs move or end (R186, R194). -/
def State.pierLost (s : State) (p : Nat) : State :=
  let parked := (s.pier p).park.map (·.1)
  let s1 := s.modPier p (fun y => { y with matrix := [] })
  (parked.foldl (fun t j => if (t.job j).any (fun x => decide (x.stage = .parked)) then t.restartBurinJob j false else t) s1).rehome

/-- A spare of the pier is brought in: it asks for a token and enters SELFTEST (R184). -/
def State.bringSpare (s : State) (p : Nat) : State :=
  match (onesOf 9 (s.pier p).spare).find? (fun b => decide ((s.burin p b).state ≠ .selftest)) with
  | some b => (s.modBurin p b (fun x => { x with state := .selftest })).ask 0 (burinUnit p b)
  | none => if (s.pier p).onDuty = 0 then s.pierLost p else s

/-- Retire a burin: its job restarts, it is zeroised, its token released, and a spare is brought in for one on duty (R183, R184). -/
def State.retireBurin (s : State) (p b : Nat) (injected : Bool) : State :=
  let u := burinUnit p b
  let duty := (s.pier p).onDuty.testBit b
  let held := s.hitBurinJob p b true
  let s1 := (held.releaseToken 0 u).unask 0 u
  let s2 := s1.modPier p (fun y =>
    { y with onDuty := y.onDuty - bitAt b (y.onDuty.testBit b), spare := y.spare - bitAt b (y.spare.testBit b), retired := y.retired ||| 2 ^ b,
             burins := SMap.set burinDef b { SMap.get burinDef b y.burins with state := .retired, job := none, micro := none, issued := 0 } y.burins })
  let s3 := s2.noteRetired (repairWord uBurin u) injected
  if duty then (s3.bringSpare p).rehome else s3

/-- FAULTS of a burin counts one more, and retires it at 4 (R164, R183). -/
def State.countBurinFault (s : State) (p b : Nat) (injected : Bool) : State :=
  let s1 := s.modBurin p b (fun x => { x with faults := satAdd 8 x.faults 1 })
  if 4 ≤ (s1.burin p b).faults ∧ (s1.burin p b).state ≠ .retired then s1.retireBurin p b injected else s1

end Sys2Proof.Machine
end

