-- ==== Sys2Proof/Machine/Burin.lean ====
section
/-! DEFINITION. Meanings of the burin and microcode commands (chapters 4 and 7). -/

namespace Sys2Proof.Machine

open Sys2Proof

/-! ### Picking (R174, R187) -/

/-- BURIN_PICK: an idle burin on duty asks its pier for work. -/
def execBurinPick (p : Fin 8) (b : Fin 9) (s : State) : Host.Outcome State Fault Refusal :=
  .next (
    if s.clocked && decide ((s.burin p.val b.val).state = .idle) && (s.pier p.val).onDuty.testBit b.val then (s.fillQueues).pick p.val b.val
    else s)

/-! ### Words of a routine -/

/-- The stipple generator delivers `n` words: the next seed is asked for when 2^19 outputs remain, and at 2^20 without it the generator
stalls (R202, R508). -/
def State.useStipple (s : State) (p n : Nat) : State :=
  let y := s.pier p
  let used := y.stippleUsed + n
  let asks : Bool := decide (2 ^ 19 ≤ used) && !y.seedReady && !(s.ent.waiting.any (fun w => decide (w.2 = .stipple p)))
  let s1 := s.setPier p { y with stippleUsed := used, stippleStall := y.stippleStall || (decide (2 ^ 20 ≤ used) && !y.seedReady) }
  if asks then
    let s2 : State := { s1 with ent := { s1.ent with waiting := s1.ent.waiting ++ [(1, .stipple p)] } }
    if s.ent.noEntropy then s2.bump Reg.entWaits else s2
  else s1

/-- The burin computes: RUN or POST_COMMIT, its clock running. -/
def State.issuing (s : State) (p b : Nat) : Option (Nat × Job) :=
  if s.clocked ∧ ((s.burin p b).state = .run ∨ (s.burin p b).state = .postCommit) then
    match (s.burin p b).job with
    | some j => (s.job j).map (fun x => (j, x))
    | none => none
  else none

/-- The customer word that the burin issues next, if its special code is `code`. -/
def Micro.special (m : Micro) (code : Nat) : Option Nat :=
  match plateWord m.image m.pc with
  | some w => if wSeq w = 3 ∧ wImm w = code then some w else none
  | none => none

/-- A customer routine broke a rule of the share tags: the job ends with INVARIANT_FAIL, and no fault is counted (R288). -/
def State.invariantEnds (s : State) (j : Nat) : State := s.finishJob j (failWith St.invariantFail 0) []

/-- One issue of a nano-word with a customer word, then `f` on the routine's state; held while its stipple words are not to be had
(R161, R288, R292). -/
def State.issueNano (s : State) (p b j : Nat) (m : Micro) (n w : Nat) (f : Micro → Micro) : State :=
  let m0 := m.land
  let words := stippleWords n
  if 0 < words && ((s.pier p).stippleStall || !(s.pier p).stippleOk) then s
  else if m0.tagFault n (wA w) (wB w) then s.invariantEnds j
  else
    let t := if 0 < words then s.useStipple p words else s
    ({ t with frees := t.frees + issueFrees }).modBurin p b (fun x => { x with micro := some (f m0) })

/-- MICROWORD_ISSUE (R290 to R296): a word of SEQ 0 to 2 of a customer routine; a vendor routine, whose words the spec does not give,
issues one more word, which may be masked. -/
def execMicrowordIssue (p : Fin 8) (b : Fin 9) (s : State) : Host.Outcome State Fault Refusal :=
  .next (match s.issuing p.val b.val with
    | none => s
    | some (j, x) =>
      match (s.burin p.val b.val).micro with
      | some m =>
        (match plateWord m.image m.pc with
        | some w =>
          if wSeq w = 3 then s
          else s.issueNano p.val b.val j m (etchWord m.image (wNano w)) w (fun t => t.issue w s.frees)
        | none => s)
      | none =>
        if x.masked && (s.pier p.val).stippleStall then s
        else
          let t := if x.masked then (s.useStipple p.val (s.freeVal % 2)).nextFree else s
          t.modBurin p.val b.val (fun y => { y with issued := y.issued + 1 }))

/-- A special that issues its nano-word (R291): the routine's state one cycle and one word on. -/
def Micro.issueSpecial (m : Micro) (w free : Nat) : Micro :=
  let n := etchWord m.image (wNano w)
  { (m.nano n (wA w) (wB w) free) with pc := m.pc + 1, cycle := m.cycle + 1, lcs := (condOf n m.lcs).2 }

/-! ### COMMIT and END (R297 to R302) -/

/-- The job may issue COMMIT: its result stands, and its counterproof, where it needs one, has accepted it (R194). -/
def Job.mayCommit (x : Job) : Bool :=
  decide (x.stage = .computed) && statusOk x.result.status && (!(needsCounterproof x.desc) || decide (x.verdict = some true))

/-- What takes effect at COMMIT itself: a stateful index is consumed (R119, R242). -/
def State.applyAtCommit (s : State) (j : Nat) (x : Job) : State :=
  let now (e : Effect) : Bool := match e with | .useIndex _ _ => true | _ => false
  let s1 := (x.result.effects.filter now).foldl State.applyEffect s
  s1.putJob j { x with committed := x.result.newKeys.isEmpty,
                       result := { x.result with effects := x.result.effects.filter (fun e => !(now e)), counterproofed := needsCounterproof x.desc } }

/-- COMMIT: the abort-pending line is sampled; raised, the job is abandoned and the nano-word not issued (R67, R299). -/
def execCommit (p : Fin 8) (b : Fin 9) (s : State) : Host.Outcome State Fault Refusal :=
  let post (t : State) : State := t.modBurin p.val b.val (fun y => { y with state := .postCommit })
  .next (match s.issuing p.val b.val with
    | none => s
    | some (j, x) =>
      match (s.burin p.val b.val).micro with
      | some m =>
        (match m.special 1 with
        | none => s
        | some w =>
          match x.abortBy with
          | some st => s.abandon j st
          | none =>
            let t := s.issueNano p.val b.val j m (etchWord m.image (wNano w)) w (fun k => { (k.issueSpecial w s.frees) with committed := true })
            if (t.job j).any (fun y => decide (y.stage = .running)) && ((t.burin p.val b.val).micro.any (·.committed)) then
              post (t.modJob j (fun y => { y with committed := true }))
            else t)
      | none =>
        if !x.mayCommit || decide ((s.burin p.val b.val).state = .postCommit) then s
        else match x.abortBy with
          | some st => s.abandon j st
          | none => post (s.applyAtCommit j x))

/-- What the key-store writes of a result wait for (R67, R466). -/
def State.resultNeeds (s : State) (r : Result) : List Need := s.newNeeds r.newKeys

/-- END: the routine completes, its output is staged, the burin is zeroised (R302, R160). -/
def execEnd (p : Fin 8) (b : Fin 9) (s : State) : Host.Outcome State Fault Refusal :=
  .next (match s.issuing p.val b.val with
    | none => s
    | some (j, x) =>
      if (s.burin p.val b.val).state ≠ .postCommit then s
      else match (s.burin p.val b.val).micro with
        | some m =>
          (match m.special 2 with
          | none => s
          | some w =>
            let t := s.issueNano p.val b.val j m (etchWord m.image (wNano w)) w (fun k => k.issueSpecial w s.frees)
            match (t.burin p.val b.val).micro with
            | some k => if k.pc = m.pc then t else t.finishJob j (okWith 0 k.drain.output) []
            | none => t)
        | none => s.finishJob j x.result (s.resultNeeds x.result))

/-! ### The other specials (R291) -/

/-- YIELD: a pending abort is acted on; a recalled token is given back and asked for again (R179, R295, R300). -/
def State.yieldBurin (s : State) (p b j : Nat) (x : Job) : State :=
  match x.abortBy with
  | some st => s.abandon j st
  | none =>
    let u := burinUnit p b
    if s.recalledFrom 0 u then
      ((s.releaseToken 0 u).modBurin p b (fun y => { y with state := .yieldHold, since := s.time })).ask 0 u
    else s

def execYield (p : Fin 8) (b : Fin 9) (s : State) : Host.Outcome State Fault Refusal :=
  .next (match s.issuing p.val b.val with
    | none => s
    | some (j, x) =>
      if (s.burin p.val b.val).state = .postCommit then s
      else match (s.burin p.val b.val).micro with
        | some m =>
          (match m.special 3 with
          | none => s
          | some w =>
            let t := s.issueNano p.val b.val j m (etchWord m.image (wNano w)) w (fun k => k.issueSpecial w s.frees)
            if (t.burin p.val b.val).micro.any (fun k => decide (k.pc ≠ m.pc)) then t.yieldBurin p.val b.val j x else t)
        | none => (s.modBurin p.val b.val (fun y => { y with issued := y.issued + 1 })).yieldBurin p.val b.val j x)

/-- A control special of a customer routine, or one more word of a vendor routine; `f` is its effect on the routine. -/
def State.control (s : State) (p b : Nat) (code : Nat → Bool) (f : Micro → Nat → Micro) : State :=
  match s.issuing p b with
  | none => s
  | some _ =>
    match (s.burin p b).micro with
    | some m =>
      (match plateWord m.image m.pc with
      | some w => if wSeq w = 3 ∧ code (wImm w) then s.modBurin p b (fun y => { y with micro := some (f m.land w) }) else s
      | none => s)
    | none => s.modBurin p b (fun y => { y with issued := y.issued + 1 })

/-- The three shares of a shared row are written anew (R291). -/
def Micro.refresh (m : Micro) (w free : Nat) : Micro :=
  let n := etchWord m.image (wNano w)
  let wb := nWb n
  let rows := m.rows (wbReg n (wA w) (wB w)) wb
  let q := modulus m.image (nMod n)
  let v := splitVal q free (joinVal q (rows.map m.cell))
  let m1 := if fEn wb ∧ rows.length = 3 then
      (List.range 3).foldl (fun t k => t.setCell (rows.getD k 0) (v.getD k [])) m else m
  { m1 with pc := m.pc + 1, cycle := m.cycle + 8 }

/-- MASK_REFRESH: 8 stipple words; held while the generator stalls. -/
def execMaskRefresh (p : Fin 8) (b : Fin 9) (s : State) : Host.Outcome State Fault Refusal :=
  .next (
    if (s.pier p.val).stippleStall ∨ (s.issuing p.val b.val).isNone then s
    else
      let isRefresh : Bool := match (s.burin p.val b.val).micro with | some m => (m.special 4).isSome | none => true
      if isRefresh then ((s.control p.val b.val (· == 4) (fun m w => m.refresh w s.frees)).useStipple p.val 8).nextFree else s)

/-- SET_LC0 to SET_LC3: 0 stands for 1,024, the counter's modulus. -/
def execSetLc (p : Fin 8) (b : Fin 9) (s : State) : Host.Outcome State Fault Refusal :=
  .next (s.control p.val b.val (fun i => decide (0x10 ≤ i ∧ i ≤ 0x13))
    (fun m w => { m with lcs := listSet m.lcs (wImm w - 0x10) (wNano w), pc := m.pc + 1, cycle := m.cycle + 1 }))

/-- BASE_LOAD (R287). -/
def execBaseLoad (p : Fin 8) (b : Fin 9) (s : State) : Host.Outcome State Fault Refusal :=
  .next (s.control p.val b.val (· == 0x20)
    (fun m w => { m with bases := listSet m.bases (wA w) (imBase m.image (wNano w % 64)), pc := m.pc + 1, cycle := m.cycle + 1 }))

/-- WAIT: NANO + 1 cycles. -/
def execWait (p : Fin 8) (b : Fin 9) (s : State) : Host.Outcome State Fault Refusal :=
  .next (s.control p.val b.val (· == 0x30) (fun m w => { m with pc := m.pc + 1, cycle := m.cycle + wNano w + 1 }))

/-! ### Preemption, parking, verdicts (R180, R193 to R195) -/

/-- YIELD_HOLD_PREEMPTION: HOLD_US has passed; a more urgent job waits in the pier, and the job has not been preempted before. -/
def execYieldHoldPreemption (p : Fin 8) (b : Fin 9) (s : State) : Host.Outcome State Fault Refusal :=
  .next (match (s.burin p.val b.val).state, (s.burin p.val b.val).job with
    | .yieldHold, some j =>
      (match s.job j with
      | none => s
      | some x =>
        if x.preempted || x.committed || decide (s.reg Reg.burYieldHold = 0) || !((s.pierQueue p.val).any (fun y => decide (y.2.cls < x.cls))) then s
        else ((s.restartBurinJob j false).modJob j (fun y => { y with preempted := true })).bump (Reg.pier p.val 0x7C))
    | _, _ => s)

/-- PARK_BUFFER_ROOM: burins in PARKING park their candidates, as far as room reaches. -/
def execParkBufferRoom (p : Fin 8) (s : State) : Host.Outcome State Fault Refusal :=
  .next (if !s.clocked then s
    else (List.range 9).foldl (fun t b =>
      match (t.burin p.val b).state, (t.burin p.val b).job with
      | .parking, some j => t.tryPark p.val b j
      | _, _ => t) s)

/-- The verification of job `j` that runs in a burin with its input complete. -/
def State.proofOf (s : State) (j : Nat) : Option (Nat × Nat × Nat) :=
  s.jobs.findSome? (fun q =>
    if q.2.origin = .counterproof j ∧ q.2.inputDone then
      (match s.burinOf q.1 with
      | some (p, b) => if (s.burin p b).state = .run then some (q.1, p, b) else none
      | none => none)
    else none)

/-- A counterproof mismatch (R194, R195): the job ends, both burins count a fault, the mismatch is reported and waits for both targeted
tests. -/
def State.mismatch (s : State) (j signer verifier : Nat) (injected : Bool) : State :=
  let s1 := ((s.failJob j St.cpMismatch 0).unpark j).bump (Reg.pier (signer / 9) 0x68)
  let s2 := s1.reportAs { mkReport (src uBurin signer) 0x05 .contained with job := some j, injected := injected }
  let s3 := s2.testLater s2.fcl.seq [src uBurin signer, src uBurin verifier]
  (s3.countBurinFault (signer / 9) (signer % 9) injected).countBurinFault (verifier / 9) (verifier % 9) injected

/-- COUNTERPROOF_VERDICT on the parked job `j`. -/
def execCounterproofVerdict (j : Nat) (valid : Bool) (s : State) : Host.Outcome State Fault Refusal :=
  .next (
    if !s.clocked then s
    else match s.proofOf j, s.job j with
    | some (v, p, b), some x =>
      let s1 := ((s.idleBurin p b).delJob v).bump (Reg.pier p 0x64)
      if valid then s1.modJob j (fun y => { y with verdict := some true }) else s1.mismatch j x.signer (burinUnit p b) false
    | _, _ => s)

/-! ### Stipple generators (R202, R203) -/

/-- STIPPLE_RESEED: the seed is absorbed; after a first failure the known-answer test passes and the firmware acknowledges. -/
def execStippleReseed (p : Fin 8) (s : State) : Host.Outcome State Fault Refusal :=
  .next (
    let y := s.pier p.val
    if !y.seedReady then s
    else
      let heals := !y.stippleOk && decide (y.stippleFails ≤ 1)
      let s1 := (s.setPier p.val { y with seedReady := false, stippleStall := false, stippleUsed := 0, stippleSeeds := y.stippleSeeds + 1,
                                          stippleOk := y.stippleOk || heals }).bump (Reg.pier p.val 0x50)
      if heals then s1.ackSource (src uPier p.val) [0x06] else s1)

/-- A stipple generator fails: jobs of the pier that need masks restart in other piers (R203). -/
def State.stippleFails (s : State) (p : Nat) (injected : Bool) : State :=
  let y := s.pier p
  if !y.stippleOk then s
  else
    let s1 := (s.setPier p { y with stippleOk := false, stippleFails := y.stippleFails + 1 }).reportAs
      { mkReport (src uPier p) 0x06 .contained with injected := injected }
    let s2 : State := { s1 with ent := { s1.ent with waiting := s1.ent.waiting ++ [(1, .stipple p)] } }
    let s3 := (List.range 9).foldl (fun t b =>
      match (t.burin p b).job with
      | some j => if (t.job j).any (fun x => x.masked && decide (x.stage = .running)) then t.hitBurinJob p b true else t
      | none => t) s2
    s3.rehome

/-- STIPPLE_FAILURE: two equal words. -/
def execStippleFailure (p : Fin 8) (s : State) : Host.Outcome State Fault Refusal := .next (if s.clocked then s.stippleFails p.val false else s)

/-! ### Spares and stores (R184, R185, R284) -/

/-- The contained faults of the retired burins of a pier are acknowledged. -/
def State.ackRetired (s : State) (p : Nat) : State :=
  (onesOf 9 (s.pier p).retired).foldl (fun t b => t.ackSource (src uBurin (burinUnit p b)) [0x02, 0x06, 0x07]) s

/-- BURIN_SPARE_READY: the spare's self-test ended. -/
def execBurinSpareReady (p : Fin 8) (b : Fin 9) (passed : Bool) (s : State) : Host.Outcome State Fault Refusal :=
  .next (
    let u := burinUnit p.val b.val
    if (s.burin p.val b.val).state ≠ .selftest ∨ !(s.hasToken 0 u) then s
    else if passed then
      let s1 := (s.releaseToken 0 u).modPier p.val (fun y =>
        { y with onDuty := y.onDuty ||| 2 ^ b.val, spare := y.spare - bitAt b.val (y.spare.testBit b.val) })
      let s2 := (s1.modBurin p.val b.val (fun x => { x with state := .idle })).ackRetired p.val
      if (s2.reg Reg.burCtl).testBit 30 && !s2.fcl.uncommitted.isEmpty then s2.wantAct 4 else s2
    else
      let s1 := (s.report uBurin u 0x07).retireBurin p.val b.val false
      s1.bringSpare p.val)

/-- STORE_REWRITE: the damaged region is written again from its copy in HBM; the firmware acknowledges. -/
def execStoreRewrite (p : Fin 8) (good : Bool) (s : State) : Host.Outcome State Fault Refusal :=
  .next (
    let y := s.pier p.val
    if !y.damaged || !good then s
    else ((s.setPier p.val { y with damaged := false }).bump (Reg.pier p.val 0xA4)).ackSource (src uPier p.val) [0x02])

/-! ### Customer images (R303 to R314) -/

/-- The DETAIL of R310 for an image and its signatures, or 0. -/
def imageFault (b : Bytes) : Nat :=
  let im := b.take (256 + imBodyLen b)
  let sig := b.drop (256 + imBodyLen b)
  if !(headerOk b) then 3
  else if slice b 48 48 ≠ stdOut .hash 0x0A02 [[0], [], im.drop 256] 48 ∨ !(Config.stdCheck .imageSignature 1 [im.take 256, sig.take 4627, sig.drop 4627]) then 1
  else if !(staticOk im) then 4
  else pathsOk im

/-- The policy admits customer microcode of the image's SVN (R310, R473). -/
def State.ucodeAllowed (s : State) (b : Bytes) : Bool :=
  match s.csn.policy with
  | some p => (rd p 3 1).testBit 0 && decide (rd p 16 4 ≤ rd b 12 4)
  | none => false

/-- UCODE_LOAD (R154, R310, R311): verified in full, then written once no invocation is left in the named piers; a contained fault during
the write leaves their customer regions empty. -/
def execUcodeLoad (j : Nat) (sound : Bool) (s : State) : Host.Outcome State Fault Refusal :=
  .next (match s.startable j 0x0D01 with
    | none => s
    | some x =>
      let d := imageFault x.input
      if !(s.ucodeAllowed x.input) ∧ d ≠ 3 then s.finishJob j (failWith St.policy 0) []
      else if d ≠ 0 then s.finishJob j (failWith St.inputInvalid d) []
      else if sound then
        (s.finishJob j (okEff 0 [] [.ucode (dP0 x.desc) (x.input.take (256 + imBodyLen x.input))]) [.drain]).settleDrains
      else if s.drained j x then
        ((onesOf 8 (dP0 x.desc)).foldl (fun t p => t.modPier p (fun y => { y with image := none })) s).finishJob j (failWith St.faultContained 0) []
      else s)

/-- UCODE_INVOKE (R155, R307): the burin is set up; the routine's words follow. -/
def execUcodeInvoke (j : Nat) (s : State) : Host.Outcome State Fault Refusal :=
  .next (match s.startable j 0x0D02 with
    | none => s
    | some x =>
      match s.burinOf j with
      | none => s
      | some (p, b) =>
        match (s.burin p b).micro, (s.pier p).image with
        | none, some im =>
          let params := leBytes 8 (dP1 x.desc) ++ leBytes 4 (dP2 x.desc) ++ zeros 20
          let e := dP0 x.desc
          let r := imEntry im e
          let m := Micro.start im e x.input ((x.key.map (·.value)).getD []) params s.draws s.frees
          let t := (List.range (rd r 3 1)).foldl (fun u _ => u.nextDraw) { s with frees := s.frees + rd r 10 2 / 3 }
          t.modBurin p b (fun y => { y with micro := some m })
        | _, _ => s)

/-- The 64 B record of a pier (R314). -/
def State.ucodeRecord (s : State) (p : Nat) : Bytes :=
  match (s.pier p).image with
  | none => zeros 64
  | some im =>
    stdOut .hash 0x0A02 [[0], [], im] 48 ++ leBytes 4 (rd im 12 4) ++ leBytes 2 (imEntries im) ++
      [if s.bur.current = some im then 1 else 0, 0] ++ leBytes 8 (s.pier p).loadedAt

/-- UCODE_QUERY (R314). -/
def execUcodeQuery (j : Nat) (s : State) : Host.Outcome State Fault Refusal :=
  .next (s.runJob j 0x0D03 (fun t _ => (t, okWith 0 ((List.range 8).map t.ucodeRecord).flatten, [])))

/-- UCODE_LOAD_TIMEOUT: 100 ms have passed; invocations not yet decided are abandoned as by ABORT, and the load goes on (R98). -/
def execUcodeLoadTimeout (j : Nat) (s : State) : Host.Outcome State Fault Refusal :=
  .next (match s.job j with
    | none => s
    | some x =>
      if dOp x.desc ≠ 0x0D01 ∨ x.stage ≠ .waiting then s
      else
        let l := s.jobs.filter (fun q => decide (dOp q.2.desc = 0x0D02) && (q.2.pier.map (dP0 x.desc).testBit).getD false)
        (l.foldl (fun t q => t.requestAbort q.1 St.aborted) s).settleDrains)

end Sys2Proof.Machine
end

