-- ==== Sys2Proof/Machine/LcsCode.lean ====
section
/-! DEFINITION. The life-cycle code in OTP and its decoding (R603, R605, R606, R608, R610). -/

namespace Sys2Proof.Machine

open Sys2Proof

/-! ### OTP layout (R605, R606) -/

/-- Offset of byte `b` of state copy `c` (R605). -/
def stateAt (c b : Nat) : Nat := 8 * c + b

/-- Offset of intent slot `k`. -/
def intentAt (k : Nat) : Nat := 0x20 + 8 * k

/-- Intent slots with no bit set. -/
def State.freeIntents (s : State) : List Nat := (List.range 8).filter (fun k => (s.otpBytes (intentAt k) 8).all (fun b => decide (b = 0)))

/-- CRC-16 of an intent slot (R606). -/
def crc16 (bs : Bytes) : Nat :=
  bs.foldl (fun c b => (List.range 8).foldl (fun x _ => if x.testBit 15 then (x * 2 % 65536) ^^^ 0x1021 else x * 2 % 65536) (c ^^^ (b.toNat * 256))) 0xFFFF

/-- The bitwise OR of the three copies (R610). -/
def State.orCopies (s : State) : Bytes := (List.range 5).map (fun b => s.otp (stateAt 0 b) ||| s.otp (stateAt 1 b) ||| s.otp (stateAt 2 b))

/-! ### Codes (R603) -/

/-- The state that a code names: B0 first. -/
def codeState (c : Bytes) : Option LState :=
  if c.getD 4 0 = 0xFF then some .cancelled
  else if c = [0, 0, 0, 0, 0] then some .blank
  else if c = [0xFF, 0, 0, 0, 0] then some .trial
  else if c = [0xFF, 0xFF, 0, 0, 0] then some .proof
  else if c = [0xFF, 0xFF, 0xFF, 0, 0] then some .edition
  else if c = [0xFF, 0xFF, 0, 0xFF, 0] ∨ c = [0xFF, 0xFF, 0xFF, 0xFF, 0] then some .restrike
  else none

/-- Every byte is 0x00 or 0xFF. -/
def wholeBytes (c : Bytes) : Bool := c.all (fun b => decide (b = 0 ∨ b = 0xFF))

/-- State copy `k` (R605). -/
def State.copy (s : State) (k : Nat) : Bytes := s.otpBytes (stateAt k 0) 5

/-- The bitwise majority of the three copies: CODE is the voted code (R147). -/
def State.votedCode (s : State) : Bytes :=
  (List.range 5).map (fun b =>
    let x := s.otp (stateAt 0 b)
    let y := s.otp (stateAt 1 b)
    let z := s.otp (stateAt 2 b)
    (x &&& y) ||| (x &&& z) ||| (y &&& z))

/-- The target of the latest intent when it is valid (R608 rule 2). -/
def State.latestIntent (s : State) : Option Bytes :=
  match ((List.range 8).filter (fun k => (s.otpBytes (intentAt k) 8).any (fun b => decide (b ≠ 0)))).getLast? with
  | none => none
  | some k =>
    let c := s.otpBytes (intentAt k) 5
    if rd (s.otpBytes (intentAt k + 5) 2) 0 2 = crc16 c ∧ wholeBytes c ∧ (codeState c).isSome then some c else none

/-- No bit of the copy lies outside the target. -/
def consistent (copy target : Bytes) : Bool := decide (List.zipWith (· ||| ·) copy target = target)

/-- What R608 decodes. -/
inductive Decoded where
  | is (l : LState)
  | forward (target : Bytes)
  | unexplained
  deriving DecidableEq, Repr

/-- Copies equal to a code. -/
def State.copiesAt (s : State) (c : Bytes) : Nat := (([0, 1, 2] : List Nat).filter (fun k => decide (s.copy k = c))).length

/-- The rules of R608 in order. -/
def State.decodeCode (s : State) : Decoded :=
  let copies := ([0, 1, 2] : List Nat).map s.copy
  if 2 ≤ (copies.filter (fun c => decide (c.getD 4 0 = 0xFF))).length then .is .cancelled
  else match s.latestIntent with
    | some t =>
      if copies.all (fun c => decide (c = t)) then
        (match codeState t with | some l => .is l | none => .unexplained)
      else if copies.all (fun c => consistent c t) then .forward t
      else .unexplained
    | none =>
      if copies.any (fun c => decide (c.getD 4 0 ≠ 0)) then .unexplained
      else
        let votes := (copies.filter wholeBytes).filterMap codeState
        match votes.find? (fun l => decide (2 ≤ (votes.filter (fun m => decide (m = l))).length)) with
        | some l => .is l
        | none => .unexplained

/-- The state that the OTP array decodes to now; an unexplained code behaves as CANCELLED (R608, R610). -/
def State.otpState (s : State) : LState :=
  match s.decodeCode with
  | .is l => l
  | .forward t => (codeState t).getD .cancelled
  | .unexplained => .cancelled

/-- The state that caps Crosshatch responses (R646): the decoded one, or before the ROM has decoded it what the array holds. -/
def State.cappingState (s : State) : LState :=
  match s.glb.dev with
  | .off => s.otpState
  | .islandOnly => s.otpState
  | .reset => s.otpState
  | .romBoot => s.otpState
  | _ => s.lcs.shown

end Sys2Proof.Machine
end

