-- ==== Sys2Proof/Machine/XhOps.lean ====
section
/-! DEFINITION. Crosshatch: sources and their configuration, event filters, decisions, responses, the alarm log and deferred records
(R637 to R658). -/

namespace Sys2Proof.Machine

open Sys2Proof

/-! ### Sources (R637, R664) -/

/-- N, W, RESP and FIXED of a source after a main power-up or, on the island, after VBAT is applied. RESP of the decision split reads
HALT, the least that R651 carries out (assumption log 27). -/
def xhSource (id : Nat) : Option (Nat × Nat × Nat × Bool) :=
  if 1 ≤ id ∧ id ≤ 8 then some (1, 1, 4, false)
  else if 0x10 ≤ id ∧ id ≤ 0x13 then some (2, 10, 2, false)
  else if id = 0x18 ∨ id = 0x19 then some (1, 1, 2, false)
  else if id = 0x1C then some (1, 100, 3, false)
  else if id = 0x1D then some (1, 100, 2, false)
  else if 0x20 ≤ id ∧ id ≤ 0x27 then some (1, 1, 4, false)
  else if 0x30 ≤ id ∧ id ≤ 0x37 then some (4, 1, 2, false)
  else if id = 0x38 then some (1, 1, 4, false)
  else if id = 0x3E ∨ id = 0x3F then some (1, 1, 2, true)
  else if 0x40 ≤ id ∧ id ≤ 0x43 then some (2, 2000, 4, false)
  else if id = 0x44 then some (1, 100, 4, false)
  else if 0x45 ≤ id ∧ id ≤ 0x47 then some (1, 100, 1, false)
  else none

/-- An island source. -/
def onIsland (id : Nat) : Bool := decide (0x40 ≤ id)

/-- Every source ID. -/
def xhIds : List Nat := (List.range 0x48).filter (fun i => (xhSource i).isSome)

/-- The configuration word of R664. -/
def cfgWord (n w resp : Nat) (fixed : Bool) : Nat := w * 65536 + n * 256 + bitAt 3 fixed + resp

def xhDefault (id : Nat) : Nat :=
  match xhSource id with
  | some (n, w, r, f) => cfgWord n w r f
  | none => 0

/-- The configuration that the decision unit A holds. -/
def State.xhCfg (s : State) (id : Nat) : Nat :=
  ((KMap.get id (if onIsland id then s.island.cfg else s.xh.cfgA)).map BitVec.toNat).getD (xhDefault id)

/-- The copy of the decision unit B (R650); an island source has one register (R666). -/
def State.xhCfgB (s : State) (id : Nat) : Nat :=
  ((KMap.get id (if onIsland id then s.island.cfg else s.xh.cfgB)).map BitVec.toNat).getD (xhDefault id)

/-- Write the configuration word of a source into both copies. -/
def State.setXhCfg (s : State) (id w : Nat) : State :=
  let v := BitVec.ofNat 32 w
  if onIsland id then { s with island := { s.island with cfg := KMap.put id v s.island.cfg } }
  else { s with xh := { s.xh with cfgA := KMap.put id v s.xh.cfgA, cfgB := KMap.put id v s.xh.cfgB } }

/-! ### Filters (R641) -/

def xhSrcDef (_ : Nat) : XhSrc := XhSrc.reset

def State.xhSrc (s : State) (id : Nat) : XhSrc := SMap.get xhSrcDef id (if onIsland id then s.island.srcs else s.xh.srcs)

def State.setXhSrc (s : State) (id : Nat) (x : XhSrc) : State :=
  if onIsland id then { s with island := { s.island with srcs := SMap.set xhSrcDef id x s.island.srcs } }
  else { s with xh := { s.xh with srcs := SMap.set xhSrcDef id x s.xh.srcs } }

/-- Window of a source in its own ticks: CLK_SLOW ticks, or island ticks rounded up (R641). -/
def windowTicks (id w : Nat) : Nat := if onIsland id then (w * 10 * 32768 + 999999) / 1000000 else w * 1000

/-- The clock that a source's window runs on. -/
def State.xhNow (s : State) (id : Nat) : Nat := if onIsland id then s.island.ticks else s.time

/-- One event into the filter of a source: the filter after it, and the hit when it fires. -/
def State.xhFilter (s : State) (h : XhHit) : XhSrc × Option XhHit :=
  let id := h.source
  let x := s.xhSrc id
  let cfg := s.xhCfg id
  let now := s.xhNow id
  let y := if x.count = 0 ∨ windowTicks id (bits cfg 31 16) ≤ now - x.start then { x with start := now, count := 0, detA := false, detB := false } else x
  let z := { y with count := y.count + 1, events := satAdd 16 y.events 1, detA := y.detA || h.detA, detB := y.detB || h.detB }
  if bits cfg 15 8 ≤ z.count then ({ z with count := 0, fired := satAdd 8 z.fired 1 }, some { h with detA := z.detA, detB := z.detB })
  else (z, none)

/-- A source has an event counted in its current window (R645, R653). -/
def State.xhCounting (s : State) (id : Nat) : Bool :=
  let x := s.xhSrc id
  decide (x.count ≠ 0) && decide (s.xhNow id - x.start < windowTicks id (bits (s.xhCfg id) 31 16))

/-- No source has an event counted in its current window. -/
def State.xhQuiet (s : State) : Bool := xhIds.all (fun id => !(s.xhCounting id))

/-! ### The alarm log and the deferred record (R655, R658) -/

/-- Main power is present. -/
def State.mainPower (s : State) : Bool := decide (s.glb.dev ≠ .off) && decide (s.glb.dev ≠ .islandOnly)

/-- Write an entry of 16 B into the ring of 64. -/
def State.alarmLog (s : State) (sec sub source flags tick : Nat) : State :=
  let i := s.island
  let e := leBytes 4 sec ++ leBytes 2 sub ++ [BitVec.ofNat 8 source, BitVec.ofNat 8 flags] ++ leBytes 8 tick
  { s with island := { i with log := KMap.put i.next e i.log, next := (i.next + 1) % 64,
                              wraps := if i.next = 63 then satAdd 16 i.wraps 1 else i.wraps } }

/-- LFLAGS of a decision. -/
def hitFlags (h : XhHit) (resp : Nat) (deferred alone : Bool) : Nat :=
  resp + bitAt 3 deferred + bitAt 4 alone + bitAt 5 h.detA + bitAt 6 h.detB + bitAt 7 h.injected

/-- Log one source of a decision with main power present. -/
def State.logHit (s : State) (h : XhHit) (resp : Nat) : State :=
  s.alarmLog s.island.rtcSec s.island.rtcSub h.source (hitFlags h resp false false) s.time

/-- Defer a response (R658): a later deferral replaces the record only when it is more severe. -/
def State.defer (s : State) (sev source : Nat) : State :=
  let keep : Bool := match s.island.deferred with | some d => decide (sev ≤ d.sev) | none => false
  if keep then s
  else { s with island := { s.island with deferred := some { sev := sev, source := source, rtcSec := s.island.rtcSec, rtcSub := s.island.rtcSub, ran := false } } }

/-! ### Burning to CANCELLED (R613, R615, R631) -/

/-- Burn an intent into the lowest free slot: five target bytes and the CRC; none when no slot is free. -/
def State.intentSteps (s : State) (code : Bytes) : List BurnStep :=
  match s.freeIntents with
  | [] => []
  | k :: _ => (List.range 7).map (fun i => .byte (intentAt k + i) ((code ++ leBytes 2 (crc16 code)).getD i 0))

/-- One byte of the code in each copy. -/
def copySteps (b : Nat) : List BurnStep := [.byte (stateAt 0 b) 0xFF, .byte (stateAt 1 b) 0xFF, .byte (stateAt 2 b) 0xFF]

/-- The code that a cancellation from the present state burns: B4 set in it (R613). -/
def State.cancelCode (s : State) : Bytes := (if s.lcs.explained then s.lcs.code else s.orCopies).take 4 ++ [0xFF]

/-- The steps of the row Any → CANCELLED. -/
def State.cancelSteps (s : State) : List BurnStep := s.intentSteps s.cancelCode ++ [.cancelKeys] ++ copySteps 4

/-- The byte in progress of a running burn finishes, and its job ends with STATE (R631). -/
def State.cutBurnForAlarm (s : State) : State :=
  match s.lcs.burn with
  | none => s
  | some b =>
    let s1 := match b.draining, b.steps with
      | false, .byte a v :: _ => s.setOtp a (s.otp a ||| v)
      | _, _ => s
    let s2 := { s1 with lcs := { s1.lcs with burn := none } }
    match b.asker with
    | .job j => (s2.failJob j St.state s2.glb.dev.code).settle j
    | _ => s2

/-- A Crosshatch CANCEL: the deferred record stands before the burn starts (R657), then the burn (R631). -/
def State.startCancel (s : State) (source : Nat) : State :=
  let s1 := s.defer 5 source
  { s1 with lcs := { s1.lcs with burn := some { target := .cancelled, code := s1.cancelCode, asker := .crosshatch, steps := s1.cancelSteps,
                                                draining := false },
                                 challenge := none, debugOpen := false } }

/-! ### Responses (R642 to R649) -/

/-- A HALT that reaches a life-cycle job before its burn ends it with STATE (R649). -/
def State.haltLcs (s : State) : State :=
  match s.lcs.burn with
  | some b =>
    if b.draining then
      let s1 := { s with lcs := { s.lcs with burn := none } }
      match b.asker with
      | .job j => (s1.failJob j St.state s1.glb.dev.code).settle j
      | _ => { s1 with lcs := { s1.lcs with reqResult := 2 } }
    else s
  | none => s

/-- The response that a decision carries out: WARN at most in BLANK, TRIAL and CANCELLED (R646). -/
def State.capped (s : State) (resp : Nat) : Nat :=
  let l := s.cappingState
  if l = .blank ∨ l = .trial ∨ l = .cancelled then Nat.min resp 1 else resp

/-- NOTE: one fault-log entry per source (R642, R674); the spec gives these entries no CAUSE, and they carry 0 (assumption log 28). -/
def State.noteHits (s : State) (hits : List XhHit) : State :=
  hits.foldl (fun t h => t.reportAs { t.reportOf uXh h.source 0 .corrected with injected := h.injected }) s

/-- Carry out a response for the sources of one decision, every action up to its severity (R642, R647). The more severe response of an
earlier decision stands (R648). -/
def State.respond (s : State) (hits : List XhHit) (resp : Nat) : State :=
  let last := (hits.getLast?.map (·.source)).getD 0
  let logged := hits.foldl (fun t h => if 2 ≤ resp ∨ onIsland h.source then t.logHit h resp else t) (s.noteHits hits)
  let s0 : State := { logged with xh := { logged.xh with lastSource := last, latched := Nat.max logged.xh.latched resp } }
  let s1 : State := if 1 ≤ resp then ({ s0 with xh := { s0.xh with warn := true } }).emit (.pfInterrupt 1) else s0
  let s2 : State :=
    if 2 ≤ resp ∧ s1.mainPower ∧ s1.glb.dev ≠ .falsework then
      let t := (s1.haltLcs).enterHalted s1.glb.dev
      { t with xh := { t.xh with halted := true, haltBy := t.xh.haltBy ++ hits.map (·.source) } }
    else s1
  let s3 : State := if 4 ≤ resp then s2.cutBurnForAlarm else s2
  let s4 : State := if 3 ≤ resp then (let t := s3.purge 5; { t with xh := { t.xh with alarm := true } }) else s3
  let s5 : State := if 4 ≤ resp then (let t := s4.clearBbram; { t with island := { t.island with erased := true } }) else s4
  (if 5 ≤ resp then s5.startCancel last else s5).settlePower

/-- The filter of a source fires (R641, R647, R650): responses below HALT are carried out at once, those of HALT and above wait for the
second decision unit together with any decision already waiting. -/
def State.fire (s : State) (h : XhHit) : State :=
  let cfg := bits (s.xhCfg h.source) 2 0
  let soft := h.injected && decide (s.cappingState ≠ .blank) && decide (s.cappingState ≠ .trial)
  let resp := if soft then 0 else s.capped cfg
  if resp < 2 then s.respond [h] resp
  else
    let p := match s.xh.pending with
      | some q => { hits := q.hits ++ [h], resp := Nat.max q.resp resp : XhPending }
      | none => { hits := [h], resp := resp : XhPending }
    { s with xh := { s.xh with pending := some p, lastSource := h.source } }

/-- One event of a source with main power present: the filter counts it, and fires at N. -/
def State.xhEvent (s : State) (h : XhHit) : State :=
  let f := s.xhFilter h
  let s1 := s.setXhSrc h.source f.1
  match f.2 with
  | some k => s1.fire k
  | none => s1

/-- The decision units disagree (R651): logged as source 0x3F, at least HALT, and a FATAL fault; the more severe response goes on. -/
def State.splitDecision (s : State) (hits : List XhHit) (resp : Nat) : State :=
  let h : XhHit := { source := 0x3F, detA := false, detB := false, injected := false }
  let s1 : State := ({ s with xh := { s.xh with pending := none } }.bump Reg.xhDecisionSplit).respond (hits ++ [h]) 2
  let s2 := s1.reportAs (mkReport (src uXh 0x3F) 0x0F .fatal)
  let s3 := { s2 with xh := { s2.xh with latched := Nat.max s2.xh.latched (Nat.max resp 3), alarm := true } }
  let s4 : State := if 4 ≤ resp then (let t := s3.cutBurnForAlarm.clearBbram; { t with island := { t.island with erased := true } }) else s3
  (if 5 ≤ resp then s4.startCancel ((hits.getLast?.map (·.source)).getD 0x3F) else s4).settlePower

end Sys2Proof.Machine
end

