-- ==== Sys2Proof/Machine/LcsOps.lean ====
section
/-! DEFINITION. The life cycle: decoding of the state code, burn steps, the end of a transition, transition requests
(R603 to R619, R625). -/

namespace Sys2Proof.Machine

open Sys2Proof

/-- The life-cycle state is `l`, for firmware and keys as well as for the test port. -/
def State.enterLstate (s : State) (l : LState) : State :=
  { s with lcs := { s.lcs with lstate := l, shown := l, code := s.votedCode, explained := true } }

/-- R610: the unexplained code has the behaviour of CANCELLED. -/
def State.enterUnexplained (s : State) : State :=
  { s with lcs := { s.lcs with lstate := .cancelled, shown := .cancelled, code := s.orCopies, explained := false } }

/-! ### Actions of the burn order (R469, R471, R613) -/

/-- The next bit of the shelf epoch, as an OTP byte address and value; none when all 128 are burned (R469). -/
def State.nextEpochBit (s : State) : Option (Nat × Byte) :=
  ((List.range 128).find? (fun i => !((s.otp (shelfEpochAt + i / 8)).getLsbD (i % 8)))).map
    (fun i => (shelfEpochAt + i / 8, BitVec.ofNat 8 (2 ^ (i % 8))))

/-- Steps 2 to 4 of R469: a new shelf secret, BBRAM at version 0. No record of the lease log has a MAC under the new secret (R247). -/
def State.newBbram (s : State) : State :=
  let stale (b : LeaseBlock) : LeaseBlock := { b with blockSeq := none, recs := [] }
  ({ s with csn := { s.csn with bbramOk := true, bbramNew := true, shelfSecret := drawBytes s.draws 32, shelfVersion := 0, leaseSeq := 0,
                                migSeq := 0, leaseLog := s.csn.leaseLog.map stale, logSeq := 0 } }).nextDraw

/-- The R469 actions of a transition to RESTRIKE and the zeroisation of R471: identity keys alone stay, the shelf is revoked and its
public owner records are, to be erased in the background. -/
def State.restrikeKeys (s : State) : State :=
  let revoke (r : ShelfRec) : ShelfRec := if r.pub = 1 ∨ r.pub = 2 then { r with pub := 9 } else r
  let s1 := s.newBbram
  { s1 with csn := { s1.csn with keys := s1.csn.keys.filter (fun p => decide (p.1 = 1 ∨ p.1 = 2)), policy := none, officers := [],
                                 shelf := s1.csn.shelf.map revoke },
            cus := { s1.cus with shares := [], splitSeq := 0 } }

/-- Key SRAM zeroised and BBRAM cleared, as R471 gives for CANCEL. -/
def State.cancelKeys (s : State) : State := (s.zeroiseKeys).clearBbram

/-- The steps that stand before the next byte. -/
def State.runActions (s : State) : List BurnStep → State × List BurnStep
  | .restrikeKeys :: r => (s.restrikeKeys).runActions r
  | .cancelKeys :: r => (s.cancelKeys).runActions r
  | l => (s, l)

/-! ### The end of a transition (R616, R619, R625) -/

/-- The session and counter tables are zeroised, no event is written, and the pairing ends (R625). -/
def State.clearCrossed (s : State) : State :=
  let s1 := s.dropPair
  { s1 with cwy := { s1.cwy with sessions := [], recs := [], hs := [], hot := [], granted := [], scrub := [] },
            lne := { s1.lne with queue := s1.lne.queue.filter (fun w => !w.isRec) },
            lpt := { s1.lpt with ports := SMap.mapAll portDef (fun _ p => { p with hold := [] }) s1.lpt.ports, intake := [] } }

/-- The rings of every VI are zeroised (R625). -/
def State.clearRings (s : State) : State := { s with rings := [], replies := [] }

/-- What follows a transition once its reply is written, or at once where none is owed. -/
def State.afterCrossing (s : State) (a : AfterReply) : State :=
  match a with
  | .falsework c => if s.glb.dev = .falsework then s else s.enterFalsework c
  | .restruck => s.clearRings
  | .cancelled => (s.enterFalsework 1).clearRings

/-- The end of the job or request that asked for a burn. -/
def State.answerBurn (s : State) (b : Burn) (ok : Bool) : State :=
  match b.asker with
  | .job j => if ok then s.popNeed j .burn else s.failJob j St.faultContained 0
  | .testPort => { s with lcs := { s.lcs with reqResult := if ok then 3 else 2 } }
  | .crosshatch => s

/-- The transition has taken effect (R616). -/
def State.crossed (s : State) (b : Burn) : State :=
  let s0 : State := { s with lcs := { s.lcs with burn := none, challenge := none, half := 0 } }
  match b.target with
  | .trial => ({ s0 with lcs := { s0.lcs with shown := .trial, code := s0.votedCode } }).answerBurn b true
  | .proof => ({ s0 with lcs := { s0.lcs with shown := .proof, code := s0.votedCode } }).answerBurn b true
  | .restrike => ((s0.enterLstate .restrike).clearCrossed).answerBurn b true
  | .cancelled =>
    let s1 := ((s0.enterLstate .cancelled).clearCrossed).answerBurn b true
    (match b.asker with
    | .job _ => s1
    | .testPort => s1.afterCrossing .cancelled
    | .crosshatch =>
      let s2 := (s1.enterFalsework 5).clearRings
      { s2 with island := { s2.island with deferred := none } })
  | l => (s0.enterLstate l).answerBurn b true

/-- The burn ended with fewer than two copies at the target: the device continues under the state that R608 decodes (R619). The LCS
reports the burn failure (R669). -/
def State.crossFailed (s : State) (b : Burn) : State :=
  let s0 := ({ s with lcs := { s.lcs with burn := none, challenge := none, half := 0 } }).answerBurn b false
  let s1 := s0.report uLcs 0 0x0D
  let cause := if b.asker = .crosshatch then 5 else 1
  match s1.decodeCode with
  | .is .cancelled => (s1.enterLstate .cancelled).enterFalsework cause
  | .is _ => { s1 with lcs := { s1.lcs with code := s1.votedCode } }
  | _ => (s1.enterUnexplained).enterFalsework cause

/-- Go on with a burn whose steps are `l`. -/
def State.goOn (s : State) (b : Burn) (l : List BurnStep) : State :=
  let a := s.runActions l
  let b1 := { b with steps := a.2, draining := false }
  (if a.2.isEmpty then (if 2 ≤ a.1.copiesAt b.code then a.1.crossed b1 else a.1.crossFailed b1)
  else { a.1 with lcs := { a.1.lcs with burn := some b1 } }).settlePower

/-! ### Requests (R613 to R618) -/

/-- The owner anchor digest (R472). -/
def State.anchorDigest (s : State) : Option Bytes :=
  match KMap.get 4 s.csn.keys, KMap.get 5 s.csn.keys with
  | some a, some b => some (stdOut .hash 0x0A02 [[0], [], a.pub ++ b.pub] 48)
  | _, _ => none

def anchorAt (k : Nat) : Nat := 0xE0 + 64 * k

/-- Steps that burn the anchor digest (R614): none where a slot holds it; no answer where no slot can take it. -/
def State.anchorSteps (s : State) : Option (List BurnStep) :=
  match s.anchorDigest with
  | none => none
  | some d =>
    let rec52 := d ++ leBytes 4 (crc32c d)
    if ([0, 1] : List Nat).any (fun k => decide (s.otpBytes (anchorAt k) 52 = rec52)) then some []
    else
      (([0, 1] : List Nat).find? (fun k => (s.otpBytes (anchorAt k) 64).all (fun b => decide (b = 0)))).map
        (fun k => (List.range 52).map (fun i => .byte (anchorAt k + i) (rec52.getD i 0)))

/-- The burn of a plain-write transition to a target code, or none where R618 refuses it. -/
def State.planBurn (s : State) (target : Bytes) : Option (LState × Bytes × List BurnStep) :=
  let free := !s.freeIntents.isEmpty
  if target = [0, 0, 0, 0, 0xFF] then
    (if s.lcs.shown = .cancelled then none else some (.cancelled, s.cancelCode, s.cancelSteps))
  else if !free then none
  else match s.lcs.shown, codeState target with
    | .blank, some .trial =>
      if (s.otpBytes 0x60 16).all (fun b => decide (b = 0)) then none else some (.trial, target, s.intentSteps target ++ copySteps 0)
    | .trial, some .proof => some (.proof, target, s.intentSteps target ++ copySteps 1)
    | .proof, some .edition =>
      if s.csn.policy.isNone ∨ s.debugCode = 2 then none
      else s.anchorSteps.map (fun a => (.edition, target, a ++ s.intentSteps target ++ copySteps 2))
    | _, _ => none

/-- The code that a RESTRIKE permit asks for (R621). -/
def restrikeCode (c : Bytes) : Bytes := listSet c 3 0xFF

/-- The steps of a transition to RESTRIKE (R613). -/
def State.restrikeSteps (s : State) : List BurnStep :=
  s.intentSteps (restrikeCode s.lcs.code) ++ (match s.nextEpochBit with | some (a, v) => [.byte a v] | none => []) ++ [.restrikeKeys] ++ copySteps 3

/-- A transition starts: it drains first for RESTRIKE and CANCELLED (R625), ends the challenge (R622) and, for CANCELLED, closes debug
(R626). -/
def State.startBurn (s : State) (l : LState) (code : Bytes) (steps : List BurnStep) (asker : BurnFor) : State :=
  let drains := decide (l = .restrike ∨ l = .cancelled)
  let b : Burn := { target := l, code := code, asker := asker, steps := steps, draining := drains }
  let s1 : State := { s with lcs := { s.lcs with challenge := none, half := 0, debugOpen := s.lcs.debugOpen && decide (l ≠ .cancelled) } }
  if drains then ({ s1 with lcs := { s1.lcs with burn := some b } }).settlePower else s1.goOn b steps

/-- Jobs in flight that a drain waits for: all but those of group 0x09 from VI 0 (R625). -/
def State.drainedJobs (s : State) : List Nat :=
  (s.jobs.filter (fun p => decide (p.2.origin = .host) && decide (p.2.stage ≠ .ready) && !(decide (p.2.vi = 0) && decide (dOp p.2.desc / 256 = 9)))).map (·.1)

/-! ### Burning a byte (R607) -/

/-- One OTP byte: the bits that the first pulse set, a second pulse when one is missing, and a burn failure when it is still short. -/
def State.burnByte (s : State) (a : Nat) (v readBack second : Byte) : State :=
  let one := s.otp a ||| (v &&& readBack)
  if one &&& v = v then s.setOtp a one
  else
    let two := one ||| (v &&& second)
    let s1 := s.setOtp a two
    if two &&& v = v then s1 else s1.bump Reg.lcsBurnFail

end Sys2Proof.Machine
end

