-- ==== Sys2Proof/Machine/GrvOps.lean ====
section
/-! DEFINITION. The Graver: the next job for a slot, switches at yield points, retirement and spares (R330 to R348). -/

namespace Sys2Proof.Machine

open Sys2Proof

/-! ### Loading (R330 to R332) -/

/-- A Graver job of 1,600,000 cycles or more (R332). -/
def Job.grvLong (x : Job) : Bool := decide (1600000 ≤ graverEstimate x.desc)

/-- Cores that hold a long job. -/
def State.grvLongs (s : State) : Nat :=
  ((List.range 18).filter (fun c => (s.core c).slots.any (fun y => (s.job y.job).any Job.grvLong))).length

/-- Jobs of the Graver queues, class by class, that wait in dispatch included once there is room (R330). -/
def State.fillGraver (s : State) : State :=
  ([0, 1, 2, 3] : List Nat).foldl (fun t c =>
    (t.jobs.filter (fun p => decide (p.2.graverPart = .dispatch) && decide (p.2.cls = c))).foldl (fun u p => u.queueGraver p.1) t) s

/-- Candidates of a round with the Graver's estimates. -/
def oldestGraver (l : List (Nat × Job)) : List Cand :=
  (List.range 256).filterMap (fun v => (l.find? (fun p => decide (p.2.vi = v))).map (fun p => (v, graverEstimate p.2.desc, p.1)))

/-- The next job by class and deficit round robin, long jobs held while LONG_MAX cores hold one and a shorter one of the class waits. -/
def State.graverClass (s : State) (c : Nat) : Option (Nat × Grv) :=
  let cs := s.graverQueue c
  let pool := if bits (s.reg Reg.grvCtl) 31 28 ≤ s.grvLongs ∧ cs.any (fun x => !x.2.grvLong) then cs.filter (fun x => !x.2.grvLong) else cs
  match drr (fun v => (s.vi v).quota.graverWeight) (c * 256) (SMap.get zeroDef c s.grv.turn) s.grv.deficits (oldestGraver pool) with
  | none => none
  | some (j, d, turn) =>
    let left := cs.filter (fun x => decide (x.1 ≠ j))
    some (j, { s.grv with deficits := loseDeficit (c * 256) left d turn, turn := SMap.set zeroDef c turn s.grv.turn })

/-- The next job for a slot: the oldest aged one, else by class (R330). -/
def State.nextGraver (s : State) : Option (Nat × Grv) :=
  let aged := oldestJob ((([0, 1, 2, 3] : List Nat).map s.graverQueue).flatten.filter (fun x => s.aged x.2.cls x.2.queuedAt))
  match aged with
  | some j => some (j, s.grv)
  | none => ([0, 1, 2, 3] : List Nat).findSome? s.graverClass

/-- A core may load: on duty, a slot free. -/
def State.coreOpen (s : State) (c : Nat) : Bool :=
  let x := s.core c
  s.grv.onDuty.testBit c && decide (x.slots.length < 4) && decide (x.state = .idle ∨ x.state = .tokenWait ∨ x.state = .run)

/-- The core that R331 chooses: an idle one, else the one with the fewest slots taken, the lowest of equals. -/
def State.chosenCore (s : State) : Option Nat :=
  ((List.range 18).filter s.coreOpen).foldl (fun (m : Option Nat) c =>
    match m with
    | none => some c
    | some d => if (s.core c).slots.length < (s.core d).slots.length then some c else some d) none

/-- A job takes a slot of a core; an idle core asks for its token (R338). -/
def State.loadSlot (s : State) (c j : Nat) : State :=
  let x := s.core c
  let slot : Slot := { job := j, yields := 0, since := s.time }
  let s1 := s.modJob j (fun y => { y with stage := .running, graverPart := .running, head := false })
  let s2 := s1.setCore c { x with slots := x.slots ++ [slot], computing := if x.computing.isNone then some j else x.computing,
                                  state := if x.state = .idle then .tokenWait else x.state }
  (if x.state = .idle then s2.ask 2 c else s2).beginInput j

/-! ### Yield points (R333, R334) -/

/-- The slot that takes the core from job `j`, which has computed for `ran` µs since it resumed. -/
def State.switchTo (s : State) (x : Core) (j ran : Nat) : Option Nat :=
  let cls (k : Nat) : Nat := ((s.job k).map (·.cls)).getD 3
  let ctl := s.reg Reg.grvCtl
  let others := x.slots.filter (fun y => decide (y.job ≠ j))
  let longest (l : List Slot) : Option Nat :=
    (l.foldl (fun (m : Option Slot) y => match m with | none => some y | some z => if y.since < z.since then some y else some z) none).map (·.job)
  match longest (others.filter (fun y => decide (bits ctl 27 16 < usSince s.time y.since))) with
  | some k => some k
  | none =>
    match longest (others.filter (fun y => decide (cls y.job < cls j))) with
    | some k => some k
    | none => if bits ctl 15 0 ≤ ran then longest (others.filter (fun y => decide (cls y.job = cls j))) else none

/-- A switch: a yield of the job that loses the core (R334, R354). -/
def State.switchCore (s : State) (c j k : Nat) : State :=
  let n := (((s.core c).slots.find? (fun y => decide (y.job = j))).map (·.yields)).getD 0 + 1
  let s1 := s.modCore c (fun x =>
    { x with computing := some k, slots := x.slots.map (fun y => if y.job = j then { y with yields := n, since := s.time } else y) })
  let s2 := s1.bump (Reg.grv 0x40)
  if n = 64 then s2.bump (Reg.grv 0x44) else s2

/-! ### Faults, retirement, spares (R341, R345 to R348) -/

/-- A restart of a job from its core, or of the Graver part of a hybrid (R280, R345). -/
def State.restartGraverJob (s : State) (j : Nat) (counted : Bool) : State :=
  match s.job j with
  | none => s
  | some x =>
    let s1 := if x.engine = .both then (s.freeCore j).putJob j { x with graverPart := .queued, restarted := true, head := true } else s.restartJob j
    (s1.modJob j (fun y => { y with restarts := if counted then y.restarts + 1 else y.restarts })).bump (Reg.grv 0x48)

/-- A contained fault of its core hits a job: it restarts, or ends at the third (R336, R345). -/
def State.hitGraverJob (s : State) (j : Nat) (counted : Bool) : State :=
  match s.job j with
  | none => s
  | some x =>
    if x.committed || (counted && decide (2 ≤ x.restarts)) then (s.failJob j St.faultContained 0).leaveEngines j
    else s.restartGraverJob j counted

/-- With no core on duty every job that still needs the Graver ends with FUNCTION_DISABLED (R348). -/
def State.graverLost (s : State) : State :=
  s.jobs.foldl (fun t p =>
    match t.job p.1 with
    | some x =>
      if x.graverPart = .queued ∨ x.graverPart = .dispatch ∨ x.graverPart = .running then t.abandon p.1 St.functionDisabled else t
    | none => t) s

/-- A spare core is brought in (R347). -/
def State.bringCore (s : State) : State :=
  match (onesOf 18 s.grv.spare).find? (fun c => decide ((s.core c).state ≠ .selftest)) with
  | some c => (s.modCore c (fun x => { x with state := .selftest })).ask 2 c
  | none => if s.grv.onDuty = 0 then s.graverLost else s

/-- Retire a core: its computing job restarts with a count, the other residents without one (R345, R346). -/
def State.retireCore (s : State) (c : Nat) (hit : Option Nat) (injected : Bool) : State :=
  let duty := s.grv.onDuty.testBit c
  let jobs := (s.core c).slots.map (·.job)
  let s0 := jobs.foldl (fun t j => t.hitGraverJob j (decide (hit = some j))) s
  let s1 := (s0.releaseToken 2 c).unask 2 c
  let s2 := ({ s1 with grv := { s1.grv with onDuty := s1.grv.onDuty - bitAt c (s1.grv.onDuty.testBit c),
                                            spare := s1.grv.spare - bitAt c (s1.grv.spare.testBit c), retired := s1.grv.retired ||| 2 ^ c } }).modCore c
    (fun x => { x with state := .retired, slots := [], computing := none })
  let s3 := s2.noteRetired (repairWord uGraver c) injected
  if duty then s3.bringCore else s3

/-- FAULTS of a core counts one more, and retires it at 4 (R346). -/
def State.countCoreFault (s : State) (c : Nat) (injected : Bool) : State :=
  let s1 := s.modCore c (fun x => { x with faults := satAdd 8 x.faults 1 })
  if 4 ≤ (s1.core c).faults ∧ (s1.core c).state ≠ .retired then s1.retireCore c none injected else s1

/-- An invariant fails: the job ends with INVARIANT_FAIL, the core counts a fault and is tested (R340, R341). -/
def State.invariantFails (s : State) (j : Nat) : State :=
  match s.coreOf j with
  | none => s
  | some c =>
    let s1 := (s.reportAs { mkReport (src uGraver c) 0x04 .contained with job := some j }).bump (Reg.grv 0x4C)
    let seq := s1.fcl.seq
    let s2 := s1.finishJob j (failWith St.invariantFail 0) []
    (s2.testLater seq [src uGraver c]).countCoreFault c false

/-- Run the effect of a Graver opcode, or end it by its invariants. -/
def State.runGraver (s : State) (j op : Nat) (sound : Bool) (f : State → Job → State × Result × List Need) : State :=
  match s.startable j op with
  | some x =>
    if !sound then s.invariantFails j
    else
      let a := f s x
      a.1.finishJob j a.2.1 a.2.2
  | none => s.noteWait j op

end Sys2Proof.Machine
end

