-- ==== Sys2Proof/Machine/PubOps.lean ====
section
/-! DEFINITION. Public values, key values and secrets as the algorithms make and check them (R113, R214 to R229, R257 to R278, R324 to
R329, R340 to R344). The functions of the outside standards are uninterpreted (assumption log 1). -/

namespace Sys2Proof.Machine

open Sys2Proof

/-- A check of a standard by its number among those of one algorithm. -/
def checkStd (c : Config.StdCheck) (alg which : Nat) (args : List Bytes) : Bool := Config.stdCheck c alg ([BitVec.ofNat 8 which] :: args)

/-- The field prime of a curve (FIPS 186-5, RFC 7748, RFC 8032). -/
def fieldPrime (alg : Nat) : Nat :=
  if alg = 0x0711 then 2 ^ 256 - 2 ^ 224 + 2 ^ 192 + 2 ^ 96 - 1 else if alg = 0x0712 then 2 ^ 384 - 2 ^ 128 - 2 ^ 96 + 2 ^ 32 - 1
  else if alg = 0x0713 then 2 ^ 521 - 1 else if alg = 0x0702 ∨ alg = 0x0722 then 2 ^ 448 - 2 ^ 224 - 1 else 2 ^ 255 - 19

/-- Defects of a P-curve point in the order of R326 and R343. -/
def pointDefect (alg : Nat) (pk : Bytes) : Option Nat :=
  let n := (pk.length - 1) / 2
  if rd pk 0 1 ≠ 4 then some St.notOnCurve
  else if fieldPrime alg ≤ rdBe pk 1 n ∨ fieldPrime alg ≤ rdBe pk (1 + n) n then some St.inputInvalid
  else if !(checkStd .pointOnCurve alg 0 [pk]) then some St.notOnCurve else none

/-- The u-coordinate of RFC 7748: bit 255 is cleared for X25519. -/
def uCoord (alg : Nat) (pk : Bytes) : Nat := if alg = 0x0701 then leNat pk % 2 ^ 255 else leNat pk

/-- Defects of a peer's value before the multiplication (R343, R344). -/
def peerDefect (alg : Nat) (pk : Bytes) : Option Nat :=
  if Alg.isPCurve alg then pointDefect alg pk else if fieldPrime alg ≤ uCoord alg pk then some St.inputInvalid else none

/-- The shared secret of a scalar and a peer's value (RFC 7748, FIPS 186-5). -/
def kexSecret (alg : Nat) (scalar peer : Bytes) : Bytes := stdOut .kexSecret alg [scalar, peer] (Alg.ssLen alg)

/-- The shared point is the identity, or the result all zero (R343): INPUT_INVALID. -/
def secretDefect (alg : Nat) (scalar peer : Bytes) : Option Nat :=
  if Alg.isPCurve alg then (if checkStd .secretNonZero alg 0 [scalar, peer] then none else some St.inputInvalid)
  else if leNat (kexSecret alg scalar peer) = 0 then some St.inputInvalid else none

/-- The first defect of an agreement with a stored or ephemeral scalar. -/
def kexDefect (alg : Nat) (scalar peer : Bytes) : Option Nat :=
  match peerDefect alg peer with
  | some st => some st
  | none => secretDefect alg scalar peer

/-- Defects of a public key that is imported or given to SIG_VERIFY (R113, R218, R235, R260, R268, R326). -/
def publicDefect (alg modBits : Nat) (pk : Bytes) : Option Nat :=
  let kem (a : Nat) (ek : Bytes) : Option Nat := if Alg.ekValid a ek then none else some St.inputInvalid
  let mont (a : Nat) (u : Bytes) : Option Nat :=
    if fieldPrime a ≤ uCoord a u ∨ !(checkStd .publicKeyValid a 0 [u]) then some St.inputInvalid else none
  if Alg.isMlKem alg then kem alg pk
  else if Alg.isHqc alg then (if Alg.hqcPadOk alg pk then none else some St.badEncoding)
  else if Alg.isMce alg then (if Alg.mcePadOk alg pk then none else some St.badEncoding)
  else if Alg.isPCurve alg then pointDefect alg pk
  else if Alg.isEd alg then
    let y := leNat pk % 2 ^ (if alg = 0x0721 then 255 else 455)
    if fieldPrime alg ≤ y then some St.inputInvalid
    else if !(checkStd .pointOnCurve alg 0 [pk]) then some St.notOnCurve
    else if !(checkStd .publicKeyValid alg 1 [pk]) then some St.inputInvalid
    else if !(checkStd .publicKeyValid alg 2 [pk]) then some St.inputInvalid else none
  else if Alg.isMont alg then mont alg pk
  else if Alg.isRsa alg then
    let n := rdBe pk 0 (modBits / 8)
    let e := rdBe pk (modBits / 8) 32
    if n % 2 = 0 ∨ n < 2 ^ (modBits - 1) then some St.inputInvalid else if e % 2 = 0 ∨ e ≤ 2 ^ 16 then some St.inputInvalid else none
  else if Alg.isHybrid alg then
    let p := Alg.splitHybrid alg pk
    let c := Alg.hybridCurve alg
    match (if Alg.isPCurve c then pointDefect c p.1 else mont c p.1) with
    | some st => some st
    | none => kem (Alg.hybridKem alg) p.2
  else if Alg.isStateful alg then
    (match hbsKeyTypes alg pk with
     | some (_, t, _) => if pk.length = hbsPkLen alg t then none else some St.inputInvalid
     | none => some St.inputInvalid)
  else none

/-! ### Generation -/

/-- The key value of a generated key, from a draw (R214, R257, R262, R277, R324): ML-KEM and ML-DSA values are the drawn seeds. -/
def genValue (alg modBits set draw : Nat) : Bytes :=
  let n := Alg.genValueLen alg modBits set
  if Alg.isMlKem alg || Alg.isMlDsa alg || Alg.isMont alg || Alg.isEd alg || !(Alg.isAsym alg) then drawBytes draw n
  else if Alg.isHybrid alg then
    drawBytes draw 64 ++ stdOut .derivedValue (Alg.hybridCurve alg) [(drawBytes draw 256).drop 64] (n - 64)
  else if alg = 0x0401 then
    let seed := drawBytes draw (n - 20)
    leBytes 4 set ++ seed ++ stdOut .derivedValue alg [seed] 16
  else if Alg.isStateful alg then beBytes 4 (bits set 7 0) ++ stdOut .derivedValue alg [leBytes 4 set, drawBytes draw 96] (n - 4)
  else stdOut .derivedValue alg [leBytes 4 modBits, drawBytes draw 64] n

/-- The public half of a key value (R276: the parts of a hybrid in their order). -/
def publicOf (alg modBits set : Nat) (value : Bytes) : Bytes :=
  if Alg.isHybrid alg then
    let c := Alg.classicalLen alg
    let scalar := if alg = 0x0803 then 48 else 32
    let kemPart := value.take (value.length - scalar)
    let ek := stdOut .publicKey (Alg.hybridKem alg) [kemPart] (Alg.pkLen (Alg.hybridKem alg) 0 0)
    let pk := stdOut .publicKey (Alg.hybridCurve alg) [value.drop (value.length - scalar)] c
    if alg = 0x0801 then ek ++ pk else pk ++ ek
  else if Alg.isAsym alg then stdOut .publicKey alg [value] (Alg.pkLen alg modBits set) else []

/-- A key pair that the device generates. -/
def genKey (alg modBits set : Nat) (attr : BitVec 32) (once : Bool) (draw : Nat) : KeyRec :=
  let v := genValue alg modBits set draw
  { (newKey alg modBits attr oGenerated v (publicOf alg modBits set v) true) with once := once }

/-! ### KEM secrets -/

/-- Ciphertext and shared secret of an encapsulation to a post-quantum key, from the drawn message (R113, R218). -/
def encapsTo (alg : Nat) (pk m : Bytes) : Bytes × Bytes :=
  (stdOut .kemCiphertext alg [pk, m] (Alg.ctLen alg), stdOut .kemSecret alg [pk, m] (Alg.ssLen alg))

/-- The secret of a decapsulation, selected between the session key and the rejection key (R219, R261, R269). -/
def decapsWith (alg : Nat) (value ct : Bytes) : Bytes := stdOut .kemDecaps alg [value, ct] (Alg.ssLen alg)

/-- The parts of a hybrid in the order of R276. -/
def joinHybrid (alg : Nat) (classical kem : Bytes) : Bytes := if alg = 0x0801 then kem ++ classical else classical ++ kem

/-- The ML-KEM value and the scalar of a hybrid key (R277). -/
def hybridValue (alg : Nat) (value : Bytes) : Bytes × Bytes :=
  let n := if alg = 0x0803 then 48 else 32
  (value.take (value.length - n), value.drop (value.length - n))

/-- A shared-secret key: algorithm from SUBALG, ORIGIN derived (R443, R445). -/
def secretKey (attr : BitVec 32) (once : Bool) (secret : Bytes) : KeyRec :=
  { (newKey (0x0A00 + Alg.aSubalg attr) 0 attr oDerived secret [] true) with once := once }

/-- ONCE of group 0x02. -/
def dOnce (b : Bytes) : Bool := (dP0 b).testBit 16

end Sys2Proof.Machine
end

