-- ==== Sys2Proof/Machine/Wrap.lean ====
section
/-! DEFINITION. Wrapped records: layout, wrapping, unwrapping and their checks (R215, R258, R263, R325, R459 to R462). -/

namespace Sys2Proof.Machine

open Sys2Proof

/-- KCV of a wrapping key (R459). -/
def kcvOf (wk : Bytes) : Bytes := kmac256 wk [] (ascii "STQ6440 KCV") 8

/-- Bytes 0 to 47 of a record (R459). -/
def recordHead (format purpose alg : Nat) (attr : BitVec 32) (kgen : Nat) (unit kcv : Bytes) (valueLen : Nat) : Bytes :=
  leBytes 4 0x52574B53 ++ leBytes 1 format ++ leBytes 1 purpose ++ leBytes 2 alg ++ leBytes 4 attr.toNat ++ leBytes 4 kgen ++ padTo 16 unit ++
    padTo 8 kcv ++ leBytes 4 valueLen ++ leBytes 4 (wrappedLen valueLen)

/-- The wrapping key of an envelope, over a header whose KCV is still zero (R460). -/
def envelopeKey (secret head : Bytes) : Bytes := kmac256 secret (putAt head 32 (zeros 8)) (ascii "STQ6440 ENVELOPE") 32

/-- A record in FORMAT 0x01 under `wk`. -/
def wrapKw (wk : Bytes) (purpose alg : Nat) (attr : BitVec 32) (kgen : Nat) (unit value : Bytes) : Bytes :=
  let h := recordHead 1 purpose alg attr kgen unit (kcvOf wk) value.length
  h ++ stdOut .keyWrap 0 [wk, h, value] (wrappedLen value.length)

/-- A record in FORMAT 0x02 to an ML-KEM-1024 key, with the drawn message `m`. -/
def wrapEnvelope (ek m : Bytes) (purpose alg : Nat) (attr : BitVec 32) (kgen : Nat) (unit value : Bytes) : Bytes :=
  let e := encapsTo 0x0103 ek m
  let h0 := recordHead 2 purpose alg attr kgen unit [] value.length
  let wk := envelopeKey e.2 h0
  let h := putAt h0 32 (kcvOf wk)
  h ++ e.1 ++ stdOut .keyWrap 0 [wk, h, value] (wrappedLen value.length)

/-- RSA modulus size from a key value, and from a public key (R324). -/
def rsaBits (valueLen : Nat) : Nat := (valueLen - 4) * 16 / 7
def rsaPubBits (n : Nat) : Nat := (n - 32) * 8

/-- MODBITS of an algorithm whose value has `n` bytes. -/
def bitsOfValue (alg n : Nat) : Nat := if Alg.isRsa alg then rsaBits n else 0

/-- A key value passes the checks of its algorithm (R215, R258, R263, R325). -/
def valueOk (alg : Nat) (value : Bytes) : Bool := !(Alg.isAsym alg) || checkStd .keyValueValid alg 0 [value]

/-- What a record holds once it is unwrapped. -/
structure Unwrapped where
  alg : Nat
  attr : BitVec 32
  kgen : Nat
  value : Bytes
  deriving DecidableEq, Repr

/-- Unwrap a record of a FORMAT and PURPOSE under a wrapping key or, for an envelope, a private ML-KEM-1024 key value; none when MAGIC,
FORMAT, PURPOSE, KCV, the unwrap, the header digest, VALUE_LEN or the value fails (R461). -/
def unwrap (format purpose : Nat) (key rec : Bytes) : Option Unwrapped :=
  let h := rec.take 48
  let ct := if format = 2 then slice rec 48 1568 else []
  let body := rec.drop (if format = 2 then 1616 else 48)
  let wk := if format = 2 then envelopeKey (decapsWith 0x0103 key ct) h else key
  let alg := rd h 6 2
  let attr := BitVec.ofNat 32 (rd h 8 4)
  let n := rd h 40 4
  let value := stdOut .keyUnwrap 0 [wk, h, body] n
  let good := decide (rd h 0 4 = 0x52574B53) && decide (rd h 4 1 = format) && decide (rd h 5 1 = purpose) && decide (slice h 32 8 = kcvOf wk) &&
    Config.stdCheck .unwrap 0 [wk, h, body] && (Alg.valueLens alg (bitsOfValue alg n) (Alg.hasUse attr Alg.uSession)).contains n &&
    (!(Alg.isRsa alg) || modBitsOk alg (rsaBits n)) && valueOk alg value
  if good then some { alg := alg, attr := attr, kgen := rd h 12 4, value := value } else none

/-- ATTR `a` is wider than the embedded word `e`: usage, EXPORT, APPROVED or OWNER (R461). -/
def wider (a e : BitVec 32) : Bool :=
  decide (Alg.aUsage a ||| Alg.aUsage e ≠ Alg.aUsage e) || decide (Alg.aExport e < Alg.aExport a) || (Alg.aApproved a && !(Alg.aApproved e)) ||
    (Alg.aOwner a && !(Alg.aOwner e))

/-- ATTR `a` narrowed to `e` (R461). -/
def narrowed (a e : BitVec 32) : BitVec 32 :=
  let x := min (Alg.aExport a) (Alg.aExport e)
  let approved := Alg.aApproved a && Alg.aApproved e
  let w := setBits (setBits a.toNat x 29 28) (Alg.aUsage a &&& Alg.aUsage e) 15 0
  BitVec.ofNat 32 (setBits w (if approved then 1 else 0) 31 31)

/-- The device sets OWNER on what comes from an owner key (R447). -/
def inheritOwner (from_ : Option KeyRec) (a : BitVec 32) : BitVec 32 :=
  if from_.any (fun k => Alg.aOwner k.attr) then a ||| BitVec.ofNat 32 (2 ^ 25) else a

/-- A key from a value that was unwrapped, its public half recomputed (R214, R258, R263). -/
def keyOf (alg : Nat) (attr : BitVec 32) (origin : Nat) (value : Bytes) : KeyRec :=
  newKey alg (bitsOfValue alg value.length) attr origin value (publicOf alg (bitsOfValue alg value.length) 0 value) true

end Sys2Proof.Machine
end

