-- ==== Sys2Proof/Machine/Caisson.lean ====
section
/-! DEFINITION. Meanings of KDF, group 0x06 and the Caisson's own commands (R124, R132 to R139, R445 to R463, R466 to R469, R546, R547, R582). -/

namespace Sys2Proof.Machine

open Sys2Proof

/-- The value of the key a job names, and of its second key. -/
def Job.keyValue (x : Job) : Bytes := (x.key.map (·.value)).getD []
def Job.key2Value (x : Job) : Bytes := (x.key2.map (·.value)).getD []

/-! ### KDF (R124, R445, R447, R456) -/

/-- Output specification `i`: length and ATTR. -/
def kdfSpec (input : Bytes) (i : Nat) : Nat × BitVec 32 := (rd input (8 * i) 4, BitVec.ofNat 32 (rd input (8 * i + 4) 4))

/-- HkdfLabel of RFC 8446 with the prefix "tls13 ". -/
def hkdfLabel (n : Nat) (label context : Bytes) : Bytes :=
  let l := ascii "tls13 " ++ label
  beBytes 2 n ++ leBytes 1 l.length ++ l ++ leBytes 1 context.length ++ context

/-- Label and context of MODE 3 data. -/
def kdfLabel (d : Bytes) : Bytes × Bytes :=
  let n := rd d 0 1
  (slice d 1 n, d.drop (2 + n))

/-- A specification that R445, R447 or R456 refuses with BAD_ENCODING. -/
def specBad (b : Bytes) (src : Option KeyRec) (d : Bytes) (p : Nat × BitVec 32) : Bool :=
  let a := derivedAlg p.2 p.1
  let hash := dAlg b
  let mode := bits (dP0 b) 23 16
  decide (p.1 < 16 ∨ 64 < p.1) || badAttr p.2 a.isSome true true ((a.map Alg.approvedAlg).getD false) src true ||
    (decide (mode = 1) && decide (p.1 ≠ Alg.hashLen hash)) ||
    (decide (Alg.aUsage p.2 = 0x800) &&
      !(decide (mode = 3) && decide (dP2 b = 1) && decide (d = [0, 0]) &&
        (if Alg.aSubalg p.2 = 2 then decide (hash = 0x0A02) else decide (hash = 0x0A01))))

/-- The output keying material of a mode, `n` bytes. -/
def kdfBytes (b key salt d : Bytes) (n : Nat) : Bytes :=
  let h := dAlg b
  match bits (dP0 b) 23 16 with
  | 1 => stdOut .hkdfExtract h [salt, key] n
  | 2 => stdOut .hkdfExpand h [key, d] n
  | 3 => let l := kdfLabel d; stdOut .hkdfExpand h [key, hkdfLabel n l.1 l.2] n
  | 4 => stdOut .prfPlus h [key, d] n
  | _ => stdOut .hmac h [d, [], key] n

/-- The key of specification `p` with its slice of the output. -/
def kdfKey (x : Job) (p : Nat × BitVec 32) (value : Bytes) : KeyRec :=
  let k := newKey ((derivedAlg p.2 p.1).getD 0) 0 (inheritOwner x.key p.2) oDerived value [] true
  let h := dAlg x.desc
  if Alg.aUsage p.2 = 0x800 then
    { k with iv := stdOut .hkdfExpand h [x.keyValue, hkdfLabel 12 (ascii "iv") []] 12,
             value := stdOut .hkdfExpand h [x.keyValue, hkdfLabel p.1 (ascii "key") []] p.1,
             snKey := stdOut .hkdfExpand h [x.keyValue, hkdfLabel p.1 (ascii "sn") []] p.1 }
  else k

/-- Consecutive slices of the output. -/
def slices : Bytes → List (Nat × BitVec 32) → List ((Nat × BitVec 32) × Bytes)
  | _, [] => []
  | b, p :: r => (p, b.take p.1) :: slices (b.drop p.1) r

def doKdf (s : State) (x : Job) : State × Result × List Need :=
  let b := x.desc
  let n := dP2 b
  let specs := (List.range n).map (kdfSpec x.input)
  let d := x.input.drop (8 * n)
  let owner := specs.any (fun p => (Alg.aOwner p.2 && (decide (x.vi ≠ 0) || !(x.quorum.testBit 13))) || Alg.aAnchor p.2)
  if specs.any (specBad b x.key d) then (s, failWith St.badEncoding 0, [])
  else if owner then (s, failWith St.policy 0, [])
  else
    let salt := if dP1 b = noKey then zeros (Alg.hashLen (dAlg b)) else x.key2Value
    let ks := (slices (kdfBytes b x.keyValue salt d (specs.foldl (fun m p => m + p.1) 0)) specs).map (fun p => kdfKey x p.1 p.2)
    (s, okKeys 0 [] ks [], s.newNeeds ks)

def execKdf (j : Nat) (s : State) : Host.Outcome State Fault Refusal := .next (s.runJob j 0x0403 doKdf)

/-! ### KEY_GENERATE and KEY_DERIVE (R132, R445, R455) -/

def doGenerate (s : State) (x : Job) : State × Result × List Need :=
  let b := x.desc
  let a := dAlg b
  let salt := if Alg.isAead a && Alg.hasUse (dAttr b) Alg.uSession then 4 else 0
  let n := if Alg.isSecret a then dP2 b else Alg.genValueLen a 0 0 + salt
  let k := newKey a 0 (dAttr b) oGenerated (drawBytes s.draws n) [] true
  (s.nextDraw, okKeys 0 [] [k] [], s.newNeeds [k])

def execKeyGenerate (j : Nat) (s : State) : Host.Outcome State Fault Refusal := .next (s.runJob j 0x0601 doGenerate)

def doDerive (s : State) (x : Job) : State × Result × List Need :=
  let b := x.desc
  let n := rd x.input 0 1
  let v := kmac256 x.keyValue (x.input.drop (1 + n)) (slice x.input 1 n) (dP2 b)
  let k := newKey ((derivedAlg (dAttr b) (dP2 b)).getD 0) 0 (inheritOwner x.key (dAttr b)) oDerived v [] true
  (s, okKeys 0 [] [k] [], s.newNeeds [k])

def execKeyDerive (j : Nat) (s : State) : Host.Outcome State Fault Refusal := .next (s.runJob j 0x0608 doDerive)

/-! ### KEY_IMPORT (R134, R461, R472, R546, R547) -/

/-- Flags of the quorum policy record (R473). -/
def State.policyFlag (s : State) (i : Nat) : Bool := (rd (s.csn.policy.getD []) 3 1).testBit i

/-- The parts of a migration-target import: chain, impression, encapsulation key (R546). -/
def migParts (b : Bytes) : Bytes × Bytes × Bytes :=
  let c := rd b 0 4
  let rest := b.drop (4 + c)
  let n := rd rest 40 4 + 4723
  (slice b 4 c, rest.take n, rest.drop n)

/-- The checks of R547 in their order: INPUT_INVALID for the first four, POLICY for the last three. -/
def State.migDefect (s : State) (b : Bytes) : Option Nat :=
  let p := migParts b
  let im := p.2.1
  if !(checkStd .certChain 0 0 [p.1]) then some St.inputInvalid
  else if !(checkStd .impression 0 0 [p.1, im]) then some St.inputInvalid
  else if rd im 6 1 ≠ 2 ∨ rd im 796 4 ≠ 3 ∨ rd im 784 2 ≠ 0x0103 then some St.inputInvalid
  else if stdOut .hash 0x0A02 [[0], [], p.2.2] 48 ≠ slice im 800 48 ∨ !(Alg.ekValid 0x0103 p.2.2) then some St.inputInvalid
  else if rd im 7 1 ≠ 3 ∨ !(s.policyFlag 1) then some St.policy
  else if s.policyFlag 2 ∧ slice im 688 48 ≠ (s.anchorDigest).getD (zeros 48) then some St.policy
  else if rd im 28 4 < rd (s.csn.policy.getD []) 20 4 then some St.policy
  else none

/-- A public key in clear: an imported public key, an owner anchor at its fixed handle, or a migration target. -/
def importPublic (s : State) (x : Job) : State × Result × List Need :=
  let b := x.desc
  let a := dAlg b
  let m := if Alg.isRsa a then rsaPubBits x.input.length else 0
  if isMigImport b then
    match s.migDefect x.input with
    | some st => (s, failWith st 0, [])
    | none =>
      let p := migParts x.input
      let k := { newKey a 0 (BitVec.ofNat 32 (setBits (dAttr b).toNat 0 29 28)) oPublic [] p.2.2 false with
                 target := some (slice p.2.1 8 16, rd p.2.1 792 4) }
      (s, okKeys 0 [] [k] [], s.newNeeds [k])
  else
    match publicDefect a m x.input with
    | some st => (s, failWith st 0, [])
    | none =>
      let k := newKey a m (dAttr b) oPublic [] x.input false
      if isAnchorImport b then
        let h := if a = 0x0203 then 4 else 5
        (s, okEff 0 (leBytes 4 h ++ leBytes 4 1) [.putKey h k], [.shelf])
      else (s, okKeys 0 [] [k] [], s.newNeeds [k])

/-- RSA public keys have one of the supported sizes (R62, R116): any other length implies none. -/
def badRsaLen (x : Job) : Bool := Alg.isRsa (dAlg x.desc) && !(modBitsOk 0x0731 (rsaPubBits x.input.length) && decide (32 < x.input.length))

/-- A wrapped record (R461). A failed invariant of the Graver's checks ends the job with INVARIANT_FAIL (R340). -/
def importWrapped (sound : Bool) (s : State) (x : Job) : State × Result × List Need :=
  let b := x.desc
  match unwrap (bits (dP0 b) 23 16) 1 x.keyValue x.input with
  | none => (s, failWith St.wrapInvalid 0, [])
  | some u =>
    if u.alg ≠ dAlg b ∨ wider (dAttr b) u.attr then (s, failWith St.wrapInvalid 0, [])
    else if !sound ∧ Alg.isAsym u.alg then (s, failWith St.invariantFail 0, [])
    else
      let k := keyOf u.alg (inheritOwner x.key (dAttr b)) oWrapped u.value
      (s, okKeys 0 [] [k] [], s.newNeeds [k])

def doImport (sound : Bool) (s : State) (x : Job) : State × Result × List Need :=
  if bits (dP0 x.desc) 23 16 = 3 then (if badRsaLen x then (s, failWith St.inputInvalid 0, []) else importPublic s x) else importWrapped sound s x

def execKeyImport (j : Nat) (sound : Bool) (s : State) : Host.Outcome State Fault Refusal := .next (s.runJob j 0x0602 (doImport sound))

/-! ### KEY_EXPORT_WRAPPED (R135, R253, R462, R650) -/

/-- The export policy permits the FORMAT under the wrapper. -/
def exportOk (k : KeyRec) (format wrapperHandle : Nat) (w : Option KeyRec) : Bool :=
  if format = 3 then true
  else
    !k.stateful.isSome &&
      (match Alg.aExport k.attr, w with
      | 2, some y => decide (format = 1) && decide (wrapperHandle = 6) && decide (y.alg = 0x0904)
      | 3, some y => Alg.aOwner y.attr && decide (y.alg = if format = 1 then 0x0904 else 0x0103)
      | _, _ => false)

def doExport (s : State) (x : Job) : State × Result × List Need :=
  let b := x.desc
  let f := bits (dP0 b) 23 16
  match x.key with
  | none => (s, failWith St.keyNotFound 0, [])
  | some k =>
    if !(exportOk k f (dP1 b) x.key2) then (s, failWith St.policy 0, [])
    else if f = 3 then (s, okWith 0 k.pub, [])
    else if f = 1 then ((s.bump Reg.csnExport), okWith 0 (wrapKw x.key2Value 1 k.alg k.attr k.kgen s.unitId k.value), [])
    else
      let ek := (x.key2.map (·.pub)).getD []
      ((s.bump Reg.csnExport).nextDraw, okWith 0 (wrapEnvelope ek (drawBytes s.draws 32) 1 k.alg k.attr k.kgen s.unitId k.value), [])

/-- KEY_EXPORT_WRAPPED: the decision is taken twice; a disagreement writes no output (R135, R651). -/
def execKeyExportWrapped (j : Nat) (agree : Bool) (s : State) : Host.Outcome State Fault Refusal :=
  .next (match s.startable j 0x0603 with
    | none => s.noteWait j 0x0603
    | some _ => if agree then s.runJob j 0x0603 doExport else s.splitDecision [] 0)

/-! ### Replacement (R136, R137, R254, R449, R461, R463) -/

/-- The staged key of a STAGE, from a generated or an unwrapped value. -/
def stagedKey (k : KeyRec) (attr : BitVec 32) (value : Bytes) : StagedKey :=
  { stateful := k.stateful.map (fun t => newStateful t.set t.total), value := value, pub := publicOf k.alg k.modBits ((k.stateful.map (·.set)).getD 0) value,
    kgen := k.highKgen + 1, attr := attr }

/-- STAGE succeeds with a value: the target handle and the staged KGEN lead the output. -/
def stageOk (x : Job) (k : KeyRec) (attr : BitVec 32) (value : Bytes) : Result :=
  let g := stagedKey k attr value
  okEff 0 (leBytes 4 (dKey x.desc) ++ leBytes 4 g.kgen ++ g.pub) [.setStaged (dKey x.desc) (some g)]

def doStage (sound : Bool) (s : State) (x : Job) : State × Result × List Need :=
  let b := x.desc
  let f := bits (dP0 b) 23 16
  match KMap.get (dKey b) s.csn.keys with
  | none => (s, failWith St.keyNotFound 0, [])
  | some k =>
    let done (attr : BitVec 32) (v : Bytes) (t : State) : State × Result × List Need :=
      if !sound ∧ Alg.isAsym k.alg then (t.modKey (dKey b) (fun y => { y with staged := none }), failWith St.invariantFail 0, [])
      else (t, stageOk x k attr v, [])
    if f = 0 then
      let v := if Alg.isAsym k.alg then genValue k.alg k.modBits ((k.stateful.map (·.set)).getD 0) s.draws else drawBytes s.draws k.value.length
      done k.attr v s.nextDraw
    else match unwrap f 1 x.key2Value x.input with
      | none => (s, failWith St.wrapInvalid 0, [])
      | some u => if u.alg ≠ k.alg ∨ k.stateful.isSome then (s, failWith St.wrapInvalid 0, []) else done (narrowed k.attr u.attr) u.value s

def execKeyReplaceStage (j : Nat) (sound : Bool) (s : State) : Host.Outcome State Fault Refusal := .next (s.runJob j 0x0604 (doStage sound))

def doReplaceCommit (s : State) (x : Job) : State × Result × List Need :=
  let b := x.desc
  match (KMap.get (dKey b) s.csn.keys).bind (·.staged) with
  | none => (s, failWith St.keyNotFound 2, [])
  | some g =>
    if g.kgen ≠ bits (dP0 b) 31 0 then (s, failWith St.badParam 0x28, []) else (s, okEff g.kgen [] [.swapKey (dKey b)], s.keyNeeds g.attr)

def execKeyReplaceCommit (j : Nat) (s : State) : Host.Outcome State Fault Refusal := .next (s.runJob j 0x0605 doReplaceCommit)

/-! ### KEY_DESTROY (R138) -/

/-- What the destruction of a key waits for: earlier jobs, the shelf, the twin, the zeroisation. -/
def State.destroyNeeds (s : State) (j : Nat) (x : Job) (k : KeyRec) : List Need :=
  (if s.drained j x then [] else [.earlier]) ++ s.keyNeeds k.attr ++ [.zeroise]

/-- KEY_DESTROY: the handle is marked at once; with STAGED_ONLY the staged key alone goes. -/
def execKeyDestroy (j : Nat) (s : State) : Host.Outcome State Fault Refusal :=
  .next (match s.startable j 0x0606 with
    | none => s
    | some x =>
      let h := dKey x.desc
      match KMap.get h s.csn.keys with
      | none => s.finishJob j (failWith St.keyNotFound 0) []
      | some k =>
        if (dP0 x.desc).testBit 0 then s.finishJob j (okEff 0 [] [.setStaged h none]) []
        else (s.modKey h (fun y => { y with destroying := true })).finishJob j (okEff 0 [] [.delKey h]) (s.destroyNeeds j x k))

/-- KEY_ZEROISE: the last job that used the key is decided. -/
def execKeyZeroise (h : Word) (s : State) : Host.Outcome State Fault Refusal :=
  .next (match s.jobs.find? (fun p => decide (dOp p.2.desc = 0x0606) && decide (dKey p.2.desc = h.toNat) && decide (p.2.needs.head? = some .zeroise)) with
    | some p => s.popNeed p.1 .zeroise
    | none => s)

/-! ### KEY_ATTR (R139, R450) -/

/-- The 32 B attribute record. -/
def attrRecord (h : Nat) (k : KeyRec) : Bytes :=
  leBytes 4 h ++ leBytes 4 k.attr.toNat ++ leBytes 4 k.kgen ++ leBytes 2 k.alg ++ leBytes 2 k.value.length ++
    leBytes 4 ((k.staged.map (·.kgen)).getD 0) ++
    leBytes 1 (bitAt 0 k.staged.isSome + bitAt 1 k.destroying + bitAt 2 k.resident + bitAt 3 k.shelved + bitAt 4 k.mirrored +
      bitAt 5 (Alg.isMce k.alg && k.publicPresent)) ++ zeros 3 ++ leBytes 8 k.uses

/-- The change only narrows: fewer usage bits, EXPORT towards NEVER, APPROVED cleared. -/
def narrows (old new : BitVec 32) : Bool :=
  decide (Alg.aUsage new ||| Alg.aUsage old = Alg.aUsage old) && decide (Alg.aExport new ≤ Alg.aExport old) &&
    (Alg.aApproved old || !(Alg.aApproved new)) && decide (old &&& 0x4FFF0000 = new &&& 0x4FFF0000)

def doAttr (s : State) (x : Job) : State × Result × List Need :=
  let h := dKey x.desc
  match KMap.get h s.csn.keys with
  | none => (s, failWith St.keyNotFound 0, [])
  | some k =>
    if !((dP0 x.desc).testBit 0) then (s, okWith 0 (attrRecord h k), [])
    else if !(narrows k.attr (dAttr x.desc)) then (s, failWith St.policy 0, [])
    else (s, okEff 0 (attrRecord h { k with attr := dAttr x.desc }) [.setAttr h (dAttr x.desc)], s.keyNeeds k.attr)

def execKeyAttr (j : Nat) (s : State) : Host.Outcome State Fault Refusal := .next (s.runJob j 0x0607 doAttr)

/-! ### The shelf (R466, R468, R469) -/

/-- A record that a job's change needs on the shelf: a key, a destroyed key, or a public record of a kind. -/
inductive ShelfItem where
  | key (h : Nat) (k : KeyRec)
  /-- The owner archive key with its split (R771). -/
  | archive (k : KeyRec) (body : Bytes)
  | gone (h kgen : Nat)
  | public_ (kind : Nat) (body : Bytes)
  deriving DecidableEq, Repr

/-- The records of a waiting job, in their order. -/
def State.shelfItems (s : State) (x : Job) : List ShelfItem :=
  let new := (x.handles.zip x.result.newKeys).filterMap (fun p => if Alg.aPersistent p.2.attr then some (ShelfItem.key p.1 p.2) else none)
  let live (h : Nat) (f : KeyRec → List ShelfItem) : List ShelfItem := match KMap.get h s.csn.keys with | some k => f k | none => []
  let anchors (h : Nat) (k : KeyRec) : Bytes :=
    let pub (i : Nat) : Bytes := if i = h then k.pub else ((KMap.get i s.csn.keys).map (·.pub)).getD []
    padTo 2592 (pub 4) ++ padTo 97 (pub 5)
  let of (e : Effect) : List ShelfItem :=
    match e with
    | .delKey h => live h (fun k => if Alg.aPersistent k.attr then [.gone h k.kgen] else [])
    | .setAttr h a => live h (fun k => if Alg.aPersistent k.attr then [.key h { k with attr := a }] else [])
    | .swapKey h => live h (fun k => match k.staged with
      | some g => if Alg.aPersistent g.attr then [.key h { k with value := g.value, pub := g.pub, kgen := g.kgen, attr := g.attr, staged := none }] else []
      | none => [])
    | .quorum rec => [.public_ 2 rec]
    | .putKey h k => if h = 4 ∨ h = 5 then [.public_ 1 (anchors h k)] else if Alg.aPersistent k.attr then [.key h k] else []
    | .paired source => [.public_ 4 (s.pairedUp source).pairingBody]
    | .saved v => [.gone (v * 2 ^ 24 + 0xFFFFFF) 0]
    | .archiveKey k _ seq l => [.archive k (archiveBody seq l)]
    | .restoreKey h k _ => if Alg.aPersistent k.attr then [.key h k] else []
    | _ => []
  new ++ (x.result.effects.map of).flatten

/-- Write one record. -/
def State.writeShelf (s : State) (i : ShelfItem) : State :=
  match i with
  | .key h k => s.keyRecord h k
  | .archive k body => s.shelfRecord 1 6 k.kgen (some { k with staged := none }) body s.shelfEpoch
  | .gone h g => s.shelfRecord 2 h g none [] s.shelfEpoch
  | .public_ kind body => s.publicRecord kind body s.shelfEpoch

/-- Fewer than 4 erased blocks: the firmware compacts (R468). -/
def State.compactIfLow (s : State) : State := if s.shelfErased < 4 then s.wantAct 5 else s

/-- SHELF_RECORD_WRITE: the next record of a waiting job is programmed and read back; a failure in both pages ends the job with
UNCORRECTABLE_MEM and nothing changes. -/
def execShelfRecordWrite (j : Nat) (programmed : Bool) (s : State) : Host.Outcome State Fault Refusal :=
  .next (match s.job j with
    | none => s
    | some x =>
      if x.stage ≠ .waiting ∨ x.needs.head? ≠ some .shelf then s
      else if !programmed then (s.report uCsn 0 0x0D).failJob j St.uncorrectable 0
      else
        let items := s.shelfItems x
        let left := (x.needs.filter (fun n => decide (n = .shelf))).length
        let s1 := match items[items.length - left]? with | some i => s.writeShelf i | none => s
        (s1.popNeed j .shelf).compactIfLow)

/-- SHELF_BLOCK_ERASE: blocks that hold only records of earlier epochs and revoked owner records are erased (R469, R625). -/
def execShelfBlockErase (b : Nat) (s : State) : Host.Outcome State Fault Refusal :=
  .next (
    let dead (r : ShelfRec) : Bool := decide (r.pub = 9) || (decide (r.rtype ≠ 4) && decide (r.epoch ≠ s.shelfEpoch))
    if s.csn.shelf.all (fun r => decide (r.block ≠ b) || dead r) then
      { s with csn := { s.csn with shelf := s.csn.shelf.filter (fun r => decide (r.block ≠ b)) } }
    else s)

/-! ### Counter leases (R446, R582) -/

/-- Jobs fetched that wait for a lease of the key end when its record cannot be written. -/
def State.failLeaseWaiters (s : State) (h : Nat) : State :=
  s.jobs.foldl (fun t p =>
    if decide (p.2.stage = .fetched) && decide (dKey p.2.desc = h) && !(s.leaseCovers p.2.desc) then
      (t.modJob p.1 (fun x => { x with result := failWith St.uncorrectable 0 })).settle p.1
    else t) s

/-- The counter that the key's leases cover. -/
def KeyRec.leasedCount (k : KeyRec) : Nat := Nat.max k.counter k.recCounter

/-- A lease from `first` on; the values below it are lost when leases are skipped (R590). -/
def KeyRec.leaseFrom (k : KeyRec) (first : Nat) : KeyRec :=
  if first = k.counterLease then { k with counterLease := first + 65536 }
  else { k with counter := Nat.max k.counter first, recCounter := Nat.max k.recCounter first, counterLease := first + 65536 }

/-- KEY_COUNTER_LEASE_WRITE: the next lease end is written, once 16,384 values or fewer remain; a mirrored key's lease also waits for the
twin, or is granted under the parity rule once the present one is used up (R590). -/
def execKeyCounterLeaseWrite (h : Word) (programmed : Bool) (s : State) : Host.Outcome State Fault Refusal :=
  .next (match KMap.get h.toNat s.csn.keys with
    | none => s
    | some k =>
      let waits := s.spn.waits.any (fun p => match p.2 with | .counter i _ => decide (i = h.toNat) | _ => false)
      let first := if s.mirrors k.attr then s.leaseStart 0 k.counterLease else k.counterLease
      let late := decide (k.leasedCount + 16384 < k.counterLease) || (decide (first ≠ k.counterLease) && decide (k.leasedCount < k.counterLease))
      if !s.serving ∨ !(s.leased k) ∨ late ∨ waits then s
      else if !programmed ∧ Alg.aPersistent k.attr then (s.report uCsn 0 0x0D).failLeaseWaiters h.toNat
      else
        let k1 := k.leaseFrom first
        let stop := k1.counterLease
        let s1 := if Alg.aPersistent k.attr then (s.shelfRecord 1 h.toNat k.kgen (some { k1 with staged := none }) [] s.shelfEpoch).compactIfLow else s
        if s.mirrors k.attr && !s.lone then s1.mirror (.counter h.toNat stop) [.counter h stop stop] else s1.modKey h.toNat (fun _ => k1))

/-! ### Residency (R451, R452) -/

/-- Jobs that wait for the value of a key. -/
def State.keyWaiters (s : State) (h : Nat) : List Nat :=
  (s.jobs.filter (fun p => decide (dKey p.2.desc = h) && p.2.key.isSome && !p.2.committed && decide (p.2.stage = .queued ∨ p.2.stage = .running))).map (·.1)

/-- The overflow record of a key that is not resident fails its integrity check: the jobs that wait end, and the key is reloaded from the
shelf or marked unusable. -/
def State.overflowLost (s : State) (h : Nat) : State :=
  match KMap.get h s.csn.keys with
  | none => s
  | some k =>
    if k.resident then s
    else
      (s.keyWaiters h).foldl (fun t j => t.finishJob j (failWith St.uncorrectable 0) [])
        (s.setKey h { k with resident := k.shelved, lastUse := s.time, unusable := k.unusable || !k.shelved })

/-- OVERFLOW_KEY_FETCH: the value is fetched and unwrapped; a record that fails its integrity check ends the jobs that wait, and is
reloaded from the shelf or marked unusable. -/
def execOverflowKeyFetch (h : Word) (intact : Bool) (s : State) : Host.Outcome State Fault Refusal :=
  .next (match KMap.get h.toNat s.csn.keys with
    | none => s
    | some k =>
      if k.resident ∨ !s.serving then s
      else
        let s1 := if intact then s.setKey h.toNat { k with resident := true, lastUse := s.time } else s.overflowLost h.toNat
        ((s1.bump Reg.csnFetch).evict s1.csn.keys.length).ackSource (src uCsn 0) [0x02])

end Sys2Proof.Machine
end

