-- ==== Sys2Proof/Machine/DgeOps.lean ====
section
/-! DEFINITION. The register contexts of the digest engine (R487 to R501): checks, blocks, completion, saved states. -/

namespace Sys2Proof.Machine

open Sys2Proof

/-- The contexts answer: READY, PD24 on, and the VI's window reached (R29, R30, R560, R709). -/
def State.dgeLive (s : State) (v : Nat) : Bool :=
  decide (s.glb.dev = .ready) && s.tol.pd.testBit 24 && s.reaches v

/-- Words of a block (R487). -/
def blockWords (a : Nat) : Nat :=
  if a = 0x0A01 then 16 else if a = 0x0A02 ∨ a = 0x0A03 then 32 else if a = 0x0A05 then 26 else if a = 0x0A06 then 18
  else if a = 0x0A07 then 42 else 34

/-- Ticks of 10 ns that a block takes: its CLK_CTL cycles of 2.5 ns (R487). -/
def blockTicks (a : Nat) : Nat := if a = 0x0A01 then 16 else if a = 0x0A02 ∨ a = 0x0A03 then 20 else 6

/-- SHAKE and KMAC256: the output is a stream of OUTLEN bytes (R494). -/
def xof (a : Nat) : Bool := decide (a = 0x0A07 ∨ a = 0x0A08 ∨ a = 0x0A09)

/-- Words of the customisation string (R496). -/
def DgeCtx.custWords (x : DgeCtx) : Nat := if x.runAlg = 0x0A09 then (x.custlen + 3) / 4 else 0

/-- The bytes of some words. -/
def wordBytes (l : List Word) : Bytes := (l.map (fun w => leBytes 4 w.toNat)).flatten

/-! ### Processing (R494, R497) -/

/-- What an idle processor starts at tick `now`: the next block, whose words leave the buffer, or the FINAL that waits for it. -/
def DgeCtx.begin_ (x : DgeCtx) (now : Nat) : DgeCtx :=
  let n := blockWords x.runAlg
  if x.op ≠ .none ∨ x.stage ≠ .absorb then x
  else if n ≤ x.buf.length then
    { x with op := .block (now + blockTicks x.runAlg), data := x.data ++ wordBytes (x.buf.take n), buf := x.buf.drop n }
  else if x.closed then { x with op := .final } else x

/-- Blocks that have ended by tick `now`; `fuel` bounds them. -/
def DgeCtx.settleTo (now : Nat) : Nat → DgeCtx → DgeCtx
  | 0, x => x
  | fuel + 1, x =>
    match x.op with
    | .block e => if e ≤ now then DgeCtx.settleTo now fuel (DgeCtx.begin_ { x with op := .none } e) else x
    | _ => x

/-- A context brought up to the present tick: at most the 64 words of its buffer wait. -/
def State.dgeNow (s : State) (c : Nat) : DgeCtx := DgeCtx.settleTo s.time 65 (s.dgeCtx c)

/-- The context is zeroised and keeps its claim (R493, R495); `err` is what ERR then holds. -/
def DgeCtx.cleared (x : DgeCtx) (err : Nat) : DgeCtx := { DgeCtx.reset with owner := x.owner, stage := .idle, err := err }

/-- A cause that clears the context (R495). -/
def State.clearDge (s : State) (c err : Nat) : State := (s.setDgeCtx c ((s.dgeCtx c).cleared err)).bump Reg.dgeCleared

/-! ### INIT (R494, R495) -/

/-- ALG, SOFT_PAD and OUTLEN are accepted. -/
def DgeCtx.setupOk (x : DgeCtx) : Bool :=
  let keyed := decide (x.key ≠ noKey)
  (if keyed then (decide (0x0A01 ≤ x.alg) && decide (x.alg ≤ 0x0A06)) || decide (x.alg = 0x0A09)
   else decide (0x0A01 ≤ x.alg) && decide (x.alg ≤ 0x0A08)) &&
    !(keyed && x.softPad) && (!(xof x.alg) || (decide (1 ≤ x.outlen) && decide (x.outlen ≤ 65536))) && decide (x.custlen ≤ 255)

/-- The key of a keyed context, when it is the VI's, has MAC usage and matches ALG. -/
def State.dgeKey (s : State) (v h alg : Nat) : Option KeyRec :=
  match s.ownKey v h with
  | some k => if Alg.hasUse k.attr Alg.uMac && decide (k.alg = alg) && !k.unusable then some k else none
  | none => none

def State.dgeInit (s : State) (c v : Nat) (x : DgeCtx) : State :=
  if !x.setupOk then s.setDgeCtx c { x with stage := .idle, approved := false, err := 7 }
  else
    let start (k : Option KeyRec) : DgeCtx :=
      { x with stage := .absorb, op := .none, approved := false, err := 0, words := 0, buf := [], lost := false, closed := false, runAlg := x.alg,
               runSoft := x.softPad, runKey := x.key, keyValue := (k.map (·.value)).getD [], kgen := (k.map (·.kgen)).getD 0,
               keyApproved := (k.map (fun y => Alg.aApproved y.attr)).getD false, base := [], data := [], stream := [], pos := 0 }
    if x.key = noKey then s.setDgeCtx c (start none)
    else match s.dgeKey v x.key x.alg with
      | none => s.setDgeCtx c { x with stage := .idle, approved := false, err := 5 }
      | some k => let s1 := s.setDgeCtx c (start (some k)); if k.once then s1.zeroiseKey x.key else s1

/-! ### Completion (R496, R498 to R500) -/

/-- The output stream of a finished context: hash, HMAC or KMAC256 of the bytes since INIT, on the restored state where there is one. -/
def DgeCtx.finish (x : DgeCtx) : Bytes :=
  let all := x.data ++ wordBytes x.buf
  let cust := all.take x.custlen
  let msg := (all.drop (4 * x.custWords)).take x.total
  let soft : Byte := if x.runSoft then 1 else 0
  if x.runAlg = 0x0A09 then stdOut .kmac x.runAlg [x.keyValue, x.base, cust, msg] x.outlen
  else if x.runKey ≠ noKey then stdOut .hmac x.runAlg [x.keyValue, x.base, msg] (Alg.hashLen x.runAlg)
  else
    let n := if xof x.runAlg then x.outlen else if x.runSoft ∧ x.runAlg = 0x0A02 then 64 else Alg.hashLen x.runAlg
    stdOut .hash x.runAlg [[soft], x.base, msg] n

/-- A FINAL completes: WORDS against the required count, whole blocks under SOFT_PAD, then the output. -/
def State.dgeFinish (s : State) (c : Nat) (x : DgeCtx) : State :=
  if x.lost ∨ x.words ≠ (x.total + 3) / 4 + x.custWords then (s.clearDge c 3).bump Reg.dgeFinalFail
  else if x.runSoft ∧ x.total % (4 * blockWords x.runAlg) ≠ 0 then (s.clearDge c 7).bump Reg.dgeFinalFail
  else
    let ok := decide (s.lcs.lstate = .edition) && !x.runSoft && (decide (x.runKey = noKey) || x.keyApproved)
    s.setDgeCtx c { x with stage := .done, op := .none, closed := false, approved := ok, stream := x.finish, pos := 0, buf := [], data := [] }

/-- The saved state (R499); the layout of STATE and its ciphertext are the standard's and the model's (assumption log 1). -/
def State.dgeSaved (s : State) (v : Nat) (x : DgeCtx) : Bytes :=
  let h := leBytes 4 0x45474453 ++ leBytes 2 1 ++ leBytes 2 x.runAlg ++ leBytes 2 v ++ leBytes 2 (s.vi v).gen.toNat ++ leBytes 4 x.runKey ++
    leBytes 4 x.kgen ++ [BitVec.ofNat 8 (bitAt 0 (decide (x.runKey ≠ noKey)) + bitAt 1 (decide (0 < x.custWords ∧ x.custWords ≤ x.words))), 0, 0, 0] ++
    leBytes 8 x.total ++ leBytes 8 x.words ++ drawBytes s.draws 12
  let inner := stdOut .hbsIndexState x.runAlg [x.keyValue, x.base, x.data] 432 ++ leBytes 4 x.outlen ++ leBytes 1 x.custlen ++
    [if x.runSoft then 1 else 0] ++ zeros 6
  h ++ stdOut .aeadSeal 0x0902 [s.dge.saveKey, h, inner] 460

/-- RESTORE judges the 512 B it has read (R500). -/
def State.dgeRestored (s : State) (c v : Nat) (x : DgeCtx) (b : Bytes) : State :=
  let h := b.take 52
  let body := b.drop 52
  let key := rd b 12 4
  let alg := rd b 6 2
  let keyed := (rd b 20 1).testBit 0
  let k : Option KeyRec := if keyed then s.dgeKey v key alg else none
  let good := decide (b.length = 512) && decide (rd b 0 4 = 0x45474453) && decide (rd b 4 2 = 1) &&
    Config.stdCheck .blob 0x0902 [s.dge.saveKey, h, body] && decide (rd b 8 2 = v) && decide (rd b 10 2 = (s.vi v).gen.toNat) &&
    (!keyed || k.any (fun y => decide (y.kgen = rd b 16 4)))
  if !good then (s.clearDge c 6).bump Reg.dgeRestoreFail
  else
    let inner := stdOut .aeadOpen 0x0902 [s.dge.saveKey, h, body] 444
    s.setDgeCtx c
      { x with stage := .absorb, op := .none, err := 0, words := rd b 32 8, buf := [], lost := false, closed := false, runAlg := alg,
               softPad := (rd inner 437 1).testBit 0, runSoft := (rd inner 437 1).testBit 0, runKey := if keyed then key else noKey,
               keyValue := (k.map (·.value)).getD [], kgen := rd b 16 4, keyApproved := (k.map (fun y => Alg.aApproved y.attr)).getD false,
               outlen := rd inner 432 4 % 2 ^ 17, custlen := rd inner 436 1, base := inner.take 432, data := [], stream := [], pos := 0 }

/-! ### Commands (R489, R492 to R494) -/

/-- DGE_CLAIM_RESULT after a claim (R491). -/
def claimWord (result owner ctx : Nat) : Word := BitVec.ofNat 32 (result * 2 ^ 28 + owner * 2 ^ 16 + ctx)

def State.setClaim (s : State) (v result owner c : Nat) : State := s.modVi v (fun y => { y with claimResult := claimWord result owner c })

/-- Contexts that a VI holds. -/
def State.dgeHeld (s : State) (v : Nat) : Nat := ((List.range 8).filter (fun c => decide ((s.dgeCtx c).owner = some v))).length

/-- CLAIM (R492); the owner is told to VI 0 alone. -/
def State.dgeClaim (s : State) (v c : Nat) : State :=
  match (s.dgeCtx c).owner with
  | some o =>
    if o = v then s.setClaim v 1 0 c else (s.setClaim v 2 (if v = 0 then o else 0) c).bump Reg.dgeClaimRefused
  | none =>
    if s.dgeHeld v < (s.vi v).quota.dgeCtx then (s.setDgeCtx c { DgeCtx.reset with owner := some v, stage := .idle }).setClaim v 1 0 c
    else (s.setClaim v 3 0 c).bump Reg.dgeClaimRefused

/-- A command out of state: ERR 0x0B and nothing else (R494). -/
def State.dgeRefuse (s : State) (c : Nat) (x : DgeCtx) : State := s.setDgeCtx c { x with err := 0xB }

/-- A command of the owner on a context that is not being released: `f` on the context as it is now. -/
def State.dgeCmd (s : State) (v c : Nat) (f : State → DgeCtx → State) : State :=
  if !(s.dgeLive v) then s.rejected v
  else
    let x := s.dgeNow c
    if x.owner = some v ∧ !x.releasing then f s x else s

/-- DATA (R494, R497); a write that carries poisoned data clears the context (R495). -/
def State.dgeData (s : State) (c : Nat) (x : DgeCtx) (w : Word) (poisoned : Bool) : State :=
  if x.stage ≠ .absorb ∨ x.closed then s.dgeRefuse c x
  else if poisoned then s.clearDge c 8
  else if 64 ≤ x.buf.length then s.setDgeCtx c { x with err := 4, lost := true }
  else s.setDgeCtx c (DgeCtx.begin_ { x with buf := x.buf ++ [w], words := (x.words + 1) % 2 ^ 64 } s.time)

def State.dgeFinal (s : State) (c : Nat) (x : DgeCtx) : State :=
  if x.stage ≠ .absorb ∨ x.closed then s.dgeRefuse c x else s.setDgeCtx c (DgeCtx.begin_ { x with closed := true } s.time)

/-- SQUEEZE: the next 64 B of the stream, if a byte is left. -/
def State.dgeSqueeze (s : State) (c : Nat) (x : DgeCtx) : State :=
  if x.stage ≠ .done ∨ x.op ≠ .none ∨ !(xof x.runAlg) ∨ x.stream.length ≤ x.pos + 64 then s.dgeRefuse c x
  else s.setDgeCtx c { x with pos := x.pos + 64, op := .squeeze }

/-- SAVE: with the buffer drained. -/
def State.dgeSave (s : State) (c : Nat) (x : DgeCtx) : State :=
  if x.stage ≠ .absorb ∨ x.closed ∨ !x.buf.isEmpty then s.dgeRefuse c x else s.setDgeCtx c { x with stage := .saving, op := .save }

/-- RESTORE: the 512 B are read. -/
def State.dgeRestore (s : State) (v c : Nat) (x : DgeCtx) : State :=
  if x.stage ≠ .idle then s.dgeRefuse c x
  else (s.setDgeCtx c { x with stage := .restoring, op := .restore }).emit (.hostRead v (s.via v) x.saveAddr 512)

def State.dgeDoInit (s : State) (v c : Nat) (x : DgeCtx) : State :=
  if x.stage = .idle ∨ (x.stage = .done ∧ x.op = .none) then s.dgeInit c v x else s.dgeRefuse c x

/-- RELEASE stops everything; the context is FREE once its zeroisation ends (R493). -/
def State.dgeRelease (s : State) (c : Nat) (x : DgeCtx) : State :=
  s.setDgeCtx c { DgeCtx.reset with owner := x.owner, stage := x.stage, releasing := true }

/-- The operation in progress ends (R494). -/
def State.dgeComplete (s : State) (c : Nat) (o : ReadOutcome) : State :=
  let x := s.dgeNow c
  match x.owner with
  | none => s
  | some v =>
    match x.op with
    | .none => s
    | .block _ => s.setDgeCtx c (DgeCtx.begin_ { x with op := .none } s.time)
    | .final => s.dgeFinish c x
    | .squeeze => s.setDgeCtx c { x with op := .none }
    | .save =>
      if !(s.dmaOk v) then s
      else (match o with
        | .data _ =>
          ((s.emit (.dma v (s.via v) x.saveAddr (s.dgeSaved v x))).nextDraw.setDgeCtx c { x with stage := .absorb, op := .none }).bump Reg.dgeSaves
        | _ => s.clearDge c 8)
    | .restore =>
      if !(s.dmaOk v) then s
      else (match o with
        | .data b => s.dgeRestored c v x b
        | _ => s.clearDge c 8)

end Sys2Proof.Machine
end

