-- ==== Sys2Proof/Machine/Dge.lean ====
section
/-! DEFINITION. Meanings of the digest-engine commands, and of HASH and MAC (R122, R123, R486 to R501). -/

namespace Sys2Proof.Machine

open Sys2Proof

def execDgeClaim (v : Fin 256) (c : Fin 8) (s : State) : Host.Outcome State Fault Refusal :=
  .next (if s.dgeLive v.val then s.dgeClaim v.val c.val else s.rejected v.val)

def execDgeRelease (v : Fin 256) (c : Fin 8) (s : State) : Host.Outcome State Fault Refusal :=
  .next (s.dgeCmd v.val c.val (fun t x => t.dgeRelease c.val x))

def execDgeInit (v : Fin 256) (c : Fin 8) (s : State) : Host.Outcome State Fault Refusal :=
  .next (s.dgeCmd v.val c.val (fun t x => t.dgeDoInit v.val c.val x))

def execDgeDataWrite (v : Fin 256) (c : Fin 8) (w : Word) (poisoned : Bool) (s : State) : Host.Outcome State Fault Refusal :=
  .next (s.dgeCmd v.val c.val (fun t x => t.dgeData c.val x w poisoned))

def execDgeFinal (v : Fin 256) (c : Fin 8) (s : State) : Host.Outcome State Fault Refusal :=
  .next (s.dgeCmd v.val c.val (fun t x => t.dgeFinal c.val x))

def execDgeSqueeze (v : Fin 256) (c : Fin 8) (s : State) : Host.Outcome State Fault Refusal :=
  .next (s.dgeCmd v.val c.val (fun t x => t.dgeSqueeze c.val x))

def execDgeSave (v : Fin 256) (c : Fin 8) (s : State) : Host.Outcome State Fault Refusal :=
  .next (s.dgeCmd v.val c.val (fun t x => t.dgeSave c.val x))

def execDgeRestore (v : Fin 256) (c : Fin 8) (s : State) : Host.Outcome State Fault Refusal :=
  .next (s.dgeCmd v.val c.val (fun t x => t.dgeRestore v.val c.val x))

/-- ABANDON: as RELEASE, but the claim stays (R493). -/
def execDgeAbandon (v : Fin 256) (c : Fin 8) (s : State) : Host.Outcome State Fault Refusal :=
  .next (s.dgeCmd v.val c.val (fun t x => t.setDgeCtx c.val (x.cleared 0)))

def execDgeOperationComplete (c : Fin 8) (o : ReadOutcome) (s : State) : Host.Outcome State Fault Refusal :=
  .next (if s.dgeLive 0 && !((s.dgeCtx c.val).releasing) then s.dgeComplete c.val o else s)

/-- DGE_ZEROISE_COMPLETE: RESULT of the former owner and FREE change with it (R493). -/
def execDgeZeroiseComplete (c : Fin 8) (s : State) : Host.Outcome State Fault Refusal :=
  .next (match (s.dgeCtx c.val).owner with
    | some v =>
      if (s.dgeCtx c.val).releasing then
        let s1 := s.setDgeCtx c.val DgeCtx.reset
        if (s.vi v).claimResult = claimWord 1 0 c.val then s1.setClaim v 0 0 c.val else s1
      else s
    | none => s)

/-- DGE_RECLAIM: the named contexts are zeroised and released; ERR is not kept (R501). -/
def execDgeReclaim (w : Word) (s : State) : Host.Outcome State Fault Refusal :=
  .next (if s.dgeLive 0 then (onesOf 8 w.toNat).foldl (fun t c => t.dropDgeCtx c 0) s else s)

/-! ### HASH and MAC on the command units (R122, R123) -/

/-- Command units left to the descriptors (R486): the DGE retires those that fail. -/
def State.unitLeft (s : State) : Bool := decide (popCount 4 s.dge.retired < 4)

/-- The digest of a message. -/
def digestOf (alg n : Nat) (msg : Bytes) : Bytes := stdOut .hash alg [[0], [], msg] n

/-- A stream context: a key record whose value is the message so far (R122). -/
def streamKey (alg : Nat) (msg : Bytes) : KeyRec := newKey alg 0 (BitVec.ofNat 32 (2 ^ Alg.uStream)) oDerived msg [] true

def doHash (s : State) (x : Job) : State × Result × List Need :=
  let b := x.desc
  let a := dAlg b
  let n := if Alg.isShake a then dP1 b else Alg.hashLen a
  let old := (((KMap.get (dKey b) s.csn.keys).map (·.value)).getD [])
  match bits (dP0 b) 17 16 with
  | 0 => (s, okWith 0 (digestOf a n x.input), [])
  | 1 => (s, okKeys 0 [] [streamKey a x.input] [], [])
  | 2 =>
    (match KMap.get (dKey b) s.csn.keys with
    | some k => (s, okEff 0 [] [.putKey (dKey b) { k with value := old ++ x.input }], [])
    | none => (s, failWith St.keyNotFound 0, []))
  | _ => (s, okEff 0 (digestOf a n (old ++ x.input)) [.delKey (dKey b)], [])

def execHash (j : Nat) (s : State) : Host.Outcome State Fault Refusal := .next (if s.unitLeft then s.runJob j 0x0401 doHash else s)

/-- MAC: the tag, or the verdict of R120 on a supplied one. -/
def doMac (s : State) (x : Job) : State × Result × List Need :=
  let b := x.desc
  let a := dAlg b
  let key := (x.key.map (·.value)).getD []
  let n := dP1 b
  let cust := x.input.take (dP2 b)
  let rest := x.input.drop (dP2 b)
  let verify := (dP0 b).testBit 16
  let msg := if verify then rest.take (rest.length - n) else rest
  let tag := if Alg.isKmac a then stdOut .kmac a [key, [], cust, msg] n else (stdOut .hmac a [key, [], msg] (Alg.hashLen a)).take n
  if verify then (s, okWith (if tag = rest.drop (rest.length - n) then 1 else 0) [], []) else (s, okWith 0 tag, [])

def execMac (j : Nat) (s : State) : Host.Outcome State Fault Refusal := .next (if s.unitLeft then s.runJob j 0x0402 doMac else s)

end Sys2Proof.Machine
end

