-- ==== Sys2Proof/Machine/FrameOps.lean ====
section
/-! DEFINITION. Frames as the parser and the classifier read them, and DTLS record headers (R370 to R376, R394, R395). -/

namespace Sys2Proof.Machine

open Sys2Proof

/-! ### Ethernet and IP (R370) -/

/-- A frame without its FCS: addresses, tag control (0xFFFF untagged), EtherType, offset and bytes of what follows. -/
structure Eth where
  dst : Bytes
  src : Bytes
  tci : Nat
  etherType : Nat
  off : Nat
  l3 : Bytes
  deriving DecidableEq, Repr

def parseEth (f : Bytes) : Eth :=
  if rdBe f 12 2 = 0x8100 then
    { dst := slice f 0 6, src := slice f 6 6, tci := rdBe f 14 2, etherType := rdBe f 16 2, off := 18, l3 := f.drop 18 }
  else { dst := slice f 0 6, src := slice f 6 6, tci := 0xFFFF, etherType := rdBe f 12 2, off := 14, l3 := f.drop 14 }

/-- VLAN for matching: untagged and VLAN ID 0 are VLAN 0. -/
def Eth.vid (e : Eth) : Nat := if e.tci = 0xFFFF then 0 else e.tci % 4096

/-- An IP datagram: version 6 or 4, addresses in 16 B, protocol, total length, payload. -/
structure Ip where
  v6 : Bool
  src : Bytes
  dst : Bytes
  proto : Nat
  total : Nat
  body : Bytes
  deriving DecidableEq, Repr

/-- What the parser makes of the bytes after the EtherType: a defect, an exception with its REASON, or a datagram. -/
inductive L3 where
  | defect
  | exc (reason : Nat)
  | ip (d : Ip)
  deriving DecidableEq, Repr

/-- The IPv4 checks: header defects first, then fragments, then the protocol. -/
def parseIpv4 (b : Bytes) : L3 :=
  let hl := rdBe b 0 1 % 16 * 4
  let total := rdBe b 2 2
  if b.length < 20 ∨ rdBe b 0 1 / 16 ≠ 4 ∨ hl < 20 ∨ b.length < hl ∨ onesSum (b.take hl) ≠ 0xFFFF ∨ b.length < total ∨ total < hl then .defect
  else if rdBe b 6 2 % 0x4000 ≠ 0 then .exc 2
  else
    let p := rdBe b 9 1
    if p = 1 then .exc 3
    else if p ≠ 17 ∧ p ≠ 50 then .exc 6
    else .ip { v6 := false, src := padTo 16 (slice b 12 4), dst := padTo 16 (slice b 16 4), proto := p, total := total, body := slice b hl (total - hl) }

/-- The IPv6 checks. -/
def parseIpv6 (b : Bytes) : L3 :=
  let n := rdBe b 4 2
  if b.length < 40 ∨ rdBe b 0 1 / 16 ≠ 6 ∨ b.length < 40 + n then .defect
  else
    let p := rdBe b 6 1
    if p = 44 then .exc 2
    else if p = 58 then .exc 3
    else if p ≠ 17 ∧ p ≠ 50 then .exc 6
    else .ip { v6 := true, src := slice b 8 16, dst := slice b 24 16, proto := p, total := 40 + n, body := slice b 40 n }

def Eth.parse (e : Eth) : L3 :=
  if e.etherType = 0x0800 then parseIpv4 e.l3 else if e.etherType = 0x86DD then parseIpv6 e.l3 else .exc 6

/-- The UDP checks: length equal to the IP payload, checksum correct, checksum 0 only over IPv4. -/
def Ip.udpOk (d : Ip) : Bool :=
  let n := d.body.length
  let pseudo := if d.v6 then d.src ++ d.dst ++ beBytes 4 n ++ [0, 0, 0, 17] else d.src.take 4 ++ d.dst.take 4 ++ [0, 17] ++ beBytes 2 n
  decide (8 ≤ n) && decide (rdBe d.body 4 2 = n) &&
    (if rdBe d.body 6 2 = 0 then !d.v6 else decide (onesSum (pseudo ++ d.body) = 0xFFFF))

/-- UDP payload. -/
def Ip.payload (d : Ip) : Bytes := if d.proto = 17 then d.body.drop 8 else d.body

/-- Addresses of a received datagram as a session keeps them (R389). -/
def pathOf (e : Eth) (d : Ip) : Path :=
  { peerAddr := d.src, localAddr := d.dst, peerPort := if d.proto = 17 then rdBe d.body 0 2 else 0,
    localPort := if d.proto = 17 then rdBe d.body 2 2 else 0, vlan := e.tci, peerMac := e.src }

/-! ### Local addresses (R375) -/

def wordDef (_ : Nat) : Word := 0

/-- Entry `e` of a port's local address table. -/
def Port.localEntry (x : Port) (e : Nat) : Bytes := ((List.range 8).map (fun w => leBytes 4 (SMap.get wordDef (e * 8 + w) x.addr).toNat)).flatten

/-- The valid entries. -/
def Port.locals (x : Port) : List Bytes := ((List.range 16).map x.localEntry).filter (fun b => (rd b 18 1).testBit 0)

/-- A valid entry holds an address of a version, on a VLAN. -/
def Port.isLocal (x : Port) (v6 : Bool) (addr : Bytes) (vid : Nat) : Bool :=
  x.locals.any (fun b => decide ((rd b 18 1).testBit 1 = v6) && decide (slice b 0 16 = padTo 16 addr) && decide (rd b 16 2 % 4096 = vid))

/-- The entry of a port that binds an address to a VI for inbound SAs (R106). -/
def Port.espBound (x : Port) (v6 : Bool) (addr : Bytes) (v : Nat) : Bool :=
  x.locals.any (fun b => decide ((rd b 18 1).testBit 1 = v6) && (rd b 18 1).testBit 2 && decide (rd b 19 1 = v) && decide (slice b 0 16 = padTo 16 addr))

/-! ### DTLS records (R373 to R376, R394, R395) -/

/-- A unified header: C, S and L bits, the parts of the record; `none` where the bytes present do not hold a whole header. -/
structure DtlsHead where
  cid : Bytes
  seqLen : Nat
  seq : Bytes
  hasLen : Bool
  len : Nat
  hdrLen : Nat
  deriving DecidableEq, Repr

def parseDtls (b : Bytes) : Option DtlsHead :=
  let h := rd b 0 1
  let c := if h.testBit 4 then 8 else 0
  let sl := if h.testBit 3 then 2 else 1
  let ll := if h.testBit 2 then 2 else 0
  let n := 1 + c + sl + ll
  if h / 32 ≠ 1 ∨ b.length < n then none
  else some { cid := slice b 1 c, seqLen := sl, seq := slice b (1 + c) sl, hasLen := h.testBit 2,
              len := if h.testBit 2 then rdBe b (1 + c + sl) 2 else b.length - n, hdrLen := n }

/-- The records of a datagram, in order: one without a header that can be read, or longer than what is left, takes all the rest. -/
def splitRecords : Nat → Bytes → List Bytes
  | 0, _ => []
  | fuel + 1, b =>
    if b.isEmpty then []
    else match parseDtls b with
      | some h =>
        if !h.hasLen || decide (b.length < h.hdrLen + h.len) then [b]
        else b.take (h.hdrLen + h.len) :: splitRecords fuel (b.drop (h.hdrLen + h.len))
      | none => [b]

/-- The number with low `w` bits `field` that lies closest to `expect`; of two equally close the larger (assumption log 31). -/
def closest (w field expect : Nat) : Nat :=
  let m := 2 ^ w
  let half := m / 2
  let base := expect / m * m + field % m
  if expect + half < base then (if base < m then base else base - m)
  else if base + half ≤ expect then base + m
  else base

/-- The record with its sequence number unmasked: header as protected, sequence field, ciphertext with tag (RFC 9147). -/
def unmask (alg : Nat) (snKey b : Bytes) (h : DtlsHead) : Bytes × Nat × Bytes :=
  let ct := b.drop h.hdrLen
  let ct := ct.take h.len
  let sn := xorBytes h.seq (stdOut .recordMask alg [snKey, ct.take 16] h.seqLen)
  (b.take 1 ++ h.cid ++ sn ++ (if h.hasLen then beBytes 2 h.len else []), beNat sn, ct)

/-- The connection ID that the device issued for session `i` (R374). -/
def Session.cid (x : Session) (i : Nat) : Bytes := if x.ownCid then beBytes 5 x.rx.cidCheck ++ beBytes 3 i else []

/-! ### Sessions that the classifier finds (R373 to R376) -/

/-- Inbound SA by port, outer destination address and SPI. -/
def State.findSa (s : State) (p : Nat) (v6 : Bool) (dst : Bytes) (spi : Nat) : Option Nat :=
  (s.cwy.sessions.find? (fun q => let x := q.2
    decide (x.kind = 2) && !x.outbound && decide (x.port = p) && decide (x.ipv6 = v6) && decide (padTo 16 x.path.localAddr = padTo 16 dst) &&
      (decide (x.rx.spi = spi) || (x.altValid && decide (x.alt.id = spi))))).map (·.1)

/-- DTLS session by connection ID. -/
def State.findCid (s : State) (p : Nat) (cid : Bytes) : Option Nat :=
  let i := beNat (cid.drop 5)
  match s.session i with
  | some x => if x.kind = 1 ∧ x.ownCid ∧ x.port = p ∧ x.cid i = cid then some i else none
  | none => none

/-- DTLS session by 5-tuple. -/
def State.findTuple (s : State) (p : Nat) (v6 : Bool) (a : Path) : Option Nat :=
  (s.cwy.sessions.find? (fun q => let x := q.2
    decide (x.kind = 1) && !x.ownCid && decide (x.port = p) && decide (x.ipv6 = v6) && decide (x.path.peerAddr = a.peerAddr) &&
      decide (x.path.localAddr = a.localAddr) && decide (x.path.peerPort = a.peerPort) && decide (x.path.localPort = a.localPort))).map (·.1)

/-! ### Receive rings (R73 to R75, R407) -/

/-- An offset rounded up to 64 B. -/
def up64 (n : Nat) : Nat := (n + 63) / 64 * 64

/-- Where `n` contiguous bytes go in a data area: after the newest piece, or at offset 0 when they do not fit before the end; an area without
pieces starts at 0 (assumption log 32). -/
def Ring.place (r : Ring) (n : Nat) : Option Nat :=
  let size := 2 ^ r.log2Data.toNat
  match r.pieces.head?, r.pieces.getLast? with
  | some (_, o, _), some (_, l, m) =>
    let e := up64 (l + m)
    if l < o then (if e + n ≤ o then some e else none)
    else if e + n ≤ size then some e
    else if n ≤ o then some 0 else none
  | _, _ => if n ≤ size then some 0 else none

/-- The 32 B of a receive entry, PHASE apart (R73); `id` is bytes 4 to 7. -/
def rxEntry (kind : Nat) (drop : Bool) (port content id recnum off len stamp : Nat) : Bytes :=
  [BitVec.ofNat 8 kind, if drop then 1 else 0, BitVec.ofNat 8 port, BitVec.ofNat 8 content] ++ leBytes 4 id ++ leBytes 8 recnum ++
    leBytes 4 off ++ leBytes 4 len ++ leBytes 8 stamp

/-- Write a piece and its entry to ring `k` of VI `v`, or nothing when the ring is full or its DMA stops (R74, R75, R518). -/
def State.writeData (s : State) (v k : Nat) (data : Bytes) (entry : Nat → Bytes) : Option State :=
  let r := s.ring v k
  match (if r.full || !(s.dmaOk v) then none else r.place data.length) with
  | none => none
  | some off =>
    let s1 := if data.isEmpty then s else s.emit (.dma v (s.via v) (r.baseB.toNat + off) data)
    let s2 := s1.modRing v k (fun x => { x with pieces := x.pieces ++ [(x.writeIdx, off, data.length)] })
    some (s2.writeEntry v k r.baseA 1 (entry off) false)

end Sys2Proof.Machine
end

