-- ==== Sys2Proof/Machine/LaneOps.lean ====
section
/-! DEFINITION. Cipher lanes: costs, the lane queues, restarts, retirement and the redundant lane (R423 to R429). -/

namespace Sys2Proof.Machine

open Sys2Proof

/-! ### Costs (R423) -/

/-- ChaCha20-Poly1305, as an ESP algorithm or a cipher suite. -/
def isChacha (alg : Nat) : Bool := decide (alg = 0x0903 ∨ alg = 0x1303)

/-- Cycles of a seal or open over `n` bytes of additional data and text. -/
def aeadCycles (alg n : Nat) : Nat := if isChacha alg then (n + 15) / 16 + 2 else (n + 31) / 32 + 2

/-- Cycles of a record of a session; a DTLS record takes one more. -/
def recCycles (alg kind n : Nat) : Nat := aeadCycles alg n + (if kind = 1 then 1 else 0)

/-- Cycles of a look-aside job. A BATCH, whose items are not read before its lane takes it, counts the fixed part of each item
(assumption log 33). -/
def Job.laneCycles (x : Job) : Nat :=
  let b := x.desc
  let n := dLenIn b
  let key := (x.key.map (·.alg)).getD 0
  match dOp b with
  | 0x0501 => aeadCycles (dAlg b) (if (dP0 b).testBit 16 then n else n - 12)
  | 0x0502 => aeadCycles (dAlg b) (n - 28)
  | 0x0503 => aeadCycles key (n + bits (dP0 b) 31 16 + 1) + (if bits (dP0 b) 7 0 = 2 then 1 else 0)
  | 0x0504 => aeadCycles key (n - 16) + (if bits (dP0 b) 7 0 = 2 then 1 else 0)
  | _ => 2 * (n / 64)

/-! ### The queues (R425) -/

/-- Jobs of a VI and CLASS in the lane queues. -/
def State.laneQueued (s : State) (v c : Nat) : Nat := (s.lne.queue.filter (fun w => decide (w.vi = v) && decide (w.cls = c))).length

def State.enqueueLane (s : State) (w : LaneWork) : State := { s with lne := { s.lne with queue := s.lne.queue ++ [w] } }

/-- Lanes that take work: on duty and not disabled. -/
def State.laneUp (s : State) (l : Nat) : Bool := s.lne.onDuty.testBit l && !(s.fn.lanes.contains l)

/-- A lane is free to take a job: idle, or running with a pipeline that accepts one. -/
def State.laneFree (s : State) (l : Nat) : Bool := s.laneUp l && decide ((s.lane l).state = .idle ∨ (s.lane l).state = .run)

/-- Cycles still to run in a lane. -/
def Lane.left (x : Lane) : Nat := x.work.foldl (fun n w => n + w.cost) 0

/-- The lane that takes the next job: the least to run, the lowest of equals. -/
def State.chosenLane (s : State) : Option Nat :=
  ((List.range 8).filter s.laneFree).foldl (fun (m : Option Nat) l =>
    match m with
    | none => some l
    | some k => if (s.lane l).left < (s.lane k).left then some l else some k) none

/-- Work names: a record and a look-aside job may bear one number. -/
def LaneWork.tag (w : LaneWork) : Nat := 2 * w.id + (if w.isRec then 1 else 0)

/-- The oldest work of each VI in a class, with its cost against the quantum of 4,096 cycles per weight (`drr` counts 8,192). -/
def laneCands (l : List LaneWork) : List Cand :=
  (List.range 256).filterMap (fun v => (l.find? (fun w => decide (w.vi = v))).map (fun w => (v, 2 * w.cost, w.tag)))

/-- The work that a lane takes next, and the arbiter after it: on every eighth pick the oldest aged work, else by class (R174, R425). -/
def State.nextLaneWork (s : State) : Option (LaneWork × Lne) :=
  let q := s.lne.queue
  let n := { s.lne with picks := (s.lne.picks + 1) % 8 }
  let aged := if n.picks = 0 then
      (q.filter (fun w => s.aged w.cls w.queuedAt)).foldl (fun (m : Option LaneWork) w =>
        match m with | none => some w | some y => if w.queuedAt < y.queuedAt then some w else some y) none
    else none
  match aged with
  | some w => some (w, n)
  | none => ([0, 1, 2, 3] : List Nat).findSome? (fun c =>
      let l := q.filter (fun w => decide (w.cls = c))
      match drr (fun v => (s.vi v).quota.laneWeight) (c * 256) (SMap.get zeroDef c n.turn) n.deficits (laneCands l) with
      | none => none
      | some (t, d, turn) =>
        (l.find? (fun w => decide (w.tag = t))).map (fun w =>
          let left := l.filter (fun y => decide (y.tag ≠ t))
          let d1 := if left.any (fun y => decide (y.vi = turn)) then d else SMap.set zeroDef (c * 256 + turn) 0 d
          (w, { n with deficits := d1, turn := SMap.set zeroDef c turn n.turn })))

/-! ### Records that leave the lanes without a verdict -/

def State.rxRec (s : State) (n : Nat) : Option Rec := KMap.get n s.cwy.recs

def State.modRec (s : State) (n : Nat) (f : Rec → Rec) : State := { s with cwy := { s.cwy with recs := KMap.mod n f s.cwy.recs } }

def State.delRec (s : State) (n : Nat) : State := { s with cwy := { s.cwy with recs := KMap.del n s.cwy.recs } }

/-- DROPS of a session counts one more (R394). -/
def State.countDrop (s : State) (i : Nat) : State :=
  s.modSession i (fun x => { x with counts := { x.counts with drops := satAdd 64 x.counts.drops 1 } })

/-- A record is dropped, counted in a register and in DROPS of its session. -/
def State.dropRec (s : State) (n reg : Nat) : State :=
  match s.rxRec n with
  | some r => ((s.delRec n).bump reg).countDrop r.session
  | none => s

/-! ### Restarts, retirement and the redundant lane (R424, R427 to R429) -/

/-- Work goes back to the queue, ahead of what waits there (R424). -/
def State.requeueLane (s : State) (w : LaneWork) : State :=
  let s1 : State := { s with lne := { s.lne with queue := w :: s.lne.queue } }
  if w.isRec then s1.modRec w.id (fun r => { r with stage := 1 })
  else s1.modJob w.id (fun x => { x with stage := .queued, input := [], reading := none, inputDone := false, result := Result.empty, restarted := true })

/-- Work is restarted on another lane; a fault counts against its limit of two, and the third ends it (R427). -/
def State.restartLane (s : State) (w : LaneWork) (counted : Bool) : State :=
  if w.isRec then
    match s.rxRec w.id with
    | none => s
    | some r =>
      if counted && decide (2 ≤ r.restarts) then (s.delRec w.id).bump Reg.tagFail
      else ((s.modRec w.id (fun y => { y with restarts := if counted then y.restarts + 1 else y.restarts })).requeueLane w).bump Reg.lneRestart
  else
    match s.job w.id with
    | none => s
    | some x =>
      match x.abortBy with
      | some st => s.abandon w.id st
      | none =>
        if counted && decide (2 ≤ x.restarts) then s.failJob w.id St.faultContained 0
        else ((s.modJob w.id (fun y => { y with restarts := if counted then y.restarts + 1 else y.restarts })).requeueLane w).bump Reg.lneRestart

/-- With no lane to take work, look-aside jobs end with FUNCTION_DISABLED and inline records are dropped (R429). -/
def State.lanesLost (s : State) : State :=
  if s.lanesOnDuty ≠ 0 then s
  else
    let q := s.lne.queue
    let s1 : State := { s with lne := { s.lne with queue := [] } }
    let s2 := q.foldl (fun t w => if w.isRec then t.dropRec w.id Reg.shareDrop else t.abandon w.id St.functionDisabled) s1
    s2.cwy.lookaside.foldl (fun t j => t.abandon j St.functionDisabled) s2

/-- The redundant lane is brought in (R428). -/
def State.bringLane (s : State) : State :=
  match (onesOf 8 s.lne.spare).find? (fun l => decide ((s.lane l).state ≠ .selftest)) with
  | some l => (s.modLane l (fun x => { x with state := .selftest })).ask 1 l
  | none => s

/-- A lane is taken out of the work: what it holds is restarted elsewhere, without a count (R427, R429). -/
def State.emptyLane (s : State) (l : Nat) : State :=
  let w := (s.lane l).work
  let s1 := s.modLane l (fun x => { x with work := [] })
  w.reverse.foldl (fun t y => t.restartLane y false) s1

/-- Retire a lane (R427, R428). -/
def State.retireLane (s : State) (l : Nat) (injected : Bool) : State :=
  let duty := s.lne.onDuty.testBit l
  let s1 := ((s.emptyLane l).releaseToken 1 l).unask 1 l
  let n := s1.lne
  let s2 := ({ s1 with lne := { n with onDuty := n.onDuty - bitAt l (n.onDuty.testBit l), spare := n.spare - bitAt l (n.spare.testBit l),
                                       retired := n.retired ||| 2 ^ l } }).modLane l (fun x => { x with state := .retired })
  let s3 := s2.noteRetired (repairWord uLane l) injected
  if duty then s3.bringLane.lanesLost else s3

/-- FAULTS of a lane counts one more, and retires it at 4 (R427). -/
def State.countLaneFault (s : State) (l : Nat) (injected : Bool) : State :=
  let s1 := s.modLane l (fun x => { x with faults := satAdd 8 x.faults 1 })
  if 4 ≤ (s1.lane l).faults ∧ (s1.lane l).state ≠ .retired then s1.retireLane l injected else s1

/-- The contained faults of the retired lanes are acknowledged. -/
def State.ackLanes (s : State) : State :=
  (onesOf 8 s.lne.retired).foldl (fun t l => t.ackSource (src uLane l) [0x02, 0x03, 0x06, 0x07]) s

end Sys2Proof.Machine
end

