-- ==== Sys2Proof/Machine/Lanes.lean ====
section
/-! DEFINITION. Meanings of AEAD and record jobs, BATCH, and the cipher-lane events (R125 to R130, R392, R423 to R428). -/

namespace Sys2Proof.Machine

open Sys2Proof

/-! ### AEAD_SEAL and AEAD_OPEN (R125 to R127) -/

/-- The AEAD key of a value, without the salt that SESSION usage adds (R445). -/
def aeadKey (alg : Nat) (value : Bytes) : Bytes := value.take (if alg = 0x0901 then 16 else 32)

def doAeadSeal (_ : State) (x : Job) : Result :=
  let b := x.desc
  let a := dAlg b
  let key := aeadKey a ((x.key.map (·.value)).getD [])
  let own := (dP0 b).testBit 16
  let nonce := if own then (x.key.map (·.nonceField)).getD [] ++ beBytes 8 x.nonce else x.input.take 12
  let rest := if own then x.input else x.input.drop 12
  let c := sealed a key nonce 0 (rest.take (dP1 b)) (rest.drop (dP1 b))
  okWith 0 (if own then nonce ++ c else c)

def doAeadOpen (_ : State) (x : Job) : Result :=
  let b := x.desc
  let a := dAlg b
  let key := aeadKey a ((x.key.map (·.value)).getD [])
  let nonce := x.input.take 12
  let aad := slice x.input 12 (dP1 b)
  let body := x.input.drop (12 + dP1 b)
  if tagOk a key nonce 0 aad body then okWith 0 (opened a key nonce 0 aad body) else failWith St.inputInvalid 1

/-! ### RECORD_SEAL and RECORD_OPEN (R128, R129) -/

/-- The record counter and the highest number opened stand in the live key, one job at a time (R103). -/
def State.traffic (s : State) (x : Job) : KeyRec := ((KMap.get (dKey x.desc) s.csn.keys).orElse (fun _ => x.key)).getD (newKey 0 0 0 0 [] [] true)

/-- The keys of a traffic handle. -/
def KeyRec.slot (k : KeyRec) : KeySlot := { key := k.value, iv := k.iv, snKey := k.snKey }

def doRecordSeal (s : State) (x : Job) : Result :=
  let b := x.desc
  let k := s.traffic x
  let n := k.recCounter
  let text (m : Bytes) : Bytes := m ++ [BitVec.ofNat 8 (bits (dP0 b) 15 8)] ++ zeros (bits (dP0 b) 31 16)
  let next := [Effect.recCounter (dKey b) (n + 1)]
  if bits (dP0 b) 7 0 = 1 then
    let inner := text x.input
    let hdr : Bytes := [23, 3, 3] ++ beBytes 2 (inner.length + 16)
    okEff 0 (hdr ++ sealed k.alg k.value k.iv n hdr inner) next
  else
    let c := bits (dP1 b) 4 0
    okEff 0 (dtlsRecord k.alg k.slot (bits (dP1 b) 31 16) n (x.input.take c) (text (x.input.drop c))) next

/-- Plaintext without padding, and its content type: the last byte that is not zero (R129, R394). -/
def splitInner (pt : Bytes) : Option (Nat × Bytes) :=
  match pt.reverse.dropWhile (fun c => decide (c = 0)) with
  | [] => none
  | c :: r => some (c.toNat, r.reverse)

/-- The 16 B that lead the output of RECORD_OPEN, and the plaintext. -/
def openOut (content num : Nat) (text : Bytes) : Bytes := [BitVec.ofNat 8 content] ++ zeros 7 ++ leBytes 8 num ++ text

/-- An opened record whose plaintext is all zeros has no content type: INPUT_INVALID (assumption log 34). -/
def openEnd (pt : Bytes) (num : Nat) (e : Effect) : Result :=
  match splitInner pt with
  | some (c, t) => okEff 0 (openOut c num t) [e]
  | none => failWith St.inputInvalid 0

def doRecordOpen (s : State) (x : Job) : Result :=
  let b := x.desc
  let k := s.traffic x
  let r := x.input
  if bits (dP0 b) 7 0 = 1 then
    let hdr := r.take 5
    let body := r.drop 5
    if hdr.take 3 ≠ [23, 3, 3] ∨ body.length < 17 ∨ rdBe r 3 2 ≠ body.length then failWith St.badEncoding 0
    else if !(tagOk k.alg k.value k.iv k.recCounter hdr body) then failWith St.inputInvalid 1
    else openEnd (opened k.alg k.value k.iv k.recCounter hdr body) k.recCounter (.recCounter (dKey b) (k.recCounter + 1))
  else
    let c := bits (dP1 b) 4 0
    let epoch := bits (dP1 b) 31 16
    let h := rd r 0 1
    let ll := if h.testBit 2 then 2 else 0
    let n := 1 + c + 2 + ll
    let ct := r.drop n
    if h / 32 ≠ 1 ∨ h.testBit 4 ≠ decide (c ≠ 0) ∨ !h.testBit 3 ∨ r.length < n + 17 ∨ (h.testBit 2 ∧ rdBe r (3 + c) 2 ≠ ct.length) then
      failWith St.badEncoding 0
    else if h % 4 ≠ epoch % 4 then failWith St.inputInvalid 2
    else
      let sn := xorBytes (slice r (1 + c) 2) (stdOut .recordMask k.alg [k.snKey, ct.take 16] 2)
      let seq := closest 16 (beNat sn) k.recTop
      let aad := r.take (1 + c) ++ sn ++ slice r (3 + c) ll
      if !(tagOk k.alg k.value k.iv seq aad ct) then failWith St.inputInvalid 1
      else openEnd (opened k.alg k.value k.iv seq aad ct) (epoch * 2 ^ 48 + seq) (.recTop (dKey b) (Nat.max k.recTop seq))

def execAeadSeal (j : Nat) (s : State) : Host.Outcome State Fault Refusal := .next (s.runEngine j 0x0501 (fun t x => (t, doAeadSeal t x)))
def execAeadOpen (j : Nat) (s : State) : Host.Outcome State Fault Refusal := .next (s.runEngine j 0x0502 (fun t x => (t, doAeadOpen t x)))
def execRecordSeal (j : Nat) (s : State) : Host.Outcome State Fault Refusal := .next (s.runEngine j 0x0503 (fun t x => (t, doRecordSeal t x)))
def execRecordOpen (j : Nat) (s : State) : Host.Outcome State Fault Refusal := .next (s.runEngine j 0x0504 (fun t x => (t, doRecordOpen t x)))

/-! ### BATCH (R130) -/

/-- What an item may be. -/
def batchMay (b : Bytes) : Bool :=
  [0x0501, 0x0502, 0x0503, 0x0504, 0x0402].contains (dOp b) || (decide (dOp b = 0x0401) && decide (bits (dP0 b) 17 16 = 0))

/-- The item with CLASS taken out of the checks: it is ignored. -/
def sansClass (b : Bytes) : Bytes :=
  if dChk b = crc32c (b.take 60) then
    let c := putAt b 3 [0xFF]
    putAt c 60 (leBytes 4 (crc32c (c.take 60)))
  else b

/-- Why an item does not run: checks 1 to 6, its opcode, its FLAGS, checks 7 to 12, its input. -/
def State.itemRefused (s : State) (v : Nat) (b : Bytes) (got : Option Bytes) : Option Refused :=
  match s.checkFetch v b with
  | some r => some r
  | none =>
    if !(batchMay b) then some (St.badOpcode, 0, 0)
    else if dFlags b % 8 ≠ 0 then some (St.badParam, 2, 0)
    else match s.checkDispatch v s.strict b with
      | some r => some r
      | none => if got.map (·.length) = some (dLenIn b) then none else some (St.hostDma, 0, 0)

/-- Run one item as a job of its own. -/
def State.runItem (s : State) (x : Job) : Result :=
  match dOp x.desc with
  | 0x0501 => doAeadSeal s x
  | 0x0502 => doAeadOpen s x
  | 0x0503 => doRecordSeal s x
  | 0x0504 => doRecordOpen s x
  | 0x0401 => (doHash s x).2.1
  | _ => (doMac s x).2.1

/-- What a batch has done so far: the state with the counters that its items took, the state that later items see, item results, outputs, effects. -/
structure BatchRun where
  real : State
  seen : State
  results : Bytes
  extra : List (Nat × Bytes)
  effects : List Effect

/-- The 16 B of an item's result. -/
def itemBytes (b : Bytes) (st det len : Nat) (approved restarted : Bool) : Bytes :=
  leBytes 4 (dTag b) ++ leBytes 2 st ++ [BitVec.ofNat 8 (bitAt 0 approved + bitAt 2 restarted), 0] ++ leBytes 4 det ++ leBytes 4 len

/-- One item: it takes effect for the items after it, and for the device at the batch's commit. -/
def BatchRun.item (r : BatchRun) (x : Job) (raw : Bytes) (got : Option Bytes) : BatchRun :=
  let b := stampVi (sansClass raw) x.vi
  match r.seen.itemRefused x.vi (sansClass raw) got with
  | some (st, det, len) => { r with results := r.results ++ itemBytes b st det len false x.restarted }
  | none =>
    let h := dKey b
    let key := r.seen.ownKey x.vi h
    let y := { x with desc := b, key := key, input := got.getD [], nonce := (key.map (·.counter)).getD 0 }
    let own := decide (dOp b = 0x0501) && (dP0 b).testBit 16
    let take (t : State) : State := if own then t.modKey h (fun k => { k with counter := k.counter + 1 }) else t
    let o := r.seen.runItem y
    let good := statusOk o.status
    let eff := if good then o.effects ++ (if y.usesOnce then [.onceUsed h] else []) else []
    { real := take r.real, seen := eff.foldl State.applyEffect (take r.seen),
      results := r.results ++ itemBytes b o.status o.detail (if good then o.payload.length else o.lenOut)
        (good && r.seen.runsApproved x.vi b) x.restarted,
      extra := if good && !o.payload.isEmpty then r.extra ++ [(dOutAddr b, o.payload)] else r.extra,
      effects := r.effects ++ eff }

/-- The items of a batch. -/
def batchItems (b : Bytes) : List Bytes := (List.range (b.length / 64)).map (fun i => slice b (64 * i) 64)

/-- The items' own inputs are read, the items run in input order, which PARAM0 leaves open without SERIAL (R130). -/
def doBatch (inputs : List Bytes) (s : State) (x : Job) : State × Result :=
  let items := batchItems x.input
  let read := items.foldl (fun t b => if dLenIn b = 0 then t else t.emit (.hostRead x.vi (s.via x.vi) (dInAddr b) (dLenIn b))) s
  let start : BatchRun := { real := read, seen := read, results := [], extra := [], effects := [] }
  let r := (List.range items.length).foldl (fun (t : BatchRun) i =>
    t.item x (items.getD i []) (if dLenIn (items.getD i []) = 0 then some [] else inputs[i]?)) start
  (r.real, { okEff 0 r.results r.effects with extra := r.extra })

/-- Every item's counter value lies within its lease: otherwise the batch waits (R446, R582). -/
def State.batchCovered (s : State) (j : Nat) : Bool :=
  match s.job j with
  | some x => (batchItems x.input).all s.leaseCovers
  | none => true

def execBatch (j : Nat) (inputs : List Bytes) (s : State) : Host.Outcome State Fault Refusal :=
  .next (if s.batchCovered j && s.unitLeft then s.runEngine j 0x0505 (doBatch inputs) else s)

/-! ### Slots (R392) -/

/-- Weight of a source in CWY_ARB: 0 and 1 port receive, 2 and 3 port transmit, 4 look-aside. -/
def State.slotWeight (s : State) (src : Nat) : Nat := bits (s.reg Reg.cwyArb) (4 * src + 3) (4 * src)

/-- The look-aside job that takes the next slot of its source: by CLASS, then in dispatch order, its lane queue not full (R392, R425). -/
def State.nextLookaside (s : State) : Option (Nat × Job) :=
  ([0, 1, 2, 3] : List Nat).findSome? (fun c =>
    s.cwy.lookaside.findSome? (fun j => (s.job j).bind (fun x =>
      if x.cls = c ∧ s.laneQueued x.vi c < 4096 then some (j, x) else none)))

/-- A receive or look-aside source has work. -/
def State.slotWork (s : State) (src : Nat) : Bool :=
  if src < 2 then !((s.port src).hold.isEmpty) else if src = 4 then s.nextLookaside.isSome else false

/-- Slots that a source has had in this round. -/
def State.slotsHad (s : State) (src : Nat) : Nat := SMap.get zeroDef src s.cwy.granted

def State.setGranted (s : State) (g : SMap Nat) : State := { s with cwy := { s.cwy with granted := g } }

/-- `n` slots go to a source: within its weight, or as the first of a new round when no source with work has weight left. -/
def State.takeSlots (s : State) (src n : Nat) : Option State :=
  let others := (List.range 5).filter (fun k => decide (k ≠ src) && s.slotWork k)
  if s.slotsHad src < s.slotWeight src then some (s.setGranted (SMap.set zeroDef src (s.slotsHad src + n) s.cwy.granted))
  else if others.all (fun k => decide (s.slotWeight k ≤ s.slotsHad k)) then some (s.setGranted (SMap.set zeroDef src n []))
  else none

/-- A record of the datagram at the head of a port's hold buffer takes its slot (R380, R392); the datagram leaves with its last record. -/
def State.receiveSlot (s : State) (p : Nat) : State :=
  match (s.port p).hold with
  | [] => s
  | h :: more =>
    let e := parseEth h.frame
    match e.parse, s.session h.session with
    | .ip d, some x =>
      let parts := if x.kind = 1 then splitRecords d.payload.length d.payload else [d.body]
      let dg := h.datagram.getD s.cwy.nextDatagram
      let r : Rec :=
        { session := h.session, vi := x.vi, kind := x.kind, port := p, datagram := dg, first := decide (h.taken = 0),
          last := decide (parts.length ≤ h.taken + 1), data := parts.getD h.taken [], path := pathOf e d, alt := false, recnum := 0,
          slot := KeySlot.empty, slotId := 0, stamp := 0, stage := 0, restarts := 0 }
      let c := s.cwy
      let s1 : State := { s with cwy := { c with recs := KMap.put c.nextRec r c.recs, nextRec := c.nextRec + 1,
                                                 nextDatagram := if h.datagram.isNone then c.nextDatagram + 1 else c.nextDatagram } }
      s1.modPort p (fun y => { y with hold := if r.last then more else { h with datagram := some dg, taken := h.taken + 1 } :: more })
    | _, _ => s.modPort p (fun y => { y with hold := more })

/-- A look-aside job enters its lane queue. -/
def State.lookasideSlot (s : State) (j : Nat) (x : Job) : State :=
  let w : LaneWork := { isRec := false, id := j, vi := x.vi, cls := x.cls, cost := x.laneCycles, queuedAt := s.time }
  { s with cwy := { s.cwy with lookaside := s.cwy.lookaside.filter (fun k => decide (k ≠ j)) } }.enqueueLane w

/-- CWY_SLOT_ISSUE: weighted round robin, the lowest source with work and weight left first; a BATCH takes a slot for each item. -/
def execCwySlotIssue (s : State) : Host.Outcome State Fault Refusal :=
  let ready := ([0, 1, 4] : List Nat).filter s.slotWork
  let pick := (ready.find? (fun k => decide (s.slotsHad k < s.slotWeight k))).orElse (fun _ => ready.head?)
  .next (if !s.clocked then s
    else match pick with
      | none => s
      | some 4 =>
        (match s.nextLookaside with
        | some (j, x) => ((s.takeSlots 4 (if dOp x.desc = 0x0505 then Nat.max 1 (dLenIn x.desc / 64) else 1)).getD s).lookasideSlot j x
        | none => s)
      | some p => ((s.takeSlots p 1).getD s).receiveSlot p)

/-! ### Lanes (R423 to R428) -/

/-- LANE_TAKE_JOB: the lane with the least to run takes the next work; after idle it waits for its token (R425, R426). -/
def execLaneTakeJob (l : Fin 8) (s : State) : Host.Outcome State Fault Refusal :=
  .next (if !s.clocked || decide (s.chosenLane ≠ some l.val) then s
    else match s.nextLaneWork with
      | none => s
      | some (w, n) =>
        let s1 : State := { s with lne := { n with queue := n.queue.filter (fun y => decide (y.tag ≠ w.tag)) } }
        let s2 := s1.modLane l.val (fun x => { x with work := x.work ++ [w] })
        let s3 := if w.isRec then s2.modRec w.id (fun r => { r with stage := 2 }) else s2.modJob w.id (fun x => { x with stage := .running })
        if (s.lane l.val).state = .run ∨ s.hasToken 1 l.val then
          let s4 := s3.modLane l.val (fun x => { x with state := .run })
          if w.isRec then s4 else s4.beginInput w.id
        else (s3.modLane l.val (fun x => { x with state := .tokenWait })).ask 1 l.val)

/-- The AEAD check of a record in a lane (R394 check 6, R400 step 3): the tag verifies under the keys of its slot. -/
def Rec.tagVerifies (r : Rec) (x : Session) : Bool :=
  if r.kind = 1 then
    match parseDtls r.data with
    | some h => let u := unmask x.alg r.slot.snKey r.data h; tagOk x.alg r.slot.key r.slot.iv (r.recnum % 2 ^ 48) u.1 u.2.2
    | none => false
  else
    let aad := r.data.take 4 ++ (if x.esn then beBytes 4 (r.recnum / 2 ^ 32) else []) ++ slice r.data 4 4
    tagOk x.alg r.slot.key (r.slot.iv.take 4 ++ slice r.data 8 8) 0 aad (r.data.drop 16)

/-- The lane after its first work has left: idle when it holds none, its token returned when it was recalled (R426, R718). -/
def State.laneEnds (s : State) (l : Nat) : State :=
  let s1 := s.modLane l (fun x => { x with state := if x.state ≠ .run then x.state else if x.work.isEmpty then .idle else .run })
  if s1.recalledFrom 1 l then
    let s2 := s1.releaseToken 1 l
    if (s2.lane l).state = .run then (s2.modLane l (fun x => { x with state := .tokenWait })).ask 1 l else s2
  else s1

/-- A self-check disagreement in a lane hits a piece of its work (R424, R427). -/
def State.laneFault (s : State) (l : Nat) (w : LaneWork) (injected : Bool) : State :=
  let r := { mkReport (src uLane l) 0x03 .contained with job := if w.isRec then none else some w.id, injected := injected }
  let t1 := (s.reportAs r).bump Reg.lneCheckFail
  let seq := t1.fcl.seq
  (((t1.restartLane w true).laneEnds l).testLater seq [src uLane l]).countLaneFault l injected

/-- A lane's head leaves it. -/
def State.popLane (s : State) (l : Nat) : State := s.modLane l (fun x => { x with work := x.work.drop 1 })

/-- LANE_JOB_COMPLETE: the head of the lane's pipeline ends. When the lane's self-checks disagree it is a contained fault of the lane, and the
work restarts elsewhere (R424, R427). -/
def execLaneJobComplete (l : Fin 8) (agree : Bool) (s : State) : Host.Outcome State Fault Refusal :=
  let pop (t : State) : State := t.popLane l.val
  let fault (t : State) (w : LaneWork) : State := t.laneFault l.val w false
  .next (State.settleDrains (if !s.clocked || decide ((s.lane l.val).state ≠ .run) then s
    else match (s.lane l.val).work.head? with
      | none => s
      | some w =>
        if w.isRec then
          (match s.rxRec w.id with
          | none => (pop s).laneEnds l.val
          | some r =>
            if !agree then fault (pop s) w
            else
              let ok := ((s.session r.session).map r.tagVerifies).getD false
              ((pop s).modRec w.id (fun y => { y with stage := if ok then 3 else 4, stamp := s.time })).laneEnds l.val)
        else
          match s.job w.id with
          | none => (pop s).laneEnds l.val
          | some x =>
            (match x.abortBy with
            | some st => ((pop s).abandon w.id st).laneEnds l.val
            | none =>
              if x.stage ≠ .computed then s
              else if !agree then fault (pop s) w
              else ((pop s).finishJob w.id x.result []).laneEnds l.val)))

/-- LANE_SPARE_READY: the redundant lane's sequence ended (R428). -/
def execLaneSpareReady (l : Fin 8) (passed : Bool) (s : State) : Host.Outcome State Fault Refusal :=
  .next (
    if (s.lane l.val).state ≠ .selftest ∨ !(s.hasToken 1 l.val) then s
    else if passed then
      let n := s.lne
      let s1 : State := { s with lne := { n with onDuty := n.onDuty ||| 2 ^ l.val, spare := n.spare - bitAt l.val (n.spare.testBit l.val) } }
      (s1.modLane l.val (fun x => { x with state := .idle })).ackLanes
    else ((s.report uLane l.val 0x07).retireLane l.val false).bringLane)

end Sys2Proof.Machine
end

