-- ==== Sys2Proof/Machine/RecordOps.lean ====
section
/-! DEFINITION. Leases, checkpoints, the replay window, delivery and key updates (R387, R399, R402 to R407,
R412 to R420, R584, R585, R590). -/

namespace Sys2Proof.Machine

open Sys2Proof

/-! ### Leases (R412, R590) -/

/-- The next lease, once its grant may take effect: the numbers of the present one go first when leases are skipped. -/
def State.grantSend (s : State) (x : Session) : Option Session :=
  let b := s.leaseStart x.base x.tx.leaseEnd
  if b = x.tx.leaseEnd ∨ x.tx.leaseEnd ≤ x.tx.seq then
    some { x with tx := { x.tx with seq := if b = x.tx.leaseEnd then x.tx.seq else b, leaseEnd := b + 65536, leaseReq := false, leaseAck := false,
                                    stalled := false } }
  else none

/-- The session asks for its next lease: at once while unpaired, else after the twin's acknowledgement or under the parity rule. -/
def State.requestLease (s : State) (i : Nat) : State :=
  match s.session i with
  | none => s
  | some x =>
    if x.tx.leaseReq ∨ x.tx.seq < x.tx.leaseEnd - 16384 then s
    else if !s.paired then (match s.grantSend x with | some y => s.setSession i y | none => s)
    else
      let s1 := s.setSession i { x with tx := { x.tx with leaseReq := true, leaseAck := false } }
      if s.lone then s1
      else s1.mirror (.sendLease i (x.tx.leaseEnd + 65536)) [.sendLease (BitVec.ofNat 24 i) (x.tx.leaseEnd + 65536)]

/-! ### The hot cache (R387) -/

/-- A head that a record in flight uses. -/
def State.headInUse (s : State) (i : Nat) : Bool := s.cwy.recs.any (fun p => decide (p.2.session = i))

/-- Look session `i` up: a hit, or a miss that replaces the least recently used head of its set. -/
def State.touchHead (s : State) (i : Nat) : State :=
  let h := s.cwy.hot
  let hit := (KMap.get i h).isSome
  let set := h.filter (fun p => decide (p.1 % 16384 = i % 16384) && decide (p.1 ≠ i))
  let old := (set.filter (fun p => !(s.headInUse p.1))).foldl (fun (m : Option (Nat × Nat)) p =>
    match m with | none => some p | some q => if p.2 < q.2 then some p else some q) none
  let h1 := if hit || decide (set.length < 12) then h else match old with | some o => KMap.del o.1 h | none => h
  { s with cwy := { s.cwy with hot := KMap.put i s.time h1 } }.bump (if hit then Reg.hcHit else Reg.hcMiss)

/-! ### The replay window (R402) -/

/-- Check 5 on the head's window. -/
def RxSide.admits (r : RxSide) (n : Nat) : Bool := decide (r.top < n) || (decide (r.top - n < 1024) && !(r.window.testBit (r.top - n)))

/-- Check 7 marks a number. -/
def RxSide.mark (r : RxSide) (n : Nat) : RxSide :=
  if r.top < n then
    let d := n - r.top
    { r with top := n, window := if 1024 ≤ d then 1 else (r.window * 2 ^ d + 1) % 2 ^ 1024 }
  else { r with window := r.window ||| 2 ^ (r.top - n) }

/-! ### Checkpoints (R414, R584, R585) -/

/-- A receive checkpoint of session `i` with a record number. -/
def State.sendCheckpoint (s : State) (i num : Nat) : State :=
  let s1 := s.modSession i (fun x => { x with rx := { x.rx with ckptCount := 0 } })
  if !s.paired then s
  else if s.lone ∨ s.spn.pair = .refused then s1
  else (s1.bump Reg.ckptSent).mirror (.checkpoint i num) [.checkpoint (BitVec.ofNat 24 i) num]

/-- Last checkpoint that the twin acknowledged. -/
def State.ledgerOf (s : State) (i : Nat) : Nat := (KMap.get i s.spn.ledger).getD 0

/-- The bound of R584 fails a record. -/
def State.boundFails (s : State) (i : Nat) (x : Session) (alt : Bool) (n : Nat) : Bool :=
  let l := s.ledgerOf i
  decide (s.spn.pair = .syncing ∨ s.spn.pair = .inStep) &&
    (if x.kind = 1 then
       (if decide (l / 2 ^ 48 < n / 2 ^ 48) then decide (1023 < n % 2 ^ 48) else decide (n / 2 ^ 48 = x.rx.epoch) && decide (l + 1024 < n))
     else if alt then decide (1023 < n) else decide (l + 1024 < n))

/-- A record was accepted: it counts towards the next checkpoint. -/
def State.countCheckpoint (s : State) (i : Nat) (raised swapped : Bool) : State :=
  if !s.paired then s
  else match s.session i with
    | none => s
    | some x =>
      let n := x.rx.ckptCount + 1
      let due := if x.rx.ckptCount = 0 then (s.time + 100000) % 2 ^ 32 else x.rx.ckptDue
      let s1 := s.setSession i { x with rx := { x.rx with ckptCount := n, ckptDue := due } }
      if swapped ∨ 1024 ≤ n ∨ (raised ∧ s.ledgerOf i + 512 < x.rx.top) then s1.sendCheckpoint i x.rx.top else s1

/-! ### Limits (R420) -/

/-- Session `i` delivered or sent a record of `n` bytes: hard and soft limits. -/
def State.spend (s : State) (i n : Nat) : State :=
  match s.session i with
  | none => s
  | some x =>
    let left (v k : Nat) : Nat := if v = noLimit then v else v - k
    let hard := left x.hardLeft (if x.kind = 1 then 1 else n)
    let soft := if x.kind = 2 then left x.tx.rekeyLeft n else x.tx.rekeyLeft
    let s1 := s.setSession i { x with hardLeft := hard, tx := { x.tx with rekeyLeft := soft } }
    let s2 := if x.kind = 2 ∧ soft = 0 ∧ x.tx.rekeyLeft ≠ 0 then
        s1.event x.vi 0x0006 i (if hard = noLimit then 0xFFFFFFFF else hard % 2 ^ 32) 0 0
      else s1
    if hard = 0 then s2.limitSession i 1 else s2

/-! ### Delivery (R404 to R407) -/

/-- The record goes out to its ring: entry, counts, limits; nothing when the ring is full. -/
def State.postRecord (s : State) (i : Nat) (x : Session) (h : HeldRec) : Option State :=
  let k := 16 + x.rx.ring
  match s.writeData x.vi k h.data (fun off => rxEntry x.kind x.dropPending h.port h.content i h.recnum off h.data.length h.stamp) with
  | none => none
  | some t =>
    some ((t.modSession i (fun y =>
      { y with dropPending := false, counts := { y.counts with rxRecords := satAdd 64 y.counts.rxRecords 1, rxBytes := satAdd 64 y.counts.rxBytes h.data.length } })).spend
        i h.data.length)

/-- Cells of the hold pool hold `n` bytes more (R406). -/
def State.poolRoom (s : State) (n : Nat) : Bool := decide (s.holdUse + holdCells n ≤ 131072)

/-- Deliver a record, hold it against the ring credit, or drop it (R405, R406); a disabled ring drops it (R46). -/
def State.deliver (s : State) (i : Nat) (h : HeldRec) : State :=
  match s.session i with
  | none => s
  | some x =>
    let k := 16 + x.rx.ring
    if !(s.ring x.vi k).enable then s.ringLoss x.vi k
    else
      let hold : State :=
        let drop (t : State) : State :=
          (((t.ringLoss x.vi k).bump Reg.creditDrop).countDrop i).modSession i (fun y => { y with dropPending := true })
        if x.rx.credit ≤ x.rx.creditUsed then drop s
        else if !(s.poolRoom h.data.length) then drop (s.bump Reg.holdPoolDrop)
        else s.setSession i { x with held := x.held ++ [h], rx := { x.rx with creditUsed := x.rx.creditUsed + 1 } }
      if !x.held.isEmpty then hold else (s.postRecord i x h).getD hold

/-! ### Key updates (R415 to R418) -/

/-- The KeyUpdate message; its message number is a free value. -/
def keyUpdateMsg (seq : Nat) (request : Bool) : Bytes := [24] ++ beBytes 3 1 ++ beBytes 2 seq ++ zeros 3 ++ beBytes 3 1 ++ [if request then 1 else 0]

/-- Send KeyUpdate in the current transmit epoch. -/
def State.sendKeyUpdate (s : State) (i : Nat) (request : Bool) : State := (s.sendRecord i 22 (keyUpdateMsg s.freeVal request)).nextFree

/-- The device starts its own KeyUpdate, or removes the session when its epochs are used up (R418). -/
def State.startKeyUpdate (s : State) (i : Nat) (job : Option Nat) : State :=
  match s.session i with
  | none => s
  | some x =>
    if 65535 ≤ x.tx.epoch then s.limitSession i 3
    else if x.tx.kuWait then s.setSession i { x with tx := { x.tx with kuHost := x.tx.kuHost || job.isSome, kuJob := x.tx.kuJob.orElse (fun _ => job) } }
    else (s.setSession i { x with tx := { x.tx with kuWait := true, kuHost := job.isSome, kuJob := job, kuTries := 0 } }).sendKeyUpdate i job.isSome

/-- The next transmit epoch takes effect (R417): keys, lease, epoch; the reply that waits, or the event. -/
def State.applyTxKeys (s : State) (i : Nat) : State :=
  match s.session i with
  | none => s
  | some x =>
    let y := s.freshLease x.rekeyTx
    let s1 := s.setSession i { y with tx := { y.tx with kuHost := false, kuJob := none } }
    match x.tx.kuJob with
    | some j => if (s.job j).isSome then s1.popNeed j .peerAck else s1.event x.vi 0x0005 i y.tx.epoch 0 0
    | none => s1.event x.vi 0x0005 i y.tx.epoch 0 0

/-- ACK of a record (RFC 9147): its record number. -/
def ackMsg (recnum : Nat) : Bytes := beBytes 2 16 ++ beBytes 8 (recnum / 2 ^ 48) ++ beBytes 8 (recnum % 2 ^ 48)

def State.sendAck (s : State) (i recnum : Nat) : State := s.sendRecord i 26 (ackMsg recnum)

end Sys2Proof.Machine
end

