-- ==== Sys2Proof/Machine/Ports.lean ====
section
/-! DEFINITION. Meanings of the line-port events: frames in and out, links, port control, local addresses, exception frames
(R82, R357 to R384, R541, R578). -/

namespace Sys2Proof.Machine

open Sys2Proof

/-! ### Queues behind the classifier (R15, R380, R381) -/

/-- Cells of 64 B that bytes take. -/
def cells64 (n : Nat) : Nat := (n + 63) / 64

/-- Cells of a hold buffer in use. -/
def Port.cells (x : Port) : Nat := x.hold.foldl (fun n h => n + cells64 h.frame.length) 0

/-- A frame goes to the exception queue, or is dropped by the limit of its port or a full queue (R381, R383). -/
def State.toException (s : State) (p reason vi : Nat) (f : Bytes) : State :=
  let lim := bits (s.reg Reg.clsCtl) 15 0
  if (lim ≠ 0 ∧ lim ≤ (s.port p).admitted) ∨ 8192 ≤ s.lpt.exc.length then s.bump (Reg.clsCtr p 0x18)
  else
    let s1 : State := { s with lpt := { s.lpt with exc := s.lpt.exc ++ [{ port := p, reason := reason, vi := vi, frame := f }] } }
    (s1.modPort p (fun x => { x with admitted := x.admitted + 1 })).bump (Reg.clsCtr p (0x40 + (reason - 1) * 4))

/-- A handshake datagram goes to the intake queue of 65,536 (R15). -/
def State.toIntake (s : State) (p vi rule : Nat) (old : Option Nat) (f : Bytes) : State :=
  if 65536 ≤ s.lpt.intake.length then s.bump (Reg.clsCtr p 0x10)
  else { s with lpt := { s.lpt with intake := s.lpt.intake ++ [{ port := p, vi := vi, rule := rule, old := old, frame := f }] } }

/-- The VI is being frozen, or is frozen or saved (R540, R541). -/
def State.viFrozen (s : State) (v : Nat) : Bool := (s.vi v).freezing || decide ((s.vi v).state = .frozen ∨ (s.vi v).state = .saved)

/-- Bytes in a freeze buffer. -/
def Vi.frozenBytes (x : Vi) : Nat := x.freezeBuf.foldl (fun n e => n + e.2.2.length) 0

/-- A datagram of session `i` goes to the Carriageway: dropped for a standby VI, stored for a frozen one, else held for its slot (R380, R541, R578). -/
def State.toCarriageway (s : State) (p i : Nat) (f : Bytes) : State :=
  match s.session i with
  | none => s
  | some x =>
    if s.standby x.vi then s.bump (Reg.spn 0x220)
    else if s.viFrozen x.vi then
      (if !(s.vi x.vi).noBuffer ∧ (s.vi x.vi).frozenBytes + f.length ≤ 67108864 then
        s.modVi x.vi (fun y => { y with freezeBuf := y.freezeBuf ++ [(p, i, f)] })
       else (s.modVi x.vi (fun y => { y with freezeDrop := satAdd 32 y.freezeDrop 1 })).bump Reg.vimFreezeDrop)
    else if 65536 < (s.port p).cells + cells64 f.length then s.bump (Reg.clsCtr p 0x14)
    else s.modPort p (fun y => { y with hold := y.hold ++ [{ session := i, datagram := none, taken := 0, frame := f }] })

/-! ### The classifier (R373) -/

/-- A prefix of `n` bits agrees. -/
def prefixMatch (n : Nat) (a b : Bytes) : Bool :=
  decide (beNat (padTo 16 a) / 2 ^ (128 - n) = beNat (padTo 16 b) / 2 ^ (128 - n))

/-- The rule that a datagram matches: the longest prefix, then the lowest slot (R110, R373). -/
def State.findRule (s : State) (p : Nat) (v6 : Bool) (dst : Bytes) (port vid : Nat) : Option (Nat × Bytes) :=
  (s.cwy.rules.filter (fun q => let r := q.2
    decide (rd r 0 1 = 1) && decide (rd r 1 1 = if v6 then 6 else 4) && (rd r 2 1).testBit p && decide (rd r 24 2 = port) &&
      decide (rd r 26 2 = 0xFFFF ∨ rd r 26 2 = vid) && prefixMatch (rd r 3 1) (slice r 8 16) dst)).foldl
    (fun (m : Option (Nat × Bytes)) q => match m with
      | none => some q
      | some o => if rd o.2 3 1 < rd q.2 3 1 then some q else some o) none

/-- A DTLSPlaintext header of content type 22. -/
def isPlainHs (b : Bytes) : Bool := decide (rd b 0 1 = 22) && decide (rd b 1 1 = 0xFE) && decide (13 ≤ b.length)

/-- A unified header of epoch bits 0b00 to 0b10 with C = 0. -/
def isEarlyUnified (b : Bytes) : Bool := decide (rd b 0 1 / 32 = 1) && !((rd b 0 1).testBit 4) && decide (rd b 0 1 % 4 ≤ 2) && !b.isEmpty

/-- Steps 4 and 5: the flow rule, and what a datagram that matches it must be. -/
def State.byRule (s : State) (p : Nat) (e : Eth) (d : Ip) (old : Option Nat) (f : Bytes) : State :=
  match s.findRule p d.v6 d.dst (rdBe d.body 2 2) e.vid with
  | none => s.toException p 1 0 f
  | some (slot, r) =>
    if isPlainHs d.payload || isEarlyUnified d.payload then s.toIntake p (rd r 4 2) slot old f else s.bump (Reg.clsCtr p 0x0C)

/-- Classify an accepted UDP datagram or ESP packet. -/
def State.classify (s : State) (p : Nat) (e : Eth) (d : Ip) (f : Bytes) : State :=
  let stored := f.take (e.off + d.total)
  if d.proto = 50 then
    match s.findSa p d.v6 d.dst (rdBe d.body 0 4) with
    | some i => s.toCarriageway p i stored
    | none => s.toException p 1 0 f
  else
    let h := rd d.payload 0 1
    if h / 32 = 1 ∧ h.testBit 4 then
      (match (if 9 ≤ d.payload.length then s.findCid p (slice d.payload 1 8) else none) with
      | some i => s.toCarriageway p i stored
      | none => s.bump (Reg.clsCtr p 0x08))
    else
      match s.findTuple p d.v6 (pathOf e d) with
      | some i => if isPlainHs d.payload then s.byRule p e d (some i) f else s.toCarriageway p i stored
      | none => s.byRule p e d none f

/-! ### Answers to ARP and neighbour solicitations (R375) -/

/-- The tag of a received frame, for its answer. -/
def answerFrame (dst : Bytes) (tci etherType : Nat) (payload : Bytes) : Bytes := ethFrame dst tci etherType payload

/-- The ARP reply to a request for a local address. -/
def State.arpReply (s : State) (p : Nat) (e : Eth) : Option Bytes :=
  let b := e.l3
  if e.etherType = 0x0806 ∧ 28 ≤ b.length ∧ slice b 0 8 = [0, 1, 8, 0, 6, 4, 0, 1] ∧ (s.port p).isLocal false (slice b 24 4) e.vid then
    some (answerFrame e.src e.tci 0x0806 ([0, 1, 8, 0, 6, 4, 0, 2] ++ s.stationMac p ++ slice b 24 4 ++ slice b 8 10))
  else none

/-- An option list of a solicitation holds the source link-layer address. -/
def hasSlla : Nat → Bytes → Bool
  | 0, _ => false
  | fuel + 1, b =>
    if b.length < 8 ∨ rd b 1 1 = 0 then false
    else if rd b 0 1 = 1 then true
    else hasSlla fuel (b.drop (8 * rd b 1 1))

/-- The neighbour advertisement, with Hop Limit 255 (R378). -/
def neighbourAdvert (target dst mac : Bytes) : Bytes :=
  let icmp (ck : Nat) : Bytes := [136, 0] ++ beBytes 2 ck ++ [0x60, 0, 0, 0] ++ target ++ [2, 1] ++ mac
  let pseudo := target ++ dst ++ beBytes 4 32 ++ [0, 0, 0, 58]
  ipv6Header 0 0 255 58 target dst 32 ++ icmp (inetSum (pseudo ++ icmp 0))

def State.nsReply (s : State) (p : Nat) (e : Eth) : Option Bytes :=
  let b := e.l3
  let n := rdBe b 4 2
  if e.etherType = 0x86DD ∧ 64 ≤ b.length ∧ rdBe b 0 1 / 16 = 6 ∧ 40 + n ≤ b.length ∧ rdBe b 6 1 = 58 ∧ rdBe b 40 1 = 135 ∧
      (s.port p).isLocal true (slice b 48 16) e.vid ∧ hasSlla 32 (slice b 64 (n - 24)) then
    some (answerFrame e.src e.tci 0x86DD (neighbourAdvert (slice b 48 16) (slice b 8 16) (s.stationMac p)))
  else none

/-! ### FRAME_RECEIVE (R366 to R372, R382) -/

/-- The destination passes the address filter (R366). -/
def State.addressed (s : State) (p : Nat) (dst : Bytes) : Bool :=
  (s.reg (Reg.portCtl p)).testBit 27 || decide (dst = s.stationMac p) || decide (dst = List.replicate 6 0xFF) ||
    (s.port p).locals.any (fun b => (rd b 18 1).testBit 1 && decide (dst = [0x33, 0x33, 0xFF] ++ slice b 13 3))

/-- The parser and the classifier on a frame without its FCS. -/
def State.parseFrame (s : State) (p link : Nat) (f : Bytes) : State :=
  let e := parseEth f
  match (s.arpReply p e).orElse (fun _ => s.nsReply p e) with
  | some a => (s.queueOnLink p link a).bump (Reg.clsCtr p 0x1C)
  | none =>
    match e.parse with
    | .defect => s.bump (Reg.clsCtr p 0)
    | .exc r => s.toException p r 0 f
    | .ip d =>
      if bits (s.reg Reg.clsCtl) 31 18 < d.total then s.toException p 4 0 f
      else if (d.proto = 17 ∧ !d.udpOk) ∨ (d.proto = 50 ∧ d.body.length < 8) then s.bump (Reg.clsCtr p 4)
      else s.classify p e d f

/-- The codewords of the frame (R382). -/
def State.countFec (s : State) (p link : Nat) (fec : FecReport) : State :=
  let s1 := if fec.corrected = 0 then s else s.bump (Reg.linkCtr p link 0x18) fec.corrected
  let s2 := if fec.symbols = 0 then s1 else s1.bump (Reg.fecSymbol p fec.lane.val) fec.symbols
  if fec.uncorrectable then s2.bump (Reg.linkCtr p link 0x1C) else s2

/-- The MAC: length, FCS, MAC control, address filter; each refusal counted once. A MAC control frame is told by its EtherType before its address
is filtered (assumption log 37). -/
def State.macReceive (s : State) (p link : Nat) (f : Bytes) : State :=
  let n := f.length
  let body := f.take (n - 4)
  if n < 64 then s.bump (Reg.linkCtr p link 4)
  else if bits (s.reg (Reg.portMaxFrame p)) 13 0 < n then s.bump (Reg.linkCtr p link 8)
  else if f.drop (n - 4) ≠ leBytes 4 (fcs32 body) then s.bump (Reg.linkCtr p link 0xC)
  else if rdBe body 12 2 = 0x8808 then s.bump (Reg.linkCtr p link 0x14)
  else if !(s.addressed p (body.take 6)) then s.bump (Reg.linkCtr p link 0x10)
  else (s.bump (Reg.linkCtr p link 0)).parseFrame p link body

/-- The link is up and the port works. -/
def State.linkWorks (s : State) (p k : Nat) : Bool := s.clocked && (s.linksUp p).contains k

def execFrameReceive (p : Fin 2) (link : Fin 4) (frame : Bytes) (fec : FecReport) (s : State) : Host.Outcome State Fault Refusal :=
  .next (if !(s.linkWorks p.val link.val) then s
    else
      let s1 := s.countFec p.val link.val fec
      if fec.uncorrectable then s1 else s1.macReceive p.val link.val frame)

/-! ### FRAME_TRANSMIT (R369) -/

/-- The frame as the MAC sends it: station address, padding to 64 B, FCS. -/
def macFrame (mac f : Bytes) : Bytes :=
  let b := putAt f 6 mac
  let b := b ++ zeros (60 - b.length)
  b ++ leBytes 4 (fcs32 b)

def execFrameTransmit (p : Fin 2) (link : Fin 4) (s : State) : Host.Outcome State Fault Refusal :=
  .next (match (if s.linkWorks p.val link.val then (s.port p.val).txq.getD link.val [] else []) with
    | [] => s
    | f :: more =>
      ((s.modPort p.val (fun x => { x with txq := listSet x.txq link.val more })).emit (.frame p.val link.val (macFrame (s.stationMac p.val) f))).bump
        (Reg.linkCtr p.val link.val 0x20))

/-! ### Links (R360, R364, R365) -/

/-- LINK_UP of a link changed: its bit of LPT_INT, and the PF's interrupt when the first bit is set. -/
def State.linkChanged (s : State) (p k : Nat) : State :=
  let w := s.reg Reg.lptInt
  let s1 := s.setReg Reg.lptInt (w ||| 2 ^ (4 * p + k))
  if w = 0 then s1.emit (.pfInterrupt 3) else s1

/-- RX_MAP names each physical lane once (R361). -/
def rxMapOk (w : Nat) : Bool := (List.range 4).all (fun l => (List.range 4).any (fun k => decide (bits w (2 * k + 1) (2 * k) = l)))

def State.setPhase (s : State) (p k ph : Nat) : State := s.modPort p (fun x => { x with phases := listSet x.phases k ph })

def execLinkUp (p : Fin 2) (link : Fin 4) (s : State) : Host.Outcome State Fault Refusal :=
  let w := s.reg (Reg.portCtl p.val)
  let ph := (s.port p.val).phases.getD link.val 0
  .next (if s.pdOn (20 + p.val) ∧ s.glb.pll ∧ s.portOn p.val ∧ link.val < modeLinks (s.portMode p.val) ∧ rxMapOk w ∧ 1 ≤ ph ∧ ph ≤ 3 then
      (s.setPhase p.val link.val 4).linkChanged p.val link.val
    else s)

/-- A link leaves phase 4: its queued frames are discarded and counted (R365). -/
def State.linkFalls (s : State) (p k ph : Nat) : State :=
  if (s.port p).phases.getD k 0 ≠ 4 then s.setPhase p k ph
  else
    let n := ((s.port p).txq.getD k []).length
    let s1 := (s.modPort p (fun x => { x with txq := listSet x.txq k [] })).setPhase p k ph
    (if n = 0 then s1 else s1.bump (Reg.linkCtr p k 0x24) n).linkChanged p k

/-- It is acquired again from phase 2 (R360). -/
def execLinkDown (p : Fin 2) (link : Fin 4) (s : State) : Host.Outcome State Fault Refusal :=
  .next (if (s.port p.val).phases.getD link.val 0 = 4 then s.linkFalls p.val link.val 2 else s)

/-- Fields of LPT_PORTp_CTL after a write: while ENABLE is 1 only ENABLE and PROMISC change (R361). -/
def portCtlAfter (old w : Nat) : Nat :=
  let e := setBits (setBits old (w / 2 ^ 31) 31 31) (w / 2 ^ 27) 27 27
  if old.testBit 31 then e
  else
    let m := if bits w 30 28 ≤ 4 then setBits e (w / 2 ^ 28) 30 28 else e
    setBits (setBits m (w / 2 ^ 11) 26 11) w 7 0

/-- A write of LPT_PORTp_CTL: ENABLE starts every link of MODE, or stops the port. -/
def State.writePortCtl (s : State) (p : Nat) (w : Nat) : State :=
  let old := s.reg (Reg.portCtl p)
  let new := portCtlAfter old w
  let s1 := s.setReg (Reg.portCtl p) new
  if !(old.testBit 31) && new.testBit 31 then (List.range (modeLinks (bits new 30 28))).foldl (fun t k => t.setPhase p k 1) s1
  else if old.testBit 31 && !(new.testBit 31) then (List.range 4).foldl (fun t k => t.linkFalls p k 0) s1
  else s1

def execLptPortCtlWrite (p : Fin 2) (w : Word) (s : State) : Host.Outcome State Fault Refusal :=
  .next (if s.clocked && s.pdOn (20 + p.val) then s.writePortCtl p.val w.toNat else s)

/-- Absolute value of a 6-bit two's complement tap. -/
def absTap (n : Nat) : Nat := if 32 ≤ n then 64 - n else n

/-- A write of LPT_LANEl_TXEQ, or of a span lane's, with taps that sum to at most 63 (R363). -/
def tapsOk (w : Nat) : Bool := decide (absTap (bits w 23 18) + absTap (bits w 17 12) + bits w 11 6 + absTap (bits w 5 0) ≤ 63)

def execLptTxeqWrite (p : Fin 2) (lane : Fin 4) (w : Word) (s : State) : Host.Outcome State Fault Refusal :=
  .next (if s.clocked && s.pdOn (20 + p.val) && tapsOk w.toNat then s.setReg (Reg.laneTxEq p.val lane.val) (w.toNat % 2 ^ 24) else s)

/-- A write of the last word of a local address entry: the words staged for it and this one become the entry (R375). -/
def State.writeAddress (s : State) (p e : Nat) (w : Word) : State :=
  s.modPort p (fun x =>
    let put (m : SMap Word) (k : Nat) (v : Word) : SMap Word := SMap.set wordDef (e * 8 + k) v m
    let a := (List.range 7).foldl (fun m k => match KMap.get (e * 8 + k) x.staged with | some v => put m k v | none => m) x.addr
    { x with addr := put a 7 w, staged := x.staged.filter (fun q => decide (q.1 / 8 ≠ e)) })

def execLocalAddressWrite (p : Fin 2) (e : Fin 16) (w : Word) (s : State) : Host.Outcome State Fault Refusal :=
  .next (if s.clocked && s.pdOn (20 + p.val) then s.writeAddress p.val e.val w else s)

/-! ### The exception path (R82, R381) -/

/-- EXC_LIMIT_INTERVAL: a new 1 ms interval. -/
def execExcLimitInterval (s : State) : Host.Outcome State Fault Refusal :=
  .next ((([0, 1] : List Nat)).foldl (fun t p => t.modPort p (fun x => { x with admitted := 0 })) s)

/-- EXCEPTION_DELIVERY: the firmware writes the oldest frame to the exception ring of VI 0, or drops and counts it (R28, R46, R82). -/
def execExceptionDelivery (s : State) : Host.Outcome State Fault Refusal :=
  .next (match (if s.clocked then s.lpt.exc else []) with
    | [] => s
    | x :: more =>
      let s1 : State := { s with lpt := { s.lpt with exc := more } }
      if !((s.ring 0 49).enable) then s1.ringLoss 0 49
      else (s1.writeData 0 49 x.frame (fun off => rxEntry x.reason false x.port 0 x.vi 0 off x.frame.length s.time)).getD (s1.ringLoss 0 49))

end Sys2Proof.Machine
end

