-- ==== Sys2Proof/Machine/Records.lean ====
section
/-! DEFINITION. Meanings of the Carriageway events: received records, key updates, limits, checkpoints, transmit entries, leases
(R76 to R78, R394 to R420, R584). -/

namespace Sys2Proof.Machine

open Sys2Proof

/-- The Carriageway works: its clock runs. -/
def State.cwyRuns (s : State) : Bool := s.clocked

/-- The timers of the VI's sessions run: it is not frozen (R542). -/
def State.timersRun (s : State) (v : Nat) : Bool := decide ((s.vi v).state = .running ∨ (s.vi v).state = .resetting)

/-! ### DTLS_RECORD_RECEIVE (R394 checks 1 to 5, R395, R403, R404) -/

/-- A failure of check 2 or 3 drops the rest of the datagram too, each record counted (R394). -/
def State.dropRest (s : State) (n : Nat) (r : Rec) : State :=
  let s1 := s.dropRec n Reg.headerDrop
  let later := (s1.cwy.recs.filter (fun p => decide (p.2.datagram = r.datagram) && decide (p.2.stage = 0))).map (·.1)
  let s2 := later.foldl (fun t k => t.dropRec k Reg.headerDrop) s1
  match (s2.port r.port).hold with
  | h :: more =>
    if h.datagram = some r.datagram then
      let e := parseEth h.frame
      let left := match e.parse with
        | .ip d => (splitRecords d.payload.length d.payload).length - h.taken
        | _ => 0
      (List.range left).foldl (fun t _ => (t.bump Reg.headerDrop).countDrop r.session) (s2.modPort r.port (fun y => { y with hold := more }))
    else s2
  | [] => s2

/-- The slot that the epoch bits select: whether the alternate one, its epoch, its keys (R395). -/
def Session.slotFor (x : Session) (ee : Nat) : Option (Bool × Nat × KeySlot) :=
  if ee = x.rx.epoch % 4 then some (false, x.rx.epoch, x.rx.slot)
  else if x.altValid ∧ ee = x.alt.id % 4 then some (true, x.alt.id, x.alt.slot)
  else none

/-- A record of epoch 3 for a PENDING entry is held undecrypted, up to 8 (R21, R404, R406). -/
def State.holdPending (s : State) (n : Nat) (r : Rec) (x : Session) : State :=
  let s1 := s.delRec n
  if 8 ≤ x.held.length then s1.bump Reg.pendingDrop
  else if !(s.poolRoom r.data.length) then
    ((s1.bump Reg.holdPoolDrop).bump Reg.pendingDrop).modSession r.session (fun y => { y with dropPending := true })
  else s1.setSession r.session { x with held := x.held ++ [{ port := r.port, recnum := 0, content := 0, stamp := s.time, data := r.data, path := r.path }] }

/-- A record that passed check 5 goes to the lane queue of its VI, or is dropped (R425, R429, R524). -/
def State.recToLane (s : State) (n : Nat) (r : Rec) (cost : Nat) : State :=
  if (s.vi r.vi).quota.laneWeight = 0 ∨ s.lanesOnDuty = 0 ∨ 4096 ≤ s.laneQueued r.vi 1 then s.dropRec n Reg.shareDrop
  else (s.modRec n (fun _ => { r with stage := 1 })).enqueueLane
    { isRec := true, id := n, vi := r.vi, cls := 1, cost := cost, queuedAt := s.time }

/-- The rest of the entry is read when the head does not decide the record (R403). -/
def State.bodyRead (s : State) (x : Session) (r : Rec) : State :=
  if !r.alt && decide (x.rx.top ≤ r.recnum + 127) && decide (r.path.tag = x.path.tag) then s else s.bump Reg.bodyFetch

/-- Check 5 fails a record: REPLAY_DROP; beyond the bound of R584 a checkpoint carries its number. -/
def State.replayFails (s : State) (n : Nat) (r : Rec) (bound : Bool) : State :=
  let s1 := s.dropRec n Reg.replayDrop
  if bound then (s1.bump (Reg.spn 0x21C)).sendCheckpoint r.session r.recnum else s1

/-- Checks 4 and 5 of a DTLS record whose header is `h`. -/
def State.dtlsNumber (s : State) (n : Nat) (r : Rec) (x : Session) (h : DtlsHead) : State :=
  match x.slotFor (rd r.data 0 1 % 4) with
  | none => s.dropRec n Reg.epochMiss
  | some (alt, epoch, slot) =>
    if x.state = 1 ∧ epoch = 3 then s.holdPending n r x
    else
      let u := unmask x.alg slot.snKey r.data h
      let seq := closest (8 * h.seqLen) u.2.1 (if alt then x.alt.floor else x.rx.top % 2 ^ 48 + 1)
      let num := epoch * 2 ^ 48 + seq
      let y := { r with alt := alt, recnum := num, slot := slot, slotId := epoch }
      let s1 := s.bodyRead x y
      let fresh := if alt then decide (x.alt.floor ≤ seq) else x.rx.admits num
      let bound := s.boundFails r.session x alt num
      if !fresh || bound then s1.replayFails n y (fresh && bound)
      else s1.recToLane n y (recCycles x.alg 1 (h.hdrLen + h.len - 16))

def State.dtlsReceive (s : State) (n : Nat) (r : Rec) : State :=
  match s.session r.session with
  | none => s.delRec n
  | some x =>
    let s0 := s.touchHead r.session
    if ¬(x.state = 1 ∨ x.state = 2) then s0.dropRec n Reg.headerDrop
    else match parseDtls r.data with
      | none => s0.dropRest n r
      | some h =>
        if h.cid ≠ x.cid r.session ∨ r.data.length < h.hdrLen + h.len ∨ h.len < 17 ∨ x.maxPlaintext + 272 < h.len then s0.dropRest n r
        else s0.dtlsNumber n r x h

/-- The oldest record of a kind that has its slot. -/
def State.nextRec (s : State) (kind : Nat) : Option (Nat × Rec) := s.cwy.recs.find? (fun p => decide (p.2.stage = 0) && decide (p.2.kind = kind))

def execDtlsRecordReceive (s : State) : Host.Outcome State Fault Refusal :=
  .next (match (if s.cwyRuns then s.nextRec 1 else none) with
    | some (n, r) => (s.dtlsReceive n r).settleDrains
    | none => s)

/-! ### ESP_PACKET_RECEIVE (R400) -/

/-- The 64-bit number that a 32-bit field and the top of a window of 1,024 give (RFC 4303 Appendix A); none below zero. -/
def esnOf (top field : Nat) : Option Nat :=
  let tl := top % 2 ^ 32
  let th := top / 2 ^ 32
  if 1023 ≤ tl then (if tl - 1023 ≤ field then some (th * 2 ^ 32 + field) else some ((th + 1) * 2 ^ 32 + field))
  else if tl + 2 ^ 32 - 1023 ≤ field then (if th = 0 then none else some ((th - 1) * 2 ^ 32 + field))
  else some (th * 2 ^ 32 + field)

def State.espReceive (s : State) (n : Nat) (r : Rec) : State :=
  match s.session r.session with
  | none => s.delRec n
  | some x =>
    let s0 := s.touchHead r.session
    let spi := rdBe r.data 0 4
    let field := rdBe r.data 4 4
    let alt := decide (spi ≠ x.rx.spi)
    if x.state ≠ 2 ∨ r.data.length < 34 then s0.dropRec n Reg.headerDrop
    else if alt && !(x.altValid && decide (spi = x.alt.id)) then s0.dropRec n Reg.epochMiss
    else
      let top := if alt then x.alt.floor - 1 else x.rx.top
      match (if x.esn then esnOf top field else some field) with
      | none => s0.dropRec n Reg.replayDrop
      | some num =>
        if num = 0 then s0.dropRec n Reg.headerDrop
        else
          let y := { r with alt := alt, recnum := num, slot := if alt then x.alt.slot else x.rx.slot, slotId := spi }
          let s1 := s0.bodyRead x y
          let fresh := if alt then decide (x.alt.floor ≤ num) else x.rx.admits num
          let bound := s.boundFails r.session x alt num
          if !fresh || bound then s1.replayFails n y (fresh && bound)
          else s1.recToLane n y (recCycles x.alg 2 (8 + (if x.esn then 4 else 0) + r.data.length - 32))

def execEspPacketReceive (s : State) : Host.Outcome State Fault Refusal :=
  .next (match (if s.cwyRuns then s.nextRec 2 else none) with
    | some (n, r) => (s.espReceive n r).settleDrains
    | none => s)

/-! ### Verdicts (R394 checks 6 to 8, R396, R397, R399, R401, R415, R419) -/

/-- The oldest record of a session, when its lane has decided it: steps 7 and 8 go in order (R393). -/
def State.decidedRec (s : State) (i kind : Nat) : Option (Nat × Rec × Session) :=
  match s.cwy.recs.find? (fun p => decide (p.2.session = i)), s.session i with
  | some (n, r), some x => if r.kind = kind ∧ (r.stage = 3 ∨ r.stage = 4) then some (n, r, x) else none
  | _, _ => none

/-- Check 6 failed: TAG_FAIL, DROPS, TAG_FAILS, and removal at 2^36 (R394, R418). -/
def State.tagFails (s : State) (n : Nat) (r : Rec) : State :=
  let s1 := (s.dropRec n Reg.tagFail).modSession r.session (fun x => { x with counts := { x.counts with tagFails := satAdd 64 x.counts.tagFails 1 } })
  match s1.session r.session with
  | some x => if 2 ^ 36 ≤ x.counts.tagFails then s1.removeSession r.session 4 else s1
  | none => s1

/-- The swap: the alternate keys move to the head at the record that proved them (R415, R419). -/
def Session.swap (x : Session) (num : Nat) : Session :=
  { x with
    altValid := false
    alt := { id := 0, slot := KeySlot.empty, floor := 0 }
    rx := { x.rx with slot := x.alt.slot, top := num, window := 1, epoch := if x.kind = 1 then x.alt.id else x.rx.epoch,
                      spi := if x.kind = 2 then x.alt.id else x.rx.spi } }

/-- The path follows a record that raised RX_TOP (R399). -/
def State.takePath (s : State) (i : Nat) (p : Path) : State :=
  match s.session i with
  | some x =>
    let q := { x.path with peerAddr := p.peerAddr, peerPort := p.peerPort, vlan := p.vlan, peerMac := p.peerMac }
    if q.tag = x.path.tag then s else (s.setSession i { x with path := q }).bump Reg.pathChange
  | none => s

/-- Check 7: the window as it stands, and a record that passes marked in it; whether it raised RX_TOP. -/
def State.passWindow (s : State) (i : Nat) (x : Session) (num : Nat) : Option (State × Bool) :=
  if x.rx.admits num then some (s.setSession i { x with rx := x.rx.mark num }, decide (x.rx.top < num)) else none

/-- An alert of the peer (R397). -/
def State.alertReceived (s : State) (i : Nat) (x : Session) (msg : Bytes) : State :=
  let desc := rd msg 1 1
  if desc = 90 then s.bump Reg.toFirmware
  else if desc = 0 then
    (((s.event x.vi 0x0003 i 0 0 0).sendAlert i 1 0).modSession i (fun y => { y with state := 3 })).dropMirrored i
  else (s.event x.vi 0x0003 i desc 0 0).dropMirrored i

/-- A verified message goes to the firmware. -/
def State.toInbox (s : State) (i num content : Nat) (msg : Bytes) : State :=
  (s.modSession i (fun x => { x with inbox := x.inbox ++ [(num, content, msg)] })).bump Reg.toFirmware

/-- The dispatch of a record of the head (R396). -/
def State.dispatchHead (s : State) (i : Nat) (x : Session) (r : Rec) (content : Nat) (msg : Bytes) : State :=
  if x.state = 1 then (if content = 22 ∨ content = 26 then s.toInbox i r.recnum content msg else s.closeFatal i 10)
  else if content = 23 ∧ 3 ≤ x.rx.epoch then
    s.deliver i { port := r.port, recnum := r.recnum, content := 23, stamp := r.stamp, data := msg, path := r.path }
  else if content = 21 ∧ 3 ≤ x.rx.epoch then s.alertReceived i x msg
  else if content = 26 ∨ (content = 22 ∧ rd msg 0 1 = 24) then s.toInbox i r.recnum content msg
  else if content = 22 then (s.bump Reg.toFirmware).closeFatal i 10
  else s.closeFatal i 10

/-- Check 8 and the dispatch of a DTLS record (R394, R396). -/
def State.dtlsDispatch (s : State) (i : Nat) (r : Rec) (older : Bool) (pt : Bytes) : State :=
  match splitInner pt, s.session i with
  | none, _ => s.closeFatal i 10
  | some (content, msg), some x =>
    if older then
      (if content = 22 then (s.bump Reg.toFirmware).sendAck i r.recnum
       else if content = 26 then s.bump Reg.toFirmware else s)
    else s.dispatchHead i x r content msg
  | _, none => s

/-- DTLS_RECORD_VERDICT for a record whose tag verified. -/
def State.dtlsVerdict (s : State) (i n : Nat) (r : Rec) (x : Session) : State :=
  let pt := match parseDtls r.data with
    | some h => let u := unmask x.alg r.slot.snKey r.data h; opened x.alg r.slot.key r.slot.iv (r.recnum % 2 ^ 48) u.1 u.2.2
    | none => []
  let s1 := s.delRec n
  if r.slotId = x.rx.epoch then
    match s1.passWindow i x r.recnum with
    | none => (s1.bump Reg.replayDrop).countDrop i
    | some (t, raised) =>
      let t1 := if raised then t.takePath i r.path else t
      (t1.dtlsDispatch i r false pt).countCheckpoint i raised false
  else if x.altValid ∧ r.slotId = x.alt.id then
    if x.rx.epoch < x.alt.id ∧ x.state = 2 then
      (((s1.setSession i (x.swap r.recnum)).takePath i r.path).dtlsDispatch i r false pt).countCheckpoint i true true
    else s1.dtlsDispatch i r true pt
  else (s1.bump Reg.epochMiss).countDrop i

def execDtlsRecordVerdict (i : BitVec 24) (s : State) : Host.Outcome State Fault Refusal :=
  .next (match (if s.cwyRuns then s.decidedRec i.toNat 1 else none) with
    | some (n, r, x) => (if r.stage = 4 then s.tagFails n r else s.dtlsVerdict i.toNat n r x).sweepRekey.settleDrains
    | none => s)

/-- The ESP trailer: padding 1, 2, 3 and so on, Pad Length, Next Header (R401). -/
def espTrailer (pt : Bytes) : Option (Nat × Bytes) :=
  let n := pt.length
  let pad := rd pt (n - 2) 1
  if n < 2 ∨ n < pad + 2 ∨ slice pt (n - 2 - pad) pad ≠ (List.range pad).map (fun k => BitVec.ofNat 8 (k + 1)) then none
  else some (rd pt (n - 1) 1, pt.take (n - 2 - pad))

/-- The trailer and the delivery of an ESP packet (R401). -/
def State.espDeliver (s : State) (i : Nat) (r : Rec) (pt : Bytes) : State :=
  match espTrailer pt with
  | none => (s.bump Reg.headerDrop).countDrop i
  | some (next, text) =>
    if next = 59 then s.bump Reg.espDummy
    else s.deliver i { port := r.port, recnum := r.recnum, content := next, stamp := r.stamp, data := text, path := r.path }

def State.espVerdict (s : State) (i n : Nat) (r : Rec) (x : Session) : State :=
  let aad := r.data.take 4 ++ (if x.esn then beBytes 4 (r.recnum / 2 ^ 32) else []) ++ slice r.data 4 4
  let pt := opened x.alg r.slot.key (r.slot.iv.take 4 ++ slice r.data 8 8) 0 aad (r.data.drop 16)
  let s1 := s.delRec n
  if r.slotId = x.rx.spi then
    match s1.passWindow i x r.recnum with
    | none => (s1.bump Reg.replayDrop).countDrop i
    | some (t, raised) => (t.espDeliver i r pt).countCheckpoint i raised false
  else if x.altValid ∧ r.slotId = x.alt.id then
    (((s1.setSession i (x.swap r.recnum)).event x.vi 0x0005 i x.alt.id 0 0).espDeliver i r pt).countCheckpoint i true true
  else (s1.bump Reg.epochMiss).countDrop i

def execEspPacketVerdict (i : BitVec 24) (s : State) : Host.Outcome State Fault Refusal :=
  .next (match (if s.cwyRuns then s.decidedRec i.toNat 2 else none) with
    | some (n, r, x) => (if r.stage = 4 then s.tagFails n r else s.espVerdict i.toNat n r x).sweepRekey.settleDrains
    | none => s)

/-- HELD_RECORD_RELEASE: the oldest record held against the ring credit goes out once its ring has room (R405). -/
def execHeldRecordRelease (i : BitVec 24) (s : State) : Host.Outcome State Fault Refusal :=
  .next (match s.session i.toNat with
    | none => s
    | some x =>
      match x.held with
      | [] => s
      | h :: more =>
        if !s.cwyRuns || decide (x.state ≠ 2) || !((s.ring x.vi (16 + x.rx.ring)).enable) then s
        else
          let y := { x with held := more, rx := { x.rx with creditUsed := x.rx.creditUsed - 1 } }
          ((s.setSession i.toNat y).postRecord i.toNat y h).getD s |>.sweepRekey)

/-! ### Key updates and limits (R415 to R420) -/

/-- PEER_KEYUPDATE: the next receive epoch's keys go into the alternate slot; the ACK follows the twin's acknowledgement (R415). -/
def execPeerKeyupdate (i : BitVec 24) (s : State) : Host.Outcome State Fault Refusal :=
  let k := i.toNat
  .next (match (if s.cwyRuns then s.session k else none) with
    | none => s
    | some x =>
      match x.inbox with
      | (num, 22, msg) :: more =>
        if x.state ≠ 2 ∨ rd msg 0 1 ≠ 24 ∨ s.spn.waits.any (fun p => decide (p.2 = .altKeys k)) then s
        else if x.altValid ∧ x.alt.id = x.rx.epoch + 1 then (s.setSession k { x with inbox := more }).sendAck k num
        else if 65535 ≤ x.rx.epoch then (s.limitSession k 3).sweepRekey
        else
          let y := { x with altValid := true, alt := { id := x.rx.epoch + 1, slot := nextSlot x.alg x.rx.slot, floor := 0 } }
          if s.entryWaits then (s.setSession k y).mirror (.altKeys k) [.sessionKeys i y.bytes]
          else (s.setSession k { y with inbox := more }).sendAck k num
      | _ => s)

/-- PEER_KEYUPDATE_ACK: the next transmit epoch, once the twin has acknowledged it (R417). -/
def execPeerKeyupdateAck (i : BitVec 24) (s : State) : Host.Outcome State Fault Refusal :=
  let k := i.toNat
  .next (match (if s.cwyRuns then s.session k else none) with
    | none => s
    | some x =>
      match x.inbox with
      | (_, 26, _) :: more =>
        let y := { x with inbox := more }
        let s1 := s.setSession k y
        if x.state ≠ 2 ∨ !x.tx.kuWait ∨ s.spn.waits.any (fun p => decide (p.2 = .txKeys k)) then s1
        else if s.entryWaits then s1.mirror (.txKeys k) [.sessionKeys i (s.freshLease y.rekeyTx).bytes]
        else s1.applyTxKeys k
      | _ => s)

/-- KEYUPDATE_TIMEOUT: KeyUpdate again, or after KU_RETRIES repeats the removal (R417). -/
def execKeyupdateTimeout (i : BitVec 24) (s : State) : Host.Outcome State Fault Refusal :=
  let k := i.toNat
  .next (match (if s.cwyRuns then s.session k else none) with
    | none => s
    | some x =>
      if !x.tx.kuWait || !(s.timersRun x.vi) then s
      else if bits (s.reg Reg.cwyCtl) 23 20 ≤ x.tx.kuTries then (s.removeSession k 5).sweepRekey
      else (s.setSession k { x with tx := { x.tx with kuTries := x.tx.kuTries + 1 } }).sendKeyUpdate k x.tx.kuHost)

/-- EPOCH2_HOLD_EXPIRY: the alternate slot is emptied of epoch 2 (R416). -/
def execEpoch2HoldExpiry (i : BitVec 24) (s : State) : Host.Outcome State Fault Refusal :=
  .next (match s.session i.toNat with
    | none => s
    | some x =>
      if x.kind = 1 ∧ x.state = 2 ∧ x.altValid ∧ x.alt.id = 2 ∧ s.timersRun x.vi ∧ x.estS + bits (s.reg Reg.cwyCtl) 31 24 ≤ s.second then
        s.setSession i.toNat { x with altValid := false, alt := { id := 0, slot := KeySlot.empty, floor := 0 } }
      else s)

/-- SESSION_TIME_LIMIT (R420). -/
def execSessionTimeLimit (i : BitVec 24) (s : State) : Host.Outcome State Fault Refusal :=
  .next (match s.session i.toNat with
    | none => s
    | some x => if x.hardAtS ≠ 0 ∧ x.hardAtS ≤ s.second ∧ s.timersRun x.vi then (s.limitSession i.toNat 2).sweepRekey else s)

/-- CHECKPOINT_DUE (R414). -/
def execCheckpointDue (i : BitVec 24) (s : State) : Host.Outcome State Fault Refusal :=
  .next (match s.session i.toNat with
    | none => s
    | some x => if x.rx.ckptCount ≠ 0 ∧ s.timersRun x.vi then s.sendCheckpoint i.toNat x.rx.top else s)

/-! ### Transmit (R76 to R78, R408 to R412) -/

/-- Bytes of the IP datagram that carries a message of `n` bytes. -/
def Session.framedIp (x : Session) (n : Nat) : Nat :=
  let ip := ipOverhead x.ipv6
  if x.kind = 1 then ip + 8 + (1 + x.tx.peerCid.length + 4) + n + 1 + 16
  else ip + 16 + (n + 2 + (4 - (n + 2) % 4) % 4) + 16

/-- Bytes of the frame with its FCS. -/
def Session.framed (x : Session) (n : Nat) : Nat := (if x.path.vlan = 0xFFFF then 18 else 22) + x.framedIp n

/-- The first failing condition of R410. -/
def State.txRefused (s : State) (v : Nat) (e : Bytes) : Option Nat :=
  let i := rd e 4 4
  let n := rd e 16 4
  if rd e 28 4 ≠ crc32c (e.take 28) then some St.descCheck
  else if rd e 24 2 ≠ (s.vi v).gen.toNat then some St.staleGen
  else if 2 ≤ rd e 1 1 ∨ rd e 3 1 ≠ 0 ∨ 2 ^ 24 ≤ i ∨ rd e 26 2 ≠ 0 then some St.badParam
  else match s.session i with
    | none => some St.inputInvalid
    | some x =>
      if x.vi ≠ v then some St.inputInvalid
      else if rd e 0 1 ≠ x.kind ∨ (x.kind = 2 ∧ !x.outbound) ∨ (x.kind = 1 ∧ rd e 2 1 ≠ 23) then some St.badParam
      else if s.standby v then some St.notPrimary
      else if x.state ≠ 2 then some St.state
      else if (x.kind = 1 ∧ x.maxPlaintext < n) ∨ bits (s.reg Reg.clsCtl) 31 18 < x.framedIp n ∨
          bits (s.reg (Reg.portMaxFrame x.port)) 13 0 < x.framed n then some St.badParam
      else if (x.kind = 1 ∧ 2 ^ 48 ≤ x.tx.seq) ∨ (x.kind = 2 ∧ !x.esn ∧ 2 ^ 32 ≤ x.tx.seq) then some St.keyExhausted
      else none

/-- The head of a transmit ring moves past an entry, and is written back (R78, R84). -/
def State.txAdvance (s : State) (v k : Nat) : State :=
  let r := s.ring v k
  let h := (r.fetchIdx + 1) % r.size
  ((s.setRing v k { r with fetchIdx := h }).emit (.dma v (s.via v) r.baseB.toNat (leBytes 4 h))).countEntry v k false

/-- An entry is rejected (R77). -/
def State.txReject (s : State) (v ring : Nat) (e : Bytes) (st : Nat) : State :=
  ((s.txAdvance v (32 + ring)).ringLoss v (32 + ring)).event v 0x0007 (rd e 4 4 % 2 ^ 24) st ring (rd e 20 4)

/-- An ESP packet of session `x` with number `num` (R409). The padding aligns the trailer to 4 B as RFC 4303 does (assumption log 35). -/
def Session.espPacket (x : Session) (num content : Nat) (msg : Bytes) : Bytes :=
  let pad := (4 - (msg.length + 2) % 4) % 4
  let inner := msg ++ (List.range pad).map (fun k => BitVec.ofNat 8 (k + 1)) ++ [BitVec.ofNat 8 pad, BitVec.ofNat 8 content]
  let iv := beBytes 8 num
  let spi := beBytes 4 x.tx.spi
  let low := beBytes 4 (num % 2 ^ 32)
  let aad := spi ++ (if x.esn then beBytes 4 (num / 2 ^ 32) else []) ++ low
  spi ++ low ++ iv ++ sealed x.alg x.tx.slot.key (x.tx.slot.iv.take 4 ++ iv) 0 aad inner

/-- The message is framed with the next number and queued for the MAC (R26, R408 to R411); without a lane to seal it, it is dropped and its
number stays consumed (R429, R524). -/
def State.txFrame (s : State) (v ring i : Nat) (x : Session) (e msg : Bytes) : State :=
  let num := x.tx.seq
  let s1 := s.modSession i (fun y => { y with tx := { y.tx with seq := num + 1 } })
  if s.lanesOnDuty = 0 ∨ (s.vi v).quota.laneWeight = 0 then (s1.bump Reg.shareDrop).countDrop i
  else
    let s2 :=
      if x.kind = 1 then s1.sendUdp x.port i x.ipv6 x.path (dtlsRecord x.alg x.tx.slot x.tx.epoch num x.tx.peerCid (msg ++ [23]))
      else s1.sendPacket x.port i x.ipv6 50 x.path (x.espPacket num (rd e 2 1) msg)
    let s3 := if rd e 1 1 % 2 = 1 then s2.event v 0x0008 i 0 ring (rd e 20 4) else s2
    let s4 := s3.modSession i (fun y =>
      { y with counts := { y.counts with txRecords := satAdd 64 y.counts.txRecords 1, txBytes := satAdd 64 y.counts.txBytes msg.length },
               tx := { y.tx with rekeyLeft := if y.kind = 1 ∧ y.tx.rekeyLeft ≠ noLimit then y.tx.rekeyLeft - 1 else y.tx.rekeyLeft } })
    let s5 := if x.kind = 1 ∧ x.tx.rekeyLeft = 1 ∧ !x.tx.kuWait then s4.startKeyUpdate i none else s4
    s5.spend i msg.length

/-- An accepted entry: its message is read, and framed; one that cannot be read is rejected with HOST_DMA_ERROR (assumption log 36). -/
def State.txTake (s : State) (v ring i : Nat) (x : Session) (e : Bytes) (message : ReadOutcome) : State :=
  let n := rd e 16 4
  let read := if n = 0 then s else s.emit (.hostRead v (s.via v) (rd e 8 8) n)
  match (if n = 0 then ReadOutcome.data [] else message) with
  | .data b => (((read.txAdvance v (32 + ring)).txFrame v ring i x e (padTo n b)).requestLease i).sweepRekey
  | _ => read.txReject v ring e St.hostDma

/-- A stalled entry is counted once (R412). -/
def State.txStall (s : State) (i : Nat) (x : Session) : State :=
  if x.tx.stalled then s else (s.setSession i { x with tx := { x.tx with stalled := true } }).bump Reg.leaseStall

/-- TRANSMIT_ENTRY_FETCH: entries go strictly in ring order; one that finds its lease used up waits (R77, R412). -/
def execTransmitEntryFetch (v : Fin 256) (ring : Fin 16) (entry : Option Bytes) (message : ReadOutcome) (s : State) :
    Host.Outcome State Fault Refusal :=
  let k := 32 + ring.val
  let r := s.ring v.val k
  .next (
    if !s.cwyRuns || !r.enable || decide (r.dist r.fetchIdx r.tail = 0) || !(s.viFetches v.val) then s
    else
      let read := s.emit (.hostRead v.val (s.via v.val) (r.baseA.toNat + 32 * r.fetchIdx) 32)
      match entry with
      | none => (read.modRing v.val k (fun x => { x with enable := false })).ringError v.val 9 2 ring.val 0
      | some raw =>
        let e := padTo 32 raw
        let i := rd e 4 4
        match s.txRefused v.val e, s.session i with
        | some st, _ => read.txReject v.val ring.val e st
        | none, some x =>
          if x.tx.leaseEnd ≤ x.tx.seq then (s.txStall i x).requestLease i
          else (match read.takeSlots (2 + x.port) 1 with
            | some t => (t.touchHead i).txTake v.val ring.val i x e message
            | none => s)
        | none, none => s)

/-- SEND_LEASE_GRANT: the lease asked for becomes usable (R412, R590). -/
def execSendLeaseGrant (i : BitVec 24) (s : State) : Host.Outcome State Fault Refusal :=
  .next (match s.session i.toNat with
    | none => s
    | some x =>
      if x.tx.leaseReq && (!s.paired || s.lone || x.tx.leaseAck) then
        (match s.grantSend x with
        | some y => s.setSession i.toNat y
        | none => s)
      else s)

end Sys2Proof.Machine
end

