-- ==== Sys2Proof/Machine/Window.lean ====
section
/-! DEFINITION. The ring registers of an instance window as words (R35 to R41). -/

namespace Sys2Proof.Machine

open Sys2Proof

/-- The ring whose block holds an offset of 0x0100 to 0x073F (R35). -/
def ringAt (off : Nat) : Option RingId :=
  if off < 0x100 then none
  else if off < 0x300 then some (.cmd (Fin.ofNat 16 ((off - 0x100) / 32)))
  else if off < 0x500 then some (.rx (Fin.ofNat 16 ((off - 0x300) / 32)))
  else if off < 0x700 then some (.tx (Fin.ofNat 16 ((off - 0x500) / 32)))
  else if off < 0x720 then some .ev
  else if off < 0x740 then some .xq
  else none

/-- The ring's register at +0x18 is a TAIL with its PHASE (R35, R40). -/
def tailPhase : RingId → Bool
  | .rx _ => true | .ev => true | .xq => true | _ => false

/-- The device still owns an entry or a transfer of the ring (R38, R45, R47): entries that a tail doorbell handed over while the ring is
enabled, and descriptors without their reply. The free slots of a device-written ring do not count (assumption log 65). -/
def State.ringActive (s : State) (v : Nat) (id : RingId) : Bool :=
  let r := s.ring v id.key
  (id.fetched && r.enable && decide (r.fetchIdx ≠ r.tail)) || (match id with | .cmd n => decide (0 < s.outstanding v n.val) | _ => false)

/-- _CTL of a ring (R38). -/
def State.ctlWord (s : State) (v : Nat) (id : RingId) : Nat :=
  let r := s.ring v id.key
  bitAt 31 r.enable + bitAt 30 (s.ringActive v id) + (if id.hasData then r.log2Data.toNat * 2 ^ 25 else 0) + r.log2Size.toNat * 2 ^ 20 +
    (if id.fetched then r.weight.toNat * 2 ^ 16 else 2 ^ 16) + r.vector.toNat

/-- INDEX and PHASE of a device-written ring (R40). -/
def Ring.tailWord (r : Ring) : Nat := bitAt 16 r.phase + r.writeIdx

/-- A ring register by its offset in the block. -/
def State.ringWord (s : State) (v : Nat) (id : RingId) (o : Nat) : Nat :=
  let r := s.ring v id.key
  match o with
  | 0x00 => r.baseA.toNat % 2 ^ 32
  | 0x04 => r.baseA.toNat / 2 ^ 32
  | 0x08 => if id = .ev then 0 else r.baseB.toNat % 2 ^ 32
  | 0x0C => if id = .ev then 0 else r.baseB.toNat / 2 ^ 32
  | 0x10 => s.ctlWord v id
  | 0x14 => r.modCount.toNat * 2 ^ 16 + r.modTimer.toNat
  | 0x18 => if tailPhase id then r.tailWord else r.fetchIdx
  | 0x1C => (match id with | .cmd _ => r.tailWord | _ => r.losses.toNat)
  | _ => 0

/-- The word at offset `off` of the ring registers of VI `v`; the exception ring is VI 0's alone. -/
def State.ringReg (s : State) (v off : Nat) : Nat :=
  match ringAt off with
  | some id => if id = .xq ∧ v ≠ 0 then 0 else s.ringWord v id (off % 32)
  | none => 0

/-- The image of offsets 0x0100 to 0x073F (R551). -/
def State.ringImage (s : State) (v : Nat) : Bytes := ((List.range 400).map (fun i => leBytes 4 (s.ringReg v (0x100 + 4 * i)))).flatten

/-- A ring from its block of an image. Doorbells and what the host has not returned are not carried: both stand at the indices held
(assumption log 45). -/
def ringOfBlock (id : RingId) (b : Bytes) : Ring :=
  let ctl := rd b 0x10 4
  let w := rd b 0x18 4
  let t := if tailPhase id then w else rd b 0x1C 4
  let dev := match id with | .tx _ => false | _ => true
  { Ring.reset with
    baseA := BitVec.ofNat 64 (rd b 0 8), baseB := BitVec.ofNat 64 (rd b 8 8), enable := ctl.testBit 31, log2Data := BitVec.ofNat 5 (bits ctl 29 25)
    log2Size := BitVec.ofNat 5 (bits ctl 24 20), weight := BitVec.ofNat 4 (bits ctl 19 16), vector := BitVec.ofNat 11 (bits ctl 10 0)
    modCount := BitVec.ofNat 8 (rd b 0x16 1), modTimer := BitVec.ofNat 10 (bits (rd b 0x14 4) 9 0)
    fetchIdx := if tailPhase id then 0 else w % 65536, tail := if tailPhase id then 0 else w % 65536
    writeIdx := if dev then t % 65536 else 0, phase := if dev then t.testBit 16 else true, head := if dev then t % 65536 else 0 }

/-- The rings of an image, by key. -/
def ringsOfImage (b : Bytes) : List (Nat × Ring) :=
  (List.range 49).filterMap (fun i => (ringAt (0x100 + 32 * i)).map (fun id => (id.key, ringOfBlock id (slice b (32 * i) 32))))

end Sys2Proof.Machine
end

