-- ==== Sys2Proof/Machine/Vim.lean ====
section
/-! DEFINITION. Meanings of the VI manager: group 0x0C, resets, detachment, freeze and thaw, migration, and the limits that go with them
(R98, R153, R516, R518, R522 to R529, R534 to R553). -/

namespace Sys2Proof.Machine

open Sys2Proof

/-- The VI that a descriptor of group 0x0C names (R153). -/
def targetVi (b : Bytes) : Nat := bits (dP0 b) 7 0

/-- Run a firmware opcode that acts at once, unless an abort is pending. -/
def State.runAction (s : State) (j op : Nat) (f : State → Job → State × Result × List Need) : State :=
  match s.startable j op with
  | some x =>
    match x.abortBy with
    | some st => s.abandon j st
    | none => (s.runJob j op f).settleDrains
  | none => s

/-! ### VI_QUOTA_SET and VI_QUERY (R522, R523, R526, R529) -/

/-- The lowest offset of a wrong field or reserved byte. -/
def quotaFieldBad (b : Bytes) : Option Nat :=
  let beyond (off n top : Nat) : List Nat := if top < rd b off n then [off] else []
  let l := (if rd b 0 2 ≠ 1 then [0] else []) ++ (if rd b 5 1 = 0 then [5] else []) ++ beyond 6 1 16 ++ beyond 7 1 16 ++ beyond 8 1 16 ++ beyond 9 1 8 ++
    beyond 10 2 256 ++ beyond 12 4 0xFFFFFF ++ beyond 16 4 16777216 ++ beyond 20 4 1048568 ++ beyond 24 2 608 ++
    ((List.range 36).filter (fun i => decide (rd b (28 + i) 1 ≠ 0))).map (28 + ·)
  lowest l

/-- The new session range meets another VI's range, or covers an index that another VI holds. -/
def State.rangeTaken (s : State) (v : Nat) (q : Quota) : Bool :=
  let hit (a n : Nat) : Bool := decide (0 < q.sessions ∧ 0 < n ∧ q.sessionBase < a + n ∧ a < q.sessionBase + q.sessions)
  s.vis.any (fun p => decide (p.1 ≠ v) && hit p.2.quota.sessionBase p.2.quota.sessions) ||
    s.cwy.sessions.any (fun p => decide (p.2.vi ≠ v) && hit p.1 1) || s.cwy.scrub.any (fun p => decide (p.2 ≠ v) && hit p.1 1)

/-- A field summed over all VIs, with the new record in place. -/
def State.quotaSum (s : State) (v : Nat) (q : Quota) (f : Quota → Nat) : Nat :=
  allVis.foldl (fun n w => n + f (if w = v then q else (s.vi w).quota)) 0

/-- DETAIL of the first condition of R523 that holds. -/
def State.quotaBad (s : State) (v : Nat) (b : Bytes) : Option Nat :=
  let q := Quota.ofBytes b
  match quotaFieldBad b with
  | some o => some o
  | none =>
    if 16777216 < q.sessionBase + q.sessions then some 16
    else if s.rangeTaken v q then some 12
    else if 1048568 < s.quotaSum v q (·.handles) then some 20
    else if 8 < s.quotaSum v q (·.dgeCtx) then some 9
    else if 608 < s.quotaSum v q (·.pkMib) then some 24
    else if 256 < s.quotaSum v q (·.stateful) then some 10
    else none

def doQuotaSet (s : State) (x : Job) : State × Result × List Need :=
  let v := targetVi x.desc
  match s.quotaBad v x.input with
  | some o => (s, failWith St.badEncoding o, [])
  | none => (s, okEff 0 [] [.putQuota v (Quota.ofBytes x.input)], s.tableNeeds)

def execViQuotaSet (j : Nat) (s : State) : Host.Outcome State Fault Refusal := .next (s.runJob j 0x0C01 doQuotaSet)

/-- Codes of R520. -/
def ViState.code : ViState → Nat
  | .detached => 0 | .running => 1 | .resetting => 2 | .frozen => 3 | .saved => 4 | .restoring => 5
def Tdi.code : Tdi → Nat
  | .unlocked => 0 | .locked => 1 | .run => 2 | .error => 3

/-- DGE contexts that a VI owns. -/
def State.ctxsOf (s : State) (v : Nat) : List Nat := (List.range 8).filter (fun c => decide ((s.dgeCtx c).owner = some v))

/-- Space held, in the units of the quota record: MiB and KiB, rounded up. -/
def State.pkMibUsed (s : State) (v : Nat) : Nat := (s.pkUsed v + 15) / 16
def State.shelfKibUsed (s : State) (v : Nat) : Nat := (s.shelfUsed v + 3) / 4

/-- The use record (R529). -/
def State.useRecord (s : State) (v : Nat) : Bytes :=
  let x := s.vi v
  leBytes 1 x.state.code ++ leBytes 1 x.tdi.code ++ leBytes 2 x.gen.toNat ++ leBytes 4 (s.sessionsUsed v) ++ leBytes 4 (s.handlesUsed v) ++
    leBytes 1 (s.ctxsOf v).length ++ leBytes 1 ((List.range 16).filter (fun n => (s.ring v n).enable)).length ++ leBytes 2 (s.statefulUsed v) ++
    leBytes 2 (s.pkMibUsed v) ++ leBytes 2 (s.shelfKibUsed v) ++ leBytes 4 x.frozenBytes ++ leBytes 4 x.freezeDrop ++ leBytes 4 x.lateDiscard.toNat ++ zeros 32

def doViQuery (s : State) (x : Job) : State × Result × List Need :=
  let v := targetVi x.desc
  (s, okWith 0 ((s.vi v).quota.bytes ++ s.useRecord v), [])

def execViQuery (j : Nat) (s : State) : Host.Outcome State Fault Refusal := .next (s.runJob j 0x0C08 doViQuery)

/-! ### Reset and detachment (R534 to R539) -/

/-- Step 2 of R535 for the jobs of a VI, and the discarding of its waiting replies (R72). -/
def State.stopJobs (s : State) (v : Nat) : State :=
  let held := (s.replies.filter (fun r => decide (r.vi = v))).length
  let s1 := ({ s with replies := s.replies.filter (fun r => decide (r.vi ≠ v)) }).modVi v (fun x => { x with lateDiscard := satInc x.lateDiscard held })
  ((s1.jobs.filter (fun p => decide (p.2.vi = v) && decide (p.2.origin = .host))).map (·.1)).foldl (fun t j => t.requestAbort j St.aborted) s1

/-- DGE contexts of a VI are zeroised and released (R501). -/
def State.dropDgeOf (s : State) (v : Nat) : State := (s.ctxsOf v).foldl (fun t c => t.dropDgeCtx c 0) s

/-- A VI reset on this device (R535 steps 1 to 5), or joining the one that runs (R538). -/
def State.localReset (s : State) (v : Nat) : State :=
  let s1 := (s.resetWindow v .resetting).stopJobs v
  if (s.vi v).state = .resetting then s1
  else ((s1.destroyVi v).viGone v).modVi v (fun x => { x with resetPending := true, scrubPending := true, freezeBuf := [], policies := [] })

/-- A VI reset starts, on the twin too (R534). -/
def State.startReset (s : State) (v : Nat) : State :=
  let s1 := s.localReset v
  if (s.vi v).state = .resetting then s1 else (s1.mirrorReset v).settleDrains

/-- Detachment: steps 1, 2 and 4 of R535; DGE contexts are released (R539). A reset that runs ends DETACHED, a SAVED VI stays SAVED. -/
def State.detach (s : State) (v : Nat) (final : ViState) : State :=
  let old := (s.vi v).state
  let s1 := (s.resetWindow v (if old = .resetting ∨ old = .saved then old else final)).stopJobs v
  (((s1.modVi v (fun x => { x with freezeBuf := [] })).dropDgeOf v).raiseStatus v 1).settleDrains

/-- VI_RESET: the reply follows step 6. -/
def execViReset (j : Nat) (s : State) : Host.Outcome State Fault Refusal :=
  .next (s.runAction j 0x0C02 (fun t x => (t.startReset (targetVi x.desc), okWith 0 [], [.reset])))

/-- An FLR reaches a VF that is enabled. -/
def execFlrVf (v : Fin 256) (s : State) : Host.Outcome State Fault Refusal :=
  .next (if s.pcieUp ∧ v ≠ 0 ∧ v.val ≤ s.glb.numVfs then s.startReset v.val else s)

/-- NumVFs, or 0 where VF Enable is cleared: VFs above it are detached. -/
def State.lowerVfs (s : State) (n : Nat) : State :=
  let gone := (List.range (s.glb.numVfs - n)).map (n + 1 + ·)
  gone.foldl (fun t v => t.detach v .detached) { s with glb := { s.glb with numVfs := Nat.min n s.glb.numVfs } }

/-- An FLR of the PF detaches every VF; VI 0 goes through the same steps and stays RUNNING (R539, assumption log 46). -/
def execFlrPf (s : State) : Host.Outcome State Fault Refusal :=
  .next (if s.pcieUp then (s.lowerVfs 0).detach 0 .running else s)

/-- VF Enable set with NumVFs: detached VIs up to it become RUNNING; NumVFs is lowered by VF_ENABLE_CLEAR alone (R516, R539). -/
def execVfEnableSet (n : Nat) (s : State) : Host.Outcome State Fault Refusal :=
  .next (if s.pcieUp then
      let k := Nat.max s.glb.numVfs (Nat.min n 255)
      ((List.range k).map (· + 1)).foldl (fun t v => if (t.vi v).state = .detached then t.modVi v (fun x => { x with state := .running }) else t)
        { s with glb := { s.glb with numVfs := k } }
    else s)

def execVfEnableClear (n : Nat) (s : State) : Host.Outcome State Fault Refusal := .next (if s.pcieUp then s.lowerVfs n else s)

/-- A change of Bus Master Enable moves a locked or running TDI to ERROR (R558); pending messages go out once DMA may run (R518). -/
def execBusMasterEnableChange (v : Fin 256) (on : Bool) (s : State) : Host.Outcome State Fault Refusal :=
  .next (if (s.vi v.val).bme = on then s
    else
      (s.modVi v.val (fun x => { x with bme := on, tdi := if x.tdi = .locked ∨ x.tdi = .run then .error else x.tdi })).flushMsix v.val)

/-- Jobs that wait for the reset of a VI go on. -/
def State.resetReplies (s : State) (v : Nat) : State :=
  (s.jobs.filter (fun p => decide (dOp p.2.desc = 0x0C02) && decide (targetVi p.2.desc = v))).foldl (fun t p => t.popNeed p.1 .reset) s

/-- The answer to a STOP_INTERFACE_REQUEST whose reset is complete (R560): TDISP type 0x07, the interface shown as the VI. -/
def State.answerStop (s : State) (v : Nat) : State :=
  match KMap.get v s.doe.stops with
  | none => s
  | some k =>
    let t : State := { s with doe := { s.doe with stops := KMap.del v s.doe.stops } }
    t.emit (.secured k ([0x10, 0x07, 0, 0] ++ leBytes 4 v ++ zeros 8))

/-- VI_RESET_COMPLETE: the twin, when paired, has acknowledged its reset (R535 steps 5 and 6). -/
def execViResetComplete (v : Fin 256) (s : State) : Host.Outcome State Fault Refusal :=
  .next (if (s.vi v.val).resetPending ∧ !(s.spn.waits.any (fun p => decide (p.2 = .viReset v.val))) then
      ((s.endReset v.val (decide (v.val ≤ s.glb.numVfs))).resetReplies v.val).answerStop v.val
    else s)

/-- VI_SCRUB_COMPLETE: step 7 of R535 for a VI whose reset or save is past. -/
def execViScrubComplete (v : Fin 256) (s : State) : Host.Outcome State Fault Refusal :=
  .next (if (s.vi v.val).scrubPending ∧ !(s.vi v.val).resetPending then (s.scrubVi v.val).dropDgeOf v.val else s)

/-- A change of a VF's BAR (R558). -/
def execVfBarWrite (v : Fin 256) (s : State) : Host.Outcome State Fault Refusal :=
  .next (if v ≠ 0 ∧ ((s.vi v.val).tdi = .locked ∨ (s.vi v.val).tdi = .run) then s.modVi v.val (fun x => { x with tdi := .error }) else s)

/-! ### Freeze and thaw (R540 to R544, R558) -/

/-- The outcome of a job that finds the wrong state. -/
def State.wrongState (s : State) : Result := failWith St.state s.glb.dev.code

/-- The TDI forbids freeze, save and restore (R558). -/
def Vi.lockedDown (x : Vi) : Bool := decide (x.tdi = .locked ∨ x.tdi = .run)

/-- VI_FREEZE is accepted: fetch stops, handshakes that have not reached PENDING go without trace, and a freeze buffer is taken when one of the 16
is free. -/
def State.beginFreeze (s : State) (v : Nat) : State :=
  let held := (s.vis.filter (fun p => (p.2.freezing || decide (p.2.state = .frozen)) && !p.2.noBuffer)).length
  let early := (s.cwy.hs.filter (fun p => decide (p.2.vi = v) && p.2.session.isNone)).map (·.1)
  let mine (p : Nat × Job) : Bool := match p.2.origin with | .handshake h => early.contains h | _ => false
  let s1 := ((s.jobs.filter mine).map (·.1)).foldl (fun t j => t.requestAbort j St.aborted) s
  { s1 with cwy := { s1.cwy with hs := s1.cwy.hs.filter (fun p => !(early.contains p.1)) } }.modVi v
    (fun x => { x with freezing := true, noBuffer := decide (16 ≤ held), freezeBuf := [], freezeDrop := 0 })

def execViFreeze (j : Nat) (s : State) : Host.Outcome State Fault Refusal :=
  .next (s.runAction j 0x0C03 (fun t x =>
    let v := targetVi x.desc
    let y := t.vi v
    if y.state ≠ .running ∨ y.freezing then (t, t.wrongState, [])
    else if y.lockedDown then (t, failWith St.policy 0, [])
    else (t.beginFreeze v, okEff 0 [] [.freeze v], [.drain])))

/-- VI_FREEZE_TIMEOUT: jobs that have not reached their commit point are abandoned as ABORT abandons them. -/
def execViFreezeTimeout (v : Fin 256) (s : State) : Host.Outcome State Fault Refusal :=
  .next (if (s.vi v.val).freezing then
      (((s.jobs.filter (fun p => decide (p.2.vi = v.val) && !p.2.committed)).map (·.1)).foldl (fun t j => t.requestAbort j St.aborted) s).settleDrains
    else s)

/-- The timers of the VI's sessions stood still since tick `t` (R542). -/
def State.shiftTimers (s : State) (v t : Nat) : State :=
  let sec := s.second - t / 100000000
  let tick := s.time - t
  let later : Session → Session := fun x =>
    if x.vi = v then
      { x with
        estS := x.estS + sec
        hardAtS := if x.hardAtS = 0 then 0 else x.hardAtS + sec
        rx := { x.rx with ckptDue := (x.rx.ckptDue + tick) % 2 ^ 32 } }
    else x
  { s with cwy := { s.cwy with sessions := KMap.mapVals (fun _ x => later x) s.cwy.sessions } }

/-- VI_THAW: the freeze buffer first, in arrival order, then timers and fetch (R544). -/
def State.thaw (s : State) (v : Nat) : State :=
  let x := s.vi v
  let s1 := (s.shiftTimers v x.frozenAt).modVi v (fun y => { y with state := .running, noBuffer := false, freezeBuf := [] })
  (x.freezeBuf.foldl (fun t e => t.toCarriageway e.1 e.2.1 e.2.2) s1).flushMsix v

def execViThaw (j : Nat) (s : State) : Host.Outcome State Fault Refusal :=
  .next (s.runAction j 0x0C06 (fun t x =>
    let v := targetVi x.desc
    if (t.vi v).state ≠ .frozen then (t, t.wrongState, []) else (t.thaw v, okWith 0 [], [])))

/-! ### Migration (R545 to R553) -/

/-- FW_SVN of the running image (R731, assumption log 44). -/
def State.runningImage (s : State) : Bytes := if s.glb.slotB then s.flash.slotB else s.flash.slotA
def State.fwSvn (s : State) : Nat := rd s.runningImage 12 4
def State.fwVersion (s : State) : Nat := rd s.runningImage 16 4

/-- A section of the body (R551). -/
def blobSection (typ : Nat) (items : List Bytes) : Bytes := leBytes 2 typ ++ zeros 2 ++ leBytes 4 items.length ++ items.flatten

/-- The value that a wrapped record of a key carries: the private value, or the public key. -/
def KeyRec.carried (k : KeyRec) : Bytes := if k.isPrivate then k.value else k.pub

/-- A key of R446, which has a nonce field and an invocation counter. -/
def hasNonce (alg : Nat) (attr : BitVec 32) : Bool := Alg.isAead alg && Alg.hasUse attr Alg.uSeal

/-- Keys of a VI that a blob carries. -/
def State.keysOf (s : State) (v : Nat) : KMap KeyRec := s.csn.keys.filter (fun p => decide (p.1 / 2 ^ 24 = v) && !p.2.destroying)

/-- The body's sections in clear. -/
def State.blobBody (s : State) (v : Nat) (wk : Bytes) : Bytes :=
  let x := s.vi v
  let keys := s.keysOf v
  let msix := ((List.range 128).map (fun i => leBytes 4 (SMap.get msixDef i x.msix).toNat)).flatten
  let keyItem (p : Nat × KeyRec) : Bytes :=
    leBytes 4 (p.1 % 2 ^ 24) ++ wrapKw wk 4 p.2.alg p.2.attr p.2.kgen s.unitId p.2.carried ++
      (if hasNonce p.2.alg p.2.attr then padTo 4 p.2.nonceField ++ leBytes 8 p.2.counter else [])
  let lease (p : Nat × KeyRec) : Option Bytes :=
    p.2.stateful.map (fun t => leBytes 4 (p.1 % 2 ^ 24) ++ leBytes 8 t.rangeStart ++ leBytes 8 t.rangeEnd ++ leBytes 8 t.leaseStart ++ treetop p.2)
  let entry (i : Nat) (y : Session) : Bytes :=
    let z := { y with estS := s.second - y.estS, hardAtS := if y.hardAtS = 0 then 0 else y.hardAtS - s.second,
                      rx := { y.rx with ckptCount := 0, ckptDue := 0 } }
    z.bytes ++ y.counts.bytes.take 48 ++ leBytes 4 i ++ zeros 12
  blobSection 1 [s.ringImage v ++ leBytes 4 x.intEnable.toNat ++ leBytes 4 x.intVector.toNat ++ msix] ++
    blobSection 2 (x.policies.map (fun p => leBytes 1 p.1 ++ p.2)) ++ blobSection 3 (keys.map keyItem) ++ blobSection 4 (keys.filterMap lease) ++
    blobSection 5 ((s.cwy.sessions.filter (fun p => decide (p.2.vi = v) && decide (p.2.state ≠ 1))).map (fun p => entry p.1 p.2)) ++
    blobSection 6 [leBytes 4 x.cursor]

/-- Bytes 0 to 127 (R550). -/
def State.blobHead (s : State) (v : Nat) (k : KeyRec) (bodyLen draw : Nat) : Bytes :=
  let t := k.target.getD ([], 0)
  leBytes 4 0x4D564953 ++ leBytes 2 1 ++ leBytes 2 v ++ s.unitId ++ padTo 16 t.1 ++ leBytes 4 t.2 ++ leBytes 4 s.fwSvn ++
    padTo 48 (s.anchorDigest.getD []) ++ leBytes 2 (s.vi v).gen.toNat ++ zeros 2 ++ leBytes 4 (s.csn.chain.getD []).length ++ leBytes 8 bodyLen ++
    padTo 12 (drawBytes draw 12) ++ zeros 4

/-- A device signature: ML-DSA-87 by handle 1 with a context, and ECDSA P-384 by handle 2 (R477, R550, R575). -/
def State.deviceSign (s : State) (context : Bytes) (msg : Bytes) (draw : Nat) : Bytes :=
  let key (h : Nat) : Bytes := ((KMap.get h s.csn.keys).map (·.value)).getD []
  stdOut .signature 0x0203 [key 1, context, msg, drawBytes draw 32] 4627 ++ stdOut .signature 0x0712 [key 2, [], msg, drawBytes (draw + 1) 48] 96

/-- The blob of a frozen VI: what precedes KEM_CT, and the tail. -/
def State.blob (s : State) (v : Nat) (k : KeyRec) : Bytes × Bytes :=
  let d := s.draws
  let e := encapsTo 0x0103 k.pub (drawBytes (d + 1) 32)
  let n := s.blobLen v - 128 - (s.csn.chain.getD []).length - 1568 - 4627 - 96
  let head := s.blobHead v k n d
  let key (label : String) : Bytes := kmac256 e.2 head (ascii label) 32
  let body := stdOut .aeadSeal 0x0902 [key "STQ6440 MIGRATE BODY", slice head 112 12, [], head, s.blobBody v (key "STQ6440 MIGRATE WRAP")] n
  let first := head ++ s.csn.chain.getD [] ++ body
  (first, e.1 ++ s.deviceSign (ascii "STQ-MIGRATE") (first ++ e.1) (d + 2))

/-- VI_SAVE (R548, R549): the first part of the blob is written before the local state goes, the tail with the reply. -/
def doSave (s : State) (x : Job) : State × Result × List Need :=
  let v := targetVi x.desc
  let y := s.vi v
  if y.state ≠ .frozen then (s, s.wrongState, [])
  else if y.tdi ≠ .unlocked then (s, failWith St.policy 0, [])
  else if s.paired ∧ s.lone then (s, s.wrongState, [])
  else match x.key with
    | none => (s, failWith St.keyNotFound 0, [])
    | some k =>
      let b := s.blob v k
      let n := b.1.length + b.2.length
      if dOutMax x.desc < n then (s, { failWith St.badParam 16 with lenOut := n }, [])
      else
        let s1 := (((s.nextDraw).nextDraw).nextDraw).nextDraw
        (s1.emit (.dma x.vi (s.via x.vi) (dOutAddr x.desc) b.1),
         { okEff 0 [] [.saved v] with lenOut := n, extra := [(dOutAddr x.desc + b.1.length, b.2)] },
         [.shelf] ++ (if s.twinWaits then [.twin] else []))

def execViSave (j : Nat) (s : State) : Host.Outcome State Fault Refusal :=
  .next (match (s.startable j 0x0C04).bind (·.abortBy) with
    | some st => s.abandon j st
    | none => s.runJob j 0x0C04 doSave)

/-- The KGEN of handle 3: shelf epoch and migration sequence plus 1 (R545). -/
def State.migKgen (s : State) : Nat := s.shelfEpoch * 2 ^ 24 + (s.csn.migSeq + 1) % 2 ^ 24

/-- SET of a stateful key value (R214): LMS carries it, XMSS its OID under the STRICT policy. -/
def setOfValue (alg : Nat) (value : Bytes) : Nat := if alg = 0x0401 then rd value 0 4 else rdBe value 0 4

/-- The key of a wrapped record of PURPOSE 0x04 or, from the archive, 0x02; none when the record fails (R461). -/
def recordKey (purpose : Nat) (wk rec : Bytes) : Option KeyRec :=
  let head := rec.take 48
  let wrapped := slice rec 48 (rd rec 44 4)
  let alg := rd head 6 2
  let attr := BitVec.ofNat 32 (rd head 8 4)
  let value := stdOut .keyUnwrap 0 [wk, head, wrapped] (rd head 40 4)
  let good := decide (rd head 0 4 = 0x52574B53) && decide (rd head 4 1 = 1) && decide (rd head 5 1 = purpose) && decide (slice head 32 8 = kcvOf wk) &&
    Config.stdCheck .unwrap 0 [wk, head, wrapped] && (decide (Alg.aOrigin attr = 3) || valueOk alg value)
  let k :=
    if Alg.aOrigin attr = 3 then newKey alg (if Alg.isRsa alg then rsaPubBits value.length else 0) attr 3 [] value false
    else if Alg.isStateful alg then newKey alg 0 attr (Alg.aOrigin attr) value (publicOf alg 0 (setOfValue alg value) value) true
    else keyOf alg attr (Alg.aOrigin attr) value
  if good then some { k with kgen := rd head 12 4, highKgen := rd head 12 4 } else none

/-- Keys of a body by handle index; none for a record that fails. -/
def keyItems (wk : Bytes) : Nat → Bytes → List (Nat × Option KeyRec) × Bytes
  | 0, b => ([], b)
  | n + 1, b =>
    let rec_ := b.drop 4
    let tail := rec_.drop (48 + rd rec_ 44 4)
    let more := hasNonce (rd rec_ 6 2) (BitVec.ofNat 32 (rd rec_ 8 4))
    let k := recordKey 4 wk rec_
    let k1 := if more then k.map (fun y => { y with nonceField := tail.take 4, counter := rd tail 4 8, counterLease := rd tail 4 8 }) else k
    let r := keyItems wk n (tail.drop (if more then 12 else 0))
    ((rd b 0 4, k1) :: r.1, r.2)

/-- Policies of a body: slot and SESSION_POLICY_SET input. -/
def policyItems : Nat → Bytes → List (Nat × Bytes) × Bytes
  | 0, b => ([], b)
  | n + 1, b =>
    let len := 64 + 4 * rd b 25 2 + rd b 29 4
    let r := policyItems n (b.drop (1 + len))
    ((rd b 0 1, slice b 1 len) :: r.1, r.2)

/-- Index ranges of a body: handle index, range start and end, next unused lease start. `len` gives the length of a handle's treetop record. -/
def leaseItems (len : Nat → Nat) : Nat → Bytes → List (Nat × Nat × Nat × Nat) × Bytes
  | 0, b => ([], b)
  | n + 1, b =>
    let h := rd b 0 4
    let r := leaseItems len n (b.drop (28 + len h))
    ((h, rd b 4 8, rd b 12 8, rd b 20 8) :: r.1, r.2)

/-- Sessions of a body. R551 gives an item no index: the model carries it in the reserved bytes of the counter record (assumption log 47). -/
def sessionItems : Nat → Bytes → List (Nat × Session) × Bytes
  | 0, b => ([], b)
  | n + 1, b =>
    let r := sessionItems n (b.drop 576)
    ((rd b 560 4, { Session.ofBytes (b.take 512) with counts := SessionCounts.ofBytes (slice b 512 64) }) :: r.1, r.2)

/-- COUNT of a section that has TYPE `t` at the front of `b`, and what follows its header. -/
def openSection (t : Nat) (b : Bytes) : Nat × Bytes := if rd b 0 2 = t then (rd b 4 4, b.drop 8) else (0, b)

/-- The contents of a body (R551). -/
structure BlobBody where
  rings : Bytes
  policies : List (Nat × Bytes)
  keys : List (Nat × Option KeyRec)
  leases : List (Nat × Nat × Nat × Nat)
  sessions : List (Nat × Session)
  cursor : Nat
  deriving DecidableEq, Repr

def parseBody (wk b : Bytes) : BlobBody :=
  let s1 := openSection 1 b
  let s2 := openSection 2 (s1.2.drop (2120 * s1.1))
  let p := policyItems s2.1 s2.2
  let s3 := openSection 3 p.2
  let k := keyItems wk s3.1 s3.2
  let tree (h : Nat) : Nat :=
    match k.1.find? (fun e => decide (e.1 = h)) with
    | some (_, some y) => Alg.treetopLen y.alg (setOfValue y.alg y.value)
    | _ => 0
  let s4 := openSection 4 k.2
  let l := leaseItems tree s4.1 s4.2
  let s5 := openSection 5 l.2
  let e := sessionItems s5.1 s5.2
  let s6 := openSection 6 e.2
  { rings := s1.2.take 2120, policies := p.1, keys := k.1, leases := l.1, sessions := e.1, cursor := rd s6.2 0 4 }

/-- A restored stateful key has the range of its item; while the device is paired the range is split (R245, R553). -/
def withLease (paired : Bool) (l : List (Nat × Nat × Nat × Nat)) (h : Nat) (k : KeyRec) : KeyRec :=
  match l.find? (fun e => decide (e.1 = h)) with
  | none => k
  | some (_, a, b, next) =>
    let set := setOfValue k.alg k.value
    let t := { newStateful set (((Alg.genSet k.alg set).map (Alg.hbsTotal k.alg)).getD 0) with
               rangeStart := a, rangeEnd := b, next := next, leaseEnd := next, twinStart := b, twinEnd := b }
    { k with stateful := some (if paired && decide (1 ≤ Alg.aExport k.attr) then t.split else t) }

/-- The target of a restore is empty: no handle, session, context or policy of its own (R552). -/
def State.viEmpty (s : State) (v : Nat) : Bool :=
  decide (s.handlesUsed v = 0) && decide (s.sessionsUsed v = 0) && (s.ctxsOf v).isEmpty && (s.vi v).policies.isEmpty

/-- The checks of R552 that end with WRAP_INVALID, the body's apart. -/
def State.blobBad (s : State) (b : Bytes) : Bool :=
  let c := rd b 100 4
  let n := 128 + c + rd b 104 8
  decide (rd b 0 4 ≠ 0x4D564953 ∨ rd b 4 2 ≠ 1 ∨ slice b 24 16 ≠ s.unitId ∨ rd b 40 4 ≠ s.migKgen) || !(checkStd .certChain 0 0 [slice b 128 c]) ||
    !(checkStd .blob 0 0 [slice b 128 c, b.take (n + 1568), b.drop (n + 1568)])

/-- The destination's migration policy on the source's fields (R547 checks 5 to 7, R552). -/
def State.blobForbidden (s : State) (b : Bytes) : Bool :=
  !(s.policyFlag 1) || (s.policyFlag 2 && decide (slice b 48 48 ≠ (s.anchorDigest).getD (zeros 48))) ||
    decide (rd b 44 4 < rd (s.csn.policy.getD []) 20 4)

/-- The quota that contents exceed, by the identifiers of R524. -/
def State.blobQuota (s : State) (v : Nat) (y : BlobBody) (ks : List (Nat × KeyRec)) : Option Nat :=
  let q := (s.vi v).quota
  let pages := (ks.filter (fun p => Alg.aPersistent p.2.attr)).foldl (fun n p => n + keyPages p.2) 0
  if y.sessions.any (fun p => decide (p.1 < q.sessionBase ∨ q.sessionBase + q.sessions ≤ p.1)) then some 4
  else if q.handles < ks.length then some 5
  else if q.pkMib * 16 < ks.foldl (fun n p => n + pkTiles p.2.alg) 0 then some 0xA
  else if q.shelfKib * 4 < pages ∨ s.shelfFree < pages then some 0xB
  else if q.stateful < y.leases.length then some 0xC
  else none

/-- VI_RESTORE (R552, R553); `sound` is the pairwise check of the restored private keys. -/
def doRestore (sound : Bool) (s : State) (x : Job) : State × Result × List Need :=
  let v := targetVi x.desc
  let y := s.vi v
  let b := x.input
  let head := b.take 128
  let n := 128 + rd b 100 4
  let body := slice b n (rd b 104 8)
  let ss := decapsWith 0x0103 (((KMap.get 3 s.csn.keys).map (·.value)).getD []) (slice b (n + rd b 104 8) 1568)
  let key (label : String) : Bytes := kmac256 ss head (ascii label) 32
  let args : List Bytes := [key "STQ6440 MIGRATE BODY", slice head 112 12, [], head, body]
  if y.lockedDown then (s, failWith St.policy 0, [])
  else if (y.state ≠ .running ∧ y.state ≠ .detached) ∨ y.freezing ∨ y.tdi ≠ .unlocked ∨ !(s.viEmpty v) then (s, s.wrongState, [])
  else if s.blobBad b ∨ !(Config.stdCheck .aeadTag 0x0902 args) then (s, failWith St.wrapInvalid 0, [])
  else
    let c := parseBody (key "STQ6440 MIGRATE WRAP") (stdOut .aeadOpen 0x0902 args (body.length - 16))
    if c.keys.any (fun p => p.2.isNone) then (s, failWith St.wrapInvalid 0, [])
    else if s.blobForbidden b then (s, failWith St.policy 0, [])
    else
      let ks := c.keys.filterMap (fun p => p.2.map (fun k => (v * 2 ^ 24 + p.1, withLease s.paired c.leases p.1 k)))
      match s.blobQuota v c ks with
      | some id => (s, failWith St.quota id, [])
      | none =>
        let s1 := s.modVi v (fun z => { z with state := .restoring })
        let s2 : State := { s1 with csn := { s1.csn with migSeq := s1.csn.migSeq + 1 } }
        let s3 := s2.modKey 3 (fun k => { k with kgen := s2.migKgen, highKgen := s2.migKgen })
        if !sound then ((s3.wipeVi v).mirrorReset v, failWith St.invariantFail 0, [])
        else
          let msix := (List.range 128).foldl (fun m i => SMap.set msixDef i (BitVec.ofNat 32 (rd c.rings (1608 + 4 * i) 4)) m) []
          let eff := ks.map (fun p => Effect.putKey p.1 p.2) ++ c.policies.map (fun p => Effect.setPolicy v p.1 p.2) ++
            [.restored v (rd b 96 2) c.sessions (ringsOfImage (c.rings.take 1600)) (rd c.rings 1600 4) (rd c.rings 1604 4) msix c.cursor]
          let shelf := (ks.filter (fun p => Alg.aPersistent p.2.attr)).map (fun _ => Need.shelf)
          (s3, okEff 0 [] eff, shelf ++ (if s3.twinWaits then [.twin] else []))

def execViRestore (j : Nat) (sound : Bool) (s : State) : Host.Outcome State Fault Refusal :=
  .next (match (s.startable j 0x0C05).bind (·.abortBy) with
    | some st => s.abandon j st
    | none => s.runJob j 0x0C05 (doRestore sound))

/-! ### FUNCTION_SET (R153, R197, R208, R429) -/

/-- A pier that is disabled: its queued jobs move, its cache entries and their pins go (R208). -/
def State.disablePier (s : State) (p : Nat) : State := (s.modPier p (fun x => { x with matrix := [] })).rehome

/-- FUNCTION_SET: an enable acts at once; a disable refuses new submissions from its start and replies after the drain. -/
def doFunctionSet (s : State) (x : Job) : State × Result × List Need :=
  let p0 := dP0 x.desc
  let kind := bits p0 15 8
  let unit := bits p0 31 16
  let v := targetVi x.desc
  if p0.testBit 32 then (s.setFunction kind v unit true, okWith 0 [], [])
  else if kind = 2 ∧ (s.piersOn.filter (fun p => decide (p ≠ unit))).length < 2 then (s, failWith St.badParam 0x28, [])
  else if kind = 3 ∧ s.laneUp unit ∧ s.lanesOnDuty ≤ 1 then (s, failWith St.badParam 0x28, [])
  else
    let s1 := s.setFunction kind v unit false
    (if kind = 2 then s1.disablePier unit else s1, okWith 0 [], [.drain])

def execFunctionSet (j : Nat) (s : State) : Host.Outcome State Fault Refusal := .next (s.runAction j 0x0C07 doFunctionSet)

/-- DRAIN_TIMEOUT of the oldest FUNCTION_SET that drains: jobs still running end with FUNCTION_DISABLED, inline records in the lane restart
elsewhere (R68, R98, R429). -/
def execDrainTimeout (s : State) : Host.Outcome State Fault Refusal :=
  .next (match s.jobs.find? (fun p => decide (dOp p.2.desc = 0x0C07) && decide (p.2.stage = .waiting) && decide (p.2.needs.head? = some .drain)) with
    | none => s
    | some (j, x) =>
      let s1 := (s.drainHolders j x).foldl (fun t k => t.requestAbort k St.functionDisabled) s
      let l := bits (dP0 x.desc) 18 16
      let s2 := if bits (dP0 x.desc) 15 8 = 3 then
          let recs := ((s1.lane l).work.filter (·.isRec)).reverse
          recs.foldl (fun t w => t.restartLane w false) (s1.modLane l (fun y => { y with work := y.work.filter (fun w => !w.isRec) }))
        else s1
      s2.settleDrains)

end Sys2Proof.Machine
end

