-- ==== Sys2Proof/Machine/Firmware.lean ====
section
/-! DEFINITION. Firmware images and slots: FW_STAGE, the writing of a slot, boot-control records (R158, R603, R729 to R731; the header's
offsets are assumption log 44). -/

namespace Sys2Proof.Machine

open Sys2Proof

/-! ### Images (R731) -/

/-- Header and body. -/
def fwBody (im : Bytes) : Bytes := im.take (256 + rd im 20 4)

/-- FW_MEAS: SHA-384 over header and body. -/
def fwMeas (im : Bytes) : Bytes := stdOut .hash 0x0A02 [[0], [], fwBody im] 48

/-- KEY_ID of the images that the state boots (R603). -/
def State.imageKey (s : State) : Nat := if s.lcs.lstate = .trial then 1 else 0

/-- FW_SVN_FLOOR: its burned bits (R732). -/
def State.svnFloor (s : State) : Nat := (List.range 8).foldl (fun n i => n + popCount 8 (s.otp (0x170 + i)).toNat) 0

/-- Signature and measurement of an image: MAGIC, FORMAT, TARGET, KEY_ID, both signatures over the header, BODY_SHA384. -/
def State.imageSigned (s : State) (im : Bytes) : Bool :=
  let sig := im.drop (256 + rd im 20 4)
  decide (rd im 0 4 = 0x57464C4E) && decide (rd im 4 2 = 1) && decide (rd im 8 4 = 0x6440B000) && decide (rd im 24 4 = s.imageKey) &&
    decide (sig.length = 4723) && Config.stdCheck .flashImage (rd im 24 4) [im.take 256, sig.take 4627, sig.drop 4627] &&
    decide (slice im 48 48 = stdOut .hash 0x0A02 [[0], [], (fwBody im).drop 256] 48)

/-- The image verifies (R731). -/
def State.imageVerifies (s : State) (im : Bytes) : Bool := s.imageSigned im && decide (s.svnFloor ≤ rd im 12 4)

/-- Bytes of an image slot (R729). -/
def State.slotBytes (s : State) : Nat := rd s.flash.layout 20 4 * 65536

/-! ### Slots (R730) -/

def State.slotOf (s : State) (b : Bool) : Bytes := if b then s.flash.slotB else s.flash.slotA

def State.putSlot (s : State) (b : Bool) (im : Bytes) : State :=
  { s with flash := if b then { s.flash with slotB := im } else { s.flash with slotA := im } }

/-- The slot that does not run; slot A where the ROM serves because neither verifies (R739). -/
def State.inactive (s : State) : Bool :=
  if s.glb.dev = .falsework ∧ s.glb.fwCause = 2 ∧ !(s.imageVerifies s.flash.slotA) ∧ !(s.imageVerifies s.flash.slotB) then false else !s.glb.slotB

/-- Append a boot-control record with the next SEQ. -/
def State.bootRecord (s : State) (activeB : Bool) (trial : Option Bool) : State :=
  { s with flash := { s.flash with seq := s.flash.seq + 1, activeB := activeB, trial := trial } }

/-! ### Staging (R158, R759) -/

/-- Blocks of 64 KiB that an image takes. -/
def blocksOf (im : Bytes) : Nat := (im.length + 65535) / 65536

/-- Why an image may not be staged: the code of a conflicting activity, a failing signature or measurement, a security version below
FW_SVN (assumption log 52). -/
def State.stageDefect (s : State) (im : Bytes) : Option (Nat × Nat) :=
  match s.conflictWith 8 with
  | some c => some (St.maintConflict, c)
  | none =>
    if !(s.imageSigned im) ∨ s.slotBytes < im.length then some (St.inputInvalid, 1)
    else if rd im 12 4 < Nat.max s.fwSvn s.svnFloor then some (St.policy, 0)
    else none

/-- The writing of an image to the inactive slot begins, as activity FW_STAGE. -/
def State.beginStage (s : State) (j : Nat) (im : Bytes) (activate : Bool) : State :=
  let b := s.inactive
  let s1 := (s.putSlot b []).startAct 8 0 (some j)
  { s1 with flash := { s1.flash with staging := some (j, b, im, blocksOf im, activate) }, csn := { s1.csn with stagedMeas := [] } }

/-- FW_STAGE (R158): DETAIL is the slot written. -/
def execFwStage (j : Nat) (s : State) : Host.Outcome State Fault Refusal :=
  .next (match s.startable j 0x0F04 with
    | none => s
    | some x =>
      match x.abortBy, s.stageDefect x.input with
      | some st, _ => s.abandon j st
      | none, some (st, det) => s.finishJob j (failWith st det) []
      | none, none => (s.finishJob j (okWith (bitAt 0 s.inactive) []) [.flash]).beginStage j x.input ((dP0 x.desc).testBit 0))

/-- The staging ends: the activity's result is the job's. -/
def State.endStage (s : State) (status : Nat) : State := ({ s with flash := { s.flash with staging := none } }).endAct 8 status

/-- The image stands in its slot; ACTIVATE puts the slot on trial. -/
def State.staged (s : State) (j : Nat) (b : Bool) (im : Bytes) (activate : Bool) : State :=
  let s1 := s.putSlot b im
  let s2 : State := { s1 with csn := { s1.csn with stagedMeas := fwMeas im } }
  let s3 := if activate then s2.bootRecord s2.flash.activeB (some b) else s2
  (s3.endStage 0).popNeed j .flash

/-- FW_SLOT_BLOCK_WRITE: a block of the slot is erased and programmed, or reaches its limit of 2 s (R98). A job that has ended leaves the
slot without an image. -/
def execFwSlotBlockWrite (good : Bool) (s : State) : Host.Outcome State Fault Refusal :=
  .next (match s.flash.staging with
    | none => s
    | some (j, b, im, n, activate) =>
      if ((s.job j).map (·.stage)) ≠ some .waiting then s.endStage St.aborted
      else if !good then (s.endStage St.uncorrectable).failJob j St.uncorrectable 0
      else if n ≤ 1 then s.staged j b im activate
      else
        let total := blocksOf im
        let s1 : State := { s with flash := { s.flash with staging := some (j, b, im, n - 1, activate) } }
        s1.setAct 8 { s1.act 8 with progress := (total - (n - 1)) * 1000 / total })

end Sys2Proof.Machine
end

