-- ==== Sys2Proof/Machine/Entropy.lean ====
section
/-! DEFINITION. Meanings of the entropy commands (R503 to R514). Source states: 0 in service, 1 awaiting retest, 2 disabled, 3 capture. -/

namespace Sys2Proof.Machine

open Sys2Proof

def Ent.stateOf (e : Ent) (b : Bool) : Nat := if b then e.bState else e.aState
def Ent.failsOf (e : Ent) (b : Bool) : Nat := if b then e.bFails else e.aFails
def Ent.setState (e : Ent) (b : Bool) (n : Nat) : Ent := if b then { e with bState := n } else { e with aState := n }
def Ent.setFails (e : Ent) (b : Bool) (n : Nat) : Ent := if b then { e with bFails := n } else { e with aFails := n }

def State.withEnt (s : State) (e : Ent) : State := { s with ent := e }

/-- SOURCE of a noise source, and of the conditioner (R667, R510). -/
def entSrc (b : Bool) : Nat := src uEnt (if b then 1 else 0)
def entBoth : Nat := src uEnt 2

/-- The firmware acknowledges the CONTAINED reports of a source whose partner is in service (R509). -/
def State.ackEnt (s : State) (b : Bool) : State := if s.ent.stateOf (!b) = 0 then s.ackSource (entSrc b) [8] else s

/-- With neither source in service DRBG output stops (R510). -/
def State.checkEntropy (s : State) : State :=
  if s.ent.aState ≠ 0 ∧ s.ent.bState ≠ 0 ∧ !s.ent.noEntropy then
    (s.withEnt { s.ent with noEntropy := true, drbgOk := false }).reportAs (mkReport entBoth 8 .contained)
  else s

/-- A source is disabled until reset: CONTAINED (R509). -/
def State.disableSource (s : State) (b injected : Bool) : State :=
  ((s.withEnt { (s.ent.setState b 2) with capture := s.ent.capture && decide (s.ent.sourceB ≠ b) }).reportAs
    { mkReport (entSrc b) 8 .contained with injected := injected }).ackEnt b

/-- A source leaves service; the failure is classified by its number (R509). -/
def State.sourceFails (s : State) (b injected : Bool) : State :=
  let n := satAdd 8 (s.ent.failsOf b) 1
  let s1 := s.withEnt (s.ent.setFails b n)
  let st := s.ent.stateOf b
  if st = 2 then s1
  else if 3 ≤ n then (s1.disableSource b injected).checkEntropy
  else
    let s2 := s1.withEnt (s1.ent.setState b (if st = 3 then 3 else 1))
    (s2.reportAs { s2.reportOf uEnt (if b then 1 else 0) 8 .corrected with injected := injected }).checkEntropy

/-- ENT_HEALTH_FAILURE: counted once (R505). -/
def State.healthFails (s : State) (b adaptive : Bool) : State :=
  (s.bump (if adaptive then Reg.entAptFail else Reg.entRctFail)).sourceFails b false

def execEntHealthFailure (b adaptive : Bool) (s : State) : Host.Outcome State Fault Refusal :=
  .next (if s.ent.ready then s.healthFails b adaptive else s)

/-- ENT_RETEST: a pass returns the source to service and ends NO_ENTROPY with a reseed; a failure disables it (R509, R510). -/
def State.retest (s : State) (b passed : Bool) : State :=
  if s.ent.stateOf b ≠ 1 then s
  else if !passed then (s.disableSource b false).checkEntropy
  else
    let s1 := (s.withEnt (s.ent.setState b 0)).ackEnt (!b)
    if s.ent.noEntropy then
      ((s1.withEnt { s1.ent with noEntropy := false, drbgOk := true }).reseed).ackSource entBoth [8]
    else s1

def execEntRetest (b passed : Bool) (s : State) : Host.Outcome State Fault Refusal := .next (if s.ent.ready then s.retest b passed else s)

/-- ENT_BLOCK_CONDITIONED: the reserve is refilled to 4 blocks (R504). -/
def execEntBlockConditioned (s : State) : Host.Outcome State Fault Refusal :=
  .next (if s.ent.ready && decide (s.ent.reserve < 4) && !s.ent.noEntropy then
    (s.withEnt { s.ent with reserve := s.ent.reserve + 1 }).bump Reg.entBlocks else s)

/-- DRBG_RESEED (R507). -/
def execDrbgReseed (s : State) : Host.Outcome State Fault Refusal := .next (if s.ent.drbgOk then s.reseed else s)

/-- The request that is served next: the lowest priority number, the oldest first (R508). -/
def nextRequest (l : List (Nat × DrbgUse)) : Option (Nat × DrbgUse) := ([1, 2, 3] : List Nat).findSome? (fun p => l.find? (fun w => decide (w.1 = p)))

/-- DRBG_REQUEST: the request is answered; a stipple generator has its seed (R202, R508). -/
def State.serveRequest (s : State) : State :=
  match nextRequest s.ent.waiting with
  | none => s
  | some w =>
    let s1 := (s.withEnt { s.ent with waiting := s.ent.waiting.erase w }).nextDraw
    match w.2 with
    | .stipple p => s1.modPier p (fun y => { y with seedReady := true })
    | _ => s1

def execDrbgRequest (s : State) : Host.Outcome State Fault Refusal := .next (if s.ent.drbgOk then s.serveRequest else s)

/-! ### Raw capture (R513) -/

/-- ENT_RAW_CTL accepts writes: TRIAL, or PROOF or RESTRIKE with debug open. -/
def State.rawAllowed (s : State) : Bool :=
  decide (s.lcs.shown = .trial) || (decide (s.lcs.shown = .proof ∨ s.lcs.shown = .restrike) && s.lcs.debugOpen)

/-- A write of ENT_RAW_CTL: a captured source is out of service; a capture without the other source in service is refused. -/
def State.writeRawCtl (s : State) (w : Nat) : State :=
  let e := s.ent
  let freed := if e.capture ∧ e.stateOf e.sourceB = 3 then e.setState e.sourceB 0 else e
  let b := w.testBit 30
  let on := w.testBit 31 && decide (freed.stateOf (!b) = 0)
  let e1 := { freed with capture := on, sourceB := b }
  s.withEnt (if on ∧ e1.stateOf b = 0 then e1.setState b 3 else e1)

def execEntRawCtlWrite (w : Word) (s : State) : Host.Outcome State Fault Refusal :=
  .next (if s.rawAllowed && decide (s.glb.dev = .ready) then s.writeRawCtl w.toNat else s)

end Sys2Proof.Machine
end

