-- ==== Sys2Proof/Machine/Graver.lean ====
section
/-! DEFINITION. Meanings of the Graver commands (chapter 8). -/

namespace Sys2Proof.Machine

open Sys2Proof

/-- GRAVER_SLOT_LOAD: the core that R331 chooses loads the next job; a job that needs fresh randomness stays queued without entropy
(R321, R510). -/
def execGraverSlotLoad (c : Fin 18) (s : State) : Host.Outcome State Fault Refusal :=
  .next (
    if !s.clocked then s
    else
      let t := s.fillGraver
      if t.chosenCore ≠ some c.val ∨ t.ent.noEntropy then t
      else match t.nextGraver with
        | some (j, g) => ({ t with grv := g }).loadSlot c.val j
        | none => t)

/-- GRAVER_YIELD_POINT: the computing job has run `ran` µs since it resumed (R333 to R338). -/
def execGraverYieldPoint (c : Fin 18) (ran : Nat) (s : State) : Host.Outcome State Fault Refusal :=
  .next (
    if !s.clocked ∨ (s.core c.val).state ≠ .run then s
    else match (s.core c.val).computing with
      | none => s
      | some j =>
        match (s.job j).bind (·.abortBy) with
        | some st => s.abandon j st
        | none =>
          let n := (((s.core c.val).slots.find? (fun y => decide (y.job = j))).map (·.yields)).getD 0
          let s1 := if 64 ≤ n then s
            else match s.switchTo (s.core c.val) j ran with
              | some k => s.switchCore c.val j k
              | none => s
          if s1.recalledFrom 2 c.val then ((s1.releaseToken 2 c.val).modCore c.val (fun x => { x with state := .tokenWait })).ask 2 c.val
          else s1)

/-- The contained faults of the retired cores are acknowledged. -/
def State.ackCores (s : State) : State :=
  (onesOf 18 s.grv.retired).foldl (fun t c => t.ackSource (src uGraver c) [0x02, 0x04, 0x06, 0x07]) s

/-- GRAVER_SPARE_READY: the spare's self-test ended (R347). -/
def execGraverSpareReady (c : Fin 18) (passed : Bool) (s : State) : Host.Outcome State Fault Refusal :=
  .next (
    if (s.core c.val).state ≠ .selftest ∨ !(s.hasToken 2 c.val) then s
    else if passed then
      let s1 := s.releaseToken 2 c.val
      let s2 : State := { s1 with grv := { s1.grv with onDuty := s1.grv.onDuty ||| 2 ^ c.val,
                                                       spare := s1.grv.spare - bitAt c.val (s1.grv.spare.testBit c.val) } }
      (s2.modCore c.val (fun x => { x with state := .idle })).ackCores
    else ((s.report uGraver c.val 0x07).retireCore c.val none false).bringCore)

/-- PUBLIC_KEY_REGENERATION (R263, R273): the missing public key of a McEliece private key, from its value. -/
def execPublicKeyRegeneration (h : Word) (good : Bool) (s : State) : Host.Outcome State Fault Refusal :=
  .next (match KMap.get h.toNat s.csn.keys with
    | none => s
    | some k =>
      if !s.clocked || !(Alg.isMce k.alg) || !k.isPrivate || k.publicPresent || k.destroying || k.badValue || s.piersOn.isEmpty then s
      else if good then s.modKey h.toNat (fun y => { y with pub := stdOut .publicKey k.alg [k.value] (Alg.pkLen k.alg 0 0), publicPresent := true })
      else s.modKey h.toNat (fun y => { y with badValue := true }))

/-- DERIVATION_JOB (R452): the derived data of a fetched key is computed again. -/
def execDerivationJob (h : Word) (s : State) : Host.Outcome State Fault Refusal :=
  .next (match KMap.get h.toNat s.csn.keys with
    | none => s
    | some k =>
      if !s.clocked || !k.resident || k.derived then s
      else (s.modKey h.toNat (fun y => { y with derived := true })).bump Reg.csnDeriveJobs)

end Sys2Proof.Machine
end

