-- ==== Sys2Proof/Machine/Handshake.lean ====
section
/-! DEFINITION. Meanings of the inline handshake: ClientHello intake, the cookie key, PENDING, ESTABLISHED, failure
(R15 to R22, R105, R374, R386, R391, R398, R404, R421). Message layouts are those of RFC 8446 and RFC 9147 (assumption log 38). -/

namespace Sys2Proof.Machine

open Sys2Proof

/-! ### ClientHello -/

/-- What the device reads of a ClientHello. -/
structure ClientHello where
  /-- Sequence number of its record. -/
  recSeq : Bytes
  sid : Bytes
  suites : List Nat
  cookie : Bytes
  groups : List Nat
  shares : List (Nat × Bytes)
  schemes : List Nat
  cid : Option Bytes
  psk : Bool
  /-- The handshake message, for the digest that the cookie binds. -/
  msg : Bytes
  deriving DecidableEq, Repr

/-- Two-byte numbers of a list. -/
def words16 : Bytes → List Nat
  | a :: b :: r => (a.toNat * 256 + b.toNat) :: words16 r
  | _ => []

/-- Extensions as (type, data). -/
def extensions : Nat → Bytes → List (Nat × Bytes)
  | 0, _ => []
  | fuel + 1, b => if b.length < 4 then [] else (rdBe b 0 2, slice b 4 (rdBe b 2 2)) :: extensions fuel (b.drop (4 + rdBe b 2 2))

/-- Entries of a key_share list as (group, share). -/
def keyShares (fuel : Nat) (b : Bytes) : List (Nat × Bytes) := extensions fuel b

/-- Data of an extension. -/
def extData (l : List (Nat × Bytes)) (t : Nat) : Option Bytes := (l.find? (fun e => decide (e.1 = t))).map (·.2)

/-- A datagram that starts with an unfragmented ClientHello in a DTLSPlaintext record. -/
def parseHello (b : Bytes) : Option ClientHello :=
  let n := rdBe b 11 2
  let m := slice b 13 n
  let h := m.drop 12
  let sidLen := rd h 34 1
  let a := h.drop (35 + sidLen)
  let ckLen := rd a 0 1
  let c := a.drop (1 + ckLen)
  let suLen := rdBe c 0 2
  let d := c.drop (2 + suLen)
  let cmLen := rd d 0 1
  let x := extensions 64 (d.drop (3 + cmLen))
  if !(isPlainHs b) || decide (b.length < 13 + n ∨ n < 12) || decide (rd m 0 1 ≠ 1) || decide (rdBe m 1 3 ≠ n - 12 ∨ rdBe m 6 3 ≠ 0 ∨ rdBe m 9 3 ≠ n - 12) ||
      decide (d.length < 3 + cmLen) then none
  else
    some { recSeq := slice b 3 8, sid := slice h 35 sidLen, suites := words16 (slice c 2 suLen),
           cookie := ((extData x 44).map (·.drop 2)).getD [], groups := words16 (((extData x 10).getD []).drop 2),
           shares := keyShares 64 (((extData x 51).getD []).drop 2), schemes := words16 (((extData x 13).getD []).drop 2),
           cid := (extData x 54).map (fun v => v.drop 1), psk := (extData x 41).isSome, msg := m }

/-! ### Cookies (R16, R440) -/

/-- The HMAC of R16 under a cookie key: client address and port, digest of the first ClientHello. -/
def cookieMac (key : Bytes) (p : Path) (digest : Bytes) : Bytes := stdOut .hmac 0x0A01 [key, [], padTo 16 p.peerAddr ++ beBytes 2 p.peerPort ++ digest] 32

/-- The present cookie key (R440). -/
def State.cookieKey (s : State) : Bytes := (KMap.get 8 s.csn.keys).elim [] (·.value)

/-- The cookie of a first ClientHello: its digest, so that the second can be checked without state, and the HMAC (assumption log 39). -/
def State.newCookie (s : State) (p : Path) (msg : Bytes) : Bytes :=
  let d := stdOut .hash 0x0A01 [[0], [], msg] 32
  d ++ cookieMac s.cookieKey p d

/-- A cookie of the present or of the previous rotation period. -/
def State.cookieOk (s : State) (p : Path) (c : Bytes) : Bool :=
  decide (c.length = 64) && (decide (c.drop 32 = cookieMac s.cookieKey p (c.take 32)) ||
    (!s.csn.oldCookie.isEmpty && decide (c.drop 32 = cookieMac s.csn.oldCookie p (c.take 32))))

/-! ### Choices under a policy (R17, R105) -/

/-- APPROVED_ONLY takes TLS_CHACHA20_POLY1305_SHA256 and x25519 alone out of a policy (R99). -/
def policySuites (p : Bytes) : List Nat :=
  ((onesOf 3 (rd p 4 4)).filter (fun k => !((rd p 2 2).testBit 2) || decide (k ≠ 2))).map (fun k => 0x1301 + k)

/-- Groups of a policy, as TLS code point and algorithm. -/
def policyGroups (p : Bytes) : List (Nat × Nat) :=
  let t : List (Nat × Nat) := [(0x11EC, 0x0801), (0x11EB, 0x0802), (0x11ED, 0x0803), (0x0201, 0x0102), (0x0202, 0x0103), (0x001D, 0x0701)]
  ((onesOf 6 (rd p 8 4)).filter (fun k => !((rd p 2 2).testBit 2) || decide (k ≠ 5))).filterMap (fun k => t[k]?)

/-- The TLS 1.3 signature scheme of a server key's algorithm. -/
def serverScheme (alg : Nat) : Nat :=
  match alg with
  | 0x0201 => 0x0904 | 0x0202 => 0x0905 | 0x0203 => 0x0906 | 0x0711 => 0x0403 | 0x0712 => 0x0503 | 0x0721 => 0x0807 | _ => 0

/-- The first share of the client in a group of the policy, with its algorithm. -/
def chosenShare (p : Bytes) (c : ClientHello) : Option (Nat × Bytes) :=
  c.shares.findSome? (fun e => ((policyGroups p).find? (fun g => decide (g.1 = e.1))).map (fun g => (g.2, e.2)))

/-- The first suite of the client in the policy. -/
def chosenSuite (p : Bytes) (c : ClientHello) : Option Nat := c.suites.find? (fun x => (policySuites p).contains x)

/-! ### Unprotected answers (R16, R105, R375) -/

/-- A DTLSPlaintext record that echoes the client's record number. -/
def plainRecord (content : Nat) (seq body : Bytes) : Bytes := [BitVec.ofNat 8 content, 0xFE, 0xFD] ++ seq ++ beBytes 2 body.length ++ body

/-- A whole handshake message. -/
def hsMessage (typ seq : Nat) (body : Bytes) : Bytes :=
  [BitVec.ofNat 8 typ] ++ beBytes 3 body.length ++ beBytes 2 seq ++ zeros 3 ++ beBytes 3 body.length ++ body

def extBytes (t : Nat) (d : Bytes) : Bytes := beBytes 2 t ++ beBytes 2 d.length ++ d

/-- The random value that marks a HelloRetryRequest (RFC 8446). -/
def retryRandom : Bytes := beBytes 32 0xCF21AD74E59A6111BE1D8C021E65B891C2A211167ABB8C5E079E09E2C8A8339C

/-- HelloRetryRequest with its cookie, and the group to use where the client sent no share that the policy allows. -/
def State.helloRetry (s : State) (policy : Bytes) (p : Path) (c : ClientHello) : Bytes :=
  let k := s.newCookie p c.msg
  let grp := if (chosenShare policy c).isSome then [] else
    match c.groups.find? (fun g => (policyGroups policy).any (fun e => decide (e.1 = g))) with
    | some g => extBytes 51 (beBytes 2 g)
    | none => []
  let ext := extBytes 43 [0xFE, 0xFC] ++ extBytes 44 (beBytes 2 k.length ++ k) ++ grp
  let body := [0xFE, 0xFD] ++ retryRandom ++ [BitVec.ofNat 8 c.sid.length] ++ c.sid ++ beBytes 2 ((chosenSuite policy c).getD 0x1301) ++ [0] ++
    beBytes 2 ext.length ++ ext
  plainRecord 22 c.recSeq (hsMessage 2 0 body)

/-- A fatal alert before handshake keys exist. -/
def plainAlert (seq : Bytes) (desc : Nat) : Bytes := plainRecord 21 seq [2, BitVec.ofNat 8 desc]

/-! ### HANDSHAKE_INTAKE -/

/-- A ClientHello with a valid cookie is accepted under the policy as it stands; the key exchange starts (R17, R18). -/
def State.acceptHello (s : State) (x : Intake) (policy : Bytes) (v6 : Bool) (p : Path) (c : ClientHello) (share : Nat × Bytes) : State :=
  let h := s.cwy.nextHs
  let y : Handshake :=
    { vi := x.vi, port := x.port, policy := policy, path := p, ipv6 := v6, session := none, replaces := x.old, peerCid := c.cid, share := share,
      psk := (rd policy 2 2).testBit 1 && c.psk, signed := false }
  let s1 : State := { s with cwy := { s.cwy with hs := KMap.put h y s.cwy.hs, nextHs := h + 1 } }
  if Alg.isKex share.1 then
    s1.nextDraw.addHsJob h x.vi (ownDesc 0x0205 share.1 noKey) share.2 (some (genKey share.1 0 0 0 true s.draws))
  else s1.addHsJob h x.vi (ownDesc 0x0202 share.1 noKey) share.2 none

/-- A ClientHello of a rule's VI. -/
def State.takeHello (s : State) (x : Intake) (policy : Bytes) (v6 : Bool) (p : Path) (c : ClientHello) : State :=
  let answer (b : Bytes) : State := s.sendUdp x.port 0 v6 p b
  if !(s.cookieOk p c.cookie) then answer (s.helloRetry policy p c)
  else
    let scheme := ((s.key (rd policy 16 4)).map (fun k => serverScheme k.alg)).getD 0
    match chosenShare policy c with
    | some share => if (chosenSuite policy c).isSome ∧ c.schemes.contains scheme then s.acceptHello x policy v6 p c share else answer (plainAlert c.recSeq 40)
    | none => answer (plainAlert c.recSeq 40)

/-- A datagram of the intake queue. What is no ClientHello goes to the host (R82, assumption log 40). -/
def State.takeIntake (s : State) (x : Intake) : State :=
  if s.standby x.vi then s.bump (Reg.spn 0x220)
  else if s.viFrozen x.vi ∨ (s.vi x.vi).state ≠ .running then s.bump Reg.vimHsDrop
  else
    let e := parseEth x.frame
    match e.parse, (KMap.get x.rule s.cwy.rules).bind (fun r => KMap.get (rd r 6 1) (s.vi x.vi).policies) with
    | .ip d, some policy =>
      (match parseHello d.payload with
      | some c => s.takeHello x policy d.v6 (pathOf e d) c
      | none => s.toException x.port 5 x.vi x.frame)
    | _, _ => s.bump Reg.vimHsDrop

def execHandshakeIntake (s : State) : Host.Outcome State Fault Refusal :=
  .next (match (if s.serving then s.lpt.intake else []) with
    | [] => s
    | x :: more => ({ s with lpt := { s.lpt with intake := more } }).takeIntake x)

/-! ### COOKIE_KEY_ROTATION (R16, R440) -/

def execCookieKeyRotation (s : State) : Host.Outcome State Fault Refusal :=
  .next (match (if s.serving then KMap.get 8 s.csn.keys else none) with
    | none => s
    | some k =>
      let s1 := (s.setKey 8 { k with value := drawBytes s.draws 32, kgen := k.kgen + 1 }).nextDraw
      { s1 with csn := { s1.csn with oldCookie := k.value } })

/-! ### SESSION_PENDING (R19, R391, R398, R418) -/

/-- Keys of one epoch and direction: outputs of the suite's key schedule, uninterpreted (assumption log 1). -/
def trafficSlot (suite draw which : Nat) : KeySlot :=
  let n := if suite = 0x1301 then 16 else 32
  let f (part len : Nat) : Bytes := stdOut .hkdfExpand suite [leBytes 8 draw, leBytes 1 which, leBytes 1 part] len
  { key := f 0 n, iv := f 1 12, snKey := f 2 n }

/-- Records per epoch before KeyUpdate. -/
def rekeyLimit (suite records : Nat) : Nat :=
  if records = 0 then suiteLimit suite else Nat.min records (2 ^ 47)

/-- The PENDING entry of a handshake; `draw` numbers its draws. -/
def pendingEntry (h : Handshake) (suite draw second : Nat) : Session :=
  let p := h.policy
  let life := rd p 40 8
  let reload := rekeyLimit suite (rd p 32 8)
  { state := 1, kind := 1, vi := h.vi, port := h.port, ipv6 := h.ipv6, esn := false, tunnel := false, ownCid := h.peerCid.isSome, outbound := false,
    dropPending := false, altValid := true, alg := suite, maxPlaintext := rd p 20 2,
    rx := { epoch := 2, top := 2 * 2 ^ 48, window := 0, slot := trafficSlot suite draw 0, spi := 0,
            cidCheck := if h.peerCid.isSome then beNat (drawBytes (draw + 1) 5) else 0, ring := rd p 22 1, credit := rd p 23 1, creditUsed := 0,
            ckptCount := 0, ckptDue := 0 },
    alt := { id := 3, slot := trafficSlot suite draw 1, floor := 0 },
    tx := { epoch := 2, seq := 0, leaseEnd := 65536, slot := trafficSlot suite draw 2, spi := 0, peerCid := h.peerCid.getD [], kuWait := false,
            kuHost := false, leaseReq := false, leaseAck := false, kuTries := 0, rekeyLeft := reload, kuJob := none, stalled := false },
    pend := trafficSlot suite draw 3, path := h.path, estS := second, hardAtS := 0, hardLeft := if life = 0 then noLimit else life,
    rekeyReload := reload, counts := SessionCounts.zero, held := [], inbox := [], twinWait := false }

/-- The flight that carries the server Finished: ServerHello, and under epoch 2 the messages up to Finished. Their contents and lengths are the
standard's and free (assumption log 38). -/
def State.sendFlight (s : State) (i : Nat) : State :=
  match s.session i with
  | none => s
  | some x =>
    let hello := plainRecord 22 (zeros 8) (stdOut .transcript x.alg [leBytes 3 i, [0]] (s.freeVal % 1024))
    let s1 := (s.sendUdp x.port i x.ipv6 x.path hello).nextFree
    (s1.sendRecord i 22 (stdOut .transcript x.alg [leBytes 3 i, [1]] (s1.freeVal % 1024))).nextFree

/-- The handshake's entry is written as PENDING; a session of the same 5-tuple that it replaces goes. -/
def State.writePending (s : State) (h : Nat) (y : Handshake) (suite i : Nat) : State :=
  let x := s.freshLease (pendingEntry y suite s.draws s.second)
  let s1 := match y.replaces with | some o => s.removeSession o 8 | none => s
  let s2 := ((s1.setSession i { x with twinWait := s.entryWaits }).nextDraw.nextDraw).modHs h (fun z => { z with session := some i })
  if s.entryWaits then s2.mirror (.pending i) [sessionItem i x] else s2.sendFlight i

def execSessionPending (h : Nat) (suite : BitVec 16) (s : State) : Host.Outcome State Fault Refusal :=
  .next (match (if s.serving then KMap.get h s.cwy.hs else none) with
    | none => s
    | some y =>
      if y.session.isSome || !y.signed || !((policySuites y.policy).contains suite.toNat) then s
      else match s.freeIndex y.vi with
        | none => s.delHs h
        | some i => (s.writePending h y suite.toNat i).sweepRekey)

/-! ### SESSION_ESTABLISHED (R20, R21, R391, R404) -/

/-- The handshake that wrote session `i`. -/
def State.hsOf (s : State) (i : Nat) : Option (Nat × Handshake) := s.cwy.hs.find? (fun p => decide (p.2.session = some i))

/-- The entry as ESTABLISHED: epoch 3 to the head, epoch 2 to the alternate slot, transmit keys of epoch 3 with a new lease. -/
def State.establishedEntry (s : State) (x : Session) (policy : Bytes) : Session :=
  let life := rd policy 48 4
  s.freshLease { x with
    state := 2
    twinWait := false
    altValid := true
    alt := { id := 2, slot := x.rx.slot, floor := x.rx.top % 2 ^ 48 + (if x.rx.window % 2 = 1 then 1 else 0) }
    rx := { x.rx with epoch := 3, top := 3 * 2 ^ 48, window := 0, slot := x.alt.slot }
    tx := { x.tx with epoch := 3, slot := x.pend }
    pend := KeySlot.empty
    estS := s.second
    hardAtS := if life = 0 then 0 else s.second + life
    held := [] }

/-- Held records of a PENDING entry re-enter at check 5, ahead of the session's later ones: they and the waiting ones take new places in the
pipeline, in that order. -/
def State.reenter (s : State) (i : Nat) (x : Session) : State :=
  let later := s.cwy.recs.filter (fun p => decide (p.2.session = i ∧ p.2.stage = 0))
  let base : Nat := s.cwy.nextRec
  let fresh (h : HeldRec) : Rec :=
    { session := i, vi := x.vi, kind := 1, port := h.port, datagram := 0, first := true, last := true, data := h.data, path := h.path, alt := false,
      recnum := 0, slot := KeySlot.empty, slotId := 0, stamp := h.stamp, stage := 0, restarts := 0 }
  let all := x.held.map fresh ++ later.map (·.2)
  let keep := s.cwy.recs.filter (fun p => !(decide (p.2.session = i ∧ p.2.stage = 0)))
  { s with cwy := { s.cwy with recs := keep ++ (List.range all.length).filterMap (fun k => all[k]?.map (fun r => (base + k, r))), nextRec := base + all.length } }

/-- The change to ESTABLISHED takes effect: the ACK of the client's Finished, and the event. -/
def State.finishEstablish (s : State) (i : Nat) : State :=
  match s.session i, s.hsOf i with
  | some x, some (h, y) =>
    let num := ((x.inbox.filter (fun m => decide (m.2.1 = 22))).getLast?.map (·.1)).getD x.rx.top
    let s1 := (s.setSession i { s.establishedEntry x y.policy with inbox := [] }).reenter i x
    ((s1.sendAck i num).event x.vi 0x0001 i x.rx.ring x.alg 0).delHs h
  | _, _ => s

/-- The client Finished verifies: it is the last handshake message that the entry's firmware was given. -/
def finishedOk (x : Session) : Bool :=
  match (x.inbox.filter (fun m => decide (m.2.1 = 22))).getLast? with
  | some m => Config.stdCheck .finished x.alg [m.2.2]
  | none => false

def execSessionEstablished (i : BitVec 24) (s : State) : Host.Outcome State Fault Refusal :=
  let k := i.toNat
  .next (match (if s.serving then s.session k else none), s.hsOf k with
    | some x, some (_, y) =>
      if x.state ≠ 1 ∨ x.twinWait ∨ !(finishedOk x) then s
      else if s.entryWaits then (s.setSession k { x with twinWait := true }).mirror (.established k) [sessionItem k (s.establishedEntry x y.policy)]
      else s.finishEstablish k
    | _, _ => s)

/-! ### HANDSHAKE_FAILED (R22) -/

/-- A handshake fails after PENDING: the alert, the removal, the event. -/
def State.failHandshake (s : State) (i alert : Nat) : State :=
  match s.session i with
  | none => s
  | some x =>
    let s1 := ((s.sendAlert i 2 alert).dropMirrored i).event x.vi 0x0002 i alert 0 0
    match s.hsOf i with
    | some (h, _) => s1.delHs h
    | none => s1

def execHandshakeFailed (i : BitVec 24) (alert : Byte) (s : State) : Host.Outcome State Fault Refusal :=
  .next (match (if s.serving then s.session i.toNat else none) with
    | some x => if x.state = 1 then s.failHandshake i.toNat alert.toNat else s
    | none => s)

end Sys2Proof.Machine
end

