-- ==== Sys2Proof/Machine/MirrorOps.lean ====
section
/-! DEFINITION. What waits for the twin and how the wait ends, the loss of the peer, claims and fencing (R252, R570, R586 to R588, R592, R596). -/

namespace Sys2Proof.Machine

open Sys2Proof

/-- The span unit works: PD22 is on, and the device is in service. -/
def State.spanOn (s : State) : Bool := s.pdOn 22 && decide (s.glb.dev = .ready)

/-! ### The end of a wait (R586) -/

/-- The record that restores what a shelf record of a waiting job changed (R586). -/
def State.restoreRecord (s : State) (i : ShelfItem) : State :=
  let old (h : Nat) : Option KeyRec := (KMap.get h s.csn.keys).bind (fun k => if Alg.aPersistent k.attr then some k else none)
  match i with
  | .key h k => (match old h with | some o => s.writeShelf (.key h o) | none => s.writeShelf (.gone h k.kgen))
  | .archive k _ => (match old 6 with | some o => s.writeShelf (.archive o (s.keyBody 6)) | none => s.writeShelf (.gone 6 k.kgen))
  | .gone h _ => (match old h with | some o => s.writeShelf (.key h o) | none => s)
  | .public_ 2 _ => (match s.csn.policy with | some p => s.writeShelf (.public_ 2 p) | none => s)
  | .public_ _ _ => s

/-- A commit that waits for the twin ends with TWIN_UNAVAILABLE: nothing changes, and records already on the shelf are taken back. -/
def State.twinFails (s : State) (j : Nat) : State :=
  match s.job j with
  | none => s
  | some x =>
    if x.stage ≠ .waiting ∨ x.committed then s
    else
      let s1 := if x.needs.contains .shelf then s else (s.shelfItems x).foldl State.restoreRecord s
      (s1.failJob j St.twinUnavailable 0).settleDrains

/-- The answer to a KeyUpdate of the peer whose keys the twin holds (R415). -/
def State.ackKeyUpdate (s : State) (i : Nat) : State :=
  match s.session i with
  | some x =>
    (match x.inbox with
    | (num, _, _) :: more => (s.setSession i { x with inbox := more }).sendAck i num
    | [] => s)
  | none => s

/-- A KeyUpdate of the device's own that the twin did not take: the reply that waits ends. -/
def State.rekeyFails (s : State) (i : Nat) : State :=
  match s.session i with
  | some x =>
    let s1 := s.setSession i { x with tx := { x.tx with kuJob := none } }
    (match x.tx.kuJob with | some j => s1.failJob j St.twinUnavailable 0 | none => s1)
  | none => s

/-- What the twin acknowledged takes effect. -/
def State.waitMet (s : State) (w : MirrorWait) : State :=
  match w with
  | .job j => s.popNeed j .twin
  | .pending i => (s.modSession i (fun x => { x with twinWait := false })).sendFlight i
  | .established i => s.finishEstablish i
  | .altKeys i => s.ackKeyUpdate i
  | .txKeys i => s.applyTxKeys i
  | .sendLease i _ => s.modSession i (fun x => { x with tx := { x.tx with leaseAck := x.tx.leaseReq } })
  | .counter h e => s.modKey h (fun k => { k with counterLease := Nat.max k.counterLease e })
  | .stateful h => s.modStateful h (fun t => { t with acked := t.acked || t.programmed })
  | .removal i => { s with cwy := { s.cwy with scrub := KMap.del i s.cwy.scrub } }
  | .viReset _ => s
  | .csnCtl v => s.setReg Reg.csnCtl v.toNat
  | .handover vis id => (vis.foldl (fun t v => t.handRole v.1 false (some v.2)) s).mirrorAck id
  | .checkpoint i r => if (s.session i).isSome then { s with spn := { s.spn with ledger := KMap.put i r s.spn.ledger } } else s

/-- A handover that ends before its step 4 leaves the old primary in its role (R579). -/
def State.keepRoles (s : State) (vis : List (Nat × Bool)) : State :=
  vis.foldl (fun t v => t.modVi v.1 (fun x => { x with handover := false })) s

/-- A VI reset that the twin has not taken is applied there at the next synchronisation (R596). -/
def State.noteReset (s : State) (v : Nat) : State := { s with spn := { s.spn with resets := insertNat v s.spn.resets } }

/-- The twin is declared lost: a waiting commit proceeds, but not a hand-over of a role, and not a change to a key under MIRROR_STRICT
(R470, R579, R586). -/
def State.waitLost (s : State) (w : MirrorWait) : State :=
  match w with
  | .job j =>
    (match s.job j with
    | some x =>
      if dOp x.desc = 0x0B03 ∨ dOp x.desc = 0x0B04 ∨ (s.strict ∧ s.changesMirrored x.vi x.desc) then s.twinFails j else s.waitMet w
    | none => s)
  | .handover vis _ => s.keepRoles vis
  | .viReset v => s.noteReset v
  | .checkpoint _ _ => s
  | .sendLease _ _ => s
  | .stateful h => s.modStateful h (fun t => { t with acked := t.acked || (t.programmed && t.available) })
  | _ => s.waitMet w

/-- The device is fenced: every wait ends, commits with TWIN_UNAVAILABLE (R586, R592). -/
def State.waitFenced (s : State) (w : MirrorWait) : State :=
  match w with
  | .job j => s.twinFails j
  | .txKeys i => s.rekeyFails i
  | .sendLease i _ => s.modSession i (fun x => { x with tx := { x.tx with leaseReq := false } })
  | .removal i => s.waitMet (.removal i)
  | .viReset v => s.noteReset v
  | .handover vis _ => s.keepRoles vis
  | _ => s

/-- Every wait ends in one way. -/
def State.endWaits (s : State) (f : State → MirrorWait → State) : State :=
  s.spn.waits.foldl (fun t p => f t p.2) { s with spn := { s.spn with waits := [], draining := [] } }

/-! ### The peer is lost (R252, R570, R587) -/

/-- For each AVAILABLE key, the twin's last known lease end becomes uncertain (R252). -/
def State.doubtLeases (s : State) : State :=
  { s with csn := { s.csn with keys := KMap.mapVals (fun _ k =>
      { k with stateful := k.stateful.map (fun t => { t with twinUncertain := t.twinUncertain || (t.available && decide (t.twinStart < t.twinEnd)) }) }) s.csn.keys } }

/-- Entry to PEER_LOST. -/
def State.enterLost (s : State) : State :=
  let s1 : State := { s.doubtLeases with
    spn := { s.spn with queue := [], sent := [], peerSync := none, wasPrimary := allVis.filter (fun v => (s.vi v).primary) }
    vis := SMap.mapAll Vi.reset (fun _ x => { x with handover := false }) s.vis }
  ((s1.setPair .peerLost).endWaits State.waitLost).settleDrains

/-- The peer is declared lost: from IN_STEP, LINK_DOWN or FENCED, with complete copies, the standby VIs with AUTO are taken over
(R587, R592, R598). -/
def State.losePeer (s : State) : State :=
  let may := decide (s.spn.pair = .inStep ∨ s.spn.pair = .linkDown ∨ s.spn.pair = .fenced) && decide (s.spn.permille = 1000)
  let s1 := s.enterLost
  let mine := allVis.filter (fun v => (s1.vi v).auto && !(s1.vi v).primary)
  if may ∧ !mine.isEmpty then s1.takeRoles mine 2 else s1

/-! ### Claims and fencing (R592) -/

/-- The claim takes effect: primary for every VI, and PEER_LOST. -/
def State.claimWon (s : State) : State :=
  let s1 := (s.takeRoles allVis 3).enterLost
  let s2 : State := { s1 with spn := { s1.spn with claim := none } }
  match s.spn.claim with
  | some j => s2.popNeed j .takeover
  | none => s2

/-- A claim ends without effect. -/
def State.claimLost (s : State) : State :=
  let s1 : State := { s with spn := { s.spn with fence := false, claim := none } }
  match s.spn.claim with
  | some j => s1.failJob j St.twinUnavailable 0
  | none => s1

/-- The device is fenced: standby for every VI. -/
def State.enterFenced (s : State) : State :=
  let s1 := (s.claimLost).setPair .fenced
  let s2 := (s1.dropPendingOf allVis).setRoles allVis false none 4
  (s2.endWaits State.waitFenced).settleDrains

/-! ### The peer is reached (R570, R595, R596) -/

/-- The link or the heartbeat has come back. -/
def State.reachPeer (s : State) : State :=
  if !s.spn.link then s
  else match s.spn.pair with
    | .starting => s.enterSyncing
    | .linkDown => s.claimLost.enterSyncing
    | .peerLost => if s.spn.hbAlive then s.claimLost.enterSyncing else s
    | .fenced => if s.spn.hbAlive then s.enterSyncing else s
    | _ => s

/-- The peer's refusal of an old pairing (R570, R577, R595). -/
def State.refusedByPeer (s : State) : State :=
  if !s.paired ∨ s.spn.pair = .refused then s
  else
    let was := s.spn.pair
    let s1 : State := { s with spn := { s.spn.unalign with queue := [] } }
    let s2 := s1.setPair .refused
    if was = .starting then s2.setRoles allVis false none 5 else s2

end Sys2Proof.Machine
end

