-- ==== Sys2Proof/Machine/Span.lean ====
section
/-! DEFINITION. Meanings of the span link and the heartbeat (R562 to R570, R587, R592, R595). -/

namespace Sys2Proof.Machine

open Sys2Proof

/-! ### Lanes (R563) -/

/-- The spare carries the one logical lane that failed. -/
def Spn.spareUsed (x : Spn) : Bool := (List.range 4).any (fun l => decide (x.badLanes = 2 ^ l))

/-- A second failure: no link until reset. -/
def Spn.dead (x : Spn) : Bool := decide (2 ≤ (onesOf 5 x.badLanes).length)

/-- Physical lanes in use and locked: LANE_OK. -/
def Spn.lanesUsed (x : Spn) : Nat :=
  if x.dead then 0 else maskOf ((List.range 5).filter (fun l => !(x.badLanes.testBit l) && (decide (l < 4) || x.spareUsed)))

/-- The lanes are mapped anew and align again: the link starts over with a HELLO. -/
def State.realign (s : State) : State :=
  let s1 : State := { s with spn := s.spn.unalign }
  if s1.spn.dead then s1 else s1.sendHello

/-- SPAN_LANE_FAILURE. -/
def State.spanLaneFails (s : State) (l : Nat) (injected : Bool) : State :=
  if !s.spanOn ∨ s.spn.badLanes.testBit l then s
  else
    let second := decide (s.spn.badLanes ≠ 0)
    let s1 : State := { s with spn := { s.spn with badLanes := s.spn.badLanes ||| 2 ^ l } }
    let s2 := s1.noteRetired (repairWord uSpn l) injected
    let s3 := s2.reportAs { s2.reportOf uSpn l 7 (if second then .contained else .corrected) with injected := injected }
    if l = 4 ∧ !second then s3
    else if second then s3.realign
    else (s3.bump (Reg.spn 0x22C)).realign

def execSpanLaneFailure (l : Fin 5) (s : State) : Host.Outcome State Fault Refusal := .next (s.spanLaneFails l.val false)

/-! ### Frames (R564 to R567) -/

/-- A frame is whole: its length and its CRC agree. -/
def frameWhole (f : Bytes) : Bool :=
  decide (52 ≤ f.length) && decide (f.length = 52 + rd f 4 2) && decide (rd f (f.length - 4) 4 = crc32c (f.take (f.length - 4)))

/-- A whole frame of one of some types. -/
def frameOf (f : Bytes) (types : List Nat) : Bool := decide (rd f 0 2 = 0x4E53) && types.contains (rd f 2 1) && decide (rd f 4 2 ≤ 1024)

/-- The tag of a protected frame verifies under the peer's key. -/
def State.spanTagOk (s : State) (f : Bytes) : Bool :=
  let seq := rd f 8 8
  Config.stdCheck .aeadTag 0x0902 [s.spanKey (!s.lowerId) seq, spanNonce seq, [], f.take 32, slice f 32 (f.length - 36)]

/-- A frame with a failing tag; sixteen within 1 ms take the link down. -/
def State.spanTagFails (s : State) : State :=
  let l := s.spn.tagFails.filter (fun t => decide (s.time < t + 100000)) ++ [s.time]
  let s1 := ({ s with spn := { s.spn with tagFails := l } }).bump (Reg.spn 0x20C)
  if l.length < 16 then s1 else (s1.report uSpn 0xFF 0x0B).realign

/-- Send the frames from `seq` on again. -/
def State.resend (s : State) (seq : Nat) : State :=
  (s.spn.sent.filter (fun f => decide (seq ≤ f.seq))).foldl (fun t f => (t.emit (.span f.bytes)).bump (Reg.spn 0x210)) s

/-- A frame in order with a verified tag. -/
def State.takeFrame (s : State) (f : Bytes) : State :=
  let ack := rd f 16 8
  let x := s.spn
  let s1 := ({ s with spn := { x with rxSeq := x.rxSeq + 1, sent := x.sent.filter (fun g => decide (ack ≤ g.seq)), linkRx := s.time,
                                      link := x.link || decide (1 ≤ ack) } }).bump (Reg.spn 0x204)
  let s2 := (if rd f 2 1 = tNak then s1.resend ack else s1).pumpSpan
  if s2.spn.link ∧ !x.link then s2.reachPeer else s2

/-- A protected frame to a device that has no pairing is answered with a refusal (R577). -/
def refusalFrame : Bytes := clearFrame tPair ([0x0F, 0] ++ zeros 4)

/-- SPAN_FRAME_RECEIVE. -/
def execSpanFrameReceive (frame : Bytes) (s : State) : Host.Outcome State Fault Refusal :=
  .next (
    if !s.spanOn ∨ s.spn.dead then s
    else if !(frameWhole frame) then s.bump (Reg.spn 0x208)
    else if !(frameOf frame [tIdle, tData, tNak]) then s
    else if !s.paired then (s.emit (.span refusalFrame)).bump (Reg.spn 0x200)
    else if !s.aligned then s
    else if !(s.spanTagOk frame) then s.spanTagFails
    else if rd frame 8 8 ≠ s.spn.rxSeq then ({ s with spn := { s.spn with linkRx := s.time } }).sendSpan tNak 0 []
    else s.takeFrame frame)

/-- SPAN_HELLO: the peer's HELLO begins or completes an alignment, and protected frames start at SEQ 0. -/
def execSpanHello (frame : Bytes) (s : State) : Host.Outcome State Fault Refusal :=
  .next (
    if !s.spanOn ∨ s.spn.dead then s
    else if !(frameWhole frame) then s.bump (Reg.spn 0x208)
    else if !(frameOf frame [tHello]) ∨ rd frame 4 2 ≠ 32 then s
    else
      let s1 : State := if s.spn.peerNonce.isSome then { s with spn := s.spn.unalign } else s
      let s2 := if s1.spn.ourNonce.isNone then s1.sendHello else s1
      let s3 : State := { s2 with spn := { s2.spn with peerNonce := some (slice frame 32 32) } }
      let s4 := s3.ackSource (src uSpn 0xFF) [0x0B]
      if s4.aligned then (s4.sendSpan tIdle 0 []).pumpSpan else s4)

/-- SPAN_RETRANSMIT_TIMEOUT: 20 µs without ACK progress. -/
def execSpanRetransmitTimeout (s : State) : Host.Outcome State Fault Refusal :=
  .next (if s.spanOn ∧ s.aligned then s.resend 0 else s)

/-- SPAN_IDLE_TIMER: an IDLE frame after 1 µs without a frame, while the window has room. -/
def execSpanIdleTimer (s : State) : Host.Outcome State Fault Refusal :=
  .next (if s.spanOn ∧ s.aligned ∧ s.spn.sent.length < spanWindow then s.sendSpan tIdle 0 [] else s)

/-- SPAN_LINK_SILENCE: the link is down; with the heartbeat alive LINK_DOWN, else the peer is lost (R570). -/
def execSpanLinkSilence (s : State) : Host.Outcome State Fault Refusal :=
  .next (
    if !s.spanOn ∨ !s.paired then s
    else
      let s1 : State := { s with spn := s.spn.unalign }
      match s.spn.pair with
      | .syncing => if s.spn.hbAlive then s1.setPair .linkDown else s1.losePeer
      | .inStep => if s.spn.hbAlive then s1.setPair .linkDown else s1.losePeer
      | .linkDown => if s.spn.hbAlive then s1 else s1.losePeer
      | .fenced => if s.spn.hbAlive then s1 else s1.losePeer
      | _ => s1)

/-! ### Heartbeat (R568, R569) -/

/-- Heartbeat key of a sender, by its boot count and wrap count. -/
def State.hbKey (s : State) (boot wrap : Nat) : Bytes := kmac256 s.hbMaster (leBytes 4 boot ++ leBytes 4 wrap) (ascii "STQ6440 SPAN HB") 32

/-- Bits [63:24] of a word, most significant byte first as they are sent. -/
def hbHead (state : Nat) (fence : Bool) (counter : Nat) : Bytes := leBytes 1 (0xB0 + 2 * state + bitAt 0 fence) ++ beBytes 4 counter

/-- A word under a key. -/
def hbWord (key head : Bytes) : Bytes := head ++ kmac256 key head (ascii "STQ6440 SPAN HB WORD") 3

/-- HEARTBEAT_WORD_SEND. -/
def execHeartbeatWordSend (s : State) : Host.Outcome State Fault Refusal :=
  .next (
    if !s.spanOn ∨ !s.paired ∨ (KMap.get 7 s.csn.keys).isNone then s
    else
      let x := s.spn
      let w := hbWord (s.hbKey x.bootCount x.hbWraps) (hbHead x.pair.code x.fence x.hbCounter)
      let last := decide (x.hbCounter = 2 ^ 32 - 1)
      let s1 : State := { s with
        spn := { x with hbCounter := if last then 0 else x.hbCounter + 1, hbWraps := if last then x.hbWraps + 1 else x.hbWraps } }
      s1.emit (.heartbeat w))

/-- The keys that the receiver tries, as (boot count, wrap count): the one last accepted, the next wrap count, the next 15 boot counts. -/
def Spn.hbTries (x : Spn) : List (Nat × Nat) :=
  [(x.hbBoot, x.hbWrap), (x.hbBoot, x.hbWrap + 1)] ++ (List.range 15).map (fun i => (x.hbBoot + 1 + i, 0))

/-- The key under which a word is valid. -/
def State.hbValid (s : State) (w : Bytes) : Option (Nat × Nat) :=
  let x := s.spn
  if w.length ≠ 8 ∨ rd w 0 1 / 16 ≠ 0xB then none
  else x.hbTries.find? (fun k =>
    decide (hbWord (s.hbKey k.1 k.2) (w.take 5) = w) &&
      (decide (k ≠ (x.hbBoot, x.hbWrap)) || (match x.hbCount with | some c => decide (c < rdBe w 1 4) | none => true)))

/-- FENCE and the peer's state are acted on (R592). -/
def State.heedWord (s : State) : State :=
  let x := s.spn
  if x.pair = .refused ∨ x.pair = .unpaired then s
  else if x.peerFence ∧ x.pair ≠ .fenced ∧ (!x.fence ∨ !s.lowerId) then s.enterFenced
  else if x.fence ∧ x.claim.isSome ∧ x.peerState = 6 then s.claimWon
  else s.reachPeer

/-- HEARTBEAT_WORD_RECEIVE. -/
def execHeartbeatWordReceive (w : Bytes) (s : State) : Host.Outcome State Fault Refusal :=
  .next (
    if !s.spanOn ∨ !s.paired ∨ (KMap.get 7 s.csn.keys).isNone then s
    else match s.hbValid w with
      | none => s.bump (Reg.spn 0x214)
      | some k =>
        let s1 : State := { s with
          spn := { s.spn with hbBoot := k.1, hbWrap := k.2, hbCount := some (rdBe w 1 4), hbAlive := true, hbRx := s.time,
                              peerState := rd w 0 1 / 2 % 8, peerFence := (rd w 0 1).testBit 0 } }
        s1.heedWord)

/-- HEARTBEAT_SILENCE: a claim is won, or with the link silent too the peer is lost (R570, R592). -/
def execHeartbeatSilence (s : State) : Host.Outcome State Fault Refusal :=
  .next (
    if !s.spanOn ∨ !s.paired then s
    else
      let s1 : State := { s with spn := { s.spn with hbAlive := false } }
      if s.spn.fence ∧ s.spn.claim.isSome then s1.claimWon
      else match s.spn.pair with
        | .linkDown => s1.losePeer
        | .fenced => if s.spn.link then s1 else s1.losePeer
        | _ => s1)

/-- REJOIN_TIMEOUT: STARTING ends without the peer (R595). -/
def execRejoinTimeout (s : State) : Host.Outcome State Fault Refusal :=
  .next (if s.spanOn ∧ s.spn.pair = .starting then s.losePeer else s)

end Sys2Proof.Machine
end

