-- ==== Sys2Proof/Machine/Twin.lean ====
section
/-! DEFINITION. Meanings of group 0x0B and of the pairing exchange (R152, R572 to R577, R579, R591 to R593). -/

namespace Sys2Proof.Machine

open Sys2Proof

/-! ### TWIN_STATUS (R572) -/

/-- Microseconds since tick `t`, saturating. -/
def State.microsSince (s : State) (t : Nat) : Nat := Nat.min ((s.time - t) / 100) (2 ^ 32 - 1)

def doTwinStatus (s : State) (_ : Job) : State × Result × List Need :=
  let x := s.spn
  let count (f : Vi → Bool) : Nat := if s.paired then (allVis.filter (fun v => f (s.vi v))).length else 0
  let flags := bitAt 0 x.link + bitAt 1 x.hbAlive + bitAt 2 x.peerFence + bitAt 3 x.spareUsed + bitAt 4 (s.paired && s.lowerId)
  (s, okWith 0 (leBytes 1 x.pair.code ++ leBytes 1 flags ++ leBytes 2 x.permille ++ leBytes 4 (s.microsSince x.linkRx) ++
    leBytes 4 (s.microsSince x.hbRx) ++ leBytes 2 (count (·.primary)) ++ leBytes 2 (count (·.auto)) ++ padTo 16 x.peerId ++ padTo 32 x.pairNonce), [])

def execTwinStatus (j : Nat) (s : State) : Host.Outcome State Fault Refusal := .next (s.runJob j 0x0B02 doTwinStatus)

/-! ### TWIN_ROLE_SET, TWIN_TAKEOVER, TWIN_UNPAIR (R577, R579, R591) -/

def doRoleSet (s : State) (x : Job) : State × Result × List Need :=
  let p0 := dP0 x.desc
  let v := bits p0 7 0
  let p := p0.testBit 8
  if s.spn.pair ≠ .inStep then (s, failWith St.twinUnavailable 0, [])
  else
    let gives := !p && (s.vi v).primary
    let s1 := if gives then s.modVi v (fun y => { y with handover := true }) else s
    (s1, okEff 0 [] [.roles [v] p (some (p0.testBit 9)) 1], (if gives then [.drain] else []) ++ [.twin])

def execTwinRoleSet (j : Nat) (s : State) : Host.Outcome State Fault Refusal := .next (s.runAction j 0x0B03 doRoleSet)

def doTakeover (j : Nat) (s : State) (x : Job) : State × Result × List Need :=
  let n := bits (dP0 x.desc) 7 0
  let vs := (if n = 0xFF then allVis else [n]).filter (fun v => !(s.vi v).primary)
  match s.spn.pair with
  | .inStep => if vs.isEmpty then (s, okWith 0 [], []) else (s, okEff 0 [] [.roles vs true none 1], [.twin])
  | .peerLost => (s, okEff 0 [] [.roles vs true none 3], [])
  | .linkDown =>
    if n ≠ 0xFF then (s, failWith St.badParam 0x28, [])
    else if s.spn.claim.isSome then (s, s.wrongState, [])
    else
      let s1 : State := { s with spn := { s.spn with fence := true, claim := some j } }
      (s1, okWith 0 [], [.takeover])
  | _ => (s, s.wrongState, [])

/-- TWIN_TAKEOVER: handover, takeover or claim, by the pair state. A peer that is fenced already answers a claim at once. -/
def execTwinTakeover (j : Nat) (s : State) : Host.Outcome State Fault Refusal :=
  .next (
    let s1 := s.runAction j 0x0B04 (doTakeover j)
    if s1.spn.claim = some j ∧ s1.spn.hbAlive ∧ s1.spn.peerState = 6 then s1.claimWon else s1)

def doUnpair (s : State) (x : Job) : State × Result × List Need :=
  let needs : List Need := if s.spn.pair = .inStep then [.twin] else []
  if s.spn.pair ≠ .inStep ∧ s.spn.pair ≠ .peerLost ∧ s.spn.pair ≠ .fenced ∧ s.spn.pair ≠ .refused then (s, s.wrongState, [])
  else if !(x.quorum.testBit 9) then (s, failWith St.quorum 0, [])
  else (s, okEff 0 [] [.unpair], needs)

def execTwinUnpair (j : Nat) (s : State) : Host.Outcome State Fault Refusal := .next (s.runAction j 0x0B05 doUnpair)

/-! ### The exchange (R575): PAIR frames carry step, SOURCE, offset and length of the step message, and a part of it (assumption log 50) -/

/-- Send a step message. -/
def State.sendPair (s : State) (step : Nat) (source : Bool) (data : Bytes) : State :=
  (List.range ((data.length + 1017) / 1018)).foldl (fun t i =>
    let part := slice data (1018 * i) (Nat.min 1018 (data.length - 1018 * i))
    (t.emit (.span (clearFrame tPair (leBytes 1 step ++ leBytes 1 (bitAt 0 source) ++ leBytes 2 (1018 * i) ++ leBytes 2 data.length ++ part)))).bump
      (Reg.spn 0x200)) s

/-- A failure ends both jobs: the peer hears of status and DETAIL (step 0x0E). -/
def State.pairFails (s : State) (p : Pairing) (st det : Nat) : State :=
  (s.sendPair 0x0E p.source (leBytes 2 st ++ leBytes 4 det)).failJob p.job st det

/-- Verification failures. -/
def State.pairInvalid (s : State) (p : Pairing) : State := s.pairFails p St.badEncoding 1

def State.setPairing (s : State) (p : Pairing) : State := { s with spn := { s.spn with pairing := some p } }

/-- Span master over the transcript, and the CONFIRM under it. -/
def Pairing.master (p : Pairing) : Bytes :=
  kmac256 p.secret (stdOut .hash 0x0A02 [[0], [], p.transcript] 48) (ascii "STQ6440 SPAN MASTER") 32
def Pairing.confirm (p : Pairing) : Bytes :=
  kmac256 p.master (stdOut .hash 0x0A02 [[0], [], p.transcript] 48) (ascii "STQ6440 SPAN CONFIRM") 32

/-- Handle 7: the span master and the heartbeat master (R576). -/
def Pairing.key (p : Pairing) : KeyRec :=
  newKey 0x0902 0 0x40000000 oGenerated (p.master ++ kmac256 p.master [] (ascii "STQ6440 SPAN HB MASTER") 32) [] true

/-- Both CONFIRMs verified: the pairing is persisted in its two records. -/
def State.pairDone (s : State) (p : Pairing) : State :=
  ((s.setPairing p).modJob p.job (fun x => { x with result := okEff 0 [] [.putKey 7 p.key, .paired p.source] })).popNeed p.job .pair

/-- A device with SOURCE 0 holds no key but its fixed handles, no session and no policy (R573). -/
def State.holdsNothing (s : State) : Bool :=
  s.csn.keys.all (fun p => isFixed p.1) && s.cwy.sessions.isEmpty && s.vis.all (fun p => p.2.policies.isEmpty)

/-- The transcript up to a device's own message, signed (R575 step 3). -/
def State.pairSign (s : State) (t : Bytes) : Bytes × State := (s.deviceSign (ascii "STQ-PAIR") t s.draws, s.nextDraw.nextDraw)

/-- Are the signatures the peer's? -/
def Pairing.signed (p : Pairing) (data : Bytes) : Bool := checkStd .pairStep 0 0 [p.peerKeys, p.transcript, data]

/-- The next step message of the peer. -/
def State.pairStep (s : State) (p : Pairing) (step : Nat) (source : Bool) (data : Bytes) : State :=
  let q := { p with step := step }
  if step ≤ 2 ∧ (source = p.source ∨ (!p.source ∧ !s.holdsNothing)) then s.pairFails p St.policy 3
  else match step with
  | 1 =>
    let ek := data.take 1568
    let pt := data.drop 1568
    if data.length ≠ 1665 ∨ (publicDefect 0x0103 0 ek).isSome ∨ (pointDefect 0x0712 pt).isSome then s.pairInvalid p
    else
      let e := encapsTo 0x0103 ek (drawBytes s.draws 32)
      let d := genValue 0x0712 0 0 (s.draws + 1)
      let m2 := e.1 ++ publicOf 0x0712 0 0 d
      let s1 := (s.nextDraw.nextDraw).setPairing { q with transcript := data ++ m2, secret := e.2 ++ kexSecret 0x0712 d pt }
      s1.sendPair 2 p.source m2
  | 2 =>
    let pt := data.drop 1568
    if data.length ≠ 1665 ∨ (pointDefect 0x0712 pt).isSome then s.pairInvalid p
    else
      let t := p.transcript ++ data
      let g := s.pairSign t
      let dk := p.secret.take (Alg.genValueLen 0x0103 0 0)
      let d := p.secret.drop (Alg.genValueLen 0x0103 0 0)
      (g.2.setPairing { q with transcript := t ++ g.1, secret := decapsWith 0x0103 dk (data.take 1568) ++ kexSecret 0x0712 d pt }).sendPair 3 p.source g.1
  | 3 =>
    if !(p.signed data) then s.pairInvalid p
    else
      let t := p.transcript ++ data
      let g := s.pairSign t
      (g.2.setPairing { q with transcript := t ++ g.1 }).sendPair 4 p.source g.1
  | 4 =>
    if !(p.signed data) then s.pairInvalid p
    else
      let r := { q with transcript := p.transcript ++ data }
      (s.setPairing r).sendPair 5 p.source r.confirm
  | 5 => if data ≠ p.confirm then s.pairInvalid p else (s.sendPair 6 p.source p.confirm).pairDone q
  | _ => if data ≠ p.confirm then s.pairInvalid p else s.pairDone q

/-- The step that a device expects: the initiator the even ones, the responder the odd ones. -/
def Pairing.expects (p : Pairing) : Nat := if p.step = 0 then (if p.initiator then 2 else 1) else p.step + 2

/-- A complete step message that has come is taken when it is the one expected. -/
def State.takePair (s : State) : State :=
  let e := s.spn.early
  match s.spn.pairing with
  | none => s
  | some p =>
    if e.length < 4 ∨ e.length - 4 < rd e 2 2 then s
    else
      let s1 : State := { s with spn := { s.spn with early := [] } }
      let waits := (s.job p.job).any (fun x => decide (x.stage = .waiting ∧ x.needs.head? = some .pair))
      if rd e 0 1 = p.expects ∧ rd e 0 1 ≤ 6 ∧ waits then s1.pairStep p (rd e 0 1) (decide (rd e 1 1 % 2 = 1)) (e.drop 4) else s1

/-- PAIR_FRAME. -/
def execPairFrame (frame : Bytes) (s : State) : Host.Outcome State Fault Refusal :=
  .next (
    if !s.spanOn ∨ s.spn.dead then s
    else if !(frameWhole frame) then s.bump (Reg.spn 0x208)
    else if !(frameOf frame [tPair]) ∨ rd frame 4 2 < 6 then s
    else
      let b := slice frame 32 (rd frame 4 2)
      let step := rd b 0 1
      let e := s.spn.early
      if step = 0x0F then s.refusedByPeer
      else if step = 0x0E then
        (match s.spn.pairing with
        | some p => s.failJob p.job (rd b 6 2) (rd b 8 4)
        | none => { s with spn := { s.spn with early := [] } })
      else if s.spn.pair ≠ .unpaired ∧ s.spn.pair ≠ .peerLost then s
      else
        let e1 := if rd b 2 2 = 0 then b.take 2 ++ slice b 4 2 ++ b.drop 6
                  else if e.take 2 = b.take 2 ∧ e.length = 4 + rd b 2 2 then e ++ b.drop 6 else e
        ({ s with spn := { s.spn with early := e1 } }).takePair)

/-- PAIR_REFUSAL. -/
def execPairRefusal (s : State) : Host.Outcome State Fault Refusal := .next (if s.spanOn then s.refusedByPeer else s)

/-! ### TWIN_PAIR (R573, R574) -/

/-- Chain and impression of the input. -/
def pairParts (b : Bytes) : Bytes × Bytes := (slice b 4 (rd b 0 4), b.drop (4 + rd b 0 4))

/-- The checks of R574 on the input; a replacement needs SOURCE. -/
def State.pairDefect (s : State) (b : Bytes) (source : Bool) : Option (Nat × Nat) :=
  let chain := (pairParts b).1
  let im := (pairParts b).2
  if !(checkStd .certChain 0 0 [chain]) ∨ !(checkStd .impression 0 0 [chain, im]) ∨ rd im 6 1 ≠ 1 then some (St.badEncoding, 1)
  else if rd im 44 1 ≠ 32 ∨ slice im 48 32 ≠ s.spn.pairNonce then some (St.badEncoding, 2)
  else if rd im 7 1 ≠ 3 ∨ slice im 688 48 ≠ (s.anchorDigest).getD (zeros 48) ∨ slice im 8 16 = s.unitId then some (St.policy, 1)
  else if s.spn.pair = .peerLost ∧ !source then some (St.policy, 4)
  else none

def doPair (j : Nat) (s : State) (x : Job) : State × Result × List Need :=
  let source := (dP0 x.desc).testBit 0
  if s.lcs.lstate ≠ .edition ∨ s.glb.dev ≠ .ready ∨ (s.spn.pair ≠ .unpaired ∧ s.spn.pair ≠ .peerLost) ∨ s.spn.pairing.isSome then (s, s.wrongState, [])
  else if !(x.quorum.testBit 8) then (s, failWith St.quorum 0, [])
  else match s.pairDefect x.input source with
    | some d => (s, failWith d.1 d.2, [])
    | none =>
      let im := (pairParts x.input).2
      let peer := slice im 8 16
      let first := decide (leNat s.unitId < leNat peer)
      let dk := genValue 0x0103 0 0 s.draws
      let d := genValue 0x0712 0 0 (s.draws + 1)
      let m1 := publicOf 0x0103 0 0 dk ++ publicOf 0x0712 0 0 d
      let p : Pairing :=
        { job := j, source := source, initiator := first, peerId := peer, peerKeys := stdOut .certificate 0 [(pairParts x.input).1] 2689, step := 0,
          transcript := if first then m1 else [], secret := if first then dk ++ d else [] }
      let s1 := s.setPairing p
      (if first then (s1.nextDraw.nextDraw).sendPair 1 source m1 else s1, okWith 0 [], [.pair, .shelf, .shelf])

/-- TWIN_PAIR; a step message that came before is taken now. -/
def execTwinPair (j : Nat) (s : State) : Host.Outcome State Fault Refusal :=
  .next ((s.runAction j 0x0B01 (doPair j)).takePair)

/-- TWIN_PAIR_TIMEOUT: the peer has not completed within 10 s. -/
def execTwinPairTimeout (s : State) : Host.Outcome State Fault Refusal :=
  .next (match s.spn.pairing with
    | some p =>
      if (s.job p.job).any (fun x => decide (x.stage = .waiting ∧ x.needs.head? = some .pair)) then s.failJob p.job St.twinUnavailable 0 else s
    | none => s)

end Sys2Proof.Machine
end

