-- ==== Sys2Proof/Machine/Xhatch.lean ====
section
/-! DEFINITION. Meanings of the Crosshatch and island commands (R636 to R666). -/

namespace Sys2Proof.Machine

open Sys2Proof

/-! ### Events of the main side (R636 to R641) -/

/-- XH_SPLIT counts the reports of a detector whose twin stayed quiet for 1 µs (R638). -/
def State.settleSplits (s : State) : State :=
  let old := s.xh.recent.filter (fun r => decide (r.2.2.1 + 100 < s.time))
  let lone := old.filter (fun r => !r.2.2.2)
  let s1 : State := { s with xh := { s.xh with recent := s.xh.recent.filter (fun r => decide (s.time ≤ r.2.2.1 + 100)) } }
  if lone.isEmpty then s1 else s1.bump Reg.xhSplit lone.length

/-- Note a report of one detector for XH_SPLIT. -/
def State.noteReport (s : State) (source : Nat) (detB : Bool) : State :=
  let s1 := s.settleSplits
  let other (r : Nat × Bool × Nat × Bool) : Bool := decide (r.1 = source) && (r.2.1 != detB)
  let paired := s1.xh.recent.any other
  { s1 with xh := { s1.xh with recent := s1.xh.recent.map (fun r => if other r then (r.1, r.2.1, r.2.2.1, true) else r) ++
                                         [(source, detB, s1.time, paired)] } }

/-- Main-side sources monitor whenever main power is present; those of R790 start at the release of main reset (R636, R790). -/
def State.monitors (s : State) (id : Nat) : Bool :=
  s.mainPower && (s.glb.released || !(decide (0x10 ≤ id ∧ id ≤ 0x13) || decide (id = 0x18 ∨ id = 0x19)))

/-- A detector of a main-side source reports. -/
def State.detectorEvent (s : State) (id : Nat) (detB injected : Bool) : State :=
  if (xhSource id).isNone ∨ onIsland id ∨ id = 0x3E ∨ id = 0x3F ∨ !(s.monitors id) then s
  else (s.noteReport id detB).xhEvent { source := id, detA := !detB, detB := detB, injected := injected }

/-! ### Events of the island (R640, R641, R652, R656) -/

/-- The island is supplied (R636). -/
def State.islandUp (s : State) : Bool := s.island.vbat || s.mainPower

/-- An entry that the island logs by itself. -/
def State.aloneLog (s : State) (h : XhHit) (resp : Nat) : State :=
  s.alarmLog s.island.rtcSec s.island.rtcSub h.source (hitFlags h resp false true) 0

/-- A filter of the island fires with main power absent (R656): ERASE and CANCEL wait for the second decision (R652). -/
def State.aloneFire (s : State) (h : XhHit) : State :=
  let resp := s.capped (bits (s.xhCfg h.source) 2 0)
  if 4 ≤ resp then { s with island := { s.island with pendingErase := s.island.pendingErase ++ [h] } }
  else
    let s1 := s.aloneLog h resp
    let s2 := if 1 ≤ resp then s1.defer resp h.source else s1
    if resp = 1 then { s2 with island := { s2.island with warn := true } } else s2

/-- One event of an island source: through the response engine with main power present (R657), else by the island alone. -/
def State.islandEvent (s : State) (id : Nat) (injected : Bool) : State :=
  let h : XhHit := { source := id, detA := false, detB := false, injected := injected }
  if !s.islandUp then s
  else if s.mainPower then s.xhEvent h
  else
    let f := s.xhFilter h
    let s1 := s.setXhSrc id f.1
    match f.2 with
    | some k => s1.aloneFire k
    | none => s1

/-- The key region of BBRAM is cleared by ERASE (R643). -/
def State.eraseRegion (s : State) : State :=
  let t := s.clearBbram
  { t with island := { t.island with erased := true } }

/-- XH_SOURCE_EVENT (R637, R638, R641). Lock lost, detector B of source 0x18, puts the control clocks on the oscillator (R708). -/
def execXhSourceEvent (source : Byte) (det : Detector) (s : State) : Host.Outcome State Fault Refusal :=
  let id := source.toNat
  .next (
    if onIsland id then
      (if (xhSource id).isSome ∧ (0x44 ≤ id ∨ s.island.loopEn.testBit (id - 0x40)) then s.islandEvent id false else s)
    else
      let s1 := s.detectorEvent id (decide (det = .b)) false
      if id = 0x18 ∧ det = .b ∧ s.monitors id then { s1 with glb := { s1.glb with pll := false } } else s1)

/-! ### Doubled decisions (R650 to R652) -/

/-- XH_SECOND_DECISION. -/
def execXhSecondDecision (agree : Bool) (s : State) : Host.Outcome State Fault Refusal :=
  .next (match s.xh.pending with
    | none => s
    | some p =>
      if agree then ({ s with xh := { s.xh with pending := none } }).respond p.hits p.resp
      else s.splitDecision p.hits p.resp)

/-- XH_DECISION_TIMEOUT: one unit has not decided 66 cycles after the other. -/
def execXhDecisionTimeout (s : State) : Host.Outcome State Fault Refusal :=
  .next (match s.xh.pending with
    | none => s
    | some p => s.splitDecision p.hits p.resp)

/-- XH_TABLE_COMPARE: a difference of the two tables is a disagreement. -/
def execXhTableCompare (s : State) : Host.Outcome State Fault Refusal :=
  .next (if s.mainPower ∧ s.xh.cfgA ≠ s.xh.cfgB then s.splitDecision [] 0 else s)

/-- The island's second decision (R652). A split carries out ERASE and defers a FATAL of source 0x3F. -/
def State.aloneDecide (s : State) (agree : Bool) (h : XhHit) : State :=
  let resp := s.capped (bits (s.xhCfg h.source) 2 0)
  let s1 := s.eraseRegion
  if agree then
    let s2 := s1.aloneLog h resp
    if resp = 5 then s2.defer 5 h.source else s2
  else
    ((s1.aloneLog h 4).aloneLog { h with source := 0x3F } 4).defer 6 0x3F

/-- ISLAND_SECOND_DECISION. -/
def execIslandSecondDecision (agree : Bool) (s : State) : Host.Outcome State Fault Refusal :=
  .next (if !s.islandUp then s
    else s.island.pendingErase.foldl (State.aloneDecide · agree ·) { s with island := { s.island with pendingErase := [] } })

/-! ### Periodic measurements (R639 to R641, R660, R661) -/

/-- 64 steps of a mesh LFSR, x^64 + x^63 + x^61 + x^60 + 1 (R639). -/
def meshStep (n : Nat) (x : Nat) : Nat :=
  match n with
  | 0 => x
  | k + 1 =>
    let b := bitAt 0 (((x.testBit 63 != x.testBit 62) != (x.testBit 60 != x.testBit 59)))
    meshStep k (x * 2 % 2 ^ 64 + b)

/-- MESH_CHANGE: every LFSR advances; a group whose pattern does not match is an event of detector A. -/
def execMeshChange (matching : BitVec 8) (s : State) : Host.Outcome State Fault Refusal :=
  .next (if !s.mainPower then s
    else
      let s1 : State := { s with xh := { s.xh with mesh := s.xh.mesh.map (meshStep 64) } }
      (List.range 8).foldl (fun t g => if matching.getLsbD g then t else t.detectorEvent (g + 1) false false) s1)

/-- LOOP_WORD: an enabled pair whose word came back wrong, or whose input was high between words, has an event (R640). -/
def execLoopWord (matching : BitVec 4) (s : State) : Host.Outcome State Fault Refusal :=
  .next ((List.range 4).foldl (fun t k =>
    if t.island.loopEn.testBit k && !(matching.getLsbD k) then t.islandEvent (0x40 + k) false else t) s)

/-- ISLAND_MEASUREMENT (R637, R641): the temperature in 1/16 °C, VBAT in mV, and whether the crystal runs within 1 %. -/
def execIslandMeasurement (temp : Int) (vbatMv : Nat) (clockOk : Bool) (s : State) : Host.Outcome State Fault Refusal :=
  .next (if !s.islandUp then s
    else
      let s0 : State := { s with island := { s.island with xtalOk := clockOk } }
      let cold : Bool := decide (temp < -800)
      let hot : Bool := decide (2080 < temp)
      let low : Bool := decide (vbatMv < 2100)
      let s1 := if cold then s0.islandEvent 0x44 false else s0
      let s2 := if hot then s1.islandEvent 0x45 false else s1
      let s3 := if low then s2.islandEvent 0x46 false else s2
      if clockOk then s3 else s3.islandEvent 0x47 false)

/-- A source of which no detector is left is treated as fired (R661). -/
def State.treatFired (s : State) (id : Nat) : State :=
  let h : XhHit := { source := id, detA := false, detB := false, injected := false }
  if s.mainPower then s.fire h else s.aloneFire h

/-- ISLAND_SELFTEST on VBAT alone (R660): a source that fails is treated as fired (R661). -/
def execIslandSelftest (failed : List Byte) (s : State) : Host.Outcome State Fault Refusal :=
  .next (if !s.islandUp || s.mainPower then s
    else (failed.filter (fun b => onIsland b.toNat && (xhSource b.toNat).isSome)).foldl (fun t b => t.treatFired b.toNat) s)

/-! ### Host writes (R29, R645, R653, R654, R662, R663, R666) -/

/-- The XH window takes writes: READY (R29, R653). -/
def State.xhWritable (s : State) : Bool := decide (s.glb.dev = .ready)

/-- Every condition of R653 for leaving HALTED. -/
def State.mayResume (s : State) : Bool :=
  decide (s.glb.dev = .halted) && s.xh.halted && s.xhQuiet && !(s.xh.haltBy.contains 0x3E) && !(s.xh.haltBy.contains 0x3F) &&
    decide (s.xh.latched ≤ 2) && s.xh.pending.isNone

/-- XH_RESUME (R653, R735); a deferred HALT's record is cleared at resume (R658). -/
def execXhResume (value : Word) (s : State) : Host.Outcome State Fault Refusal :=
  .next (
    if !(decide (s.glb.dev = .ready ∨ s.glb.dev = .halted)) then s
    else if value = 0x52455355 ∧ s.mayResume then
      let r := s.resume
      { r with island := { r.island with deferred := match r.island.deferred with
                                                     | some d => if d.sev = 2 then none else some d
                                                     | none => none } }
    else s.bump Reg.xhResumeRefused)

/-- XH_INJECT (R662). -/
def execXhInject (value : Word) (s : State) : Host.Outcome State Fault Refusal :=
  let id := bits value.toNat 7 0
  .next (
    if !s.xhWritable then s
    else if onIsland id then (if (xhSource id).isSome then s.islandEvent id true else s)
    else s.detectorEvent id (value.getLsbD 8) true)

/-- A written configuration laid over the present one: N or W of 0 and RESP of 6 or 7 leave their field (R654). -/
def cfgLaid (old new : Nat) : Nat × Nat × Nat :=
  (if bits new 15 8 = 0 then bits old 15 8 else bits new 15 8, if bits new 31 16 = 0 then bits old 31 16 else bits new 31 16,
   if 5 < bits new 2 0 then bits old 2 0 else bits new 2 0)

/-- XH_SRC_CFG_WRITE (R654), for XH_SRCn_CFG and XHI_SRCn_CFG. -/
def execXhSrcCfgWrite (source : Byte) (value : Word) (s : State) : Host.Outcome State Fault Refusal :=
  let id := source.toNat
  .next (match xhSource id with
    | none => s
    | some (_, _, _, fixed) =>
      if !s.xhWritable || fixed || s.xh.locked then s
      else
        let old := s.xhCfg id
        let (n, w, r) := cfgLaid old value.toNat
        let free : Bool := decide (s.lcs.shown = .blank ∨ s.lcs.shown = .trial ∨ s.lcs.shown = .proof)
        if !free ∧ (r < bits old 2 0 ∨ bits old 15 8 < n ∨ bits old 31 16 < w) then s.bump Reg.xhWriteRefused
        else s.setXhCfg id (cfgWord n w r false))

/-- A write of 1 to WARN clears it only while no source has an event counted in its window (R645). -/
def execXhWarnClear (s : State) : Host.Outcome State Fault Refusal :=
  .next (if s.xhWritable && s.xhQuiet then { s with xh := { s.xh with warn := false } } else s)

/-- LOCK holds until main power-up (R663). -/
def execXhLock (s : State) : Host.Outcome State Fault Refusal :=
  .next (if s.xhWritable then { s with xh := { s.xh with locked := true } } else s)

/-- A write of XHI_RTC_SEC is logged with the time that it replaces (R655). -/
def execXhiRtcSecWrite (value : Word) (s : State) : Host.Outcome State Fault Refusal :=
  .next (if !s.xhWritable then s
    else
      let s1 := s.alarmLog s.island.rtcSec s.island.rtcSub 0 0 s.time
      { s1 with island := { s1.island with rtcSec := value.toNat, rtcSub := 0, rtcPart := 0 } })

/-- XHI_LOOP_CTL (R666): in EDITION and RESTRIKE bits may only be set. -/
def execXhiLoopCtlWrite (value : Word) (s : State) : Host.Outcome State Fault Refusal :=
  .next (if !s.xhWritable then s
    else
      let v := bits value.toNat 3 0
      let keep := if s.lcs.shown = .edition ∨ s.lcs.shown = .restrike then s.island.loopEn else 0
      { s with island := { s.island with loopEn := v ||| keep } })

end Sys2Proof.Machine
end

