-- ==== Sys2Proof/Machine/FaultOps.lean ====
section
/-! DEFINITION. A report reaches the fault collector and is handled as the table of R669 states (R667 to R688). -/

namespace Sys2Proof.Machine

open Sys2Proof

/-! ### Who reports (R667, R709) -/

/-- The power domain of a unit's instance. -/
def unitDomain (u i : Nat) : Nat :=
  if u = uBurin then 3 + i / 9 else if u = uPier then 3 + i else if u = uGraver then 15 else if u = uLane then 11 + i / 2
  else if u = uCwy then 16 else if u = uVdt then 17 else if u = uCsn then 23 else if u = uDrf then 2 else if u = uDge then 24
  else if u = uEnt then 25 else if u = uHif then 19 else if u = uLpt then 20 + i else if u = uSpn then 22 else if u = uXh then 27 else 1

/-- The FCL works: main power and the release of main reset. -/
def State.fclRuns (s : State) : Bool := s.mainPower && decide (s.glb.dev ≠ .reset)

/-- A retired unit, and one whose domain is off, reports nothing (R183, R711). -/
def State.reports (s : State) (u i : Nat) : Bool :=
  s.fclRuns && instOk u i && s.pdOn (unitDomain u i) &&
    !(if u = uBurin then (s.pier (i / 9)).retired.testBit (i % 9) else if u = uGraver then s.grv.retired.testBit i
      else if u = uLane then s.lne.retired.testBit i else if u = uDrf then s.drf.retired.testBit i
      else decide (u = uDge) && decide (8 ≤ i) && s.dge.retired.testBit (i - 8))

/-- The job that a fault hits: the one its burin or core holds, or the one that the report names. -/
def State.faultJob (s : State) (u i : Nat) (job : Option Nat) : Option Nat :=
  if u = uBurin then (s.burin (i / 9) (i % 9)).job
  else if u = uGraver then
    (match job with
    | some j => if s.coreOf j = some i then some j else (s.core i).computing
    | none => (s.core i).computing)
  else job

/-! ### Check bits (R679, R680) -/

/-- The syndrome that altered check bits give: S in [3:0], the parity of all in [4]. -/
def maskSyndrome (m : Nat) : Nat := m % 16 + 16 * (popCount 5 m % 2)

/-- CAUSE of a syndrome: 0 no error, 1 corrected, 2 uncorrectable. -/
def syndromeCause (y : Nat) : Nat :=
  if y = 0 then 0 else if y / 16 = 1 ∧ y % 16 ≤ 12 then 1 else 2

/-- The armed injection that an ECC report of a source comes from (R678). -/
def State.armedHit (s : State) (source cause syndrome : Nat) : Option Armed :=
  (KMap.get source s.fcl.armed).bind (fun a => if (cause = 1 ∨ cause = 2) ∧ maskSyndrome a.mask = syndrome then some a else none)

/-! ### Drafting pairs (R688) -/

/-- The handshake that a Drafting pair was driving ends: with internal_error after PENDING, without trace before (R22). -/
def State.handshakeLost (s : State) (h : Nat) : State :=
  match KMap.get h s.cwy.hs with
  | some y => (match y.session with | some i => s.failHandshake i 80 | none => s.delHs h)
  | none => s

/-- A spare pair runs its self-test. -/
def State.bringPair (s : State) : State :=
  match (onesOf 10 s.drf.spare).find? (fun p => !(s.drf.testing.testBit p)) with
  | some p => { s with drf := { s.drf with testing := s.drf.testing ||| 2 ^ p } }
  | none => s

/-- Retire a pair; the loss of the last one is FATAL. -/
def State.retirePair (s : State) (p : Nat) (injected : Bool) : State :=
  let d := s.drf
  let duty := d.onDuty.testBit p
  let s1 := ((s.releaseToken 3 p).unask 3 p).noteRetired (repairWord uDrf p) injected
  let s2 : State := { s1 with drf := { d with onDuty := d.onDuty - bitAt p duty, spare := d.spare - bitAt p (d.spare.testBit p),
                                              retired := d.retired ||| 2 ^ p, testing := d.testing - bitAt p (d.testing.testBit p) } }
  let s3 := if duty then s2.bringPair else s2
  if duty ∧ s3.drf.onDuty = 0 ∧ s3.drf.testing = 0 then s3.reportAs (mkReport (src uDrf p) 0x03 .fatal) else s3

/-! ### Jobs and data that are lost (R682, R686) -/

/-- A job that read device data it cannot derive again, or one past its commit point. -/
def State.dataLost (s : State) (job : Option Nat) : State :=
  match job with
  | none => s
  | some j =>
    match s.job j with
    | none => s
    | some x => if x.committed then s.failJob j St.faultContained 0 else s.finishJob j (failWith St.uncorrectable 0) []

/-- A McEliece public key's tile is lost: a private key's is regenerated, an imported one is unusable (R274). -/
def State.tileLost (s : State) (h : Nat) : State :=
  s.modKey h (fun k => if k.isPrivate then { k with publicPresent := false } else { k with unusable := true })

/-- What an HBM line held is lost. A held record or datagram that the line held part of is taken to be the oldest one (assumption log 51). -/
def State.lineLost (s : State) (place : FaultPlace) (item job : Option Nat) : State :=
  match place, item with
  | .sessionEntry, some i => s.removeSession i 6
  | .heldData, some i => (s.modSession i (fun x => { x with held := x.held.drop 1 })).countDrop i
  | .freezeBuffer, some v => s.modVi v (fun x => { x with freezeBuf := x.freezeBuf.drop 1 })
  | .publicKey, some h => (s.dataLost job).tileLost h
  | .overflowKey, some h => s.overflowLost h
  | _, _ => s.dataLost job

/-- An HBM page is retired into the reserve and recorded in the boot flash (R684); an injected retirement ends with main reset (R678). -/
def State.retirePage (s : State) (page : Nat) (injected : Bool) : State :=
  if s.fcl.pages.contains page then s
  else
    { s with fcl := { s.fcl with pages := insertNat page s.fcl.pages, reserve := s.fcl.reserve - 1 },
             flash := { s.flash with retired := if injected then s.flash.retired else insertNat page s.flash.retired } }

/-- Number of a page: pseudo-channel and 4 KiB page in it. -/
def pageOf (channel addr : Nat) : Nat := channel * 2 ^ 20 + addr / 4096 % 2 ^ 20

/-- A pier's store fails (R284): the job that fetched from it restarts in another pier, uncounted, or ends after its commit point; the pier
stops taking jobs. -/
def State.storeFails (s : State) (p : Nat) (job : Option Nat) : State :=
  let s1 := s.modPier p (fun y => { y with damaged := true })
  match job.bind s.burinOf with
  | some (q, b) =>
    if q ≠ p then s1
    else
      let s2 := s1.hitBurinJob p b false
      let j := job.getD 0
      match s2.job j with
      | some x =>
        (match s2.leastWork ((s2.piersFor x).filter (fun k => !((s2.pier k).damaged))) with
        | some k => if x.burinPart = .queued then s2.putJob j { x with pier := some k } else s2
        | none => s2)
      | none => s2
  | none => s1

/-- A matrix cache entry fails (R208): invalidated, its job restarts as a miss, uncounted. -/
def State.matrixFails (s : State) (p : Nat) (item job : Option Nat) : State :=
  let hit (e : MatrixEntry) : Bool := decide (some e.handle = item)
  let s1 := s.modPier p (fun y => { y with matrix := y.matrix.filterMap (fun e =>
    if hit e then (if e.pinned then some { e with filled := false } else none) else some e) })
  match job.bind s1.burinOf with
  | some (q, b) => if q = p then s1.hitBurinJob q b false else s1
  | none => s1

/-- A parked candidate is lost: its job restarts, uncounted (R194, R301). -/
def State.parkFails (s : State) (p : Nat) (job : Option Nat) : State :=
  match job with
  | some j => if (s.pier p).park.any (fun e => decide (e.1 = j)) then s.restartBurinJob j false else s
  | none => s

/-- An operation of a core ends with its invariant failing (R341). -/
def State.coreInvariant (s : State) (c : Nat) (job : Option Nat) (seq : Nat) (injected : Bool) : State :=
  let s1 := s.bump (Reg.grv 0x4C)
  let s2 := match job with | some j => s1.finishJob j (failWith St.invariantFail 0) [] | none => s1
  (s2.testLater seq [src uGraver c]).countCoreFault c injected

/-! ### The table of R669 -/

/-- Handling of a report that is logged as `seq`, and the firmware's acknowledgement where the recovery is complete. -/
def State.handle (s : State) (u i cause : Nat) (spot : FaultSpot) (job : Option Nat) (seq : Nat) (injected : Bool) : State :=
  let item := spot.item
  if cause = 1 then s
  else if u = uBurin then
    (if cause = 0xE then (s.hitBurinJob (i / 9) (i % 9) true).ackSeq seq
    else if cause = 5 then (s.countBurinFault (i / 9) (i % 9) injected).testLater seq [src u i]
    else s.retireBurin (i / 9) (i % 9) injected)
  else if u = uPier then
    (if spot.place = .matrixCache then s.matrixFails i item job
    else if spot.place = .parkBuffer then (s.parkFails i job).ackSeq seq
    else s.storeFails i job)
  else if u = uGraver then
    (if cause = 4 then s.coreInvariant i job seq injected else s.retireCore i job injected)
  else if u = uLane then
    (match (s.lane i).work.head? with
    | some w => if cause = 2 then ((s.popLane i).restartLane w true).retireLane i injected else s.retireLane i injected
    | none => s.retireLane i injected).settleDrains
  else if u = uCwy then
    (if cause = 2 then { s with cwy := { s.cwy with hot := match item with | some k => KMap.del k s.cwy.hot | none => s.cwy.hot } }
    else (s.lineLost (if spot.place = .unit then .sessionEntry else spot.place) item job).ackSeq seq)
  else if u = uVdt then
    (if spot.place = .retryPassed then s
    else
      let room := decide (s.fcl.reserve ≠ 0)
      let s1 := (s.lineLost spot.place item job).retirePage (pageOf i spot.addr.toNat) injected
      if room then s1.ackSeq seq else s1)
  else if u = uCsn then
    (if cause ≠ 2 then s
    else match item.bind (fun h => (KMap.get h s.csn.keys).map (fun k => (h, k))) with
      | some (h, k) => s.setKey h { k with resident := false, derived := false }
      | none => s.ackSeq seq)
  else if u = uDrf then
    (let s1 := match item with | some h => s.handshakeLost h | none => s
    if cause = 2 then (s1.dataLost job).ackSeq seq else s1.retirePair i injected)
  else if u = uDge then
    (if i < 8 then (if (s.dgeCtx i).owner.isSome then s.clearDge i 9 else s).ackSeq seq
    else if cause = 6 then ({ s with dge := { s.dge with retired := s.dge.retired ||| 2 ^ (i - 8) } }).ackSeq seq
    else (s.dataLost job).ackSeq seq)
  else if u = uHif then (s.dataLost job).ackSeq seq
  else if u = uLpt then
    (if (s.port i).hold.isEmpty then s else (s.modPort i (fun x => { x with hold := x.hold.drop 1 })).bump (Reg.clsCtr i 0x14))
  else if u = uSpn then s.realign
  else s

/-- The counters of R705 that a report's kind feeds. -/
def State.countKind (s : State) (u i cause : Nat) (place : FaultPlace) : State :=
  if cause = 1 then s.bump Reg.fclSramCe
  else if cause = 2 then s.bump Reg.fclSramUe
  else if cause = 9 then s.bump (if u = uVdt ∧ place = .retryPassed then Reg.fclHbmRetry else Reg.fclHbmUe)
  else if (cause = 6 ∧ u ≠ uPier) ∨ (u = uEnt ∧ cause = 7 ∧ 2 ≤ i) then s.bump Reg.fclSweepFail
  else s

/-- Faults whose own event row reports them: a lane self-check, a counterproof mismatch, a stipple generator, a noise source, a span lane, a
decision split. None for the others. -/
def State.ownFault (s : State) (u i cause : Nat) (job : Option Nat) (injected : Bool) : Option State :=
  if u = uLane ∧ cause = 3 then
    (s.lane i).work.head?.map (fun w => ((s.popLane i).laneFault i w injected).settleDrains)
  else if u = uBurin ∧ cause = 5 then
    job.bind (fun j => match s.job j, s.proofOf j with
      | some x, some (_, p, b) => if x.stage = .parked ∧ x.signer = i then some (s.mismatch j i (burinUnit p b) injected) else none
      | _, _ => none)
  else if u = uPier ∧ cause = 6 then some (s.stippleFails i injected)
  else if u = uEnt ∧ cause = 8 ∧ i < 2 then some (if s.ent.ready then s.sourceFails (decide (i = 1)) injected else s)
  else if u = uSpn ∧ i < 5 ∧ cause = 7 then some (s.spanLaneFails i injected)
  else if u = uXh ∧ cause = 0xF then some (s.splitDecision ((s.xh.pending.map (·.hits)).getD []) ((s.xh.pending.map (·.resp)).getD 0))
  else none

/-- A report is classified, logged and handled (R669); a FATAL one, or one that finds the pending table full, takes the device out of
service. -/
def State.fault (s : State) (source cause : Nat) (spot : FaultSpot) (job : Option Nat) (injected armFatal : Bool) : State :=
  let u := source / 256
  let i := source % 256
  if !(s.reports u i) then s
  else
    match s.ownFault u i cause (if u = uBurin then job else s.faultJob u i job) injected with
    | some t => t
    | none =>
      match classOfFault u i cause spot.place with
      | none => s
      | some c0 =>
        let j := s.faultJob u i job
        let base := s.reportOf u i cause (if injected ∧ c0 = .fatal ∧ !armFatal then .contained else c0)
        let host := base.hostAck || decide (c0 = .fatal) || (decide (u = uVdt) && decide (s.fcl.reserve = 0))
        let r := { base with injected := injected, addr := spot.addr.toNat, syndrome := spot.syndrome.toNat, job := j, hostAck := host }
        let s1 := (s.countKind u i cause spot.place).reportAs r
        if c0 = .fatal ∨ s1.fcl.fatal then s1 else s1.handle u i cause spot j (s.fcl.seq + 1) injected

/-- A spot of which nothing is known. -/
def noSpot : FaultSpot := { place := .unit, addr := 0, syndrome := 0, row := none, item := none }

/-! ### Spare rows (R687) -/

/-- Memories whose rows are never allocated again once no spare is left: caches and key SRAM. -/
def cacheRow (u : Nat) (place : FaultPlace) : Bool := (decide (u = uPier) && decide (place = .matrixCache)) || decide (u = uCwy) || decide (u = uCsn)

/-- A further failing row of a macro with no spare left: a unit with a spare is retired, a cache loses the row, another memory reports. -/
def State.rowDisabled (s : State) (u i : Nat) (place : FaultPlace) (injected : Bool) : State :=
  if cacheRow u place then s
  else if u = uBurin ∧ (s.pier (i / 9)).spare ≠ 0 then (if (s.pier (i / 9)).retired.testBit (i % 9) then s else s.retireBurin (i / 9) (i % 9) injected)
  else if u = uGraver ∧ s.grv.spare ≠ 0 then (if s.grv.retired.testBit i then s else s.retireCore i none injected)
  else if u = uLane ∧ s.lne.spare ≠ 0 then (if s.lne.retired.testBit i then s else (s.retireLane i injected).settleDrains)
  else s.reportAs { mkReport (src u i) 2 .contained with hostAck := true, injected := injected }

/-- Spare a row of a macro. -/
def State.spareRow (s : State) (u i : Nat) (place : FaultPlace) (m row : Nat) (injected : Bool) : State :=
  let used := SMap.get zeroDef m s.fcl.spares
  if used < 2 then
    let s1 : State := { s with fcl := { s.fcl with spares := SMap.set zeroDef m (used + 1) s.fcl.spares, rowsSpared := s.fcl.rowsSpared + 1,
                                                   seenRows := s.fcl.seenRows.filter (fun p => decide (p ≠ (m, row))) } }
    s1.noteRetired (6 * 2 ^ 28 + m * 2 ^ 16 + used * 2 ^ 15 + row) injected
  else s.rowDisabled u i place injected

/-- A row that gave an error: spared at once when uncorrectable, at the second scrub pass when corrected. -/
def State.noteRow (s : State) (u i cause : Nat) (spot : FaultSpot) (scrub injected : Bool) : State :=
  match spot.row with
  | none => s
  | some (m, r) =>
    if s.fcl.fatal then s
    else if cause = 2 ∨ (cause = 1 ∧ scrub ∧ s.fcl.seenRows.contains (m.toNat, r.toNat)) then s.spareRow u i spot.place m.toNat r.toNat injected
    else if cause = 1 ∧ scrub then { s with fcl := { s.fcl with seenRows := s.fcl.seenRows ++ [(m.toNat, r.toNat)] } }
    else s

/-- A memory error or any other fault of a source: from an armed injection when its check bits say so (R678), logged and handled, its row
noted. -/
def State.memFault (s : State) (source cause : Nat) (spot : FaultSpot) (job : Option Nat) (scrub : Bool) : State :=
  let a := s.armedHit source cause spot.syndrome.toNat
  let s1 : State := if a.isSome then { s with fcl := { s.fcl with armed := KMap.del source s.fcl.armed } } else s
  let live := s.reports (source / 256) (source % 256)
  let s2 := s1.fault source cause spot job a.isSome ((a.map (·.fatal)).getD false)
  if live then s2.noteRow (source / 256) (source % 256) cause spot scrub a.isSome else s2

end Sys2Proof.Machine
end

