-- ==== Sys2Proof/Machine/Faults.lean ====
section
/-! DEFINITION. Meanings of the commands of the fault collector and of maintenance passes (R468, R659 to R661, R667 to R698, R702, R703). -/

namespace Sys2Proof.Machine

open Sys2Proof

/-- FAULT_REPORT (R669). -/
def execFaultReport (source : BitVec 16) (cause : Byte) (spot : FaultSpot) (job : Option Nat) (s : State) : Host.Outcome State Fault Refusal :=
  .next (s.memFault source.toNat cause.toNat spot job false)

/-- DRAFTING_SPARE_TAKEOVER: the spare pair takes the queues over, and another pair's firmware acknowledges; one that fails is retired in its
turn (R688). -/
def execDraftingSpareTakeover (p : Fin 10) (passed : Bool) (s : State) : Host.Outcome State Fault Refusal :=
  .next (
    let d := s.drf
    if !(d.testing.testBit p.val) then s
    else if passed then
      let s1 : State := { s with drf := { d with onDuty := d.onDuty ||| 2 ^ p.val, spare := d.spare - bitAt p.val (d.spare.testBit p.val),
                                                 testing := d.testing - 2 ^ p.val } }
      (onesOf 10 s1.drf.retired).foldl (fun t q => t.ackSource (src uDrf q) [0x03, 0x06]) s1
    else
      let s1 := ((s.reportAs (s.reportOf uDrf p.val 0x07 .contained)).retirePair p.val false).bringPair
      if s1.drf.onDuty = 0 ∧ s1.drf.testing = 0 then s1.reportAs (mkReport (src uDrf p.val) 0x03 .fatal) else s1)

/-! ### Escalation and acknowledgement (R671, R675, R676) -/

/-- ESCALATION_TIMEOUT: the oldest pending report leaves the table and becomes FATAL. -/
def execEscalationTimeout (s : State) : Host.Outcome State Fault Refusal :=
  .next (match s.fcl.pending with
    | [] => s
    | e :: l => (({ s with fcl := { s.fcl with pending := l } }).bump Reg.fclEscalated).escalate e.seq)

/-- The FCL window takes writes (R29). -/
def State.fclWritable (s : State) : Bool := decide (s.glb.dev = .ready)

/-- FCL_ACK (R675). -/
def execFclAck (value : Word) (s : State) : Host.Outcome State Fault Refusal :=
  .next (if s.fclWritable then s.ackSeq value.toNat else s)

/-- The units with a pending report. -/
def State.pendingMap (s : State) : Nat := s.fcl.pending.foldl (fun m e => m ||| 2 ^ unitOf e.source) 0

/-- Bits of `m` that a write of 1 clears: those of `w` outside `keep`. -/
def clearOnes (m w keep : Nat) : Nat := maskOf ((onesOf 19 m).filter (fun b => !(w.testBit b) || keep.testBit b))

/-- FCL_STICKY_CLEAR: map 0 CORRECTED, 1 CONTAINED, 2 FATAL (R671, R702). -/
def execFclStickyClear (map : Fin 3) (value : Word) (s : State) : Host.Outcome State Fault Refusal :=
  .next (
    if !s.fclWritable then s
    else match map.val with
      | 0 => { s with fcl := { s.fcl with corr := clearOnes s.fcl.corr value.toNat 0 } }
      | 1 => { s with fcl := { s.fcl with cont := clearOnes s.fcl.cont value.toNat s.pendingMap } }
      | _ => s)

/-! ### Injection (R678, R703) -/

/-- MODE of a value written to FCL_INJ_CTL. -/
def injMode (w : Word) : Nat := bits w.toNat 31 28

/-- FCL_INJECT_REPORT: MODE 1 makes the report of FCL_INJ_TARGET; Crosshatch sources are left to XH_INJECT. -/
def execFclInjectReport (value : Word) (s : State) : Host.Outcome State Fault Refusal :=
  .next (
    let t := s.reg Reg.fclInjTarget
    let source := bits t 15 0
    if !s.fclWritable ∨ injMode value ≠ 1 ∨ unitOf source = uXh then s
    else s.fault source (bits t 31 24) noSpot none true (value.getLsbD 0))

/-- Arm an alteration of check bits; it replaces the one armed for its source. -/
def State.arm (s : State) (mode : Nat) (value : Word) : State :=
  let source := bits (s.reg Reg.fclInjTarget) 15 0
  if !s.fclWritable ∨ injMode value ≠ mode ∨ unitOf source = uXh ∨ !(instOk (unitOf source) (source % 256)) then s
  else { s with fcl := { s.fcl with armed := KMap.put source { mode := mode, mask := bits value.toNat 12 8, fatal := value.getLsbD 0 } s.fcl.armed } }

/-- FCL_INJECT_WRITE_CHECK: MODE 2. -/
def execFclInjectWriteCheck (value : Word) (s : State) : Host.Outcome State Fault Refusal := .next (s.arm 2 value)

/-- FCL_INJECT_READ_CHECK: MODE 3. -/
def execFclInjectReadCheck (value : Word) (s : State) : Host.Outcome State Fault Refusal := .next (s.arm 3 value)

/-! ### Scrubs (R685, R686) -/

/-- An activity is in progress: on patrol, or started and running; none while the device is out of service (R695, R698). -/
def State.actRuns (s : State) (a : Nat) : Bool := decide (s.glb.dev = .ready) && decide ((s.act a).mstate = 1)

/-- A started pass ends; a patrol goes on. -/
def State.passEnds (s : State) (a : Nat) : State := if (s.act a).started then s.endAct a 0 else s

/-- Injections into reads that are armed meet the scrub's reads (R678): every source but the HBM's. -/
def State.scrubArmed (s : State) : State :=
  (s.fcl.armed.filter (fun p => decide (p.2.mode = 3) && decide (unitOf p.1 ≠ uVdt))).foldl (fun t p =>
    let c := syndromeCause (maskSyndrome p.2.mask)
    if c = 0 then { t with fcl := { t.fcl with armed := KMap.del p.1 t.fcl.armed } }
    else t.memFault p.1 c { noSpot with syndrome := BitVec.ofNat 5 (maskSyndrome p.2.mask) } none true) s

/-- SCRUB_SRAM: every on-die row is read; its errors are handled as demand errors. -/
def execScrubSram (found : List RowError) (s : State) : Host.Outcome State Fault Refusal :=
  .next (
    if !(s.actRuns 1) then s
    else
      let s1 := found.foldl (fun t e => t.memFault e.source.toNat (syndromeCause e.spot.syndrome.toNat) e.spot none true) s.scrubArmed
      s1.passEnds 1)

/-- SCRUB_HBM: every line is read; a line of a session entry that fails also gives the Carriageway's report (R388). -/
def execScrubHbm (found : List LineError) (s : State) : Host.Outcome State Fault Refusal :=
  .next (
    if !(s.actRuns 2) then s
    else
      let s1 := found.foldl (fun t e =>
        let spot := { noSpot with place := e.place, addr := e.addr, item := e.item }
        let t1 := t.memFault (src uVdt e.channel.val) 9 { spot with place := if e.place = .sessionEntry then .unit else e.place } none true
        if e.place = .sessionEntry then t1.memFault (src uCwy 0) 9 spot none true else t1) s
      s1.passEnds 2)

/-! ### Health sweep (R693) -/

/-- Bit of HEALTH_SWEEP's argument for a unit (R696). -/
def sweepBit (u : Nat) : Nat := if u = uBurin then 0 else if u = uGraver then 1 else if u = uLane then 2 else if u = uDrf then 3 else if u = uDge then 4 else 5

/-- The unit takes part in the sweep: on duty, and its class is not stopped. -/
def State.swept (s : State) (u i : Nat) : Bool :=
  let w := s.reg Reg.fclSweepCtl
  let x := s.act 3
  let asked := !x.started || decide (x.arg = 0) || x.arg.testBit (sweepBit u)
  let on := x.started || (if u = uBurin then decide (bits w 31 16 ≠ 0) else decide (bits w 15 0 ≠ 0))
  asked && on &&
    (if u = uBurin then decide (i < 72) && (s.pier (i / 9)).onDuty.testBit (i % 9) else if u = uGraver then s.grv.onDuty.testBit i
     else if u = uLane then s.lne.onDuty.testBit i else if u = uDrf then s.drf.onDuty.testBit i
     else if u = uDge then decide (8 ≤ i ∧ i < 12) && !(s.dge.retired.testBit (i - 8)) else decide (u = uEnt) && decide (i = 2 ∨ i = 3))

/-- A shadow job's mismatch: CAUSE 0x06, for ENT 0x07. -/
def State.sweepFails (s : State) (source : Nat) : State :=
  s.fault source (if unitOf source = uEnt then 7 else 6) noSpot none false false

/-- Targeted known-answer jobs (R195, R341): a report is acknowledged when all of its units pass. -/
def State.settleTargeted (s : State) (failed : List Nat) : State :=
  let l := s.fcl.targeted
  let s1 := l.foldl (fun t p => if p.2.any failed.contains then t else t.ackSeq p.1) { s with fcl := { s.fcl with targeted := [] } }
  let bad := failed.filter (fun x => l.any (fun p => p.2.contains x))
  bad.foldl State.sweepFails s1

/-- HEALTH_SWEEP: a period's shadow jobs, and the targeted jobs that are due. -/
def execHealthSweep (failed : List (BitVec 16)) (s : State) : Host.Outcome State Fault Refusal :=
  .next (
    if s.glb.dev ≠ .ready then s
    else
      let l := failed.map BitVec.toNat
      let s1 := s.settleTargeted l
      if !(s1.actRuns 3) then s1
      else
        let hit := l.filter (fun x => s.swept (unitOf x) (x % 256) && !(s.fcl.targeted.any (fun p => p.2.contains x)))
        (hit.foldl State.sweepFails s1).passEnds 3)

/-! ### The repair map (R689 to R691) -/

/-- Offset of slot `k` in copy `c` (R689). -/
def slotAt (c k : Nat) : Nat := 0x200 * (c + 1) + 4 * k

/-- A slot word as it stands in a copy. -/
def State.slotWord (s : State) (c k : Nat) : Nat := rd (s.otpBytes (slotAt c k) 4) 0 4

/-- A free slot: all three words 0 (R690). -/
def State.slotFree (s : State) (k : Nat) : Bool := ([0, 1, 2] : List Nat).all (fun c => decide (s.slotWord c k = 0))

def State.freeSlots (s : State) : List Nat := (List.range 128).filter s.slotFree

/-- Burn the bits of a word into a copy of a slot. -/
def State.burnSlot (s : State) (c k w : Nat) : State :=
  (List.range 4).foldl (fun t i => t.setOtp (slotAt c k + i) (t.otp (slotAt c k + i) ||| BitVec.ofNat 8 (w / 256 ^ i))) s

/-- The retirement that REPAIR_COMMIT writes next. -/
def State.nextCommit (s : State) : Option Nat :=
  let arg := (s.act 4).arg
  s.fcl.uncommitted.find? (fun w => decide (arg = 0 ∨ arg = w))

/-- REPAIR_COMMIT: one entry into the lowest free slot, copy by copy. A byte that fails in every copy ends the activity with the repair
map's own report, some subset of the word's bits left in each copy (R607, R669). -/
def execRepairCommit (burned : Bool) (s : State) : Host.Outcome State Fault Refusal :=
  .next (
    if !(s.startedRuns 4) ∨ s.glb.dev ≠ .ready then s
    else match s.nextCommit, s.freeSlots with
      | some w, k :: _ =>
        if burned then
          let s1 := ([0, 1, 2] : List Nat).foldl (fun t c => t.burnSlot c k w) s
          let s2 : State := { s1 with fcl := { s1.fcl with slots := KMap.put k w s1.fcl.slots, uncommitted := s1.fcl.uncommitted.filter (fun x => decide (x ≠ w)) } }
          if s2.nextCommit.isNone ∨ s2.freeSlots.isEmpty then s2.endAct 4 0 else s2
        else
          let s1 := ([0, 1, 2] : List Nat).foldl (fun t c => (t.burnSlot c k (w &&& t.freeVal)).nextFree) s
          (s1.reportAs (s1.reportOf uMap k 0x0D .contained)).endAct 4 St.faultContained
      | _, _ => s.endAct 4 0)

/-! ### The shelf and Crosshatch (R468, R659 to R661) -/

/-- CAISSON_COMPACT. -/
def execCaissonCompact (s : State) : Host.Outcome State Fault Refusal :=
  .next (if s.startedRuns 5 ∧ s.glb.dev = .ready then (s.compactShelf).endAct 5 0 else s)

/-- The result of the detector tests (R661): each failed detector is counted and reported; a source left without a detector has fired. -/
def State.xhTested (s : State) (failed : List (Byte × Detector)) : State :=
  let l := (failed.filter (fun p => (xhSource p.1.toNat).isSome && decide (p.1.toNat ≠ 0x3E ∧ p.1.toNat ≠ 0x3F))).eraseDups
  let s1 := l.foldl (fun t p => (t.bump Reg.xhSelftestFail).reportAs (t.reportOf uXh p.1.toNat 0x07 .contained)) s
  let gone := ((l.map (·.1)).eraseDups).filter (fun i => onIsland i.toNat || (l.contains (i, .a) && l.contains (i, .b)))
  gone.foldl (fun t i => t.treatFired i.toNat) s1

/-- A SELFTEST_RUN that waits for XH_SELFTEST has its outcome (R146). -/
def State.selftestDone (s : State) (j : Nat) (bad : Bool) : State :=
  let fix (r : Result) : Result :=
    let f := rd r.payload 4 4 + bitAt 3 bad
    { r with detail := f, payload := r.payload.take 4 ++ leBytes 4 f ++ r.payload.drop 8,
             effects := if f ≠ 0 ∧ r.effects.isEmpty then [.after (.falsework 8)] else r.effects }
  (s.modJob j (fun x => { x with result := fix x.result })).popNeed j .safePoint

/-- XH_SELFTEST. -/
def execXhSelftest (failed : List (Byte × Detector)) (s : State) : Host.Outcome State Fault Refusal :=
  .next (
    if !(s.startedRuns 6) ∨ (s.glb.dev ≠ .ready ∧ s.glb.dev ≠ .falsework) then s
    else
      let asker := (s.act 6).job
      let s1 := s.endAct 6 0
      let s2 := match asker with | some j => s1.selftestDone j (!failed.isEmpty) | none => s1
      s2.xhTested failed)

end Sys2Proof.Machine
end

