-- ==== Sys2Proof/Machine/Lcs.lean ====
section
/-! DEFINITION. Meanings of the life-cycle commands: group 0x09, OTP burns, the test port (R147 to R150, R603 to R632). -/

namespace Sys2Proof.Machine

open Sys2Proof

/-- STATE with the device-state code of R65. -/
def State.stateFail (s : State) : Result := failWith St.state s.glb.dev.code

/-! ### Group 0x09 -/

/-- The output of LCS_QUERY (R147). -/
def State.lcsRecord (s : State) : Bytes :=
  let burning : Bool := match s.lcs.burn with | some b => !b.draining | none => false
  s.lcs.code ++ [BitVec.ofNat 8 s.lcs.shown.code, if burning then 1 else 0, BitVec.ofNat 8 s.debugCode] ++ s.unitId ++ zeros 24

/-- LCS_QUERY (R147, R630). -/
def execLcsQuery (j : Nat) (s : State) : Host.Outcome State Fault Refusal := .next (s.runJob j 0x0901 (fun t _ => (t, okWith 0 t.lcsRecord, [])))

/-- Give a job its outcome, or its wait for the burn, and start the burn. -/
def State.askBurn (s : State) (j : Nat) (det : Nat) (l : LState) (code : Bytes) (steps : List BurnStep) : State :=
  let e : List Effect := if l = .restrike then [.after .restruck] else if l = .cancelled then [.after .cancelled] else []
  (s.finishJob j (okEff det [] e) [.burn]).startBurn l code steps (.job j)

/-- LCS_REQUEST (R148, R617, R618): a transition waits for one that runs (R630); both decision units accept it (R650). -/
def execLcsRequest (j : Nat) (agree : Bool) (s : State) : Host.Outcome State Fault Refusal :=
  .next (match s.startable j 0x0902 with
    | none => s
    | some x =>
      if s.lcs.burn.isSome then s
      else if !agree then s.splitDecision [] 0
      else match s.planBurn (leBytes 5 (dP0 x.desc)) with
        | none => s.finishJob j s.stateFail []
        | some (l, code, steps) => s.askBurn j 0 l code steps)

/-- LCS_CHALLENGE (R149, R622). -/
def execLcsChallenge (j : Nat) (s : State) : Host.Outcome State Fault Refusal :=
  .next (match s.startable j 0x0903 with
    | none => s
    | some _ =>
      if s.lcs.burn.isSome then s
      else if s.lcs.lstate = .proof ∨ s.lcs.lstate = .edition ∨ s.lcs.lstate = .restrike then
        let c := drawBytes s.draws 32
        ({ s with lcs := { s.lcs with challenge := some c } }).nextDraw.finishJob j (okWith 0 (c ++ s.unitId)) []
      else s.finishJob j s.stateFail [])

/-- The fixed bytes of a crossing permit (R620, check 1 of R623). -/
def permitForm (p : Bytes) (kind : Nat) : Bool :=
  decide (rd p 0 4 = 0x544D5250) && decide (rd p 4 2 = 1) && decide (rd p 6 1 = kind) && decide (rd p 7 1 = 0) &&
    decide (rd p 29 3 = 0) && decide (rd p 37 3 = 0) && decide (rd p 72 8 = 0)

/-- The public keys that sign a permit (R621): the vendor's in ROM, or the owner anchors; none when they are not loaded. -/
def State.permitKeys (s : State) (kind : Nat) : Option (List Bytes) :=
  if kind = 2 then
    (match KMap.get 4 s.csn.keys, KMap.get 5 s.csn.keys with
    | some a, some b => some [a.pub, b.pub]
    | _, _ => none)
  else some [(List.range 2592).map (Config.vendorByte 1), (List.range 97).map (Config.vendorByte 2)]

/-- Both signatures of a permit verify (check 5 of R623). -/
def State.permitSigned (s : State) (p : Bytes) (kind : Nat) : Bool :=
  match s.permitKeys kind with
  | some k => Config.stdCheck .permit kind (p.take 80 :: slice p 80 4627 :: slice p 4707 96 :: k)
  | none => false

/-- The checks of R623 against the challenge that the permit finds outstanding: the first failure. -/
def State.permitFails (s : State) (p : Bytes) (kind : Nat) (challenge : Option Bytes) (quorum : Bool) : Option (Nat × Nat) :=
  let target := if kind = 3 then s.lcs.code else restrikeCode s.lcs.code
  if !(permitForm p kind) then some (St.badEncoding, 0)
  else if slice p 8 16 ≠ s.unitId then some (St.permitInvalid, 1)
  else if challenge ≠ some (slice p 40 32) then some (St.permitInvalid, 2)
  else if slice p 24 5 ≠ s.lcs.code ∨ slice p 32 5 ≠ target then some (St.permitInvalid, 3)
  else if !(s.permitSigned p kind) then some (St.permitInvalid, 4)
  else if kind = 2 ∧ !quorum then some (St.quorum, 0)
  else none

/-- An accepted debug unlock (R626). -/
def State.openDebug (s : State) : State :=
  if s.debugCode = 2 then s else ({ s.zeroiseKeys with lcs := { s.zeroiseKeys.lcs with debugOpen := true } }).settlePower

/-- An accepted permit of a RESTRIKE half, or of debug unlock (R624, R626). -/
def State.acceptPermit (s : State) (j kind : Nat) : State :=
  if kind = 3 then s.openDebug.finishJob j (okWith 3 []) []
  else if s.lcs.half = 0 ∨ s.lcs.half = kind then
    ({ s with lcs := { s.lcs with half := kind } }).finishJob j (okWith 1 []) []
  else if s.freeIntents.isEmpty then s.finishJob j s.stateFail []
  else s.askBurn j 2 .restrike (restrikeCode s.lcs.code) s.restrikeSteps

/-- LCS_PERMIT (R150, R620 to R626): the challenge is consumed whatever the outcome (R622). -/
def execLcsPermit (j : Nat) (agree : Bool) (s : State) : Host.Outcome State Fault Refusal :=
  .next (match s.startable j 0x0904 with
    | none => s
    | some x =>
      if s.lcs.burn.isSome then s
      else
        let kind := bits (dP0 x.desc) 7 0
        let s1 : State := { s with lcs := { s.lcs with challenge := none } }
        if !agree then s1.splitDecision [] 0
        else match s1.permitFails x.input kind s.lcs.challenge (x.quorum.testBit 10) with
          | some (st, det) => (s1.finishJob j (failWith st det) []).bump Reg.lcsPermitFail
          | none => s1.acceptPermit j kind)

/-! ### Burns and limits -/

/-- OTP_BYTE_BURN (R607, R613, R619, R625): the front byte of the transition under way, once its drain has ended. -/
def execOtpByteBurn (readBack second : Byte) (s : State) : Host.Outcome State Fault Refusal :=
  .next (match s.lcs.burn with
    | none => s
    | some b =>
      if b.draining && !s.drainedJobs.isEmpty then s
      else
        let a := s.runActions b.steps
        match a.2 with
        | .byte at_ v :: r => (a.1.burnByte at_ v readBack second).goOn b r
        | l => a.1.goOn b l)

/-- CHALLENGE_EXPIRY: 600 s have passed (R622). -/
def execChallengeExpiry (s : State) : Host.Outcome State Fault Refusal :=
  .next { s with lcs := { s.lcs with challenge := none } }

/-- RESTRIKE_HALF_EXPIRY: 900 s have passed (R624). -/
def execRestrikeHalfExpiry (s : State) : Host.Outcome State Fault Refusal :=
  .next { s with lcs := { s.lcs with half := 0 } }

/-- LCS_DRAIN_TIMEOUT: 10 ms have passed; the jobs still running end with FUNCTION_DISABLED under R68 (R625). -/
def execLcsDrainTimeout (s : State) : Host.Outcome State Fault Refusal :=
  .next (match s.lcs.burn with
    | none => s
    | some b =>
      if b.draining then
        let s1 := s.drainedJobs.foldl (fun t k => t.requestAbort k St.functionDisabled) s
        let s2 : State := { s1 with lcs := { s1.lcs with burn := s1.lcs.burn.map (fun b => { b with draining := false }) } }
        s2.settlePower
      else s)

/-! ### The test port (R604, R617, R627 to R632) -/

/-- The test port decodes instructions: the main part runs, and no burn or ROM decode holds it in reset (R604). -/
def State.testPortUp (s : State) : Bool :=
  decide (s.glb.dev ≠ .off ∧ s.glb.dev ≠ .islandOnly ∧ s.glb.dev ≠ .reset) && decide (s.debugCode ≠ 0)

/-- BLANK and TRIAL. -/
def State.testOpen (s : State) : Bool := decide (s.lcs.shown = .blank ∨ s.lcs.shown = .trial)

/-- Load an instruction; one that is not decoded acts as BYPASS (R627). -/
def State.loadIr (s : State) (code : Byte) (decoded : Bool) : State :=
  { s with lcs := { s.lcs with ir := if decoded then code else 0xFF } }

/-- LCS_REQ_CONFIRM (R617, R618, R630, R632). -/
def execLcsReqConfirm (value : Word) (agree : Bool) (s : State) : Host.Outcome State Fault Refusal :=
  .next (
    if !s.testOpen || !(decide (s.glb.dev ≠ .off ∧ s.glb.dev ≠ .islandOnly ∧ s.glb.dev ≠ .reset ∧ s.glb.dev ≠ .romBoot)) then s
    else if s.lcs.burn.isSome then { s with lcs := { s.lcs with reqResult := 4 } }
    else if value ≠ ~~~(BitVec.ofNat 32 (rd s.lcs.reqTarget 0 4)) then { s with lcs := { s.lcs with reqResult := 1 } }
    else if !agree then s.splitDecision [] 0
    else match s.planBurn s.lcs.reqTarget with
      | none => { s with lcs := { s.lcs with reqResult := 2 } }
      | some (l, code, steps) => s.startBurn l code steps .testPort)

/-- EXTEST: in PROOF, EDITION and RESTRIKE Crosshatch answers with HALT before any pin is driven (R627, R628). -/
def execExtest (s : State) : Host.Outcome State Fault Refusal :=
  .next (
    if !s.testPortUp then s
    else
      let s1 := s.loadIr 0x00 true
      if s.lcs.shown = .proof ∨ s.lcs.shown = .edition ∨ s.lcs.shown = .restrike then
        s1.xhEvent { source := 0x3E, detA := false, detB := false, injected := false }
      else s1)

/-- IDCODE reads 0x1644_092F (R627). -/
def execIdcode (s : State) : Host.Outcome State Fault Refusal :=
  .next (if s.testPortUp then (s.loadIr 0x01 true).emit (.testPort (leBytes 4 0x1644092F)) else s)

/-- SAMPLE/PRELOAD (R627). -/
def execSamplePreload (s : State) : Host.Outcome State Fault Refusal :=
  .next (if s.testPortUp then s.loadIr 0x02 true else s)

/-- BYPASS (R627). -/
def execBypass (s : State) : Host.Outcome State Fault Refusal :=
  .next (if s.testPortUp then s.loadIr 0xFF true else s)

/-- Vendor OTP programming (R627, R629): in BLANK and TRIAL, outside the state copies, the intent slots and the reserved half. -/
def execVendorOtpProgramming (addr : Nat) (value : Byte) (s : State) : Host.Outcome State Fault Refusal :=
  .next (
    if !s.testPortUp then s
    else
      let s1 := s.loadIr 0x80 s.testOpen
      if s.testOpen ∧ 0x60 ≤ addr ∧ addr < 0x800 then (s1.setOtp addr (s1.otp addr ||| value)).bump Reg.tolPdSwitch 2 else s1)

end Sys2Proof.Machine
end

