-- ==== Sys2Proof/Machine/Summary.lean ====
section
/-! DEFINITION. Records that the host reads: the repair summary, the fault log, the alarm log, the state of maintenance activities
(R143, R145, R655, R673, R692). -/

namespace Sys2Proof.Machine

open Sys2Proof

/-- SPAN_SPARE_USED (R692). -/
def State.spanSpare (s : State) : Nat := bitAt 0 s.spn.spareUsed

/-- The repair summary (R692). -/
def State.repairSummary (s : State) : Bytes :=
  let f := s.fcl
  let pending := f.uncommitted.take 128
  let ppr := (f.slots.filter (fun p => decide (p.2 / 2 ^ 28 = 7))).length
  leBytes 2 1 ++ leBytes 1 f.slots.length ++ leBytes 1 s.freeSlots.length ++ leBytes 1 f.ignored.length ++ leBytes 1 pending.length ++
    leBytes 1 s.burinsOnDuty ++ leBytes 1 s.graversOnDuty ++ leBytes 1 (popCount 8 s.lne.onDuty) ++ leBytes 1 (popCount 10 s.drf.onDuty) ++
    leBytes 1 s.spanSpare ++ zeros 1 ++ leBytes 4 f.rowsSpared ++ leBytes 4 f.pages.length ++ leBytes 4 ppr ++
    ((List.range 8).map (fun p => leBytes 2 (s.pier p).onDuty)).flatten ++ leBytes 4 s.grv.onDuty ++ leBytes 1 s.lne.onDuty ++ zeros 1 ++
    leBytes 2 s.drf.onDuty ++ zeros 16 ++ (f.slots.map (fun p => leBytes 4 p.2)).flatten ++ (pending.map (leBytes 4)).flatten

/-- Code of a class (R673). -/
def FaultClass.code : FaultClass → Nat
  | .corrected => 0 | .contained => 1 | .fatal => 2

/-- The 32 B of a fault-log entry (R673). -/
def LogEntry.bytes (e : LogEntry) : Bytes :=
  leBytes 4 e.seq ++ leBytes 2 e.source ++ leBytes 1 e.cause ++ leBytes 1 (e.cls.code + bitAt 2 e.injected + bitAt 3 e.acked + bitAt 4 e.escalated) ++
    leBytes 8 e.stamp ++ leBytes 8 e.addr ++ leBytes 2 e.syndrome ++ leBytes 2 e.vi ++ leBytes 4 e.tag

/-- The entry at a place of the ring of 1,024; zeros where nothing is logged. -/
def State.logBytes (s : State) (i : Nat) : Bytes := ((KMap.get i s.fcl.log).map LogEntry.bytes).getD (zeros 32)

/-- The fault log as its window holds it. -/
def State.faultLog (s : State) : Bytes := ((List.range 1024).map s.logBytes).flatten

/-- The alarm log of the island: 64 entries of 16 B (R655). -/
def State.alarmLogBytes (s : State) : Bytes := ((List.range 64).map (fun i => padTo 16 ((KMap.get i s.island.log).getD []))).flatten

/-- The 16 B record of an activity (R143). -/
def State.actRecord (s : State) (a : Nat) : Bytes :=
  let x := s.act a
  leBytes 1 a ++ leBytes 1 x.mstate ++ leBytes 2 x.progress ++ leBytes 4 x.run ++ leBytes 2 x.result ++ zeros 6

end Sys2Proof.Machine
end

