-- ==== Sys2Proof/Machine/CardOps.lean ====
section
/-! DEFINITION. The custody card: transfers, superblocks, records and the live view, export and restore (R743 to R760). -/

namespace Sys2Proof.Machine

open Sys2Proof

/-! ### Units and superblocks (R749 to R752) -/

/-- LBA count rounded down to a multiple of 8. -/
def State.areaEnd (s : State) : Nat := s.cus.lbas / 8 * 8

/-- The unit after the one at `lba`: LBA 2064 follows the last one of the area (R753). -/
def nextUnit (end_ lba : Nat) : Nat := if lba + 16 ≤ end_ then lba + 8 else 2064

/-- Where a unit is written that would stand at `lba` (R753). -/
def wrapUnit (end_ lba : Nat) : Nat := if lba + 8 ≤ end_ then lba else 2064

/-- `n` units from `lba` on. -/
def unitRun (end_ : Nat) : Nat → Nat → List Nat
  | 0, _ => []
  | n + 1, lba => lba :: unitRun end_ n (nextUnit end_ lba)

/-- The archive MAC of some bytes under an archive key (R752). -/
def archiveMac (key x : Bytes) : Bytes := kmac256 (kmac256 key [] (ascii "STQ6440 ARCHIVE MAC") 32) x [] 16

/-- Fields of a superblock (R750). -/
def sbSeq (b : Bytes) : Nat := rd b 8 8
def sbSnap (b : Bytes) : Nat := rd b 92 4
def sbUnits (b : Bytes) : Nat := rd b 96 4
def sbNext (b : Bytes) : Nat := rd b 100 4
def sbHigh (b : Bytes) : Nat := rd b 104 8

/-- MAGIC, VERSION and CRC of a superblock are correct. -/
def sbForm (b : Bytes) : Bool := decide (rd b 0 4 = 0x42535153) && decide (rd b 4 2 = 1) && decide (rd b 236 4 = crc32c (b.take 236))

/-- A superblock under an archive key, as this unit writes it. -/
def State.superblock (s : State) (key : Bytes) (seq snap units next high version : Nat) : Bytes :=
  let head := leBytes 4 0x42535153 ++ leBytes 2 1 ++ zeros 2 ++ leBytes 8 seq ++ s.unitId ++ padTo 48 (s.anchorDigest.getD []) ++ kcvOf key ++
    leBytes 4 s.areaEnd ++ leBytes 4 snap ++ leBytes 4 units ++ leBytes 4 next ++ leBytes 8 high ++ leBytes 8 version ++ zeros 116
  let b := head ++ leBytes 4 (crc32c head)
  b ++ archiveMac key b

/-- The owner archive key that this device holds. -/
def State.archiveKey (s : State) : Option Bytes := (s.key 6).map (·.value)

/-- A superblock passes: its form and, when the device holds the archive key that it names, its MAC (R754). -/
def State.sbPasses (s : State) (b : Bytes) : Bool :=
  sbForm b && (match s.archiveKey with
    | some k => decide (kcvOf k ≠ slice b 80 8) || decide (slice b 240 16 = archiveMac k (b.take 240))
    | none => true)

/-- The ruling superblock of two, and whether it is B (R754). -/
def State.judge (s : State) (a b : Bytes) : Option (Bytes × Bool) :=
  let best := if sbForm b && (!(sbForm a) || decide (sbSeq a < sbSeq b)) then [(b, true), (a, false)] else [(a, false), (b, true)]
  best.find? (fun p => s.sbPasses p.1)

/-- The ruling superblock is `r`, and the archive valid when it is this owner's. -/
def State.setRuling (s : State) (r : Option (Bytes × Bool)) : State :=
  let own : Bool := match r with | some (b, _) => s.anchorDigest.isSome && decide (slice b 32 48 = s.anchorDigest.getD []) | none => false
  { s with cus := { s.cus with ruling := r.map (·.1), slotB := (r.map (·.2)).getD false, valid := own } }

/-! ### Records (R751) -/

/-- Parts of a payload, 4,032 B each. -/
def payloadParts : Nat → Bytes → List Bytes
  | 0, _ => []
  | fuel + 1, b => if b.length ≤ 4032 then [b] else b.take 4032 :: payloadParts fuel (b.drop 4032)

def partsOf (b : Bytes) : List Bytes := payloadParts (b.length / 4032 + 1) b

/-- One unit of a record. -/
def archiveUnit (key : Bytes) (typ seq snap part parts total : Nat) (b : Bytes) : Bytes :=
  let u := leBytes 4 0x44435253 ++ leBytes 2 1 ++ leBytes 1 typ ++ zeros 1 ++ leBytes 8 seq ++ leBytes 8 snap ++ leBytes 2 part ++ leBytes 2 parts ++
    leBytes 4 b.length ++ leBytes 4 total ++ zeros 12 ++ padTo 4032 b
  u ++ archiveMac key u

/-- The units of some records, of consecutive SEQ from `seq`. -/
def recordUnits (key : Bytes) (snap : Nat) : Nat → List (Nat × Bytes) → List Bytes
  | _, [] => []
  | seq, (typ, b) :: r =>
    let ps := partsOf b
    ((List.range ps.length).zip ps).map (fun p => archiveUnit key typ (seq + p.1) snap p.1 ps.length b.length p.2) ++ recordUnits key snap (seq + ps.length) r

/-- Units that some records take. -/
def unitCount (l : List (Nat × Bytes)) : Nat := l.foldl (fun n p => n + (partsOf p.2).length) 0

/-! ### The card's operation (R745 to R748, R755) -/

/-- The operation that holds the card: its job runs, or the activity does (R748). -/
def State.cardOp (s : State) : Option CardOp :=
  s.cus.op.bind (fun o =>
    let live (j : Nat) : Bool := (s.job j).any (fun x => decide (x.stage = .running ∨ x.stage = .waiting))
    match o.use with
    | .auto => some o
    | .scan j => if live j then some o else none
    | .restore j => if live j then some o else none
    | .export_ => if s.startedRuns 7 then some o else none)

def State.setOp (s : State) (o : Option CardOp) : State := { s with cus := { s.cus with op := o } }

def CardOp.start (use : CardUse) (todo : List SdXfer) : CardOp :=
  { use := use, todo := todo, tries := 0, got := [], commit := none, moved := [], key := [], adopt := false, slots := [], shares := [], total := todo.length }

/-- The command of the front transfer: CMD18 or CMD25 (R746). -/
def State.sendXfer (s : State) (o : CardOp) : State :=
  match o.todo with
  | .read a :: _ => s.emit (.sdCommand 18 a [])
  | .write a d :: _ => s.emit (.sdCommand 25 a d)
  | [] => s

/-- An operation takes the card and sends its first command. -/
def State.beginOp (s : State) (o : CardOp) : State := (s.setOp (some o)).sendXfer o

/-- The ranges that an export moved are the keys' again (R755). -/
def State.moveRange (s : State) (h stop : Nat) : State :=
  match KMap.get h s.csn.keys with
  | some k =>
    (match k.stateful with
    | some t =>
      let s1 := (s.leaseRecord 2 h k.kgen t.rangeStart stop 0).raiseLeaseSeq
      let s2 := s1.modStateful h (fun x => { x with rangeEnd := stop })
      if s.mirrors k.attr then s2.mirrorOnly [.ownRange (BitVec.ofNat 32 h) t.rangeStart stop] else s2
    | none => s)
  | none => s

/-- An operation ends without its outcome: nothing inside the device has changed (R755). -/
def State.dropOp (s : State) (o : CardOp) : State := (o.moved.foldl (fun t p => t.moveRange p.1 p.2) s).setOp none

/-- An operation ends with a failing status. -/
def State.failOp (s : State) (o : CardOp) (st det : Nat) : State :=
  let s1 := s.dropOp o
  match o.use with
  | .auto => s1
  | .scan j => s1.finishJob j (failWith st det) []
  | .restore j => s1.finishJob j (failWith st det) []
  | .export_ => s1.endAct 7 st

/-- An operation ends with CARD_REMOVED (R747). -/
def State.opRemoved (s : State) (o : CardOp) : State := (s.bump (Reg.cus 0x108)).failOp o St.cardRemoved 0

/-! ### Export (R253, R756) -/

/-- The value that an archive record of a key carries, and the record (R751). -/
def State.archiveRec (s : State) (key : Bytes) (k : KeyRec) : Bytes := wrapKw key 2 k.alg k.attr k.kgen s.unitId k.carried

/-- The keys that an export writes. -/
def State.exportKeys (s : State) : KMap KeyRec :=
  s.csn.keys.filter (fun p => Alg.aPersistent p.2.attr && decide (2 ≤ Alg.aExport p.2.attr) && !(isFixed p.1) && !p.2.destroying)

/-- The payload of a key's record: with a range and a treetop record for a stateful one. -/
def State.keyPayload (s : State) (key : Bytes) (k : KeyRec) : Nat × Bytes :=
  match k.stateful with
  | none => (1, s.archiveRec key k)
  | some t => (2, s.archiveRec key k ++ leBytes 8 (splitAt t.leaseStart t.rangeEnd) ++ leBytes 8 t.rangeEnd ++ treetop k)

/-- The AUDIT payload. -/
def State.auditPayload (s : State) : Bytes :=
  ([s.faultLog, s.alarmLogBytes, s.lcsRecord, s.repairSummary].map (fun b => leBytes 4 b.length ++ b)).flatten

/-- The records of a snapshot, by the argument of the activity (R756). -/
def State.snapshot (s : State) (key : Bytes) (arg : Nat) : List (Nat × Bytes) :=
  let m := if arg = 0 then 3 else arg
  (if m.testBit 0 then s.exportKeys.map (fun p => s.keyPayload key p.2) else []) ++ (if m.testBit 1 then [(3, s.auditPayload)] else []) ++
    (if m.testBit 2 && s.imageVerifies (s.slotOf s.inactive) then [(4, s.slotOf s.inactive)] else [])

/-- Units of the area outside the live snapshot, from NEXT_LBA on. -/
def State.freeUnits (s : State) : Nat :=
  let all := (s.areaEnd - 2064) / 8
  match s.cus.ruling with
  | none => all
  | some b =>
    let a := sbSnap b
    let e := wrapUnit s.areaEnd (sbNext b)
    let used := if sbUnits b = 0 then 0 else if e ≤ a then all - (a - e) / 8 else (e - a) / 8
    all - used

/-- Where the next units go, and the next SEQ and SB_SEQ (R753, R754). -/
def State.writePoint (s : State) : Nat × Nat × Nat :=
  match s.cus.ruling with
  | none => (2064, 1, 1)
  | some b => (wrapUnit s.areaEnd (sbNext b), sbHigh b + 1, sbSeq b + 1)

/-- LBA of the slot that takes the next superblock: A on a blank card (R754). -/
def State.sbSlot (s : State) : Nat := if s.cus.ruling.isSome && !s.cus.slotB then 2056 else 2048

/-- The writes that commit some units, and the superblock: a new snapshot, or records after the present one (R753). -/
def State.commitWrites (s : State) (key : Bytes) (units : List Bytes) (snapshot : Bool) : List SdXfer × Bytes :=
  let p := s.writePoint
  let n := units.length
  let lbas := unitRun s.areaEnd n p.1
  let next := (unitRun s.areaEnd (n + 1) p.1).getLastD p.1
  let r := s.cus.ruling.getD []
  let sb := if snapshot then s.superblock key p.2.2 p.1 n next (p.2.1 + n - 1) s.csn.shelfVersion
    else s.superblock key p.2.2 (sbSnap r) (sbUnits r) next (sbHigh r + n) (rd r 112 8)
  ((lbas.zip units).map (fun q => .write q.1 q.2) ++ [.write s.sbSlot (padTo 4096 sb)], sb)

/-- ARCHIVE_EXPORT takes its snapshot: the upper parts of stateful ranges move to the archive first, and the writes begin. -/
def State.beginExport (s : State) (key : Bytes) (arg : Nat) : State :=
  let p := s.writePoint
  let units := recordUnits key p.2.2 p.2.1 (s.snapshot key arg)
  let keys := if (if arg = 0 then 3 else arg).testBit 0 then s.exportKeys else []
  let ranges := keys.filterMap (fun q => q.2.stateful.map (fun t => (q.1, t.rangeEnd, splitAt t.leaseStart t.rangeEnd)))
  let w := s.commitWrites key units true
  let s1 := ranges.foldl (fun t q => t.moveRange q.1 q.2.2) s
  s1.beginOp { CardOp.start .export_ w.1 with commit := some w.2, moved := ranges.map (fun q => (q.1, q.2.1)) }

/-! ### The live view (R754) -/

/-- LBAs of the live view. -/
def State.viewLbas (s : State) : List Nat :=
  match s.cus.ruling with
  | none => []
  | some b =>
    let all := (s.areaEnd - 2064) / 8
    let n := if sbUnits b = 0 then 0 else all - s.freeUnits
    unitRun s.areaEnd n (wrapUnit s.areaEnd (sbSnap b))

/-- Units that belong to the view: SEQ at most HIGH_SEQ, and the MAC verifies. -/
def viewUnits (key sb : Bytes) (got : List (Nat × Bytes)) : List Bytes :=
  (got.map (·.2)).filter (fun u => decide (rd u 8 8 ≤ sbHigh sb) && decide (slice u 4080 16 = archiveMac key (u.take 4080)))

/-- A record of the view: TYPE, SEQ of its first unit, payload. -/
structure ArchRec where
  typ : Nat
  seq : Nat
  body : Bytes
  deriving DecidableEq, Repr

/-- The records that begin in some units, each with the consecutive parts that follow it. -/
def viewRecords : List Bytes → List ArchRec
  | [] => []
  | u :: r =>
    let n := rd u 26 2
    let parts := (List.range n).map (fun i => ((u :: r).find? (fun w => decide (rd w 8 8 = rd u 8 8 + i) && decide (rd w 24 2 = i))).getD [])
    let body := (parts.map (fun w => slice w 48 (Nat.min (rd w 28 4) 4032))).flatten
    if rd u 24 2 = 0 then { typ := rd u 6 1, seq := rd u 8 8, body := body.take (rd u 32 4) } :: viewRecords r else viewRecords r

/-- SEQs that CONSUMED records of the view name (R758). -/
def consumedSeqs (l : List ArchRec) : List Nat := (l.filter (fun a => decide (a.typ = 5))).map (fun a => rd a.body 0 8)

/-! ### Restore (R757, R758, R774) -/

/-- The handle that a record names: R751 and R459 give it no field, so it is the model's free value among those that may be allocated
(assumption log 53). -/
def recordHandle (rec : Bytes) : Nat :=
  let n := Config.archiveHandle rec
  let v := n / 2 ^ 24 % 256
  let lo := if v = 0 then 0x100 else 1
  v * 2 ^ 24 + lo + n % 2 ^ 24 % (0xFFFFFF - lo)

/-- The key of a KEY or STATEFUL payload; none when unwrapping or a check fails. -/
def State.archivedKey (s : State) (key : Bytes) (a : ArchRec) : Option KeyRec :=
  match recordKey 2 key (a.body.take (48 + rd a.body 44 4)) with
  | none => none
  | some k =>
    if a.typ = 1 then (if Alg.isStateful k.alg && k.isPrivate then none else some k)
    else if !(Alg.isStateful k.alg) then none
    else
      let r := a.body.drop (48 + rd a.body 44 4)
      some (withLease s.paired [(0, rd r 0 8, rd r 8 8, rd r 0 8)] 0 k)

/-- What a record's key meets at its handle: it is created, replaces a lower KGEN, or is skipped (R757). -/
def State.restoreAction (s : State) (h : Nat) (k : KeyRec) : Option Bool :=
  let v := (s.vi (h / 2 ^ 24)).state
  if v ≠ .running ∧ v ≠ .detached then none
  else match KMap.get h s.csn.keys with
    | none => some false
    | some old => if old.kgen < k.kgen then some true else none

/-- The quota that a further key exceeds (R524), with the keys that are restored before it. -/
def State.restoreQuota (s : State) (before : List (Nat × KeyRec)) (h : Nat) (k : KeyRec) : Option Nat :=
  let v := h / 2 ^ 24
  let q := (s.vi v).quota
  let l := (h, k) :: before.filter (fun p => decide (p.1 / 2 ^ 24 = v))
  let pages := l.foldl (fun n p => n + keyPages p.2) 0
  if q.handles < s.handlesUsed v + l.length then some 5
  else if q.pkMib * 16 < s.pkUsed v + l.foldl (fun n p => n + pkTiles p.2.alg) 0 then some 0xA
  else if q.shelfKib * 4 < s.shelfUsed v + pages ∨ s.shelfFree < pages then some 0xB
  else if k.stateful.isSome ∧ q.stateful < s.statefulUsed v + (l.filter (fun p => p.2.stateful.isSome)).length then some 0xC
  else none

/-- What a restore does: the keys in the order of their records, with the SEQ of STATEFUL ones, and the status that stops it. -/
structure RestoreList where
  keys : List (Nat × KeyRec × Bool × Option Nat)
  status : Nat
  detail : Nat
  deriving DecidableEq, Repr

/-- Go through the records to be restored up to the first that fails. -/
def State.restoreList (s : State) (key : Bytes) (consumed : List Nat) : List ArchRec → List (Nat × KeyRec × Bool × Option Nat) → RestoreList
  | [], acc => { keys := acc, status := 0, detail := 0 }
  | a :: r, acc =>
    if a.typ = 2 ∧ consumed.contains a.seq then s.restoreList key consumed r acc
    else match s.archivedKey key a with
      | none => { keys := acc, status := St.wrapInvalid, detail := 0 }
      | some k =>
        let h := recordHandle a.body
        let taken := acc.any (fun p => decide (p.1 = h) && decide (k.kgen ≤ p.2.1.kgen))
        match s.restoreAction h k with
        | none => s.restoreList key consumed r acc
        | some rep =>
          if taken then s.restoreList key consumed r acc
          else
            let created := (acc.filter (fun p => !p.2.2.1)).map (fun p => (p.1, p.2.1))
            match (if rep then none else s.restoreQuota created h k) with
            | some id => { keys := acc, status := St.quota, detail := id }
            | none => s.restoreList key consumed r (acc ++ [(h, k, rep, if a.typ = 2 then some a.seq else none)])

/-- The share that an officer receives of a split (R771). -/
def officerShare (key kcv coeffs : Bytes) (t seq i : Nat) : Bytes :=
  leBytes 1 (i + 1) ++ leBytes 1 t ++ leBytes 4 seq ++ kcv ++ stdOut .shareEval (i + 1) [key, coeffs] 32

/-- The owner archive key (R770). -/
def archiveRecord (value : Bytes) : KeyRec := newKey 0x0904 0 (BitVec.ofNat 32 (0x50000000 + 2 ^ 9)) oGenerated value [] true

/-- A split of an archive key among the officers of a policy: the effect that stores it. -/
def State.splitKey (s : State) (policy value : Bytes) (k : KeyRec) (isNew : Bool) (draw : Nat) : Effect :=
  let n := rd policy 2 1
  let t := rd policy 11 1
  let seq := s.cus.splitSeq + 1
  let coeffs := drawBytes draw (32 * (t - 1))
  .archiveKey k isNew seq ((List.range n).map (fun i => (i, officerShare value (kcvOf value) coeffs t seq i)))

/-- The adoption of a reconstructed key, when a restore calls for it (R774). -/
def State.adoptParts (s : State) (o : CardOp) : List RestorePart :=
  if o.adopt then
    [{ effects := [s.splitKey (s.csn.policy.getD []) o.key (archiveRecord o.key) true s.draws],
       needs := [.shelf] ++ (if s.twinWaits then [.twin] else []), keys := 0 }]
  else []

/-- The parts that restore some keys. -/
def State.restoreParts (s : State) (l : RestoreList) : List RestorePart :=
  l.keys.map (fun p => { effects := [.restoreKey p.1 p.2.1 p.2.2.1], needs := s.keyNeeds p.2.1.attr, keys := 1 })

/-- The parts of a restore begin: the job waits for the first of them. -/
def State.runRestore (s : State) (j : Nat) (parts : List RestorePart) (status detail : Nat) : State :=
  s.runParts j { left := [], done := 0, now := 0, status := status, detail := detail } parts 0

/-- The card has been read for a restore: what it names is looked up, and either ends the job, goes to a firmware slot, or is restored once the
CONSUMED records of its stateful keys are committed. -/
def State.restoreRead (s : State) (o : CardOp) (j : Nat) (x : Job) : State :=
  let sb := s.cus.ruling.getD []
  let recs := viewRecords (viewUnits o.key sb o.got)
  let seq := dP0 x.desc
  let run (t : State) (parts : List RestorePart) (st det : Nat) : State := (t.modJob j (fun y => { y with stage := .waiting })).runRestore j (s.adoptParts o ++ parts) st det
  let named := recs.filter (fun a => decide (a.seq = seq))
  let s0 := if o.adopt then s.nextDraw else s
  if seq ≠ 0 ∧ (named.isEmpty ∨ named.any (fun a => decide (a.typ = 3 ∨ 5 ≤ a.typ ∨ a.typ = 0))) then run s0 [] St.badParam 0x28
  else match named.find? (fun a => decide (a.typ = 4)) with
    | some a =>
      (match s.stageDefect a.body with
      | some (st, det) => run s0 [] st det
      | none =>
        let e := ((s.adoptParts o).map (·.effects)).flatten
        let n := ((s.adoptParts o).map (·.needs)).flatten
        (s0.finishJob j (okEff (bitAt 0 s.inactive) [] (e ++ [.clearRollback])) ([.flash] ++ n)).beginStage j a.body false)
    | none =>
      let l := s.restoreList o.key (consumedSeqs recs) ((if seq = 0 then recs else named).filter (fun a => decide (a.typ = 1 ∨ a.typ = 2))) []
      let marks := l.keys.filterMap (fun p => p.2.2.2)
      if marks.isEmpty then run s0 (s.restoreParts l) l.status l.detail
      else if s.freeUnits < marks.length then
        run s0 (s.restoreParts { l with keys := l.keys.filter (fun p => p.2.2.2.isNone) }) St.policy 0
      else
        let p := s.writePoint
        let w := s.commitWrites o.key (recordUnits o.key p.2.2 p.2.1 (marks.map (fun m => (5, leBytes 8 m)))) false
        s.beginOp { o with todo := w.1, commit := some w.2, total := w.1.length }

/-- The CONSUMED records are committed: the keys are restored. -/
def State.restoreMarked (s : State) (o : CardOp) (j : Nat) (x : Job) : State :=
  let sb := s.cus.ruling.getD []
  let recs := viewRecords (viewUnits o.key sb o.got)
  let seq := dP0 x.desc
  let named := if seq = 0 then recs else recs.filter (fun a => decide (a.seq = seq))
  let l := s.restoreList o.key (consumedSeqs recs) (named.filter (fun a => decide (a.typ = 1 ∨ a.typ = 2))) []
  let s0 := if o.adopt then s.nextDraw else s
  (s0.modJob j (fun y => { y with stage := .waiting })).runRestore j (s.adoptParts o ++ s.restoreParts l) l.status l.detail

/-! ### The end of a transfer -/

/-- Every transfer of an operation is done: a scan judges the superblocks, a commit takes effect, a restore goes on. -/
def State.opDone (s : State) (o : CardOp) : State :=
  let unit (a : Nat) : Bytes := ((o.got.find? (fun p => decide (p.1 = a))).map (·.2)).getD []
  let s1 := match o.commit with
    | some sb => s.setRuling (some (sb, decide (s.sbSlot = 2056)))
    | none => s
  match o.use with
  | .auto => (s1.setOp none).setRuling (s.judge ((unit 2048).take 256) ((unit 2056).take 256))
  | .scan j =>
    let s2 := (s1.setOp none).setRuling (s.judge ((unit 2048).take 256) ((unit 2056).take 256))
    s2.finishJob j (okWith ((s2.cus.ruling.map sbSeq).getD 0 % 2 ^ 32) []) []
  | .export_ => (s1.setOp none).endAct 7 0
  | .restore j =>
    match s.job j with
    | none => s1.setOp none
    | some x => if o.commit.isSome then s1.restoreMarked o j x else s1.restoreRead o j x

/-- The front transfer has succeeded. -/
def State.xferDone (s : State) (o : CardOp) (data : Bytes) : State :=
  match o.todo with
  | [] => s
  | t :: r =>
    let got := match t with | .read a => o.got ++ [(a, padTo 4096 data)] | .write _ _ => o.got
    let o1 := { o with todo := r, got := got, tries := 0 }
    let stops := s.jobs.any (fun p => decide (dOp p.2.desc = 0x0803) && decide (bits (dP0 p.2.desc) 7 0 = 7) && decide (p.2.needs.head? = some .safePoint))
    let s1 := if o.use = .export_ then s.setAct 7 { s.act 7 with progress := (o.total - r.length) * 1000 / (o.total + 1) } else s
    if o.use = .export_ ∧ stops ∧ !r.isEmpty then (s1.dropOp o1).idleAct 7 0 St.aborted
    else if r.isEmpty then (s1.setOp (some o1)).opDone o1 else (s1.setOp (some o1)).sendXfer o1

/-- The front transfer has failed: it is tried again up to 2 times, then the operation ends with CARD_REMOVED (R745, R747). -/
def State.xferFailed (s : State) (o : CardOp) : State :=
  if o.tries < 2 then let o1 := { o with tries := o.tries + 1 }; (s.setOp (some o1)).sendXfer o1 else s.opRemoved o

/-- A job that holds the card has been asked to end (R68). -/
def State.opAbort (s : State) (o : CardOp) : Option State :=
  let end_ (j : Nat) : Option State := ((s.job j).bind (·.abortBy)).map (fun st => (s.dropOp o).abandon j st)
  match o.use with
  | .scan j => end_ j
  | .restore j => end_ j
  | _ => none

end Sys2Proof.Machine
end

