-- ==== Sys2Proof/Machine/OfficerOps.lean ====
section
/-! DEFINITION. Officer cards: ATR, PPS, T=1 blocks, commands, certificates, shares (R761 to R774). -/

namespace Sys2Proof.Machine

open Sys2Proof

def ocdDef (_ : Nat) : OcdSlot := OcdSlot.reset

def State.ocdSlot (s : State) (i : Nat) : OcdSlot := SMap.get ocdDef i s.cus.slots

def State.modOcd (s : State) (i : Nat) (f : OcdSlot → OcdSlot) : State :=
  { s with cus := { s.cus with slots := SMap.set ocdDef i (f (s.ocdSlot i)) s.cus.slots } }

def State.setExch (s : State) (x : Option Exch) : State := { s with cus := { s.cus with exch := x } }

/-- XOR of some bytes: LRC, TCK and PCK. -/
def xorAll (b : Bytes) : Byte := b.foldl (fun x y => x ^^^ y) 0

/-! ### ATR and PPS (R762 to R764; ISO/IEC 7816-3) -/

/-- An interface byte of an ATR: the level, the protocol that the TD before it named (none for level 1), 0 TA to 3 TD, its value. -/
abbrev AtrByte := Nat × Option Nat × Nat × Nat

/-- The interface bytes from an indicator `y` on, and what follows them. -/
def atrBytes : Nat → Nat → Option Nat → Nat → Bytes → List AtrByte × Bytes
  | 0, _, _, _, b => ([], b)
  | fuel + 1, level, proto, y, b =>
    let has (i : Nat) : Bool := y.testBit i
    let at_ (i : Nat) : Nat := ((List.range i).filter has).length
    let l := (([0, 1, 2, 3] : List Nat).filter has).map (fun i => (level, proto, i, rd b (at_ i) 1))
    let rest := b.drop (at_ 4)
    if has 3 then
      let td := rd b (at_ 3) 1
      let r := atrBytes fuel (level + 1) (some (td % 16)) (td / 16) rest
      (l ++ r.1, r.2)
    else (l, rest)

/-- What the device takes from an ATR. -/
structure Atr where
  ok : Bool
  ta1 : Nat
  ifsc : Nat
  /-- Class indicator: bit 1 is class B; none where the card gives none. -/
  classes : Option Nat
  deriving DecidableEq, Repr

/-- Read an ATR (R763): TS, T0, interface bytes, historical bytes, TCK; T=1 with LRC must be offered. -/
def readAtr (b : Bytes) : Atr :=
  let t0 := rd b 1 1
  let p := atrBytes 8 1 none (t0 / 16) (b.drop 2)
  let l := p.1
  let first (proto kind : Nat) : Option Nat := (l.find? (fun x => decide (x.2.1 = some proto) && decide (x.2.2.1 = kind) && decide (2 < x.1))).map (·.2.2.2)
  let offers := l.any (fun x => decide (x.2.2.1 = 3) && decide (x.2.2.2 % 16 = 1))
  let whole := decide (p.2.length = t0 % 16 + 1)
  { ok := decide (rd b 0 1 = 0x3B ∨ rd b 0 1 = 0x3F) && whole && decide (xorAll (b.drop 1) = 0) && offers && !(((first 1 2).getD 0).testBit 0),
    ta1 := ((l.find? (fun x => decide (x.1 = 1) && decide (x.2.2.1 = 0))).map (·.2.2.2)).getD 0x11,
    ifsc := (first 1 0).getD 32,
    classes := (l.find? (fun x => decide (x.2.1 = some 15) && decide (x.2.2.1 = 0))).map (fun x => x.2.2.2 % 64) }

/-- The TA1 that the device asks for in PPS (R764): that of the card for Fi 372 or 512 with Di 1 to 16, else Fd 372 and Dd 1. -/
def ppsFor (ta1 : Nat) : Nat :=
  let f := ta1 / 16
  let d := ta1 % 16
  if (f = 0 ∨ f = 1 ∨ f = 9) ∧ 1 ≤ d ∧ d ≤ 5 then ta1 else 0x11

def ppsBytes (ta1 : Nat) : Bytes :=
  let b : Bytes := leBytes 1 0xFF ++ leBytes 1 0x11 ++ leBytes 1 ta1
  b ++ [xorAll b]

/-! ### T=1 (R765; ISO/IEC 7816-3) -/

/-- A block: NAD 0, PCB, LEN, INF, LRC. -/
def t1Block (pcb : Nat) (inf : Bytes) : Bytes :=
  let b := leBytes 1 0 ++ leBytes 1 pcb ++ leBytes 1 inf.length ++ inf
  b ++ [xorAll b]

/-- A received block is whole: NAD 0, its length, its LRC. -/
def t1Ok (b : Bytes) : Bool := decide (b.length = rd b 2 1 + 4) && decide (rd b 0 1 = 0) && decide (rd b 2 1 ≤ 254) && decide (xorAll b = 0)

/-- Send bytes to the card of the exchange. -/
def State.toCard (s : State) (x : Exch) (b : Bytes) : State := (s.setExch (some x)).emit (.cardBlock x.slot b)

/-- Send the next I-block of the command, chained by IFSC. -/
def State.sendI (s : State) (x : Exch) : State :=
  let inf := x.queue.take x.ifsc
  let rest := x.queue.drop x.ifsc
  let b := t1Block (bitAt 6 x.ns + bitAt 5 (!rest.isEmpty)) inf
  s.toCard { x with ns := !x.ns, queue := rest, last := b } b

/-- Send a command. -/
def State.sendApdu (s : State) (x : Exch) (apdu : Bytes) : State := s.sendI { x with apdu := apdu, queue := apdu, rx := [], tries := 0 }

/-- Send an R-block; 0 acknowledges, 1 reports LRC or parity, 2 another error. -/
def State.sendR (s : State) (x : Exch) (err : Nat) : State :=
  let b := t1Block (0x80 + bitAt 4 x.nr + err) []
  s.toCard (if err = 0 then { x with last := b } else x) b

/-! ### Commands (R766; Lc and Le are assumption log 54) -/

def apdu (cla ins p1 p2 : Nat) (data : Bytes) (le : Bool) : Bytes :=
  [cla, ins, p1, p2].map (BitVec.ofNat 8) ++ (if data.isEmpty then [] else leBytes 1 data.length ++ data) ++ (if le then [0] else [])

def selectApdu : Bytes := apdu 0x00 0xA4 0x04 0x00 ([0xF0, 0x53, 0x54, 0x51, 0x4F, 0x46, 0x43].map (BitVec.ofNat 8)) true
def certApdu (page : Nat) : Bytes := apdu 0x80 0xCA (page / 256) (page % 256) [] true
def signApdu (data : Bytes) : Bytes := apdu 0x80 0x2A 0 0 data true

/-- Ephemeral P-384 key pair of a GET_SHARE, and the AES-256-GCM key of the sealed share (R772). -/
def ephemeral (draw : Nat) : Bytes × Bytes := (drawBytes draw 48, stdOut .publicKey 0x0712 [drawBytes draw 48] 97)
def shareKey (secret pubkey serial : Bytes) (p1 : Nat) : Bytes :=
  kmac256 (kexSecret 0x0712 secret pubkey) (serial ++ leBytes 1 p1) (ascii "STQ6440 SHARE") 32

/-- The 5 B command header of GET_SHARE: 97 B of data to read a share, 159 B to deliver one. -/
def shareHeader (p1 : Nat) : Bytes := [0x80, 0xCB, p1, 0x00, if p1 = 0 then 97 else 159].map (BitVec.ofNat 8)

def sealShare (key : Bytes) (p1 : Nat) (share : Bytes) : Bytes := stdOut .aeadSeal 0x0902 [key, zeros 12, [], shareHeader p1, share] 62

def openShare (key : Bytes) (p1 : Nat) (box : Bytes) : Option Bytes :=
  let args : List Bytes := [key, zeros 12, [], shareHeader p1, box]
  if box.length = 62 ∧ Config.stdCheck .aeadTag 0x0902 args then some (stdOut .aeadOpen 0x0902 args 46) else none

/-! ### The certificate (R476, R767) -/

def certKey (c : Bytes) : Bytes := slice c 72 97

/-- Certificate of a card whose SELECT gave `serial`. -/
def State.certOk (s : State) (c serial : Bytes) : Bool :=
  match s.anchorDigest, s.csn.policy, KMap.get 4 s.csn.keys, KMap.get 5 s.csn.keys with
  | some d, some p, some a, some b =>
    decide (c.length = 4895) && decide (rd c 0 4 = 0x5443464F) && decide (rd c 4 2 = 1) && decide (rd c 6 1 < rd p 2 1) && decide (rd c 7 1 = 0) &&
      decide (rd c 169 3 = 0) && decide (slice c 8 16 = serial) && decide (slice c 24 48 = d) &&
      decide (stdOut .hash 0x0A02 [[0], [], certKey c] 48 = slice p (32 + 48 * rd c 6 1) 48) &&
      Config.stdCheck .officerCert 0 [c.take 172, slice c 172 4627, slice c 4799 96, a.pub, b.pub]
  | _, _, _, _ => false

/-! ### The end of an exchange (R768, R769) -/

/-- The exchange under way, if its job still lives. -/
def State.exchange (s : State) : Option (Exch × Job) :=
  s.cus.exch.bind (fun x => (s.job x.job).bind (fun y => if y.stage = .running then some (x, y) else none))

/-- Deactivate the card. -/
def State.deactivate (s : State) (x : Exch) (error : Bool) : State := (s.setExch none).modOcd x.slot (fun o => { o with error := error, fi := 1, di := 1 })

/-- Begin an exchange: the card is activated, class C first (R762). -/
def State.beginExch (s : State) (slot job : Nat) (login : Bool) : State :=
  s.setExch (some { slot := slot, job := job, login := login, step := .atr false false, classB := false, ns := false, nr := false, ifsc := 32, queue := [],
                    apdu := [], last := [], rx := [], tries := 0, resync := false, resynced := false, select := [], cert := [], challenge := [],
                    secret := [] })

/-- A login is refused (R768). -/
def State.refuseLogin (s : State) (j st det : Nat) : State := (s.finishJob j (failWith st det) []).bump Reg.csnLoginFail

/-! ### Reconstruction (R774) -/

/-- Shares that belong together: of the wanted KCV, and of the SPLIT_SEQ of which enough are there; T of them. -/
def matchingShares (kcv : Bytes) (l : List Bytes) : Option (List Bytes) :=
  let good := l.filter (fun b => decide (slice b 6 8 = kcv))
  let set (b : Bytes) : List Bytes := good.filter (fun c => decide (rd c 2 4 = rd b 2 4))
  (good.find? (fun b => decide (rd b 1 1 ≤ (set b).length))).map (fun b => (set b).take (rd b 1 1))

/-- The card is read for a restore, under the archive key of the operation. -/
def State.readView (s : State) (o : CardOp) : State :=
  let todo := (s.viewLbas).map SdXfer.read
  let o1 := { o with todo := todo, total := todo.length }
  if todo.isEmpty then (s.setOp (some o1)).opDone o1 else s.beginOp o1

/-- Every share is read: the key is combined, and adopted when the device holds none. -/
def State.combine (s : State) (o : CardOp) : State :=
  let kcv := slice (s.cus.ruling.getD []) 80 8
  match matchingShares kcv o.shares with
  | none => s.failOp o St.quorum 0
  | some l =>
    let k := stdOut .shareCombine 0 l 32
    if kcvOf k ≠ kcv then s.failOp o St.wrapInvalid 0 else s.readView { o with key := k, adopt := s.archiveKey.isNone, slots := [], shares := [] }

/-- Go on with the next card whose share is to be read. -/
def State.nextShare (s : State) (o : CardOp) (j : Nat) : State :=
  match o.slots with
  | [] => s.combine o
  | i :: r => (s.setOp (some { o with slots := r })).beginExch i j false

/-- The exchange of a restore ends, with a share or without one. -/
def State.shareRead (s : State) (x : Exch) (share : Option Bytes) : State :=
  let s1 := s.deactivate x share.isNone
  match s1.cardOp with
  | some o => s1.nextShare { o with shares := o.shares ++ share.toList } x.job
  | none => s1

/-- An exchange fails: a login with PERMIT_INVALID and a DETAIL, the reading of a share without one. -/
def State.exchFails (s : State) (x : Exch) (det : Nat) : State :=
  if x.login then (s.deactivate x true).refuseLogin x.job St.permitInvalid det else s.shareRead x none

/-! ### The steps of an exchange -/

/-- The login is complete: the officer's bit is set. -/
def State.loggedIn (s : State) (x : Exch) : State :=
  let i := rd x.cert 6 1
  let s1 := (s.deactivate x false).modOcd x.slot
    (fun o => { o with serial := slice x.select 2 16, kcv := slice x.select 18 8, pubkey := certKey x.cert })
  s1.finishJob x.job (okEff i [] [.login i x.slot]) []

/-- GET_SHARE with a new ephemeral key pair: read the card's share, or deliver the one that waits (R772, R773). -/
def State.sendShare (s : State) (x : Exch) (p1 : Nat) (pubkey share : Bytes) : State :=
  let e := ephemeral s.draws
  let key := shareKey e.1 pubkey (slice x.select 2 16) p1
  let data := e.2 ++ (if p1 = 1 then sealShare key p1 share else [])
  s.nextDraw.sendApdu { x with step := .share, secret := e.1 } (apdu 0x80 0xCB p1 0 data (decide (p1 = 0)))

/-- The card has signed: the share that waits for the officer is delivered, when the card holds none of another key (R773). -/
def State.afterSign (s : State) (x : Exch) : State :=
  let i := rd x.cert 6 1
  let kcv := slice x.select 18 8
  match KMap.get i s.cus.shares, s.archiveKey with
  | some share, some k => if kcv = zeros 8 ∨ kcv = kcvOf k then s.sendShare x 1 (certKey x.cert) share else s.loggedIn x
  | _, _ => s.loggedIn x

/-- A share is delivered: it no longer waits, and what the shelf record keeps of the split goes with the last one (R771, R773). -/
def State.shareDelivered (s : State) (i : Nat) : State :=
  let s1 : State := { s with cus := { s.cus with shares := KMap.del i s.cus.shares } }.bump (Reg.cus 0x114)
  match s1.key 6 with
  | some k => s1.keyRecord 6 k
  | none => s1

/-- A command's answer: its data and its status word. -/
def State.answered (s : State) (x : Exch) (data : Bytes) (sw : Nat) : State :=
  match x.step with
  | .select =>
    if sw ≠ 0x9000 ∨ data.length ≠ 30 then s.exchFails x 0x12
    else
      let y := { x with select := data }
      if x.login then s.sendApdu { y with step := .cert 0 } (certApdu 0) else s.sendShare y 0 (s.ocdSlot x.slot).pubkey []
  | .cert p =>
    if sw ≠ 0x9000 then s.exchFails x 0x12
    else
      let y := { x with cert := x.cert ++ data }
      if p < 19 then s.sendApdu { y with step := .cert (p + 1) } (certApdu (p + 1))
      else if !(s.certOk y.cert (slice x.select 2 16)) then s.exchFails x 1
      else
        let c := drawBytes s.draws 32
        s.nextDraw.sendApdu { y with step := .sign, challenge := c } (signApdu (s.unitId ++ c))
  | .sign =>
    if sw ≠ 0x9000 then s.exchFails x 0x12
    else if data.length ≠ 96 ∨ !(Config.stdCheck .officerSignature 0 [certKey x.cert, ascii "STQ-OFFICER-LOGIN" ++ s.unitId ++ x.challenge, data]) then s.exchFails x 2
    else if (KMap.get (rd x.cert 6 1) s.csn.officers).isSome then s.exchFails x 3
    else s.afterSign x
  | .share =>
    if x.login then
      (if sw ≠ 0x9000 then s.exchFails x 0x12 else (s.shareDelivered (rd x.cert 6 1)).loggedIn x)
    else if sw ≠ 0x9000 then s.shareRead x none
    else s.shareRead x (openShare (shareKey x.secret (s.ocdSlot x.slot).pubkey (slice x.select 2 16) 0) 0 data)
  | _ => s

/-- Announce IFSD 254 B (R765). -/
def State.announce (s : State) (x : Exch) : State :=
  let b := t1Block 0xC1 (leBytes 1 254)
  s.toCard { x with step := .ifs, last := b } b

/-- A bad or missing block: an R-block twice, then S(RESYNCH), then the exchange fails (R765). -/
def State.t1Error (s : State) (x : Exch) (err : Nat) : State :=
  if x.resync then s.exchFails x 0x11
  else if x.tries < 2 then ((s.sendR { x with tries := x.tries + 1 } err)).bump (Reg.cus 0x10C)
  else if x.resynced then s.exchFails x 0x11
  else (s.toCard { x with resync := true, resynced := true } (t1Block 0xC0 [])).bump (Reg.cus 0x10C)

/-- A whole block in the T=1 phase. -/
def State.t1Take (s : State) (x : Exch) (pcb : Nat) (inf : Bytes) : State :=
  if x.resync then
    (if pcb = 0xE0 ∧ inf.isEmpty then
      let y := { x with resync := false, ns := false, nr := false, tries := 0 }
      match x.step with
      | .ifs => s.announce y
      | _ => s.sendApdu y x.apdu
     else s.t1Error x 2)
  else if pcb = 0xC1 ∧ inf.length = 1 then s.toCard { x with ifsc := rd inf 0 1, tries := 0 } (t1Block 0xE1 inf)
  else if pcb = 0xC3 ∧ inf.length = 1 then s.toCard { x with tries := 0 } (t1Block 0xE3 inf)
  else if x.step = .ifs then
    (if pcb = 0xE1 ∧ inf = leBytes 1 254 then s.sendApdu { x with step := .select, tries := 0 } selectApdu
     else if pcb / 64 = 2 then s.announce { x with tries := x.tries }
     else s.t1Error x 2)
  else if pcb / 64 = 2 then
    -- R-block: the sequence number it expects tells whether the last I-block arrived
    (if pcb.testBit 4 ≠ x.ns then s.toCard x x.last
     else if x.queue.isEmpty then s.t1Error x 2 else s.sendI { x with tries := 0 })
  else if pcb < 128 ∧ pcb.testBit 6 = x.nr ∧ x.queue.isEmpty then
    let y := { x with nr := !x.nr, rx := x.rx ++ inf, tries := 0 }
    if pcb.testBit 5 then s.sendR y 0
    else
      let n := y.rx.length - 2
      s.answered y (y.rx.take n) (rdBe y.rx n 2)
  else s.t1Error x 2

/-- The ATR arrives (R762, R763). -/
def State.takeAtr (s : State) (x : Exch) (classB again : Bool) (b : Bytes) : State :=
  let a := readAtr b
  if !classB ∧ a.ok ∧ a.classes = some 2 then s.setExch (some { x with step := .atr true again, classB := true })
  else if !a.ok then s.exchFails x 0x10
  else
    let y := { x with ifsc := a.ifsc }
    if again then s.announce y
    else
      let t := ppsFor a.ta1
      s.toCard { y with step := .pps t } (ppsBytes t)

/-- The card rejects the PPS, or does not answer it: it is reset once more and goes on at Fd and Dd (R764). -/
def State.ppsRejected (s : State) (x : Exch) : State := s.setExch (some { x with step := .atr x.classB true })

/-- An ATR, a PPS answer or a block arrives. -/
def State.cardBlock (s : State) (x : Exch) (b : Bytes) : State :=
  match x.step with
  | .atr c again => s.takeAtr x c again b
  | .pps t =>
    if b = ppsBytes t then (s.modOcd x.slot (fun o => { o with fi := t / 16, di := t % 16 })).announce x else s.ppsRejected x
  | _ => if t1Ok b then s.t1Take x (rd b 1 1) (slice b 3 (rd b 2 1)) else s.t1Error x 1

/-- Nothing arrives in time: class B is tried for an ATR, an R-block or S(RESYNCH) asks for a block (R762, R763, R765). -/
def State.cardSilent (s : State) (x : Exch) : State :=
  match x.step with
  | .atr false again => s.setExch (some { x with step := .atr true again, classB := true })
  | .atr true _ => s.exchFails x 0x10
  | .pps _ => s.ppsRejected x
  | _ => s.t1Error x 2

/-! ### Presence and logins (R768, R769) -/

/-- The officers logged in from a slot. -/
def State.officersAt (s : State) (slot : Nat) : List Nat := (s.csn.officers.filter (fun p => decide (p.2.1 = slot))).map (·.1)

/-- The card leaves its slot: its login ends, an exchange with it ends with CARD_REMOVED, and so does a restore that was still to read it. -/
def State.officerCardGone (s : State) (i : Nat) : State :=
  let s1 : State := { s with csn := { s.csn with officers := s.csn.officers.filter (fun p => decide (p.2.1 ≠ i)) }, cus := { s.cus with ocd := s.cus.ocd - bitAt i (s.cus.ocd.testBit i) } }
  let s2 := s1.modOcd i (fun _ => OcdSlot.reset)
  match s.exchange with
  | some (x, _) =>
    if x.slot = i then
      let s3 := (s2.setExch none).bump (Reg.cus 0x110)
      if x.login then s3.refuseLogin x.job St.cardRemoved 0
      else (match s3.cardOp with | some o => s3.failOp o St.cardRemoved 0 | none => s3)
    else (match s2.cardOp with
      | some o => if o.slots.contains i then (s2.setExch none).failOp o St.cardRemoved 0 else s2
      | none => s2)
  | none => s2

/-- The custody card is gone: its state is discarded and its operation ends (R747). -/
def State.cardGone (s : State) : State :=
  let s1 := match s.cardOp with | some o => s.opRemoved o | none => s
  let c := s1.cus
  { s1 with cus := { Cus.reset with slots := c.slots, ocd := c.ocd, exch := c.exch, shares := c.shares, splitSeq := c.splitSeq } }

/-- PD26 goes off (R769): every login ends, and the custody card stops as on removal. -/
def State.custodyOff (s : State) : State :=
  let s1 := (List.range 8).foldl (fun t i => if t.cus.ocd.testBit i ∨ !(t.officersAt i).isEmpty then t.officerCardGone i else t) s
  let s2 := s1.cardGone
  { s2 with cus := { s2.cus with slots := [], ocd := 0, exch := none } }

end Sys2Proof.Machine
end

