-- ==== Sys2Proof/Machine/Custody.lean ====
section
/-! DEFINITION. Meanings of group 0x0A, ARCHIVE_EXPORT and the events of the custody interfaces (R151, R475, R743 to R774). -/

namespace Sys2Proof.Machine

open Sys2Proof

/-- The custody interfaces work: PD26 is on, and the device is in service. -/
def State.custodyOn (s : State) : Bool := s.pdOn 26 && decide (s.glb.dev = .ready)

/-! ### The custody card -/

/-- Capacity in MiB (R777). -/
def State.cardMib (s : State) : Nat := if s.cus.ready then s.cus.lbas / 2048 else 0

/-- The output of CARD_STATUS: the bus width is 1 or 4, 0 without a card (R151). -/
def State.cardRecord (s : State) : Bytes :=
  let c := s.cus
  leBytes 1 (bitAt 0 c.present) ++ leBytes 1 (if c.ready then (if c.width4 then 4 else 1) else 0) ++ leBytes 1 c.speed ++ leBytes 1 (bitAt 0 c.valid) ++
    leBytes 8 ((c.ruling.map sbSeq).getD 0) ++ leBytes 4 s.cardMib ++ zeros 16

/-- CARD_STATUS (R748). -/
def execCardStatus (j : Nat) (s : State) : Host.Outcome State Fault Refusal := .next (s.runJob j 0x0A01 (fun t _ => (t, okWith 0 t.cardRecord, [])))

/-- The reads of a scan (R754). -/
def scanReads : List SdXfer := [.read 2048, .read 2056]

/-- The card is held by the operation of job `j`. -/
def State.holdsCard (s : State) (j : Nat) : Bool := s.cardOp.any (fun o => decide (o.use = .scan j ∨ o.use = .restore j))

/-- Why a job cannot take the card: another holds it, or none is ready (R747, R748). -/
def State.cardDefect (s : State) : Option (Nat × Nat) :=
  if s.cardOp.isSome then some (St.maintConflict, 7) else if !s.cus.ready then some (St.cardRemoved, 0) else none

/-- ARCHIVE_SCAN: it takes the card and reads both superblocks. -/
def execArchiveScan (j : Nat) (s : State) : Host.Outcome State Fault Refusal :=
  .next (match s.startable j 0x0A02 with
    | none => s
    | some x =>
      if s.holdsCard j then s
      else match x.abortBy, s.cardDefect with
        | some st, _ => s.abandon j st
        | none, some (st, det) => s.finishJob j (failWith st det) []
        | none, none => s.beginOp (CardOp.start (.scan j) scanReads))

/-- Why an ARCHIVE_RESTORE cannot run: its quorum, an activity, the card, or an archive that is not this owner's (R757, R760). -/
def State.restoreDefect (s : State) (x : Job) : Option (Nat × Nat) :=
  if !(x.quorum.testBit 11) then some (St.quorum, 0)
  else match ([5, 6, 7] : List Nat).find? s.startedRuns with
    | some a => some (St.maintConflict, a)
    | none =>
      match s.cardDefect with
      | some d => some d
      | none => if s.cus.valid then none else some (St.policy, 0)

/-- Slots of the officers logged in whose card holds a share of the key with a KCV. -/
def State.shareSlots (s : State) (kcv : Bytes) : List Nat :=
  (s.csn.officers.filter (fun p => decide ((s.ocdSlot p.2.1).kcv = kcv))).map (·.2.1)

/-- ARCHIVE_RESTORE: the archive key is at hand or reconstructed from the officers' shares, then the card is read. -/
def execArchiveRestore (j : Nat) (s : State) : Host.Outcome State Fault Refusal :=
  .next (match s.startable j 0x0A03 with
    | none => s
    | some x =>
      if s.holdsCard j then s
      else match x.abortBy, s.restoreDefect x with
        | some st, _ => s.abandon j st
        | none, some (st, det) => s.finishJob j (failWith st det) []
        | none, none =>
          let kcv := slice (s.cus.ruling.getD []) 80 8
          let o := CardOp.start (.restore j) []
          match s.archiveKey with
          | some k => if kcvOf k = kcv then s.readView { o with key := k } else if s.exchange.isSome then s else s.nextShare { o with slots := s.shareSlots kcv } j
          | none => if s.exchange.isSome then s else s.nextShare { o with slots := s.shareSlots kcv } j)

/-- ARCHIVE_EXPORT: the activity takes its snapshot and writes it (R753, R756). -/
def execArchiveExport (s : State) : Host.Outcome State Fault Refusal :=
  .next (
    if !(s.startedRuns 7) ∨ !s.custodyOn ∨ s.cardOp.isSome then s
    else if !s.cus.ready then s.endAct 7 St.cardRemoved
    else match s.archiveKey with
      | none => s.endAct 7 St.policy
      | some k => if s.freeUnits < unitCount (s.snapshot k (s.act 7).arg) then s.endAct 7 St.badParam else s.beginExport k (s.act 7).arg)

/-- SD_CARD_INSERTION (R743, R744, R747): `speed` is the highest mode of the card; an SDSC card reads as not present. The scan that follows
needs no command. -/
def execSdCardInsertion (sdsc initOk : Bool) (speed : Fin 8) (width4 : Bool) (lbas : Nat) (s : State) : Host.Outcome State Fault Refusal :=
  .next (
    if !s.custodyOn ∨ s.cus.present ∨ sdsc then s
    else if !initOk then { s with cus := { s.cus with present := true, error := true } }
    else
      let ctl := s.reg Reg.cusCtl
      let top := Nat.max 1 (Nat.min speed.val (bits ctl 2 0))
      ({ s with cus := { s.cus with present := true, ready := true, width4 := width4 && !(ctl.testBit 3), speed := top, lbas := lbas } }).beginOp
        (CardOp.start .auto scanReads))

/-- SD_CARD_REMOVAL (R747). -/
def execSdCardRemoval (s : State) : Host.Outcome State Fault Refusal := .next (if s.cus.present then s.cardGone else s)

/-- An event of the operation that holds the card, unless an abort ends it first. -/
def State.onCard (s : State) (f : CardOp → State) : State :=
  match s.cardOp with
  | none => s.setOp none
  | some o => (match s.opAbort o with | some t => t | none => if o.todo.isEmpty then s else f o)

/-- SD_TRANSFER_END (R745 to R747). -/
def execSdTransferEnd (ended : XferEnd) (data : Bytes) (s : State) : Host.Outcome State Fault Refusal :=
  .next (s.onCard (fun o =>
    match ended with
    | .ok => s.xferDone o data
    | .crcError => (s.bump (Reg.cus 0x100)).xferFailed o
    | .timeout => (s.bump (Reg.cus 0x104)).xferFailed o))

/-- SD_RESPONSE_TIMEOUT (R745). -/
def execSdResponseTimeout (s : State) : Host.Outcome State Fault Refusal := .next (s.onCard (fun o => (s.bump (Reg.cus 0x104)).xferFailed o))

/-- SD_BUSY_TIMEOUT (R746, R747): the busy phase of a write lasts 500 ms. -/
def execSdBusyTimeout (s : State) : Host.Outcome State Fault Refusal :=
  .next (s.onCard (fun o => match o.todo with | .write _ _ :: _ => (s.bump (Reg.cus 0x104)).opRemoved o | _ => s))

/-! ### Officer cards -/

/-- The slot that OFFICER_LOGIN serves: the lowest enabled one with a card and without a login (R768). -/
def State.loginSlot (s : State) : Option Nat :=
  (List.range 8).find? (fun i => (bits (s.reg Reg.cusCtl) 19 12).testBit i && s.cus.ocd.testBit i && (s.officersAt i).isEmpty)

/-- OFFICER_LOGIN (R768); `present` is what the presence pins of the slots show. One slot is served at a time (R761). -/
def execOfficerLogin (j : Nat) (present : BitVec 8) (s : State) : Host.Outcome State Fault Refusal :=
  .next (match s.startable j 0x0A04 with
    | none => s
    | some x =>
      if s.exchange.isSome then s
      else match x.abortBy with
        | some st => s.abandon j st
        | none =>
          let s1 : State := { s with cus := { s.cus with ocd := present.toNat } }
          if s1.lcs.lstate ≠ .proof ∧ s1.lcs.lstate ≠ .edition then s1.refuseLogin j St.state s1.glb.dev.code
          else match (if s1.pdOn 26 then s1.loginSlot else none) with
            | none => s1.refuseLogin j St.cardRemoved 0
            | some i => s1.beginExch i j true)

/-- OFFICER_LOGOUT (R151). -/
def execOfficerLogout (j : Nat) (s : State) : Host.Outcome State Fault Refusal :=
  .next (s.runJob j 0x0A05 (fun t x => (t, okEff 0 [] [.logout (bits (dP0 x.desc) 7 0)], [])))

/-- An event of the exchange under way, unless an abort ends it first. -/
def State.onExch (s : State) (f : Exch → State) : State :=
  match s.exchange with
  | none => s.setExch none
  | some (x, y) =>
    (match y.abortBy with
    | some st =>
      let s1 := s.deactivate x false
      (match s1.cardOp with | some o => s1.dropOp o | none => s1).abandon x.job st
    | none => f x)

/-- T1_BLOCK_RECEIVE (R763 to R766). -/
def execT1BlockReceive (block : Bytes) (s : State) : Host.Outcome State Fault Refusal := .next (s.onExch (fun x => s.cardBlock x block))

/-- T1_BLOCK_TIMEOUT (R763, R765). -/
def execT1BlockTimeout (s : State) : Host.Outcome State Fault Refusal := .next (s.onExch s.cardSilent)

/-- OFFICER_CARD_REMOVAL (R769). -/
def execOfficerCardRemoval (slot : Fin 8) (s : State) : Host.Outcome State Fault Refusal := .next (s.officerCardGone slot.val)

/-- OFFICER_LOGIN_EXPIRY: 300 s have passed (R769). -/
def execOfficerLoginExpiry (officer : Fin 8) (s : State) : Host.Outcome State Fault Refusal :=
  .next { s with csn := { s.csn with officers := KMap.del officer.val s.csn.officers } }

/-! ### QUORUM_SET (R473, R475, R770) -/

/-- A bad structure, N or M out of range, or a reserved byte that is not zero. -/
def policyForm (b : Bytes) : Bool :=
  let n := rd b 2 1
  decide (rd b 0 2 = 1) && decide (1 ≤ n ∧ n ≤ 8) && decide (rd b 3 1 < 8) &&
    (List.range 6).all (fun i => decide (1 ≤ rd b (8 + i) 1 ∧ rd b (8 + i) 1 ≤ n)) && decide (rd b 14 2 = 0) && decide (rd b 24 8 = 0)

/-- Both owner signatures of a policy record verify, and its POLICY_SEQ exceeds the current one's. -/
def State.policySigned (s : State) (b : Bytes) : Bool :=
  let n := 32 + 48 * rd b 2 1
  match KMap.get 4 s.csn.keys, KMap.get 5 s.csn.keys with
  | some x, some y =>
    Config.stdCheck .quorumPolicy 0 [b.take n, slice b n 4627, slice b (n + 4627) 96, x.pub, y.pub] &&
      (match s.csn.policy with | some p => decide (rd p 4 4 < rd b 4 4) | none => true)
  | _, _ => false

/-- A logged-in officer's card holds a share. -/
def State.sharesHeld (s : State) : Bool := s.csn.officers.any (fun p => decide ((s.ocdSlot p.2.1).kcv ≠ zeros 8))

/-- What QUORUM_SET does with the archive key in EDITION: it is generated with prediction resistance, or split again (R770). -/
def State.archiveSplit (s : State) (b : Bytes) : State × List Effect :=
  match s.key 6 with
  | some k => (s.nextDraw, [s.splitKey b k.value k false s.draws])
  | none =>
    let s1 := s.reseed
    let v := drawBytes s1.draws 32
    (s1.nextDraw.nextDraw, [s1.splitKey b v (archiveRecord v) true (s1.draws + 1)])

def doQuorumSet (s : State) (x : Job) : State × Result × List Need :=
  let b := x.input
  if !(policyForm b) then (s, failWith St.badEncoding 0, [])
  else if !(s.policySigned b) then (s, failWith St.policy 0, [])
  else if !(s.csn.policy.isNone && decide (s.lcs.lstate = .proof)) && !(x.quorum.testBit 12) then (s, failWith St.quorum 0, [])
  else if s.lcs.lstate ≠ .edition then (s, okEff 0 [] [.quorum b], [.shelf] ++ s.tableNeeds)
  else if s.archiveKey.isNone && s.sharesHeld then (s, failWith St.policy 0x10, [])
  else
    let a := s.archiveSplit b
    (a.1, okEff 0 [] (.quorum b :: a.2), [.shelf, .shelf] ++ s.tableNeeds)

/-- QUORUM_SET; in EDITION it draws random bits and waits for them (R514). -/
def execQuorumSet (j : Nat) (s : State) : Host.Outcome State Fault Refusal :=
  .next (if s.ent.noEntropy ∧ s.lcs.lstate = .edition then s else s.runJob j 0x0A06 doQuorumSet)

end Sys2Proof.Machine
end

