-- ==== Sys2Proof/Machine/Impression.lean ====
section
/-! DEFINITION. Impressions: measurements, the signed body, the identity chain (R140, R314, R477 to R480). -/

namespace Sys2Proof.Machine

open Sys2Proof

def sha384 (b : Bytes) : Bytes := stdOut .hash 0x0A02 [[0], [], b] 48

/-- UCODE_MEAS of a pier: its customer region, or zeros (R314). -/
def State.ucodeMeas (s : State) (p : Nat) : Bytes := match (s.pier p).image with | some im => sha384 im | none => zeros 48

/-- Words that CONFIG_DIGEST covers. -/
def configRegs : List Nat := [Reg.burCtl, Reg.burStarve, Reg.burYieldHold, Reg.grvCtl, Reg.cwyCtl, Reg.cwyArb, Reg.clsCtl, Reg.csnCtl]

/-- The FUNCTION_SET state: algorithms, piers, lanes, VIs without service. R480 gives it no layout: the digest below is a function of it
(assumption log 56). -/
def State.fnState (s : State) : Bytes :=
  leBytes 2 s.fn.algs.length ++ (s.fn.algs.map (leBytes 2)).flatten ++ leBytes 1 (maskOf s.fn.piers) ++ leBytes 1 (maskOf s.fn.lanes) ++
    leBytes 32 (maskOf (allVis.filter (fun v => (s.vi v).serviceOff)))

/-- Pairing state, and role and AUTO of each VI. -/
def State.pairWords (s : State) : Bytes :=
  leBytes 1 (bitAt 0 s.paired) ++ leBytes 32 (maskOf (allVis.filter (fun v => (s.vi v).primary))) ++ leBytes 32 (maskOf (allVis.filter (fun v => (s.vi v).auto)))

/-- CONFIG_DIGEST (R480). -/
def State.configDigest (s : State) : Bytes :=
  let quotas := (allVis.map (fun v => (s.vi v).quota.bytes)).flatten
  let policies := (allVis.map (fun v => ((List.range 16).map (fun i => padTo 64 ((KMap.get i (s.vi v).policies).getD []))).flatten)).flatten
  let rules := ((List.range 4096).map (fun i => padTo 64 ((KMap.get i s.cwy.rules).getD []))).flatten
  let regs := (configRegs.map (fun a => leBytes 4 (s.reg a))).flatten
  let table := ((List.range 0x48).map (fun i => leBytes 4 (s.xhCfg i))).flatten
  stdOut .measurement 0x0A02 [quotas, policies, rules, s.fnState, regs, table, s.pairWords] 48

/-- OWNER_DIGEST and QUORUM_DIGEST, zeros where there is none. -/
def State.ownerDigest (s : State) : Bytes := padTo 48 (s.anchorDigest.getD [])
def State.quorumDigest (s : State) : Bytes := match s.csn.policy with | some p => sha384 p | none => zeros 48

/-- The body of an impression for VI `v` (R477); the key section describes a handle and its key, or is zero. -/
def State.impressionBody (s : State) (v : Nat) (nonce : Bytes) (key : Option (Nat × KeyRec)) : Bytes :=
  let repair := s.repairSummary
  let section_ : Bytes := match key with
    | some (h, k) =>
      leBytes 2 k.alg ++ zeros 2 ++ leBytes 4 k.attr.toNat ++ leBytes 4 k.kgen ++ leBytes 4 h ++ sha384 k.pub
    | none => zeros 64
  leBytes 4 0x52504D49 ++ leBytes 2 1 ++ leBytes 1 (if key.isSome then 2 else 1) ++ leBytes 1 s.lcs.lstate.code ++ s.unitId ++ leBytes 2 v ++ zeros 2 ++
    leBytes 4 s.fwSvn ++ leBytes 8 s.time ++ leBytes 4 (856 + repair.length) ++ leBytes 1 nonce.length ++ zeros 3 ++ padTo 64 nonce ++
    padTo 48 s.csn.romMeas ++ padTo 48 s.csn.fwMeas ++ padTo 48 s.csn.stagedMeas ++ ((List.range 8).map s.ucodeMeas).flatten ++ s.configDigest ++
    s.ownerDigest ++ s.quorumDigest ++ section_ ++ leBytes 4 repair.length ++ zeros 4 ++ repair

/-- A signed impression (R478). -/
def State.impression (s : State) (v : Nat) (nonce : Bytes) (key : Option (Nat × KeyRec)) : Bytes :=
  let b := s.impressionBody v nonce key
  b ++ s.deviceSign (ascii "STQ-IMPRESSION") b s.draws

/-- Run an impression in its burin and its Graver core; a failed invariant of the Graver ends it (R340). -/
def State.runImpression (s : State) (j op : Nat) (sound : Bool) (keyed : Bool) : State :=
  match s.startable j op with
  | none => s.noteWait j op
  | some x =>
    if !sound ∧ x.graverPart ≠ .finished then s.invariantFails j
    else s.runBurin j op (fun t y => (t.nextDraw.nextDraw, okWith 0 (t.impression y.vi y.input (if keyed then y.key.map (fun k => (dKey y.desc, k)) else none))))

/-- IMPRESSION_DEVICE (R140). -/
def execImpressionDevice (j : Nat) (sound : Bool) (s : State) : Host.Outcome State Fault Refusal := .next (s.runImpression j 0x0701 sound false)

/-- IMPRESSION_KEY (R140, R479). -/
def execImpressionKey (j : Nat) (sound : Bool) (s : State) : Host.Outcome State Fault Refusal := .next (s.runImpression j 0x0702 sound true)

/-- The chain's leaf carries this device's identity keys (R478). -/
def State.chainOwn (s : State) : Bool :=
  match s.csn.chain, KMap.get 1 s.csn.keys, KMap.get 2 s.csn.keys with
  | some c, some a, some b => checkStd .certChain 0 1 [c, a.pub, b.pub]
  | _, _, _ => false

/-- IMPRESSION_CHAIN (R140, R478). -/
def execImpressionChain (j : Nat) (s : State) : Host.Outcome State Fault Refusal :=
  .next (s.runJob j 0x0703 (fun t _ => if t.chainOwn then (t, okWith 0 (t.csn.chain.getD []), []) else (t, failWith St.policy 0, [])))

end Sys2Proof.Machine
end

