-- ==== Sys2Proof/Machine/Doe.lean ====
section
/-! DEFINITION. The SPDM responder on the PF's DOE mailbox (R481, R555). The spec names the requests, the algorithms, the measurement blocks and
the session limit; codes and layouts of the messages are those of DSP0274 (assumption log 58). -/

namespace Sys2Proof.Machine

open Sys2Proof

/-! ### Responses -/

def State.withDoe (s : State) (d : Doe) : State := { s with doe := d }

/-- A message from single bytes. -/
def octets (l : List Nat) : Bytes := l.map (BitVec.ofNat 8)

/-- The mailbox is served: by the firmware, in READY (assumption log 58). -/
def State.doeServed (s : State) : Bool := decide (s.glb.dev = .ready)

/-- ERROR with its code. -/
def State.spdmError (s : State) (code : Nat) : State := s.emit (.doe (octets [s.doe.version, 0x7F, code, 0]))

/-- A request of the version that is agreed, with its code and at least `n` bytes. -/
def Doe.wellMade (d : Doe) (code n : Nat) (r : Bytes) : Bool := decide (rd r 0 1 = d.version) && decide (rd r 1 1 = code) && decide (n ≤ r.length)

/-- A request that needs the negotiation done: `f` answers it, else an error (InvalidRequest, VersionMismatch, UnexpectedRequest). -/
def State.spdm (s : State) (code n : Nat) (r : Bytes) (f : State → State) : State :=
  if !s.doeServed ∨ rd r 1 1 ≠ code then s
  else if rd r 0 1 ≠ s.doe.version then s.spdmError 0x41
  else if r.length < n then s.spdmError 0x01
  else if s.doe.phase ≠ .negotiated then s.spdmError 0x04
  else f s

/-! ### Negotiation -/

/-- GET_VERSION: versions 1.0, 1.1, 1.2. What was agreed before goes, and the sessions with it. -/
def execGetVersion (r : Bytes) (s : State) : Host.Outcome State Fault Refusal :=
  .next (if !s.doeServed ∨ rd r 1 1 ≠ 0x84 then s
    else if rd r 0 1 ≠ 0x10 then s.emit (.doe (octets [0x10, 0x7F, 0x41, 0]))
    else
      let m := octets [0x10, 0x04, 0, 0, 0, 3, 0, 0x10, 0, 0x11, 0, 0x12]
      (s.withDoe { s.doe with phase := .version, version := 0x10, vca := r ++ m, certMsgs := [], measMsgs := [], sessions := [] }).emit (.doe m))

/-- CERT, CHAL, MEAS with signatures, MEAS_FRESH; from version 1.1 ENCRYPT, MAC, KEY_EX, HBEAT, KEY_UPD. -/
def spdmCaps (version : Nat) : Nat := 0x36 + (if version = 0x10 then 0 else 0x62C0)

/-- GET_CAPABILITIES fixes the version. The exponent of the response time and the transfer sizes are values that the spec does not give. -/
def execGetCapabilities (r : Bytes) (s : State) : Host.Outcome State Fault Refusal :=
  let v := rd r 0 1
  .next (if !s.doeServed ∨ rd r 1 1 ≠ 0xE1 then s
    else if s.doe.phase ≠ .version then s.spdmError 0x04
    else if v ≠ 0x10 ∧ v ≠ 0x11 ∧ v ≠ 0x12 then s.spdmError 0x41
    else if r.length < (if v = 0x10 then 4 else if v = 0x11 then 12 else 20) then s.spdmError 0x01
    else
      let m := octets [v, 0x61, 0, 0, 0] ++ [Config.vendorByte 0x61 0] ++ octets [0, 0] ++ leBytes 4 (spdmCaps v) ++
        (if v = 0x12 then (List.range 8).map (fun i => Config.vendorByte 0x61 (1 + i)) else [])
      (s.withDoe { s.doe with phase := .capabilities, version := v, vca := s.doe.vca ++ r ++ m }).emit (.doe m))

/-- What the responder offers in an algorithm table of NEGOTIATE_ALGORITHMS: secp384r1, AES-256-GCM, no requester authentication, the SPDM
key schedule. -/
def tableOffer (t : Nat) : Nat := if t = 2 then 0x10 else if t = 3 then 2 else if t = 5 then 1 else 0

/-- The answers to `n` algorithm tables of 4 B. -/
def tableAnswers : Nat → Bytes → Bytes
  | 0, _ => []
  | n + 1, b => octets [rd b 0 1, 0x20] ++ leBytes 2 (rd b 2 2 &&& tableOffer (rd b 0 1)) ++ tableAnswers n (b.drop 4)

/-- NEGOTIATE_ALGORITHMS: DMTF measurements with SHA-384, ECDSA P-384, SHA-384. A requester that offers less gets InvalidRequest. -/
def execNegotiateAlgorithms (r : Bytes) (s : State) : Host.Outcome State Fault Refusal :=
  let d := s.doe
  .next (if !s.doeServed ∨ rd r 1 1 ≠ 0xE3 then s
    else if d.phase ≠ .capabilities then s.spdmError 0x04
    else if rd r 0 1 ≠ d.version then s.spdmError 0x41
    else if r.length < 32 ∨ !((rd r 8 4).testBit 7) ∨ !((rd r 12 4).testBit 1) then s.spdmError 0x01
    else
      let n := if d.version = 0x10 then 0 else rd r 2 1
      let m := octets [d.version, 0x63, n, 0] ++ leBytes 2 (36 + 4 * n) ++ octets [rd r 6 1 &&& 1, 0] ++ leBytes 4 (if (rd r 6 1).testBit 0 then 4 else 0) ++
        leBytes 4 0x80 ++ leBytes 4 2 ++ zeros 16 ++ tableAnswers n (r.drop (32 + 4 * (rd r 28 1 + rd r 29 1)))
      (s.withDoe { d with phase := .negotiated, vca := d.vca ++ r ++ m }).emit (.doe m))

/-! ### The identity chain (R478) -/

/-- The chain of slot 0 in the form of DSP0274: length, digest of the root certificate, certificates. -/
def State.spdmChain (s : State) : Bytes :=
  match s.csn.chain with
  | none => []
  | some c => leBytes 2 (52 + c.length) ++ zeros 2 ++ stdOut .spdm 1 [c] 48 ++ c

/-- A message pair on digests or certificates. -/
def State.certReply (s : State) (r m : Bytes) : State := (s.withDoe { s.doe with certMsgs := s.doe.certMsgs ++ r ++ m }).emit (.doe m)

/-- GET_DIGESTS: slot 0 is the only one. -/
def execGetDigests (r : Bytes) (s : State) : Host.Outcome State Fault Refusal :=
  .next (s.spdm 0x81 4 r (fun t =>
    let c := t.spdmChain
    t.certReply r (if c.isEmpty then octets [t.doe.version, 0x01, 0, 0] else octets [t.doe.version, 0x01, 0, 1] ++ sha384 c)))

/-- GET_CERTIFICATE: a part of the chain of slot 0. -/
def execGetCertificate (r : Bytes) (s : State) : Host.Outcome State Fault Refusal :=
  .next (s.spdm 0x82 8 r (fun t =>
    let c := t.spdmChain
    let off := rd r 4 2
    if bits (rd r 2 1) 3 0 ≠ 0 ∨ c.length ≤ off then t.spdmError 0x01
    else
      let part := slice c off (rd r 6 2)
      t.certReply r (octets [t.doe.version, 0x02, 0, 0] ++ leBytes 2 part.length ++ leBytes 2 (c.length - off - part.length) ++ part)))

/-! ### Signatures and measurements -/

/-- A signature by DEV_ID_ECDSA; from version 1.2 with the context string. -/
def State.spdmSign (s : State) (context : String) (msg : Bytes) : Bytes :=
  let key := ((KMap.get 2 s.csn.keys).map (·.value)).getD []
  stdOut .signature 0x0712 [key, if s.doe.version = 0x12 then ascii context else [], msg, drawBytes s.draws 48] 96

/-- The device can sign: it holds DEV_ID_ECDSA, and the DRBG works. -/
def State.canSign (s : State) : Bool := (KMap.get 2 s.csn.keys).isSome && s.ent.drbgOk

/-- Error of a request that the device cannot sign: Busy while the DRBG is down, Unspecified without the identity key. -/
def State.signRefused (s : State) : State := s.spdmError (if (KMap.get 2 s.csn.keys).isSome then 0x03 else 0x05)

/-- The measurement blocks of R481, as index, DMTF value type and value. -/
def State.measurements (s : State) : List (Nat × Nat × Bytes) :=
  [(1, 0x00, padTo 48 s.csn.romMeas), (2, 0x01, padTo 48 s.csn.fwMeas), (3, 0x01, padTo 48 s.csn.stagedMeas)] ++
    (List.range 8).map (fun p => (4 + p, 0x01, s.ucodeMeas p)) ++
    [(12, 0x03, s.configDigest), (13, 0x03, s.ownerDigest), (14, 0x03, s.quorumDigest), (15, 0x02, sha384 s.repairSummary),
     (16, 0x85, leBytes 1 s.lcs.lstate.code ++ s.unitId)]

/-- A block as bytes. -/
def blockBytes (x : Nat × Nat × Bytes) : Bytes :=
  octets [x.1, 1] ++ leBytes 2 (3 + x.2.2.length) ++ octets [x.2.1] ++ leBytes 2 x.2.2.length ++ x.2.2

/-- The measurement summary of CHALLENGE and KEY_EXCHANGE: none, of the trusted computing base, of all blocks. -/
def State.summaryHash (s : State) (kind : Nat) : Option Bytes :=
  let all := (s.measurements.map blockBytes).flatten
  if kind = 0 then some [] else if kind = 0xFF then some (sha384 all) else if kind = 1 then some (stdOut .spdm 2 [all] 48) else none

/-- CHALLENGE: signed over everything since GET_VERSION. -/
def execChallenge (r : Bytes) (s : State) : Host.Outcome State Fault Refusal :=
  .next (s.spdm 0x83 36 r (fun t =>
    let d := t.doe
    match t.summaryHash (rd r 3 1) with
    | none => t.spdmError 0x01
    | some h =>
      if rd r 2 1 ≠ 0 then t.spdmError 0x01
      else if !t.canSign then t.signRefused
      else
        let m := octets [d.version, 0x03, 0, 1] ++ sha384 t.spdmChain ++ drawBytes t.draws 32 ++ h ++ zeros 2
        let t1 := t.nextDraw
        let g := t1.spdmSign "responder-challenge_auth signing" (d.vca ++ d.certMsgs ++ r ++ m)
        ((t1.nextDraw).withDoe { d with certMsgs := [] }).emit (.doe (m ++ g))))

/-- GET_MEASUREMENTS: their number, one block, or all; signed on request. -/
def execGetMeasurements (r : Bytes) (s : State) : Host.Outcome State Fault Refusal :=
  .next (s.spdm 0xE0 4 r (fun t =>
    let d := t.doe
    let signed := (rd r 2 1).testBit 0
    let op := rd r 3 1
    let picked := if op = 0 then [] else if op = 0xFF then t.measurements else t.measurements.filter (fun x => decide (x.1 = op))
    let slotBad := signed && decide (d.version ≠ 0x10) && decide (rd r 36 1 ≠ 0)
    if (picked.isEmpty ∧ op ≠ 0) ∨ slotBad ∨ (signed ∧ r.length < (if d.version = 0x10 then 36 else 37)) then t.spdmError 0x01
    else if !t.ent.drbgOk ∨ (signed ∧ !t.canSign) then t.signRefused
    else
      let rec_ := (picked.map blockBytes).flatten
      let m := octets [d.version, 0x60, if op = 0 then 16 else 0, 0, picked.length] ++ leBytes 3 rec_.length ++ rec_ ++ drawBytes t.draws 32 ++ zeros 2
      let l := d.measMsgs ++ r ++ m
      let t1 := t.nextDraw
      if !signed then (t1.withDoe { d with measMsgs := l }).emit (.doe m)
      else
        let g := t1.spdmSign "responder-measurements signing" ((if d.version = 0x12 then d.vca else []) ++ l)
        ((t1.nextDraw).withDoe { d with measMsgs := [] }).emit (.doe (m ++ g))))

/-! ### Sessions (R555) -/

/-- The first free place of a session. -/
def Doe.freeSession (d : Doe) : Option Nat := ([0, 1] : List Nat).find? (fun k => (KMap.get k d.sessions).isNone)

/-- KEY_EXCHANGE: secp384r1, authenticated by DEV_ID_ECDSA; a third session is refused with Busy. -/
def execKeyExchange (r : Bytes) (s : State) : Host.Outcome State Fault Refusal :=
  .next (s.spdm 0xE4 138 r (fun t =>
    let d := t.doe
    let peer : Bytes := 4 :: slice r 40 96
    match d.freeSession, t.summaryHash (rd r 2 1) with
    | none, _ => t.spdmError 0x03
    | some _, none => t.spdmError 0x01
    | some k, some h =>
      if d.version = 0x10 then t.spdmError 0x07
      else if rd r 3 1 ≠ 0 ∨ (pointDefect 0x0712 peer).isSome then t.spdmError 0x01
      else if !t.canSign then t.signRefused
      else
        let n := t.draws
        let scalar := drawBytes n 48
        let pub := publicOf 0x0712 0 0 scalar
        let rsp := leNat (drawBytes (n + 1) 2)
        let m := octets [d.version, 0x64] ++ [Config.vendorByte 0x64 0] ++ octets [0] ++ leBytes 2 rsp ++ zeros 2 ++ drawBytes (n + 2) 32 ++ pub.drop 1 ++ h ++ zeros 2
        let t1 := t.nextDraw.nextDraw.nextDraw
        let th := d.vca ++ sha384 t.spdmChain ++ r ++ m
        let g := t1.spdmSign "responder-key_exchange_rsp signing" th
        let z := kexSecret 0x0712 scalar peer
        let v := stdOut .finished 0x0A02 [z, th ++ g] 48
        let x : SpdmSession := { id := rd r 4 2 + rsp * 65536, isOpen := false, secret := z, record := th ++ g ++ v, reqGen := 0, rspGen := 0, reqSeq := 0, rspSeq := 0 }
        ((t1.nextDraw).withDoe { d with sessions := KMap.put k x d.sessions }).emit (.doe (m ++ g ++ v))))

/-- A secured message in session `k`: `f` changes the session and answers; a session that is not there, or not yet open where it must be, gets
InvalidSession. -/
def State.inSession (s : State) (k : Nat) (opened : Bool) (f : State → SpdmSession → State) : State :=
  if !s.doeServed then s
  else match KMap.get k s.doe.sessions with
    | none => s.spdmError 0x02
    | some x =>
      if x.isOpen ≠ opened then s.spdmError 0x02
      else
        let y := { x with reqSeq := x.reqSeq + 1, rspSeq := x.rspSeq + 1 }
        f (s.withDoe { s.doe with sessions := KMap.put k y s.doe.sessions }) y

def State.putSpdm (s : State) (k : Nat) (x : SpdmSession) : State := s.withDoe { s.doe with sessions := KMap.put k x s.doe.sessions }

def State.dropSpdm (s : State) (k : Nat) : State := s.withDoe { s.doe with sessions := KMap.del k s.doe.sessions }

/-- An answer in a session. -/
def State.answer (s : State) (k : Nat) (l : List Nat) : State := s.emit (.secured k (octets (s.doe.version :: l)))

/-- FINISH: the session opens when the requester's MAC agrees; else DecryptError, and the session is gone. -/
def execFinish (k : Nat) (r : Bytes) (s : State) : Host.Outcome State Fault Refusal :=
  .next (s.inSession k false (fun t x =>
    let mac := slice r 4 48
    if !(t.doe.wellMade 0xE5 52 r) ∨ !(checkStd .finished 0x0A02 0 [x.secret, x.record ++ r.take 4, mac]) then (t.dropSpdm k).answer k [0x7F, 0x06, 0]
    else (t.putSpdm k { x with isOpen := true, record := x.record ++ r, reqSeq := 0, rspSeq := 0 }).answer k [0x65, 0, 0]))

/-- HEARTBEAT. -/
def execHeartbeat (k : Nat) (s : State) : Host.Outcome State Fault Refusal := .next (s.inSession k true (fun t _ => t.answer k [0x68, 0, 0]))

/-- KEY_UPDATE: 1 the requester's key, 2 both keys, 3 the new key is in use. -/
def execKeyUpdate (k : Nat) (r : Bytes) (s : State) : Host.Outcome State Fault Refusal :=
  .next (s.inSession k true (fun t x =>
    let op := rd r 2 1
    if !(t.doe.wellMade 0xE9 4 r) ∨ op = 0 ∨ 3 < op then t.answer k [0x7F, 0x01, 0]
    else
      let y := if op = 1 then { x with reqGen := x.reqGen + 1, reqSeq := 0 } else if op = 2 then { x with reqGen := x.reqGen + 1, rspGen := x.rspGen + 1, reqSeq := 0, rspSeq := 0 } else x
      (t.putSpdm k y).answer k [0x69, op, rd r 3 1]))

/-- END_SESSION. -/
def execEndSession (k : Nat) (s : State) : Host.Outcome State Fault Refusal := .next (s.inSession k true (fun t _ => (t.answer k [0x6C, 0, 0]).dropSpdm k))

end Sys2Proof.Machine
end

