-- ==== Sys2Proof/Machine/Kem.lean ====
section
/-! DEFINITION. Meanings of group 0x02: KEMs, key agreement and matrix pins (R111 to R115, R204 to R206, R217 to R219, R257 to R282, R343). -/

namespace Sys2Proof.Machine

open Sys2Proof

/-- Burin that computes job `j` fails its own test: a contained fault of the burin, with the restart of R181 (R217, R259). -/
def State.burinTestFails (s : State) (j : Nat) : State :=
  match s.burinOf j with
  | none => s
  | some (p, b) =>
    let s1 := s.reportAs { mkReport (src uBurin (burinUnit p b)) 0x04 .contained with job := some j }
    (s1.hitBurinJob p b true).countBurinFault p b false

/-! ### KEM_KEYGEN (R217, R259, R270, R271, R278) -/

/-- What KEM_KEYGEN creates; DETAIL holds the attempts of a McEliece generation, a free value. -/
def genKem (s : State) (x : Job) : State × Result :=
  let b := x.desc
  let k := genKey (dAlg b) 0 0 (dAttr b) (dOnce b) s.draws
  let mce := Alg.isMce (dAlg b)
  ((if mce then s.nextDraw.nextFree else s.nextDraw), okKeys (if mce then (s.freeVal + 1) % 2 ^ 32 else 0) k.pub [k] [])

def execKemKeygen (j : Nat) (sound core : Bool) (s : State) : Host.Outcome State Fault Refusal :=
  .next (match s.startable j 0x0201 with
    | none => s.noteWait j 0x0201
    | some x =>
      if x.engine = .graver then
        s.runGraver j 0x0201 sound (fun t y => let a := genKem t y; (a.1, a.2, t.keyNeeds (dAttr y.desc)))
      else if x.engine = .both ∧ !core ∧ x.graverPart ≠ .finished then s.invariantFails j
      else if !sound ∧ !(dOnce x.desc) then s.burinTestFails j
      else s.runBurin j 0x0201 genKem)

/-! ### KEM_ENCAPS (R113, R218, R260, R268, R278, R279) -/

/-- The public key that an encapsulation uses: the handle's, or the input. -/
def Job.encapsKey (x : Job) : Bytes := if dKey x.desc = noKey then x.input else (x.key.map (·.pub)).getD []

/-- Defects of an inline key that the post-quantum part finds: those of HQC and McEliece encodings and of ML-KEM moduli. -/
def encapsDefect (alg : Nat) (pk : Bytes) : Option Nat :=
  if Alg.isHybrid alg then publicDefect (Alg.hybridKem alg) 0 (Alg.splitHybrid alg pk).2 else publicDefect alg 0 pk

/-- The effect of KEM_ENCAPS: a ciphertext and a shared-secret handle. A hybrid draws an ephemeral scalar too. -/
def doEncaps (s : State) (x : Job) : State × Result :=
  let b := x.desc
  let a := dAlg b
  let pk := x.encapsKey
  let m := drawBytes s.draws 32
  match (if dKey b = noKey then encapsDefect a pk else none) with
  | some st => (s, failWith st 0)
  | none =>
    if Alg.isHybrid a then
      let c := Alg.hybridCurve a
      let e := stdOut .derivedValue c [(drawBytes s.draws 128).drop 32] (Alg.genValueLen c 0 0)
      let parts := Alg.splitHybrid a pk
      match secretDefect c e parts.1 with
      | some st => (s.nextDraw, failWith st 0)
      | none =>
        let q := encapsTo (Alg.hybridKem a) parts.2 m
        let ct := joinHybrid a (stdOut .publicKey c [e] (Alg.classicalLen a)) q.1
        (s.nextDraw, okKeys 0 ct [secretKey (dAttr b) (dOnce b) (joinHybrid a (kexSecret c e parts.1) q.2)] [])
    else
      let q := encapsTo a pk m
      (s.nextDraw, okKeys 0 q.1 [secretKey (dAttr b) (dOnce b) q.2] [])

def execKemEncaps (j : Nat) (sound : Bool) (s : State) : Host.Outcome State Fault Refusal :=
  .next (match s.startable j 0x0202 with
    | none => s.noteWait j 0x0202
    | some x => if x.engine = .both ∧ !sound ∧ x.graverPart ≠ .finished then s.invariantFails j else s.runBurin j 0x0202 doEncaps)

/-! ### KEM_DECAPS (R114, R204, R219, R261, R269, R278, R279) -/

/-- A defective peer value had the job run on the dummy point, which GRV_DUMMY counts (R343, R354); an all-zero result of real input does not. -/
def State.countDummy (s : State) (alg : Nat) (peer : Bytes) : State :=
  if (peerDefect alg peer).isSome then s.bump (Reg.grv 0x50) else s

/-- The effect of KEM_DECAPS: never a status that depends on the post-quantum part. -/
def doDecaps (s : State) (x : Job) : State × Result :=
  let b := x.desc
  let a := dAlg b
  let v := (x.key.map (·.value)).getD []
  let s1 := match x.pier with | some p => s.lookMatrix p x | none => s
  if Alg.isHybrid a then
    let c := Alg.hybridCurve a
    let parts := Alg.splitHybrid a x.input
    let k := hybridValue a v
    match kexDefect c k.2 parts.1 with
    | some st => (s1.countDummy c parts.1, failWith st 0)
    | none => (s1, okKeys 0 [] [secretKey (dAttr b) (dOnce b) (joinHybrid a (kexSecret c k.2 parts.1) (decapsWith (Alg.hybridKem a) k.1 parts.2))] [])
  else (s1, okKeys 0 [] [secretKey (dAttr b) (dOnce b) (decapsWith a v x.input)] [])

def execKemDecaps (j : Nat) (sound : Bool) (s : State) : Host.Outcome State Fault Refusal :=
  .next (match s.startable j 0x0203 with
    | none => s.noteWait j 0x0203
    | some x => if x.engine = .both ∧ !sound ∧ x.graverPart ≠ .finished then s.invariantFails j else s.runBurin j 0x0203 doDecaps)

/-! ### MATRIX_PIN (R115, R206) -/

def doPin (s : State) (x : Job) : State × Result × List Need :=
  let b := x.desc
  let mask := bits (dP0 b) 15 8
  let no := (onesOf 8 mask).filter (fun p => !(s.mayPin (dKey b) p))
  if (dP0 b).testBit 0 ∧ !no.isEmpty then (s, failWith St.busy (maskOf no), [])
  else (s, okEff 0 [] [.pin (dKey b) x.boundKgen mask ((dP0 b).testBit 0)], [])

def execMatrixPin (j : Nat) (s : State) : Host.Outcome State Fault Refusal := .next (s.runJob j 0x0204 doPin)

/-! ### KEX_DERIVE (R114, R343) -/

def doKex (s : State) (x : Job) : State × Result × List Need :=
  let b := x.desc
  let v := (x.key.map (·.value)).getD []
  match kexDefect (dAlg b) v x.input with
  | some st => (s.countDummy (dAlg b) x.input, failWith st 0, [])
  | none => (s, okKeys 0 [] [secretKey (dAttr b) (dOnce b) (kexSecret (dAlg b) v x.input)] [], s.keyNeeds (dAttr b))

def execKexDerive (j : Nat) (sound : Bool) (s : State) : Host.Outcome State Fault Refusal := .next (s.runGraver j 0x0205 sound doKex)

end Sys2Proof.Machine
end

