-- ==== Sys2Proof/Machine/Maint.lean ====
section
/-! DEFINITION. Meanings of group 0x08: maintenance activities, the repair summary, SELFTEST_RUN (R141 to R146, R695 to R697, R756). -/

namespace Sys2Proof.Machine

open Sys2Proof

/-- Why an activity may not start: a running activity, or what ARCHIVE_EXPORT asks of the card and the archive key (R142, R748, R756). -/
def State.startDefect (s : State) (a arg : Nat) : Option (Nat × Nat) :=
  match s.conflictWith a with
  | some c => some (St.maintConflict, c)
  | none =>
    if a ≠ 7 then none
    else if s.cardOp.isSome then some (St.maintConflict, 7)
    else if !s.cus.ready then some (St.cardRemoved, 0)
    else match s.archiveKey with
      | none => some (St.policy, 0)
      | some k => if s.freeUnits < unitCount (s.snapshot k arg) then some (St.badParam, 0x30) else none

def doMaintStart (s : State) (x : Job) : State × Result × List Need :=
  let a := bits (dP0 x.desc) 7 0
  let arg := dP1 x.desc
  match s.startDefect a arg with
  | some (st, det) => (s, failWith st det, [])
  | none =>
    let s1 := s.startAct a arg none
    (s1, okWith (s1.act a).run [], [])

/-- MAINT_START (R142, R695): the reply carries the run number. -/
def execMaintStart (j : Nat) (s : State) : Host.Outcome State Fault Refusal := .next (s.runAction j 0x0801 doMaintStart)

/-- MAINT_STATUS (R143): every activity, or one. -/
def execMaintStatus (j : Nat) (s : State) : Host.Outcome State Fault Refusal :=
  .next (s.runJob j 0x0802 (fun t x =>
    let a := bits (dP0 x.desc) 7 0
    (t, okWith 0 (if a = 0 then (([1, 2, 3, 4, 5, 6, 7, 8, 9] : List Nat).map t.actRecord).flatten else t.actRecord a), [])))

/-- A SELFTEST_RUN whose Crosshatch test is stopped did not run it. -/
def State.selftestStopped (s : State) (j : Nat) : State :=
  let fix (r : Result) : Result := { r with payload := leBytes 4 (rd r.payload 0 4 - bitAt 3 ((rd r.payload 0 4).testBit 3)) ++ r.payload.drop 4 }
  (s.modJob j (fun x => { x with result := fix x.result })).popNeed j .safePoint

/-- An activity stops at a safe point, and is idle; a stopped patrol stays stopped. The stopped run's RESULT reads ABORTED (assumption log 55). -/
def State.stopAct (s : State) (a : Nat) : State :=
  let s1 := s.idleAct a 0 St.aborted
  match (s.act a).job with
  | some k => if a = 6 then s1.selftestStopped k else if a = 8 then { s1 with flash := { s1.flash with staging := none } }.abandon k St.aborted else s1
  | none => s1

/-- An activity that is not idle: a running or paused patrol, or a started run (R144). -/
def State.notIdle (s : State) (a : Nat) : Bool := decide ((s.act a).mstate = 1 ∨ (s.act a).mstate = 2)

/-- MAINT_STOP (R144, R696): between its steps every activity is at a safe point, but for an export whose unit is being written. -/
def doMaintStop (s : State) (x : Job) : State × Result × List Need :=
  let a := bits (dP0 x.desc) 7 0
  if !(s.notIdle a) then (s, okWith 0 [], [])
  else if a = 7 ∧ s.cardOp.isSome then (s, okWith 0 [], [.safePoint])
  else (s.stopAct a, okWith 0 [], [])

def execMaintStop (j : Nat) (s : State) : Host.Outcome State Fault Refusal := .next (s.runAction j 0x0803 doMaintStop)

/-- REPAIR_QUERY (R145, R692). -/
def execRepairQuery (j : Nat) (s : State) : Host.Outcome State Fault Refusal := .next (s.runJob j 0x0804 (fun t _ => (t, okWith 0 t.repairSummary, [])))

/-- SELFTEST_RUN: the tests that `failed` names failed, `kat` is the algorithm of the first known-answer test that did; bit 3 runs as
XH_SELFTEST and gives its result later (R146, R659). In FALSEWORK PD03 to PD18 switch on and off for bit 0 (R737); the ROM, where no firmware runs,
reports bits 0 and 3 as run and failed (R739). -/
def doSelftest (j : Nat) (failed : BitVec 8) (kat : BitVec 16) (s : State) (x : Job) : State × Result × List Need :=
  let m := bits (dP0 x.desc) 4 0
  let rom := decide (s.glb.dev = .falsework ∧ s.glb.fwCause = 2)
  let f := if rom then (failed.toNat &&& m &&& 0x16) ||| (m &&& 9) else failed.toNat &&& m &&& 0x17
  let out := leBytes 4 m ++ leBytes 4 f ++ leBytes 8 (if f.testBit 0 ∧ !rom then kat.toNat else 0) ++ zeros 16
  let r := okEff f out (if f = 0 then [] else [.after (.falsework 8)])
  let s := if m.testBit 0 ∧ s.glb.dev = .falsework ∧ !rom then s.bump Reg.tolPdSwitch 32 else s
  if !(m.testBit 3) ∨ rom then (s, r, [])
  else match s.conflictWith 6 with
    | some c => (s, failWith St.maintConflict c, [])
    | none => (s.startAct 6 0 (some j), r, [.safePoint])

def execSelftestRun (j : Nat) (failed : BitVec 8) (kat : BitVec 16) (s : State) : Host.Outcome State Fault Refusal :=
  .next (s.runAction j 0x0805 (doSelftest j failed kat))

end Sys2Proof.Machine
end

