-- ==== Sys2Proof/Machine/Mirror.lean ====
section
/-! DEFINITION. Meanings of mirror messages, acknowledgements and their timeouts, and the end of a synchronisation (R245, R252, R579, R581 to
R586, R595 to R598). -/

namespace Sys2Proof.Machine

open Sys2Proof

/-! ### A mirrored item is applied (R581) -/

/-- VI of a handle. -/
def viOf (h : Word) : Nat := h.toNat / 2 ^ 24

/-- A key as sent. A key change of the target that the source's copy replaces is counted (R597). -/
def State.takeKey (s : State) (h : Word) (alg modBits : Nat) (attr : Word) (kgen : Nat) (value pub nonceField : Bytes) (isPrivate : Bool) : State :=
  let n := h.toNat
  let old := KMap.get n s.csn.keys
  let base := old.getD (newKey alg modBits attr 0 value pub isPrivate)
  let k : KeyRec :=
    { base with
      alg := alg, modBits := modBits, attr := attr, kgen := kgen, highKgen := Nat.max base.highKgen kgen, value := value, pub := pub,
      isPrivate := isPrivate, staged := none, nonceField := nonceField, resident := true, derived := true, lastUse := s.time,
      shelved := Alg.aPersistent attr, mirrored := true, publicPresent := !pub.isEmpty, destroying := false, unusable := false }
  let replaced := s.spn.settled && !(s.spn.keySource.contains (viOf h)) && s.spn.wasPrimary.contains (viOf h) &&
    old.any (fun o => decide (o.kgen ≠ kgen ∨ o.attr ≠ attr ∨ o.value ≠ value))
  let s1 := if replaced then s.bump (Reg.spn 0x228) else s
  let s2 := if Alg.aPersistent attr then s1.shelfRecord 1 n kgen (some k) [] s1.shelfEpoch else s1
  let s3 : State := { s2 with spn := { s2.spn with gotKeys := insertNat n s2.spn.gotKeys } }
  let s4 := s3.setKey n k
  (s4.evict s4.csn.keys.length).sweepMatrix

/-- A destroyed key. -/
def State.takeDestroy (s : State) (h : Nat) : State :=
  match KMap.get h s.csn.keys with
  | none => s
  | some k => (if Alg.aPersistent k.attr then s.shelfRecord 2 h k.kgen none [] s.shelfEpoch else s).zeroiseKey h

/-- The ends of a key's counter leases: the copy's counter stands there; a primary's own values are raised (R581, R597). -/
def State.takeCounter (s : State) (h e r : Nat) : State :=
  s.modKey h (fun k =>
    if !(s.vi (h / 2 ^ 24)).primary then { k with counter := e, recCounter := r, counterLease := e }
    else if k.counterLease < e then { k with counter := Nat.max k.counter e, recCounter := Nat.max k.recCounter r, counterLease := e }
    else k)

/-- Exact window of a session: written into the copy in a handover; a primary's own top is raised above it (R579, R597). -/
def State.takeWindow (s : State) (i top window : Nat) : State :=
  s.modSession i (fun x =>
    if !(s.vi x.vi).primary then { x with rx := { x.rx with top := top, window := window } }
    else if x.rx.top < top then { x with rx := { x.rx with top := top + 1024, window := 2 ^ 1024 - 1 } }
    else x)

/-- End of a send lease: TX_SEQ and LEASE_END both; a primary's own are raised, the numbers between being lost (R581, R597). -/
def State.takeLease (s : State) (i e : Nat) : State :=
  s.modSession i (fun x =>
    if !(s.vi x.vi).primary then { x with tx := { x.tx with seq := e, leaseEnd := e } }
    else if x.tx.leaseEnd < e then { x with tx := { x.tx with seq := e, leaseEnd := e, leaseReq := false, leaseAck := false } }
    else x)

/-- A receive checkpoint: the floor rises; one of the alternate slot's epoch, or for an SA one below the last, shows the receive swap of the
primary (R414, R583; assumption log 49). -/
def State.takeCheckpoint (s : State) (i n : Nat) : State :=
  s.modSession i (fun x =>
    if (s.vi x.vi).primary then x
    else
      let swapped := x.altValid && (if x.kind = 1 then decide (n / 2 ^ 48 = x.alt.id) && decide (x.alt.id ≠ x.rx.epoch) else decide (n + 1024 < x.rx.top))
      let rx := { x.rx with top := n + 1024, window := 2 ^ 1024 - 1 }
      if !swapped then { x with rx := rx }
      else if x.kind = 1 then
        { x with rx := { rx with epoch := x.alt.id, slot := x.alt.slot }, alt := { id := x.rx.epoch, slot := x.rx.slot, floor := 2 ^ 48 } }
      else
        { x with rx := { rx with spi := x.alt.id, slot := x.alt.slot }, alt := { id := x.rx.spi, slot := x.rx.slot, floor := 2 ^ 64 } })

/-- A mirrored key exchange updates only the key fields of the copy (R583). -/
def State.takeSessionKeys (s : State) (i : Nat) (entry : Bytes) : State :=
  let y := Session.ofBytes entry
  s.modSession i (fun x =>
    { x with
      altValid := y.altValid
      alt := { y.alt with floor := 1024 }
      tx := { x.tx with slot := y.tx.slot, epoch := y.tx.epoch, spi := y.tx.spi, seq := y.tx.leaseEnd, leaseEnd := y.tx.leaseEnd,
                        rekeyLeft := y.tx.rekeyLeft } })

/-- A grant of the twin: logged as a record of RTYPE 0x04 (R252). -/
def State.takeIndexLease (s : State) (h first stop : Nat) : State :=
  match KMap.get h s.csn.keys with
  | some k =>
    ((s.modStateful h (fun t => { t with twinLease := some first, twinLeaseEnd := stop, twinUncertain := false })).leaseRecord 4 h k.kgen first stop
      ((k.stateful.map (·.twinEnd)).getD 0)).raiseLeaseSeq
  | none => s

/-- A range of indices for this device; the empty one asks for the sender's range back (R245, R252). -/
def State.takeRange (s : State) (h set total first stop : Nat) : State :=
  match KMap.get h s.csn.keys with
  | none => s
  | some k =>
    if stop = 0 then
      (match k.stateful with
      | some t =>
        if t.twinUncertain then
          let u := t.split
          (s.recordRange h k u).mirrorOnly [rangeItem h u]
        else s.mirrorOnly [rangeItem h { t with twinStart := Nat.max t.twinStart t.twinLeaseEnd }]
      | none => s)
    else
      let t : Stateful :=
        { newStateful set total with
          rangeStart := first, rangeEnd := stop, next := first, leaseEnd := first, twinStart := 0, twinEnd := first, twinLeaseEnd := 0 }
      let k1 := { k with stateful := some t }
      let s1 := s.setKey h k1
      if k.stateful.isNone then s1.storeStateful h k1 else (s1.leaseRecord 2 h k.kgen first stop 0).raiseLeaseSeq

/-- Apply one item of a message; roles, and the end of the pairing, come after the other items. -/
def State.takeItem (s : State) (i : MirrorItem) : State :=
  match i with
  | .key h alg m attr kgen value pub nf priv => s.takeKey h alg m attr kgen value pub nf priv
  | .delKey h => s.takeDestroy h.toNat
  | .session i e =>
    let s1 := s.setSession i.toNat (Session.ofBytes e).takeoverForm
    { s1 with spn := { s1.spn with gotSessions := insertNat i.toNat s1.spn.gotSessions } }
  | .removal i => s.dropSession i.toNat
  | .sessionKeys i e => s.takeSessionKeys i.toNat e
  | .sendLease i e => s.takeLease i.toNat e
  | .counter h e r => s.takeCounter h.toNat e r
  | .checkpoint i n => s.takeCheckpoint i.toNat n
  | .indexLease h first stop => s.takeIndexLease h.toNat first stop
  | .indexRange h set total first stop => s.takeRange h.toNat set total first stop
  | .ownRange h first stop => s.modStateful h.toNat (fun t => { t with twinStart := first, twinEnd := stop })
  | .policy v slot input => s.modVi v.val (fun x => { x with policies := KMap.put slot.val input x.policies })
  | .rule slot rule => s.applyEffect (.setRule slot.val rule)
  | .quota v q => s.putQuota v.val (Quota.ofBytes q)
  | .quorum rec => (s.putPolicy rec).publicRecord 2 rec s.shelfEpoch
  | .csnCtl v => s.setReg Reg.csnCtl v.toNat
  | .role _ _ _ => s
  | .viReset v => s.localReset v.val
  | .restore _ => s
  | .windows i top w => s.takeWindow i.toNat top w
  | .pairing st seq p a => { s with spn := { s.spn with peerSync := some (st, seq, p, a) } }
  | .unpair => s

/-- Role changes of a message: the VIs (with AUTO) that the sender takes, and those that it gives up. -/
def rolesIn (items : List MirrorItem) (taken : Bool) : List (Nat × Bool) :=
  items.filterMap (fun i => match i with | .role v p a => if p = taken then some (v.val, a) else none | _ => none)

/-- The roles of a message (R579): what the sender gives up is taken; what it takes is handed over, and the message is answered once the
windows have gone back and are acknowledged. -/
def State.takeRolesIn (s : State) (id : Nat) (items : List MirrorItem) : State :=
  let mine (v : Nat × Bool) : Bool := (s.vi v.1).primary
  let s1 := (rolesIn items false).foldl (fun t v => t.handRole v.1 true (some v.2)) s
  let asked := rolesIn items true
  let give := asked.filter mine
  let s2 := (asked.filter (fun v => !(mine v))).foldl (fun t v => t.handRole v.1 false (some v.2)) s1
  if give.isEmpty then s2.mirrorAck id
  else
    let s3 := give.foldl (fun t v => t.modVi v.1 (fun x => { x with handover := true })) s2
    ({ s3 with spn := { s3.spn with draining := s3.spn.draining ++ [(id, give)] } }).settleDrains

/-- MIRROR_MESSAGE_RECEIVE: a message of the peer, complete and in order, is applied and acknowledged. -/
def execMirrorMessageReceive (id : Nat) (items : List MirrorItem) (s : State) : Host.Outcome State Fault Refusal :=
  .next (
    if !s.spanOn ∨ !s.aligned then s
    else
      let s1 := (items.foldl State.takeItem s).settleSync
      if items.contains .unpair then (s1.mirrorAck id).unpair
      else if s1.spn.pair = .inStep then s1.takeRolesIn id items
      else s1.mirrorAck id)

/-- MIRROR_ACK_RECEIVE: the twin has applied a message. -/
def execMirrorAckReceive (id : Nat) (s : State) : Host.Outcome State Fault Refusal :=
  .next (
    if !s.spanOn ∨ !s.aligned then s
    else match KMap.get id s.spn.waits with
      | none => s
      | some w =>
        let s1 : State := { s with spn := { s.spn with waits := KMap.del id s.spn.waits } }
        (s1.waitMet w).sweepRekey)

/-- MIRROR_WAIT_TIMEOUT: commits and installs end without effect, and the timeout is counted; leases wait on (R586). -/
def State.waitTimesOut (s : State) (id : Nat) (w : MirrorWait) : State :=
  let s1 := ({ s with spn := { s.spn with waits := KMap.del id s.spn.waits } }).bump (Reg.spn 0x218)
  match w with
  | .job j => s1.twinFails j
  | .pending i => s1.failHandshake i 80
  | .established i => s1.failHandshake i 80
  | .altKeys i =>
    s1.modSession i (fun x => { x with altValid := false, alt := { id := 0, slot := KeySlot.empty, floor := 0 }, inbox := x.inbox.drop 1 })
  | .txKeys i => s1.rekeyFails i
  | .viReset v => s1.noteReset v
  | .csnCtl _ => s1
  | .handover vis _ => s1.keepRoles vis
  | .sendLease _ _ => s
  | .counter _ _ => s
  | .stateful _ => s
  | .removal _ => s
  | .checkpoint _ _ => s

def execMirrorWaitTimeout (id : Nat) (s : State) : Host.Outcome State Fault Refusal :=
  .next (match KMap.get id s.spn.waits with
    | some w => if s.clocked then (s.waitTimesOut id w).sweepRekey else s
    | none => s)

/-! ### SYNC_COMPLETE (R597, R598) -/

/-- Sessions of the target that the source does not hold go with cause 0x0A, and its key changes that the source does not have. -/
def State.dropOwn (s : State) : State :=
  let x := s.spn
  let lone := (s.cwy.sessions.filter (fun p => !(x.sessionSource.contains p.2.vi) && !(x.gotSessions.contains p.1))).map (fun p => (p.1, p.2.vi))
  let s1 := lone.foldl (fun t p => (t.dropSession p.1).event p.2 0x0004 p.1 0x0A 0 0) s
  let ks := s1.csn.keys.filter (fun p => decide (1 ≤ Alg.aExport p.2.attr) && !(isFixed p.1) && !(x.keySource.contains (p.1 / 2 ^ 24)) && !(x.gotKeys.contains p.1))
  ks.foldl (fun t p => (if x.wasPrimary.contains (p.1 / 2 ^ 24) then t.bump (Reg.spn 0x228) else t).takeDestroy p.1) s1

/-- The pair is in step: every copied key is mirrored, and every grant known to the twin. -/
def State.inStepNow (s : State) : State :=
  let both (k : KeyRec) : KeyRec :=
    { k with mirrored := decide (1 ≤ Alg.aExport k.attr), stateful := k.stateful.map (fun t => { t with acked := t.acked || t.programmed }) }
  let back := s.spn.returning
  let s1 : State := { s with
    csn := { s.csn with keys := KMap.mapVals (fun _ k => both k) s.csn.keys }
    spn := { s.spn with permille := 1000, wasPrimary := [], fresh := false, returning := [], gotSessions := [], gotKeys := [] } }
  let s2 := s1.clearRollback.setPair .inStep
  if back.isEmpty then s2 else s2.setRoles back true none 5

/-- SYNC_COMPLETE: the last item has been applied. -/
def execSyncComplete (s : State) : Host.Outcome State Fault Refusal :=
  .next (if s.spanOn ∧ s.spn.pair = .syncing ∧ s.spn.settled ∧ s.spn.link then s.dropOwn.inStepNow else s)

end Sys2Proof.Machine
end

