-- ==== Sys2Proof/Machine/Toll.lean ====
section
/-! DEFINITION. The Tollhouse: budget, adaptive voltage, requested domains, and the SMBus target (R712 to R723, R740, R796). -/

namespace Sys2Proof.Machine

open Sys2Proof

/-! ### Budget (R715, R718, R741) -/

/-- Whole milliseconds of a condition, from the samples of 10 µs that saw it (R715, R741). -/
def State.countMs (s : State) (on : Bool) (n reg : Nat) : Nat × State :=
  if !on then (n, s) else if 100 ≤ n + 1 then (0, s.bump reg) else (n + 1, s)

/-- The effective budget at a temperature (R715). -/
def State.budgetAt (s : State) (tj : BitVec 16) : Nat := Nat.max 0x20 (bits (s.reg Reg.tolBudget) 7 0 - (tj.toInt - 2000).toNat)

/-- TJ_SAMPLE: temperature, effective budget and what follows from them. -/
def execTjSample (tj : BitVec 16) (s : State) : Host.Outcome State Fault Refusal :=
  .next (
    if !s.mainPower || !s.glb.released then s
    else
      let t := s.tol
      let top := if !t.tjSeen || decide (t.tjMax.toInt < tj.toInt) then tj else t.tjMax
      let s1 : State := { s with tol := { t with tj := tj, tjMax := top, tjSeen := true, effective := s.budgetAt tj } }
      let hot := s1.countMs s1.thermal t.hotSamples Reg.tolThermalMs
      let cut := hot.2.countMs hot.2.short t.shortSamples Reg.tolShortMs
      let s2 : State := { cut.2 with tol := { cut.2.tol with hotSamples := hot.1, shortSamples := cut.1 } }
      (if !s.limit && s2.limit then s2.emit (.pfInterrupt 2) else s2).recall)

/-- The TOL window takes writes: READY (R29). -/
def State.tolWritable (s : State) : Bool := decide (s.glb.dev = .ready)

/-- A write of a register with RW fields. -/
def State.writeRw (s : State) (a w : Nat) : State := s.setReg a (writeFields (((rwReg a).map (·.fields)).getD []) (s.reg a) w)

/-- TOL_BUDGET: the effective budget follows at the next sample (R715, R740). -/
def execTolBudgetWrite (value : Word) (s : State) : Host.Outcome State Fault Refusal :=
  .next (if s.tolWritable then s.writeRw Reg.tolBudget value.toNat else s)

/-- TOL_SHARE: four fields that sum to 100, or no change (R740). -/
def execTolShareWrite (value : Word) (s : State) : Host.Outcome State Fault Refusal :=
  .next (
    let w := value.toNat
    if s.tolWritable ∧ bits w 31 24 + bits w 23 16 + bits w 15 8 + bits w 7 0 = 100 then s.setReg Reg.tolShare w else s)

/-- PCIE_LINK_STATE_CHANGE: the link's charge changes (R714, R718). -/
def execPcieLinkStateChange (link : PcieLink) (s : State) : Host.Outcome State Fault Refusal :=
  .next (if s.mainPower ∧ s.glb.released then ({ s with tol := { s.tol with pcie := link } }).recall else s)

/-! ### Requested domains (R384, R438, R709 to R712) -/

/-- TOL_PD_REQ: SPAN stays 1 while a pairing record exists. -/
def execTolPdReqWrite (value : Word) (s : State) : Host.Outcome State Fault Refusal :=
  .next (
    if !s.tolWritable then s
    else
      let w := value.toNat
      s.writeRw Reg.tolPdReq (if s.paired then w ||| 2 ^ 22 else w))

/-- A lane of a pair is on duty or spare and not disabled. -/
def State.laneUsed (s : State) (l : Nat) : Bool := (s.lne.onDuty ||| s.lne.spare).testBit l && !(s.fn.lanes.contains l)

/-- The domain is to be on in READY (R709): by request, by a pairing record, or while a unit of it is neither retired nor disabled. -/
def State.pdWanted (s : State) (d : Nat) : Bool :=
  let asked := (s.reg Reg.tolPdReq).testBit d
  if d = 20 ∨ d = 21 ∨ d = 26 then asked
  else if d = 22 then asked || s.paired
  else if 3 ≤ d ∧ d ≤ 10 then !(s.fn.piers.contains (d - 3)) && decide ((s.pier (d - 3)).onDuty + (s.pier (d - 3)).spare ≠ 0)
  else if 11 ≤ d ∧ d ≤ 14 then s.laneUsed (2 * (d - 11)) || s.laneUsed (2 * (d - 11) + 1)
  else if d = 15 then decide (s.grv.onDuty + s.grv.spare ≠ 0)
  else s.pdOn d

/-- No job is left in the units of a domain that switches off. -/
def State.pdIdle (s : State) (d : Nat) : Bool :=
  if 3 ≤ d ∧ d ≤ 10 then (List.range 9).all (fun b => (s.burin (d - 3) b).job.isNone) && (s.pier (d - 3)).park.isEmpty
  else if 11 ≤ d ∧ d ≤ 14 then (s.lane (2 * (d - 11))).work.isEmpty && (s.lane (2 * (d - 11) + 1)).work.isEmpty
  else if d = 22 then s.spn.pairing.isNone
  else true

/-- The word registers of a range of addresses take their reset values. -/
def State.resetRegs (s : State) (a n : Nat) : State := { s with regs := s.regs.filter (fun p => decide (p.1 < a ∨ a + n ≤ p.1)) }

/-- What a domain loses when it switches off (R384, R438, R710, R711): a port's frames and registers, the span link, cards, a pier's stores and
burins, lanes. -/
def State.pdLost (s : State) (d : Nat) : State :=
  if d = 20 ∨ d = 21 then
    let p := d - 20
    (((List.range 4).foldl (fun t k => t.linkFalls p k 0) s).setPort p Port.reset).resetRegs (Reg.port p) 0x40000
  else if d = 22 then
    ({ s with spn := { s.spn.unalign with queue := [], hbAlive := false, hbCount := none } }).resetRegs 0xF00000 0x100000
  else if d = 26 then (s.custodyOff).resetRegs 0x1000000 0x100000
  else if 3 ≤ d ∧ d ≤ 10 then
    let p := d - 3
    let off (x : Burin) : Burin := if x.state = .retired then x else { Burin.reset with faults := x.faults }
    let s1 := (List.range 9).foldl (fun t b => ((t.releaseToken 0 (burinUnit p b)).unask 0 (burinUnit p b)).modBurin p b off) s
    (s1.modPier p (fun y => { y with image := none, loadedAt := 0, matrix := [], picks := 0, deficits := [], turn := [], stippleStall := false,
                                     stippleUsed := 0, seedReady := false })).resetRegs (Reg.pier p 0) 0x10000
  else if 11 ≤ d ∧ d ≤ 14 then
    ([2 * (d - 11), 2 * (d - 11) + 1] : List Nat).foldl (fun t l =>
      ((t.releaseToken 1 l).unask 1 l).modLane l (fun x => if x.state = .retired then x else { x with state := .off })) s
  else s

/-- What a domain starts with when it is on again: units on duty run their self-test as spares do (R711), the span link a new alignment. -/
def State.pdGained (s : State) (d : Nat) : State :=
  if d = 22 then s.sendHello
  else if 3 ≤ d ∧ d ≤ 10 then
    (onesOf 9 (s.pier (d - 3)).onDuty).foldl (fun t b =>
      (t.modBurin (d - 3) b (fun x => { x with state := .selftest })).ask 0 (burinUnit (d - 3) b)) s
  else if 11 ≤ d ∧ d ≤ 14 then
    (([2 * (d - 11), 2 * (d - 11) + 1] : List Nat).filter (fun l => s.lne.onDuty.testBit l)).foldl (fun t l =>
      (t.modLane l (fun x => { x with state := .selftest })).ask 1 l) s
  else s

/-- DOMAIN_SWITCH_COMPLETE: the domain stands as it is wanted (R710, R741). -/
def execDomainSwitchComplete (domain : Fin 30) (s : State) : Host.Outcome State Fault Refusal :=
  .next (
    let d := domain.val
    if s.glb.dev ≠ .ready ∨ s.pdOn d = s.pdWanted d then s
    else if s.pdOn d then (if s.pdIdle d then (s.pdLost d).switchPd (s.tol.pd - 2 ^ d) else s)
    else ((s.switchPd (s.tol.pd + 2 ^ d)).pdGained d).recall)

/-- CSN_CTL: mirrored before it takes effect on a paired device (R484, R581). -/
def execCsnCtlWrite (value : Word) (s : State) : Host.Outcome State Fault Refusal :=
  .next (
    if s.glb.dev ≠ .ready then s
    else
      let v := BitVec.ofNat 32 (bitAt 31 (value.getLsbD 31))
      if s.twinWaits then s.mirror (.csnCtl v) [.csnCtl v] else s.setReg Reg.csnCtl v.toNat)

/-! ### Adaptive voltage (R720 to R723, R694) -/

/-- The loop's setpoint does not move: OTP burns, no acknowledged link, LOOP_EN 0, AVS_RECAL. -/
def State.avsHeld (s : State) : Bool := s.pdOn 29 || !s.tol.avsOk || !((s.reg Reg.tolAvs).testBit 30) || s.startedRuns 9

/-- A unit on duty with a path sentinel. -/
def State.sentinel (s : State) (source : Nat) : Bool :=
  let u := unitOf source
  let i := source % 256
  if u = uBurin then decide (i < 72) && (s.pier (i / 9)).onDuty.testBit (i % 9) else if u = uGraver then s.grv.onDuty.testBit i
  else if u = uLane then s.lne.onDuty.testBit i else decide (u = uDrf) && s.drf.onDuty.testBit i

/-- The pool of a unit has a spare. -/
def State.hasSpare (s : State) (source : Nat) : Bool :=
  let u := unitOf source
  decide ((if u = uBurin then (s.pier (source % 256 / 9)).spare else if u = uGraver then s.grv.spare else if u = uLane then s.lne.spare
    else s.drf.spare) ≠ 0)

/-- Predictive retirement (R694): as a fault retirement where a spare is left, else a report of TOL for the unit's domain. -/
def State.retirePredicted (s : State) (source : Nat) : State :=
  let u := unitOf source
  let i := source % 256
  if !(s.hasSpare source) then s.report uTol (unitDomain u i) 0x0C
  else
    let s1 := s.bump Reg.fclSentinel
    if u = uBurin then s1.retireBurin (i / 9) (i % 9) false else if u = uGraver then s1.retireCore i none false
    else if u = uLane then (s1.retireLane i false).settleDrains else s1.retirePair i false

/-- The sentinels that read below 5 % at 0.85 V: the third time in a row counts (R694). -/
def State.readSentinels (s : State) (low : List Nat) : State :=
  let l := if s.tol.vddMv = 850 then low.filter s.sentinel else []
  let seen := l.foldl (fun m x => KMap.put x (Nat.min 4 ((KMap.get x s.tol.low).getD 0 + 1)) m) ([] : KMap Nat)
  (seen.filter (fun p => decide (p.2 = 3))).foldl (fun t p => t.retirePredicted p.1) { s with tol := { s.tol with low := seen } }

/-- A voltage write goes to the regulator. -/
def State.askMv (s : State) (mv : Nat) : State :=
  ({ s with tol := { s.tol with asking := some mv, attempts := 1, high := 0 } }).emit (.avsWrite mv)

/-- AVS_SAMPLE: the lowest slack and the sentinels below 5 %. No sample is taken while a transaction waits for its acknowledgement (R721). -/
def execAvsSample (slack : Nat) (low : List (BitVec 16)) (s : State) : Host.Outcome State Fault Refusal :=
  .next (
    if !s.mainPower || !s.glb.pll || s.tol.asking.isSome then s
    else
      let t := s.tol
      let s1 : State := { s with tol := { t with slack := Nat.min slack 1023, high := if 120 < slack then Nat.min 100 (t.high + 1) else 0 } }
      let s2 := if s.glb.dev = .ready then s1.readSentinels (low.map BitVec.toNat) else s1
      if s2.avsHeld then s2
      else if slack < 80 ∧ t.vddMv < 850 then s2.askMv (Nat.min 850 (t.vddMv + 5))
      else if 100 ≤ s1.tol.high ∧ 650 < t.vddMv then s2.askMv (t.vddMv - 5)
      else s2)

/-- AVS_ACK (R720 to R722): the setpoint that was written stands. -/
def execAvsAck (s : State) : Host.Outcome State Fault Refusal :=
  .next (match s.tol.asking with
    | none => s
    | some mv =>
      let s1 : State := { s with tol := { s.tol with asking := none, attempts := 0, avsOk := true } }
      if mv = 0 then s1 else ({ s1 with tol := { s1.tol with vddMv := mv } }).bump Reg.tolAvsSteps)

/-- AVS_RETRY (R722): a transaction whose three attempts failed clears AVS_OK and is reported once; it goes out again every second. -/
def execAvsRetry (s : State) : Host.Outcome State Fault Refusal :=
  .next (match s.tol.asking with
    | none => s
    | some mv =>
      let s1 := if s.tol.attempts < 3 then ({ s with tol := { s.tol with attempts := 3, avsOk := false } }).report uTol 1 0x0C else s
      s1.emit (if mv = 0 then .avsRead else .avsWrite mv))

/-- The steps of a recalibration: down to 80 ‰, or 650 mV. -/
def recalSteps (mv : Nat) : List Nat → List Nat
  | [] => []
  | a :: l => if mv < 655 then [] else if a ≤ 80 then [a] else a :: recalSteps (mv - 5) l

/-- AVS_RECAL: the slack table takes the steps' lowest slack; the supply comes back to the loop's setpoint (R723). -/
def execAvsRecal (slacks : List Nat) (s : State) : Host.Outcome State Fault Refusal :=
  .next (
    if !(s.startedRuns 9) || !s.clocked || !s.tol.avsOk || s.tol.asking.isSome then s
    else
      let v := s.tol.vddMv
      let l := recalSteps v slacks
      let outs := (List.range l.length).map (fun k => Out.avsWrite (v - 5 * (k + 1))) ++ (if l.isEmpty then [] else [Out.avsWrite v])
      let s1 : State := { s with tol := { s.tol with slackTable := l }, out := s.out ++ outs }
      (if outs.isEmpty then s1 else s1.bump Reg.tolAvsSteps outs.length).endAct 9 0)

/-- AVS_RECAL_DUE: 720 h of main-power time (R723). -/
def execAvsRecalDue (s : State) : Host.Outcome State Fault Refusal := .next (if s.glb.dev = .ready then s.wantAct 9 else s)

/-! ### The SMBus target (R785, R796) -/

/-- An answer of the target; it is there while PD01 is on. -/
def State.smbus (s : State) (b : Bytes) : State := if s.mainPower then s.emit (.smbus b) else s

/-- STANDING of TOL_STATUS in units of 250 mW, rounded up, and POOL, rounded down (R740). -/
def State.standingUnits (s : State) : Nat := Nat.min 255 ((s.standing + 249) / 250)
def State.poolUnits (s : State) : Nat := Nat.min 255 (s.poolMw / 250)

/-- SMBUS_DEVICE_STATE: command 0x00. -/
def execSmbusDeviceState (s : State) : Host.Outcome State Fault Refusal :=
  .next (s.smbus (leBytes 1 (s.glb.dev.code + 16 * s.lcs.shown.code)))

/-- SMBUS_TJ: command 0x01. -/
def execSmbusTj (s : State) : Host.Outcome State Fault Refusal := .next (s.smbus (leBytes 2 s.tol.tj.toNat))

/-- SMBUS_TJ_MAX: command 0x02. -/
def execSmbusTjMax (s : State) : Host.Outcome State Fault Refusal := .next (s.smbus (leBytes 2 s.tol.tjMax.toNat))

/-- The flags of command 0x03. -/
def State.smbusFlags (s : State) : Nat :=
  bitAt 0 s.errLow + bitAt 1 s.xh.warn + bitAt 2 s.thermal + bitAt 3 s.limit + bitAt 4 s.fcl.fatal + bitAt 5 (decide (s.spn.pair = .inStep))

/-- SMB_ALERT_N is low (R796). -/
def State.smbAlertLow (s : State) : Bool := decide (s.smbusFlags % 16 ≠ 0)

/-- SMBUS_STATUS_FLAGS: command 0x03. -/
def execSmbusStatusFlags (s : State) : Host.Outcome State Fault Refusal := .next (s.smbus (leBytes 1 s.smbusFlags))

/-- SMBUS_VDD_MV: command 0x04. -/
def execSmbusVddMv (s : State) : Host.Outcome State Fault Refusal := .next (s.smbus (leBytes 2 s.tol.vddMv))

/-- SMBUS_BUDGET: command 0x05. -/
def execSmbusBudget (s : State) : Host.Outcome State Fault Refusal := .next (s.smbus (leBytes 2 (s.tol.effective + 256 * s.standingUnits)))

/-- SMBUS_IDENTITY: command 0x06, GLB_ID and the unit ID. -/
def execSmbusIdentity (s : State) : Host.Outcome State Fault Refusal := .next (s.smbus (leBytes 4 0x6440B000 ++ s.unitId))

end Sys2Proof.Machine
end

