-- ==== Sys2Proof/Machine/Power.lean ====
section
/-! DEFINITION. Power, main reset and the ROM's part of the start-up (R607 to R610, R643, R656 to R658, R690, R706, R708, R724 to R730, R791,
R792, R807). -/

namespace Sys2Proof.Machine

open Sys2Proof

/-! ### Main power and the cell (R643, R657, R666, R791, R792) -/

/-- The island without any supply: BBRAM, log, deferred record and registers are gone. -/
def State.islandLost (s : State) : State := { s.clearBbram with island := { Island.reset with vbat := false } }

/-- A supply source fires as its rail leaves its band, and main power fails during its response: the island completes an ERASE and defers
the rest (R656, R657, R791). -/
def State.railFires (s : State) (id : Nat) : State :=
  let resp := s.capped (bits (s.xhCfg id) 2 0)
  let s1 := if 2 ≤ resp then s.logHit { source := id, detA := true, detB := false, injected := false } resp else s
  let s2 := if 4 ≤ resp then s1.eraseRegion else s1
  if resp = 0 ∨ resp = 4 then s2 else s2.defer resp id

/-- Decisions of island sources that wait for the second decision unit of the main part are the island's again. -/
def State.islandWaits (s : State) : List XhHit := ((s.xh.pending.map (·.hits)).getD []).filter (fun h => onIsland h.source)

/-- MAIN_POWER_LOSS: everything but the island, OTP and the boot flash is lost; with main reset released the supply sources fire first. -/
def execMainPowerLoss (s : State) : Host.Outcome State Fault Refusal :=
  .next (
    if !s.mainPower then s
    else
      let s1 := if s.glb.released then ([0x10, 0x11, 0x12, 0x13] : List Nat).foldl State.railFires s else s
      let m := s1.mainReset 0
      let s2 : State := { m with glb := { m.glb with dev := if s.island.vbat then .islandOnly else .off },
                                 tol := { m.tol with pd := if s.island.vbat then 1 else 0 } }
      if s.island.vbat then s.islandWaits.foldl State.aloneFire s2 else s2.islandLost)

/-- VBAT_APPLIED: without main power the island starts with its reset values; with it nothing is lost (R666, R792). -/
def execVbatApplied (s : State) : Host.Outcome State Fault Refusal :=
  .next (
    if s.island.vbat then s
    else if s.mainPower then { s with island := { s.island with vbat := true } }
    else { s with island := Island.reset, glb := { s.glb with dev := .islandOnly }, tol := { s.tol with pd := 1 } })

/-- VBAT_LOSS: without main power the island loses everything; with it VDD_IO keeps it (R643, R792). -/
def execVbatLoss (s : State) : Host.Outcome State Fault Refusal :=
  .next (
    if !s.island.vbat then s
    else if s.mainPower then { s with island := { s.island with vbat := false, onVbat := false } }
    else { s.islandLost with glb := { s.glb with dev := .off }, tol := { s.tol with pd := 0 } })

/-- VDD_IO_SWITCHOVER: the island changes its supply, where that supply is there, and keeps its state (R792). -/
def execVddIoSwitchover (onVbat : Bool) (s : State) : Host.Outcome State Fault Refusal :=
  .next (if (onVbat && s.island.vbat) || (!onVbat && s.mainPower) then { s with island := { s.island with onVbat := onVbat } } else s)

/-! ### Main reset (R724, R725, R742) -/

/-- MAIN_RESET_ASSERT: by the supply monitor, as main power arrives too, or by PERST_N; a source that joins one already there adds its bit. -/
def execMainResetAssert (perst : Bool) (s : State) : Host.Outcome State Fault Refusal :=
  .next (
    let bit : BitVec 3 := if perst then 2 else 1
    if !s.mainPower then (if perst then s else s.mainReset bit)
    else if s.glb.released then s.mainReset bit
    else { s with glb := { s.glb with cause := s.glb.cause ||| bit } })

/-- GLB_RESET: the key asserts a main reset; the window takes writes in READY (R29, R724). -/
def execGlbReset (value : Word) (s : State) : Host.Outcome State Fault Refusal :=
  .next (if value = 0x54455352 ∧ s.glb.dev = .ready then s.mainReset 4 else s)

/-- MAIN_RESET_RELEASE: the straps are sampled, TIMESTAMP starts, PD19 is on, and the link trains (R13, R709, R714, R785). -/
def execMainResetRelease (clkMode smb1 smb0 : Bool) (s : State) : Host.Outcome State Fault Refusal :=
  .next (
    if !s.mainPower || s.glb.released then s
    else
      let s1 : State := { s with
        time := 0
        glb := { s.glb with released := true, clkMode := clkMode, smbAddr := BitVec.ofNat 2 (bitAt 1 smb1 + bitAt 0 smb0) }
        island := { s.island with erased := false }
        tol := { s.tol with pcie := .retrain } }
      s1.switchPd (s1.tol.pd ||| 2 ^ 19))

/-! ### The root PLL (R706, R708, R720) -/

/-- ROM_BOOT follows RESET, or the HALTED that interrupted it. -/
def State.toRomBoot (s : State) : State :=
  if s.glb.dev = .halted then { s with glb := { s.glb with haltedIn := .romBoot } } else { s with glb := { s.glb with dev := .romBoot } }

/-- The seed of a mesh group that the ROM derives from the unit ID (R639; the derivation is not given, assumption log 1). -/
def State.romSeed (s : State) (g : Nat) : Nat := leNat (stdOut .meshState g [s.unitId] 8)

/-- ROOT_PLL_LOCK: the divider clocks start, the first AVSBus read goes out, the ROM starts. -/
def execRootPllLock (s : State) : Host.Outcome State Fault Refusal :=
  .next (
    if !s.mainPower || !s.glb.released || s.glb.pll || !(decide (s.glb.dev = .reset) || decide (s.glb.dev = .halted ∧ s.glb.haltedIn = .reset)) then s
    else
      let s1 : State := { s with
        glb := { s.glb with pll := true }
        xh := { s.xh with mesh := (List.range 8).map s.romSeed }
        csn := { s.csn with romMeas := stdOut .measurement 0 [] 48 }
        tol := { s.tol with asking := some 0, attempts := 1 } }
      ((s1.emit .avsRead).switchPd (s1.tol.pd ||| 2 ^ 2 ||| 2 ^ 23)).toRomBoot)

/-- PLL_LOCK_RESTORED: the divider clocks take over again. -/
def execPllLockRestored (s : State) : Host.Outcome State Fault Refusal :=
  .next (if s.mainPower ∧ s.glb.released ∧ s.glb.dev ≠ .reset ∧ !(decide (s.glb.dev = .halted) && decide (s.glb.haltedIn = .reset)) then
      { s with glb := { s.glb with pll := true } }
    else s)

/-! ### The life-cycle state (R608 to R610) -/

/-- Every byte of a copy up to a code. -/
def State.burnCopy (s : State) (t : Bytes) (c : Nat) : State :=
  (List.range 5).foldl (fun u b => u.setOtp (stateAt c b) (u.otp (stateAt c b) ||| t.getD b 0)) s

/-- The actions of the burn order that a roll-forward repeats (R609, R613). -/
def State.forwardActions (s : State) (t : Bytes) : State :=
  match codeState t with
  | some .restrike => (match s.nextEpochBit with | some (a, v) => s.setOtp a (s.otp a ||| v) | none => s).restrikeKeys
  | some .cancelled => s.cancelKeys
  | _ => s

/-- Roll-forward: a copy that `stuck` names does not burn, and is counted when it lacks a bit (R609). -/
def State.rollForward (s : State) (t : Bytes) (stuck : BitVec 3) : State :=
  let s1 := (s.forwardActions t).bump Reg.tolPdSwitch 2
  let s2 := ([0, 1, 2] : List Nat).foldl (fun u c =>
    if u.copy c = t then u else if stuck.getLsbD c then u.bump Reg.lcsBurnFail else u.burnCopy t c) s1
  match codeState t with
  | some l =>
    if 2 ≤ s2.copiesAt t then { s2.enterLstate l with lcs := { (s2.enterLstate l).lcs with rolledForward := true } } else s2.enterUnexplained
  | none => s2.enterUnexplained

/-- The decoded state governs from here on. -/
def State.decodeState (s : State) (stuck : BitVec 3) : State :=
  match s.decodeCode with
  | .is l => s.enterLstate l
  | .forward t => s.rollForward t stuck
  | .unexplained => s.enterUnexplained

/-! ### The deferred response (R646, R658) -/

/-- What a deferred response carries out, logged with DEFERRED. -/
def State.runDeferred (s : State) (d : Deferred) : State :=
  let sev := if d.sev = 6 then 6 else s.capped d.sev
  let s1 := s.alarmLog s.island.rtcSec s.island.rtcSub d.source (Nat.min sev 5 + 8) s.time
  let s2 := ({ s1 with xh := { s1.xh with warn := true, deferredRun := true, latched := Nat.max s1.xh.latched (Nat.min sev 5), lastSource := d.source } }).emit
    (.pfInterrupt 1)
  let clear (t : State) : State := { t with island := { t.island with deferred := none } }
  let alarm (t : State) : State := { t with xh := { t.xh with alarm := true } }
  if sev ≤ 1 then clear s2
  else if sev = 2 then
    let t := s2.enterHalted .romBoot
    { t with xh := { t.xh with halted := true, haltBy := t.xh.haltBy ++ [d.source] }, island := { t.island with deferred := some { d with ran := true } } }
  else if sev = 3 then alarm ((clear s2).purge 5)
  else if sev = 6 then clear (s2.reportAs (mkReport (src uXh 0x3F) 0x0F .fatal))
  else alarm (s2.startCancel d.source)

/-- A record that an earlier start-up carried out, or a CANCEL that is complete, is cleared. -/
def State.deferredStep (s : State) : State :=
  match s.island.deferred with
  | none => s
  | some d =>
    if d.ran ∨ (d.sev = 5 ∧ s.lcs.lstate = .cancelled) then { s with island := { s.island with deferred := none } }
    else s.runDeferred d

/-! ### The repair map (R689, R690, R807) -/

/-- No bit of `a` lies outside `b`. -/
def subsetOf (a b : Nat) : Bool := decide (a ||| b = b)

/-- KIND of R689. -/
def kindOk (w : Nat) : Bool := decide (1 ≤ w / 2 ^ 28 ∧ w / 2 ^ 28 ≤ 7)

/-- One slot: valid, with the copies that are subsets of the word burned up to it; or ignored, counted and reported. -/
def State.voteSlot (s : State) (k : Nat) : State :=
  let ws := ([0, 1, 2] : List Nat).map (fun c => s.slotWord c k)
  if ws.all (fun w => decide (w = 0)) then s
  else match ws.find? (fun w => kindOk w && decide (2 ≤ (ws.filter (fun v => decide (v = w))).length)) with
    | some w =>
      let short := ([0, 1, 2] : List Nat).filter (fun c => decide (s.slotWord c k ≠ w) && subsetOf (s.slotWord c k) w)
      let s1 := short.foldl (fun t c => (t.burnSlot c k w).bump Reg.tolPdSwitch 2) s
      { s1 with fcl := { s1.fcl with slots := KMap.put k w s1.fcl.slots } }
    | none => ({ s with fcl := { s.fcl with ignored := s.fcl.ignored ++ [k] } }.bump Reg.fclVoteFail).report uMap k 0x0D

/-- UNITs that the map retires for a KIND. -/
def State.mapped (s : State) (kind : Nat) : List Nat := (s.fcl.slots.filter (fun p => decide (p.2 / 2 ^ 28 = kind))).map (fun p => bits p.2 27 16)

/-- Duty and spare maps of a pool of `total` units of which `n` are on duty (R807). -/
def dutyMaps (total n retired : Nat) : Nat × Nat :=
  let good := (List.range total).filter (fun u => !(retired.testBit u))
  (maskOf (good.take n), maskOf (good.drop n))

/-- Duty of the Drafting pairs. -/
def State.dutyDrf (s : State) (retired : Nat) : State :=
  let d := dutyMaps 10 8 retired
  { s with drf := { onDuty := d.1, spare := d.2, retired := retired, testing := 0 } }

/-- Spare rows that the map holds (R687). -/
def State.mapRows (s : State) : State :=
  (s.mapped 6).foldl (fun t m => { t with fcl := { t.fcl with spares := SMap.set zeroDef m (SMap.get zeroDef m t.fcl.spares + 1) t.fcl.spares } }) s

/-- The map is voted once in a power-up. -/
def State.voteMap (s : State) : State :=
  if s.fcl.mapRead then s
  else
    let s1 := ((List.range 128).foldl State.voteSlot s).mapRows
    ({ s1 with fcl := { s1.fcl with mapRead := true }, spn := { s1.spn with badLanes := maskOf ((s1.mapped 5).filter (fun l => decide (l < 5))).eraseDups } }).dutyDrf
      (maskOf ((s1.mapped 4).filter (fun p => decide (p < 10))).eraseDups)

/-! ### The boot flash (R729, R730) -/

/-- Regions of the flash as first block and length. -/
def flashRegions (l : Bytes) : List (Nat × Nat) :=
  [(0, 1), (rd l 12 4, rd l 20 4), (rd l 16 4, rd l 20 4), (rd l 24 4, 2), (rd l 28 4, rd l 32 4), (rd l 36 4, rd l 40 4), (rd l 44 4, 1)]

/-- Regions lie apart. -/
def apart : List (Nat × Nat) → Bool
  | [] => true
  | a :: l => l.all (fun b => decide (a.1 + a.2 ≤ b.1 ∨ b.1 + b.2 ≤ a.1)) && apart l

/-- The flash layout header holds (R729). -/
def layoutOk (l : Bytes) : Bool :=
  let within (n a b : Nat) : Bool := decide (a ≤ n ∧ n ≤ b)
  decide (rd l 0 4 = 0x54534C46) && decide (rd l 4 2 = 1) && decide (rd l 252 4 = crc32c (l.take 252)) && decide (512 ≤ rd l 8 4) &&
    within (rd l 20 4) 32 256 && within (rd l 32 4) 16 1024 && within (rd l 40 4) 4 64 &&
    (flashRegions l).all (fun r => decide (r.1 + r.2 ≤ rd l 8 4)) && apart (flashRegions l)

/-- The ROM reads the header and the boot control: a slot on trial is tried once (R730). -/
def State.readFlash (s : State) : State :=
  if !(layoutOk s.flash.layout) then s.enterFalsework 2
  else
    let s1 := match s.flash.trial with
      | some p => let t := s.bootRecord s.flash.activeB none; { t with glb := { t.glb with trial := true, slotB := p } }
      | none => { s with glb := { s.glb with trial := false, slotB := s.flash.activeB } }
    ({ s1 with glb := { s1.glb with dev := .fwVerify }, csn := { s1.csn with shelfBlocks := rd s.flash.layout 32 4 } }).switchPd (s1.tol.pd ||| 2 ^ 15)

/-- What follows the deferred response: the repair map, then firmware for the states that boot it (R603). -/
def State.romGoesOn (s : State) : State :=
  let s1 := s.voteMap
  if s1.glb.dev ≠ .romBoot then s1
  else if !s1.lcs.explained ∨ s1.lcs.lstate = .blank ∨ s1.lcs.lstate = .cancelled then s1.enterFalsework 1
  else s1.readFlash

/-- ROM_BOOT. -/
def execRomBoot (stuck : BitVec 3) (s : State) : Host.Outcome State Fault Refusal :=
  .next (
    if s.glb.dev ≠ .romBoot ∨ s.lcs.burn.isSome then s
    else
      let s1 := (s.decodeState stuck).deferredStep
      (if s1.glb.dev ≠ .romBoot ∨ s1.lcs.burn.isSome then s1 else s1.romGoesOn).settlePower)

end Sys2Proof.Machine
end

