-- ==== Sys2Proof/Machine/RegRead.lean ====
section
/-! DEFINITION. The words that registers read as: the windows of PF BAR0 and the instance window (R8, R29, R31, R162 to R171, R251, R266,
R315, R349 to R353, R361 to R383, R430 to R437, R482 to R491, R502, R512, R517, R520, R521, R599 to R601, R633 to R635, R663 to R666,
R673, R700 to R704, R712, R726, R740, R742, R775 to R777). -/

namespace Sys2Proof.Machine

open Sys2Proof

/-- Word `i` of bytes, little-endian. -/
def wordOf (b : Bytes) (i : Nat) : Nat := rd b (4 * i) 4

/-- Entry `i` of a list of words. -/
def nthWord (l : List Nat) (i : Nat) : Nat := l.getD i 0

/-! ### RC registers (R10) -/

/-- A counter of the line-port window: FEC symbols, MAC and FEC of a link, classifier (R382, R383). -/
def lptCounter (o : Nat) : Bool :=
  if o < 0x80000 then
    let r := o % 0x40000
    (decide (0x180 ≤ r) && decide (r < 0x190)) || (decide (0x200 ≤ r) && decide (r < 0x300) && decide (r % 0x40 ≤ 0x24))
  else decide (0x80100 ≤ o) && decide (o < 0x80200) &&
    (decide (o % 0x80 ≤ 0x1C) || (decide (0x40 ≤ o % 0x80) && decide (o % 0x80 ≤ 0x54)))

/-- The register at an offset of a BAR0 window is a counter with access RC. -/
def rcCounter (win o : Nat) : Bool :=
  let upTo (lo hi : Nat) : Bool := decide (lo ≤ o) && decide (o ≤ hi)
  match win with
  | 0x01 => upTo 0x4000 0x4008
  | 0x02 => upTo 0x100 0x13C
  | 0x03 => upTo 0x40 0x44
  | 0x04 => decide (o < 0x80000) &&
    ([0x44, 0x48, 0x50, 0x60, 0x64, 0x68, 0x70, 0x74, 0x78, 0x7C, 0xA4] : List Nat).contains (o % 0x10000)
  | 0x05 => upTo 0x40 0x50
  | 0x06 => upTo 0x100 0x110
  | 0x07 => upTo 0x100 0x110
  | 0x08 => upTo 0x100 0x124
  | 0x0B => upTo 0x100 0x110
  | 0x0C => upTo 0x100 0x128
  | 0x0D => upTo 0x600 0x610
  | 0x0E => upTo 0x100 0x104
  | 0x0F => upTo 0x200 0x22C
  | 0x10 => upTo 0x100 0x114
  | 0x11 => lptCounter o
  | _ => false

/-! ### Access to the windows of PF BAR0 (R29, R30, R653, R727) -/

/-- The window may be read in the present device state (assumption log 13). -/
def State.winReadable (s : State) (win : Nat) : Bool :=
  match s.glb.dev with
  | .ready => true
  | .halted => decide (win = 0 ∨ win = 0x0C ∨ win = 0x0D ∨ win = 0x0E)
  | _ => decide (win = 0 ∨ win = 0x0C ∨ win = 0x0E)

/-- The power domain behind an offset of a window is on; an array-wide register needs one of the domains it speaks of. -/
def State.winPowered (s : State) (win o : Nat) : Bool :=
  let any (l : List Nat) : Bool := l.any s.pdOn
  match win with
  | 0x02 => s.pdOn 16
  | 0x03 => any [11, 12, 13, 14]
  | 0x04 => if o < 0x80000 then s.pdOn (3 + o / 0x10000) else any [3, 4, 5, 6, 7, 8, 9, 10]
  | 0x05 => s.pdOn 15
  | 0x06 => s.pdOn 24
  | 0x07 => s.pdOn 25
  | 0x08 => s.pdOn 23
  | 0x09 => s.pdOn 2
  | 0x0A => s.pdOn 17
  | 0x0D => s.pdOn 27
  | 0x0F => s.pdOn 22
  | 0x10 => s.pdOn 26
  | 0x11 => if o < 0x80000 then s.pdOn (20 + o / 0x40000) else any [20, 21]
  | _ => true

/-! ### GLB, VIM (R8, R520, R521, R726, R742) -/

/-- The window GLB. -/
def State.glbWord (s : State) (o : Nat) : Nat :=
  match o with
  | 0x00 => 0x6440B000
  | 0x04 => s.glb.dev.code + (if s.glb.dev = .falsework then s.glb.fwCause * 256 else 0)
  | 0x14 => s.glb.cause.toNat
  | 0x18 => s.glb.readyMs * 65536 + bitAt 9 s.glb.fallback + bitAt 8 s.glb.trial + bitAt 0 s.glb.slotB
  | _ => 0

/-- Offsets 0x0000 to 0x003C of an instance window. -/
def State.viWord (s : State) (v o : Nat) : Nat :=
  let x := s.vi v
  let q := x.quota
  match o with
  | 0x00 => v
  | 0x04 => x.gen.toNat
  | 0x08 => bitAt 31 x.serviceOff + bitAt 30 x.noBuffer + x.tdi.code * 2 ^ 28 + x.state.code
  | 0x0C => x.lateDiscard.toNat
  | 0x10 => q.fetchWeight * 2 ^ 24 + q.laneWeight * 2 ^ 16 + q.graverWeight * 256 + q.burinWeight
  | 0x14 => q.sessionBase
  | 0x18 => q.sessions
  | 0x1C => q.handles
  | 0x20 => q.dgeCtx * 2 ^ 16 + q.txRings * 2 ^ 10 + q.rxRings * 2 ^ 5 + q.cmdRings
  | 0x24 => q.shelfKib * 2 ^ 16 + q.pkMib
  | 0x28 => q.stateful
  | 0x30 => s.sessionsUsed v
  | 0x34 => s.handlesUsed v
  | 0x38 => s.shelfKibUsed v * 2 ^ 16 + s.pkMibUsed v
  | _ => 0

def State.vimWord (s : State) (o : Nat) : Nat := if o < 0x4000 then s.viWord (o / 0x40) (o % 0x40) else s.reg (0x100000 + o)

/-! ### CWY, LNE (R430 to R438) -/

def State.cwyWord (s : State) (o : Nat) : Nat :=
  match o with
  | 0x08 => s.sessionsInUse
  | 0x0C => s.holdUse
  | _ => s.reg (0x200000 + o)

/-- Lanes whose domain is on. -/
def State.lanesPowered (s : State) : Nat := maskOf ((List.range 8).filter (fun l => s.pdOn (11 + l / 2)))

/-- STATE of R437. -/
def LaneState.code : LaneState → Nat
  | .off => 0 | .selftest => 1 | .idle => 2 | .tokenWait => 3 | .run => 4 | .retired => 5

def State.lneWord (s : State) (o : Nat) : Nat :=
  let shown (m : Nat) : Nat := m &&& s.lanesPowered
  if 0x100 ≤ o ∧ o < 0x120 then
    let l := (o - 0x100) / 4
    if s.lanesPowered.testBit l then (s.lane l).faults * 2 ^ 16 + (s.lane l).state.code else 0
  else match o with
    | 0x00 => shown s.lne.onDuty
    | 0x04 => shown s.lne.spare
    | 0x08 => shown s.lne.retired
    | 0x0C => s.lanesOnDuty
    | 0x10 => shown (maskOf s.fn.lanes)
    | _ => s.reg (0x300000 + o)

/-! ### BUR (R162 to R171, R266, R315) -/

/-- ENABLED of BUR_PIER_STATUS. -/
def State.pierEnabled (s : State) (p : Nat) : Bool := decide ((s.pier p).onDuty ≠ 0) && !(s.fn.piers.contains p)

/-- A burin of the pier waits for room in the park buffer. -/
def State.parkFull (s : State) (p : Nat) : Bool :=
  (List.range 9).any (fun b => decide ((s.burin p b).state = .parking) && (((s.burin p b).job.bind s.job).any (fun x => !(s.parkRoom p x))))

/-- STATE of R164. -/
def BurinState.code : BurinState → Nat
  | .off => 0 | .selftest => 1 | .idle => 2 | .tokenWait => 3 | .run => 4 | .parking => 5 | .yieldHold => 6 | .postCommit => 7
  | .zeroise => 8 | .retired => 9

/-- BUR_BURINb_STATE: VI and CLASS only while a job is in the burin. -/
def State.burinWord (s : State) (p b : Nat) : Nat :=
  let x := s.burin p b
  let c := x.state.code
  let who : Nat := if 3 ≤ c ∧ c ≤ 7 then (match x.job.bind s.job with | some j => j.vi * 2 ^ 24 + j.cls * 2 ^ 8 | none => 0) else 0
  who + x.faults * 2 ^ 16 + c

/-- BUR_UCODE. -/
def State.ucodeWord (s : State) (p : Nat) : Nat :=
  let loading := bitAt 29 (s.loading p)
  match (s.pier p).image with
  | some b => 2 ^ 31 + bitAt 30 (decide (s.bur.current = some b)) + loading + rd b 16 2 * 2 ^ 16 + rd b 12 2
  | none => loading

def State.pierWord (s : State) (p o : Nat) : Nat :=
  let x := s.pier p
  if 0x10 ≤ o ∧ o < 0x34 then s.burinWord p ((o - 0x10) / 4)
  else match o with
    | 0x00 =>
      bitAt 31 (s.pierEnabled p) + bitAt 29 (s.parkFull p) + bitAt 28 x.stippleOk + bitAt 27 x.stippleStall + x.retired * 2 ^ 18 + x.spare * 2 ^ 9 +
        x.onDuty
    | 0x04 => s.workUs p * 2 ^ 16 + (s.pierQueue p).length
    | 0x40 => (x.matrix.filter (·.pinned)).length * 256 + (x.matrix.filter (·.filled)).length
    | 0x80 => x.park.length * 2 ^ 24 + x.parkBytes
    | 0xA0 => s.ucodeWord p
    | _ => s.reg (Reg.pier p o)

/-- BUR_MCE_STATUS: staging slots, workspaces, streaming burins, public-key space. -/
def State.mceWord (s : State) : Nat :=
  let running (f : Job → Bool) : Nat := (s.jobs.filter (fun p => f p.2 && decide (p.2.burinPart = .running))).length
  s.stagingUsed * 2 ^ 24 + running Job.mceKeygen * 2 ^ 16 + running Job.mceStream * 2 ^ 12 +
    ((List.range 256).foldl (fun n v => n + s.pkUsed v) 0 + 15) / 16

def State.burWord (s : State) (o : Nat) : Nat :=
  if o < 0x80000 then s.pierWord (o / 0x10000) (o % 0x10000)
  else match o with
    | 0x80010 =>
      let on := (List.range 8).filter s.pierEnabled
      on.length * 256 + on.foldl (fun n p => n + popCount 9 (s.pier p).onDuty) 0
    | 0x80020 => s.mceWord
    | _ => s.reg (0x400000 + o)

/-! ### GRV (R349 to R354) -/

def CoreState.code : CoreState → Nat
  | .off => 0 | .selftest => 1 | .idle => 2 | .tokenWait => 3 | .run => 4 | .switch => 5 | .zeroise => 6 | .retired => 7

/-- GRV_COREc_STATE: the computing job only in states 3 to 5. -/
def State.coreWord (s : State) (c : Nat) : Nat :=
  let x := s.core c
  let st := x.state.code
  let yields (j : Nat) : Nat := ((x.slots.find? (fun y => decide (y.job = j))).map (·.yields)).getD 0
  let who : Nat := if 3 ≤ st ∧ st ≤ 5 then
      (match x.computing with
       | some j => (match s.job j with | some y => y.vi * 2 ^ 24 + yields j * 2 ^ 9 + y.cls * 2 ^ 7 | none => 0)
       | none => 0)
    else 0
  who + x.faults * 2 ^ 16 + x.slots.length * 16 + st

/-- GRV_QUEUE. -/
def State.grvQueueWord (s : State) : Nat :=
  let q := s.jobs.filter (fun p => decide (p.2.graverPart = .queued))
  let n := s.graversOnDuty
  let us := if n = 0 then 0 else Nat.min 65535 (q.foldl (fun t p => t + graverEstimate p.2.desc) 0 / 1600 / n)
  us * 2 ^ 16 + q.length

def State.grvWord (s : State) (o : Nat) : Nat :=
  if 0x100 ≤ o ∧ o < 0x148 then s.coreWord ((o - 0x100) / 4)
  else match o with
    | 0x00 => s.grv.onDuty
    | 0x04 => s.grv.spare
    | 0x08 => s.grv.retired
    | 0x0C => s.graversOnDuty
    | 0x10 => s.grvQueueWord
    | _ => s.reg (0x500000 + o)

/-! ### DGE, ENT (R502, R512 to R514) -/

/-- Contexts that are free. -/
def State.dgeFree (s : State) : Nat := maskOf ((List.range 8).filter (fun c => (s.dgeCtx c).owner.isNone))

def State.dgePfWord (s : State) (o : Nat) : Nat :=
  let owners (lo : Nat) : Nat := (List.range 4).foldl (fun n i => n + ((s.dgeCtx (lo + i)).owner.getD 0) * 2 ^ (8 * i)) 0
  match o with
  | 0x04 => owners 0
  | 0x08 => owners 4
  | 0x0C => s.dgeFree
  | _ => s.reg (0x600000 + o)

/-- ENT_RAW_DATA is the model's free value while a capture runs (assumption log 59). -/
def State.entWord (s : State) (o : Nat) : Nat :=
  let e := s.ent
  match o with
  | 0x00 =>
    bitAt 31 e.ready + bitAt 30 e.drbgOk + bitAt 29 e.noEntropy + e.aState * 2 ^ 27 + e.bState * 2 ^ 25 + e.aFails * 256 + e.bFails
  | 0x08 => 0x031A2900
  | 0x10 => if s.rawAllowed then bitAt 31 e.capture + bitAt 30 e.sourceB else 0
  | 0x14 => if e.capture then s.freeVal % 2 ^ 32 else 0
  | _ => s.reg (0x700000 + o)

/-! ### CSN (R251, R482 to R485) -/

def State.csnWord (s : State) (o : Nat) : Nat :=
  let c := s.csn
  let usable := c.leaseLog.filter (fun b => !b.retired)
  match o with
  | 0x00 =>
    bitAt 31 c.ready + bitAt 30 c.rollback + bitAt 29 c.bbramNew + bitAt 28 ((s.key 4).isSome && (s.key 5).isSome) + bitAt 27 c.policy.isSome +
      bitAt 26 (s.key 6).isSome + s.shelfEpoch * 2 ^ 16 + maskOf (c.officers.map (·.1)) * 256
  | 0x04 => c.keys.length
  | 0x08 => (c.keys.filter (fun p => p.2.resident)).length
  | 0x10 => c.shelfVersion % 2 ^ 32
  | 0x14 => c.shelfVersion / 2 ^ 32 % 2 ^ 32
  | 0x18 => s.shelfErased * 2 ^ 11 + c.shelfBlocks
  | 0xF000 => usable.length * 2 ^ 24 + c.leaseLog.length * 2 ^ 16 + (c.keys.filter (fun p => p.2.stateful.isSome)).length
  | 0xF004 => usable.foldl (fun n b => Nat.max n b.erases) 0
  | 0xF008 => c.logSeq % 2 ^ 32
  | 0xF00C => c.logSeq / 2 ^ 32 % 2 ^ 32
  | _ => s.reg (0x800000 + o)

/-! ### TOL (R712, R740) -/

/-- TOL_TOKENS. -/
def State.tokensWord (s : State) : Nat :=
  let held (k : Nat) : Nat := heldOf s.tol.grants k
  held 3 * 2 ^ 28 + held 1 * 2 ^ 24 + held 0 * 2 ^ 16 + held 2

def State.tolWord (s : State) (o : Nat) : Nat :=
  let t := s.tol
  match o with
  | 0x04 =>
    bitAt 31 s.thermal + bitAt 30 s.limit + bitAt 29 s.short + bitAt 28 (!t.recalled.isEmpty) + s.standingUnits * 2 ^ 16 + s.poolUnits * 256 +
      t.effective
  | 0x0C => s.tokensWord
  | 0x10 => t.tjMax.toNat * 2 ^ 16 + t.tj.toNat
  | 0x20 => bitAt 31 t.avsOk + bitAt 30 ((s.reg Reg.tolAvs).testBit 30) + t.slack * 2 ^ 16 + t.vddMv
  | 0x30 => t.pd
  | _ => s.reg (0xB00000 + o)

/-! ### FCL (R673, R700 to R705) -/

def State.fclWord (s : State) (o : Nat) : Nat :=
  let f := s.fcl
  if 0x8000 ≤ o then (if o < 0x10000 then wordOf (s.logBytes ((o - 0x8000) / 32)) (o % 32 / 4) else 0)
  else match o with
    | 0x00 => bitAt 31 f.fatal + bitAt 30 s.errLow + f.pending.length * 2 ^ 16 + f.fatalSource
    | 0x10 => f.corr
    | 0x14 => f.cont
    | 0x18 => f.fatalMap
    | 0x24 => (match f.pending with | e :: _ => e.seq | [] => 0xFFFFFFFF)
    | 0x28 => (match f.pending with | e :: _ => Nat.min ((s.time - e.stamp) / 100) (2 ^ 32 - 1) | [] => 0)
    | 0x30 => f.wraps * 2 ^ 16 + f.next
    | 0x34 => f.seq
    | 0x60 => if f.mapRead then s.freeSlots.length * 2 ^ 24 + f.uncommitted.length * 2 ^ 16 + f.rowsSpared else 0
    | 0x64 => if f.mapRead then f.pages.length else 0
    | _ => s.reg (0xC00000 + o)

/-! ### XH (R663 to R666) -/

/-- The island registers, at XH offset 0x8_0000. -/
def State.xhiWord (s : State) (o : Nat) : Nat :=
  let i := s.island
  if 0x100 ≤ o ∧ o < 0x120 then s.xhCfg (0x40 + (o - 0x100) / 4)
  else if 0x800 ≤ o ∧ o < 0xC00 then wordOf (padTo 16 ((KMap.get ((o - 0x800) / 16) i.log).getD [])) (o % 16 / 4)
  else match o with
    | 0x00 =>
      bitAt 31 i.erased + bitAt 26 i.xtalOk +
        (match i.deferred with | some d => 2 ^ 30 + d.sev * 2 ^ 27 + d.source * 256 | none => 0)
    | 0x10 => i.rtcSec
    | 0x14 => i.rtcSub
    | 0x20 => i.wraps * 2 ^ 16 + i.next
    | 0x40 => i.loopEn
    | _ => 0

def State.xhWord (s : State) (o : Nat) : Nat :=
  let x := s.xh
  if 0x80000 ≤ o then s.xhiWord (o - 0x80000)
  else if 0x100 ≤ o ∧ o < 0x200 then s.xhCfg ((o - 0x100) / 4)
  else if 0x300 ≤ o ∧ o < 0x400 then
    let n := (o - 0x300) / 4
    if (xhSource n).isSome then (s.xhSrc n).fired * 2 ^ 24 + (s.xhSrc n).events else 0
  else match o with
    | 0x00 =>
      x.latched * 2 ^ 29 + bitAt 28 x.warn + bitAt 27 x.halted + bitAt 26 x.deferredRun + bitAt 25 x.meshSeeded + bitAt 24 x.locked +
        bitAt 23 (s.startedRuns 6) + x.lastSource * 256
    | _ => s.reg (0xD00000 + o)

/-! ### LCS (R633 to R635) -/

/-- An OTP byte as the mirror shows it: secret and reserved regions read 0. -/
def State.mirrorByte (s : State) (a : Nat) : Byte :=
  if a < 0x18 ∨ (0x20 ≤ a ∧ a < 0x70) ∨ (0xE0 ≤ a ∧ a < 0x178) ∨ (0x200 ≤ a ∧ a < 0x800) then s.otp a else 0

def State.lcsStatusWord (s : State) : Nat :=
  let l := s.lcs
  l.shown.code * 2 ^ 29 + s.debugCode * 2 ^ 27 + bitAt 26 s.burning + bitAt 25 (!l.explained) + bitAt 24 l.rolledForward + bitAt 23 l.challenge.isSome +
    l.half * 2 ^ 21 + s.freeIntents.length * 2 ^ 17 + maskOf (([0, 1, 2] : List Nat).filter (fun c => decide (s.copy c = l.code))) * 2 ^ 14 +
    l.reqResult * 2 ^ 11

def State.lcsWord (s : State) (o : Nat) : Nat :=
  if 0x1000 ≤ o then (if o < 0x2000 then leNat ((List.range 4).map (fun i => s.mirrorByte (o - 0x1000 + i))) else 0)
  else if 0x10 ≤ o ∧ o < 0x20 then wordOf s.unitId ((o - 0x10) / 4)
  else match o with
    | 0x00 => s.lcsStatusWord
    | 0x04 => wordOf s.lcs.code 0
    | 0x08 => rd s.lcs.code 4 1
    | 0x20 => wordOf s.lcs.reqTarget 0
    | 0x24 => rd s.lcs.reqTarget 4 1
    | _ => s.reg (0xE00000 + o)

/-! ### SPN (R599 to R602) -/

/-- SPN_STATUS. The lock of the span lanes while the link is down is the model's free value (assumption log 60). -/
def State.spnStatusWord (s : State) : Nat :=
  let x := s.spn
  let lanes := if x.link then x.lanesUsed else x.lanesUsed &&& s.freeVal
  x.pair.code * 2 ^ 29 + bitAt 28 x.link + bitAt 27 x.hbAlive + bitAt 26 x.peerFence + bitAt 25 (s.paired && s.lowerId) + bitAt 24 x.spareUsed +
    lanes * 2 ^ 19 + x.permille

def State.spnWord (s : State) (o : Nat) : Nat :=
  let roles (m : Nat) (i : Nat) : Nat := if s.paired then m / 2 ^ (32 * i) % 2 ^ 32 else 0
  if 0x10 ≤ o ∧ o < 0x20 then wordOf s.spn.peerId ((o - 0x10) / 4)
  else if 0x20 ≤ o ∧ o < 0x40 then roles s.primaryMap ((o - 0x20) / 4)
  else if 0x40 ≤ o ∧ o < 0x60 then roles s.autoMap ((o - 0x40) / 4)
  else if o = 0 then s.spnStatusWord
  else s.reg (0xF00000 + o)

/-! ### CUS (R775 to R777) -/

/-- CUS_OCD_SLOTs. -/
def State.ocdWord (s : State) (k : Nat) : Nat :=
  let x := SMap.get (fun _ => OcdSlot.reset) k s.cus.slots
  let officer := (s.officersAt k).head?
  let active : Bool := match s.cus.exch with | some e => decide (e.slot = k) | none => false
  let st := if !(s.cus.ocd.testBit k) then 0 else if x.error then 4 else if active then 2 else if officer.isSome then 3 else 1
  officer.getD 0xFF * 2 ^ 24 + x.fi * 2 ^ 20 + x.di * 2 ^ 16 + st

def State.cusWord (s : State) (o : Nat) : Nat :=
  let c := s.cus
  if 0x10 ≤ o ∧ o < 0x30 then s.ocdWord ((o - 0x10) / 4)
  else match o with
    | 0x00 =>
      bitAt 31 c.present + bitAt 30 c.ready + bitAt 29 c.width4 + c.speed * 2 ^ 26 + bitAt 25 c.error + bitAt 24 c.valid +
        maskOf (c.shares.map (·.1)) * 2 ^ 16 + c.ocd * 256 + (match c.exch with | some e => e.slot * 32 + 16 | none => 0)
    | 0x08 => c.lbas / 2048
    | 0x0C => (match c.ruling with | some b => sbSeq b % 2 ^ 32 | none => 0)
    | _ => s.reg (0x1000000 + o)

/-! ### LPT (R361 to R383) -/

/-- Physical lanes that carry the logical lanes of link `k` (R357, R361). -/
def State.lanesOf (s : State) (p k : Nat) : List Nat :=
  let w := s.reg (Reg.portCtl p)
  let m := s.portMode p
  ((List.range (modeLanes m)).filter (fun l => decide (m ≠ 4) || decide (l = k))).map (fun l => bits w (2 * l + 1) (2 * l))

/-- PSTATE. -/
def State.pstate (s : State) (p : Nat) : Nat :=
  if !(s.portOn p) then 0
  else
    let n := modeLinks (s.portMode p)
    let up := (s.linksUp p).length
    if n ≠ 0 ∧ up = n then 4 else if 0 < up then 3
    else if n ≠ 0 ∧ (List.range n).all (fun k => decide ((s.port p).phases.getD k 0 = 1)) then 1 else 2

/-- LPT_PORTp_STATUS. A link beyond phase 2 has signal and lock, and one in phase 4 alignment; what else a link sees on its line is the
model's free value (assumption log 60). -/
def State.portStatusWord (s : State) (p : Nat) : Nat :=
  let ph (k : Nat) : Nat := (s.port p).phases.getD k 0
  let links (f : Nat → Bool) : Nat := maskOf ((List.range (modeLinks (s.portMode p))).filter f)
  let lanes (f : Nat → Bool) : Nat := maskOf (((List.range (modeLinks (s.portMode p))).filter f).map (s.lanesOf p)).flatten
  let v := s.freeVal
  let locked := lanes (fun k => decide (3 ≤ ph k)) ||| (lanes (fun k => decide (ph k = 2)) &&& bits v 3 0)
  let signal := locked ||| (lanes (fun k => decide (ph k = 2)) &&& bits v 7 4)
  let aligned := links (fun k => decide (ph k = 4)) ||| (links (fun k => decide (ph k = 3)) &&& bits v 11 8)
  let hiSer := links (fun k => decide (ph k = 3)) &&& bits v 15 12
  let remote := links (fun k => decide (3 ≤ ph k)) &&& bits v 19 16
  links (fun k => decide (ph k = 4)) * 2 ^ 28 + aligned * 2 ^ 24 + hiSer * 2 ^ 20 + remote * 2 ^ 16 + locked * 2 ^ 12 + signal * 256 + s.pstate p

def State.portWord (s : State) (p o : Nat) : Nat :=
  if o = 4 then s.portStatusWord p
  else if 0x400 ≤ o ∧ o < 0x600 then (SMap.get wordDef ((o - 0x400) / 4) (s.port p).addr).toNat
  else s.reg (Reg.port p + o)

def State.lptWord (s : State) (o : Nat) : Nat :=
  if o < 0x80000 then s.portWord (o / 0x40000) (o % 0x40000)
  else match o with
    | 0x80010 => if s.pdOn 20 then (s.port 0).cells else 0
    | 0x80014 => if s.pdOn 21 then (s.port 1).cells else 0
    | _ => s.reg (0x1100000 + o)

/-! ### PF BAR0 -/

/-- The word at an offset of a window, its access and domain apart. -/
def State.winWord (s : State) (win o : Nat) : Nat :=
  match win with
  | 0x00 => s.glbWord o
  | 0x01 => s.vimWord o
  | 0x02 => s.cwyWord o
  | 0x03 => s.lneWord o
  | 0x04 => s.burWord o
  | 0x05 => s.grvWord o
  | 0x06 => s.dgePfWord o
  | 0x07 => s.entWord o
  | 0x08 => s.csnWord o
  | 0x0B => s.tolWord o
  | 0x0C => s.fclWord o
  | 0x0D => s.xhWord o
  | 0x0E => s.lcsWord o
  | 0x0F => s.spnWord o
  | 0x10 => s.cusWord o
  | 0x11 => s.lptWord o
  | _ => 0

/-- The word that a read of PF BAR0 returns (R29, R30). -/
def State.bar0Word (s : State) (a : Nat) : Nat :=
  let win := a / 0x100000
  let o := a % 0x100000
  if s.winReadable win && s.winPowered win o then s.winWord win o else 0

/-! ### The DGE area of an instance window (R488 to R491) -/

def DgeStage.code : DgeStage → Nat
  | .free => 0 | .idle => 1 | .absorb => 2 | .done => 3 | .saving => 4 | .restoring => 5

/-- DGE_STATUS in the window of VI `v`: OWNER and ERR are for the owner alone (R490). -/
def DgeCtx.statusWord (x : DgeCtx) (v : Nat) : Nat :=
  let mine := decide (x.owner = some v)
  let owner := if mine then x.owner.getD 0 else 0
  let claim := if x.owner.isNone then 0 else if mine then 1 else 2
  owner * 2 ^ 24 + claim * 2 ^ 22 + x.stage.code * 2 ^ 18 + bitAt 17 (decide (x.op ≠ .none)) + bitAt 16 (x.approved && decide (x.stage = .done)) +
    (if mine then x.err * 256 else 0) + (64 - x.buf.length)

/-- A register of a context that its owner reads. -/
def DgeCtx.ownWord (x : DgeCtx) (o : Nat) : Nat :=
  if 0x40 ≤ o ∧ o < 0x80 then (if x.stage = .done then wordOf (padTo 64 (slice x.stream x.pos 64)) ((o - 0x40) / 4) else 0)
  else match o with
    | 0x00 => bitAt 16 x.softPad + x.alg
    | 0x08 => x.total % 2 ^ 32
    | 0x0C => x.total / 2 ^ 32 % 2 ^ 32
    | 0x10 => x.key
    | 0x14 => x.outlen
    | 0x18 => x.words % 2 ^ 32
    | 0x1C => x.words / 2 ^ 32 % 2 ^ 32
    | 0x24 => x.custlen
    | 0x28 => x.saveAddr % 2 ^ 32
    | 0x2C => x.saveAddr / 2 ^ 32 % 2 ^ 32
    | _ => 0

/-- The DGE area of the window of VI `v`. -/
def State.dgeViWord (s : State) (v o : Nat) : Nat :=
  if !(s.pdOn 24) || decide (s.glb.dev ≠ .ready) then 0
  else if o < 0x800 then
    let x := s.dgeNow (o / 0x100)
    if o % 0x100 = 4 then x.statusWord v else if x.owner = some v then x.ownWord (o % 0x100) else 0
  else match o with
    | 0x800 => (s.vi v).quota.dgeCtx * 2 ^ 16 + maskOf (s.ctxsOf v) * 256 + s.dgeFree
    | 0x804 => (s.vi v).claimResult.toNat
    | _ => 0

/-! ### The instance window (R31, R35, R85, R517, R520) -/

/-- Entries of a VI's MSI-X table (R517). -/
def msixEntries (v : Nat) : Nat := if v = 0 then 2048 else 32

/-- The word at an offset of the window of VI `v`. -/
def State.windowWord (s : State) (v o : Nat) : Nat :=
  let x := s.vi v
  if o < 0x40 then s.viWord v o
  else if 0x100 ≤ o ∧ o < 0x740 then s.ringReg v o
  else if 0x2000 ≤ o ∧ o < 0x3000 then s.dgeViWord v (o - 0x2000)
  else if 0x4000 ≤ o ∧ o < 0x4000 + 16 * msixEntries v then (SMap.get msixDef ((o - 0x4000) / 4) x.msix).toNat
  else if 0xC000 ≤ o ∧ o < 0xC000 + msixEntries v / 8 then
    maskOf ((x.pba.filter (fun i => decide (i / 32 = (o - 0xC000) / 4))).map (· % 32))
  else match o with
    | 0x3000 => x.intStatus.toNat
    | 0x3004 => x.intEnable.toNat
    | 0x3008 => x.intVector.toNat
    | 0x300C => x.ringErr.toNat
    | _ => 0

end Sys2Proof.Machine
end

