-- ==== Sys2Proof/Machine/RegFile.lean ====
section
/-! DEFINITION. Register accesses: reads, with those that clear, writes under the access codes, and the test port's access (R9 to R11, R29,
R30, R44, R627). -/

namespace Sys2Proof.Machine

open Sys2Proof

/-! ### Which accesses are taken (R9, R29, R31, R516, R559 to R561) -/

/-- How a request is met: taken, unsupported, or unsupported and counted as refused by the TDI. -/
inductive AccessFate where
  | taken | unsupported | tdiRefused
  deriving DecidableEq, Repr

/-- An aligned 32-bit access to PF BAR0 by the PF, or to a function's own instance window while it is enabled. A TDI in ERROR takes none,
one in RUN takes those with the T bit on its stream. -/
def State.accessFate (s : State) (a : RegAccess) : AccessFate :=
  if !s.pcieUp ∨ a.size ≠ 4 ∨ a.off % 4 ≠ 0 then .unsupported
  else match a.space with
    | .bar0 => if a.fn = 0 ∧ a.off < 0x4000000 then .taken else .unsupported
    | .window v =>
      let x := s.vi v.val
      if a.fn ≠ v ∨ 0x10000 ≤ a.off ∨ (v ≠ 0 ∧ x.state = .detached) then .unsupported
      else if x.tdi = .error ∨ (x.tdi = .run ∧ a.tbit = false) then .tdiRefused
      else .taken

/-! ### Reads (R10) -/

/-- What a read of a register of PF BAR0 does: an RC counter is cleared, a free value is used up. -/
def State.afterRegRead (s : State) (a : Nat) : State :=
  let win := a / 0x100000
  let o := a % 0x100000
  if rcCounter win o then s.setReg a 0
  else if (win = 0x07 ∧ o = 0x14) ∨ (win = 0x0F ∧ o = 0) ∨ (win = 0x11 ∧ o < 0x80000 ∧ o % 0x40000 = 4) then s.nextFree
  else s

/-- The same through a window: nothing where it gives no access. -/
def State.afterBar0Read (s : State) (a : Nat) : State :=
  if s.winReadable (a / 0x100000) && s.winPowered (a / 0x100000) (a % 0x100000) then s.afterRegRead a else s

/-- What a read of an instance window does: VI_LATE_DISCARD and the loss counters of the rings are cleared. -/
def State.afterWindowRead (s : State) (v o : Nat) : State :=
  if o = 0x0C then s.modVi v (fun x => { x with lateDiscard := 0 })
  else if o % 32 = 0x1C then
    (match ringAt o with
     | some (.cmd _) => s
     | some id => if id = .xq ∧ v ≠ 0 then s else s.modRing v id.key (fun r => { r with losses := 0 })
     | none => s)
  else s

/-- RC_READ: the value is returned, then cleared. -/
def execRcRead (acc : RegAccess) (s : State) : Host.Outcome State Fault Refusal :=
  .next (match s.accessFate acc with
    | .unsupported => s.emit (.readReply none)
    | .tdiRefused => (s.emit (.readReply none)).bump Reg.vimTdiReject
    | .taken =>
      match acc.space with
      | .bar0 => (s.emit (.readReply (some (BitVec.ofNat 32 (s.bar0Word acc.off))))).afterBar0Read acc.off
      | .window v => (s.emit (.readReply (some (BitVec.ofNat 32 (s.windowWord v.val acc.off))))).afterWindowRead v.val acc.off)

/-! ### Writes to PF BAR0 (R10, R11) -/

/-- A write of TOL_AVS: LOOP_EN, in BLANK and TRIAL only (R740). -/
def State.writeAvs (s : State) (w : Nat) : State := if s.testOpen then s.setReg Reg.tolAvs (bitAt 30 (w.testBit 30)) else s

/-- A write of FCL_RAISE: bits are cleared only in BLANK, TRIAL and PROOF (R670). -/
def State.writeRaise (s : State) (w : Nat) : State :=
  let m := w &&& 0x7FFFE
  let free : Bool := decide (s.lcs.shown = .blank ∨ s.lcs.shown = .trial ∨ s.lcs.shown = .proof)
  s.setReg Reg.fclRaise (if free then m else m ||| s.reg Reg.fclRaise)

/-- A write of FCL_INJ_CTL goes by its MODE (R678, R703). -/
def writeInject (w : Word) (s : State) : Host.Outcome State Fault Refusal :=
  match injMode w with
  | 1 => execFclInjectReport w s
  | 2 => execFclInjectWriteCheck w s
  | 3 => execFclInjectReadCheck w s
  | _ => .next s

/-- A write of XH_STATUS: a 1 clears WARN, a 1 sets LOCK (R645, R663). -/
def writeXhStatus (w : Word) (s : State) : Host.Outcome State Fault Refusal :=
  match (if w.getLsbD 28 then execXhWarnClear s else .next s) with
  | .next t => if w.getLsbD 24 then execXhLock t else .next t
  | o => o

/-- A write to the window XH. -/
def writeXh (o : Nat) (w : Word) (s : State) : Host.Outcome State Fault Refusal :=
  if 0x100 ≤ o ∧ o < 0x200 then execXhSrcCfgWrite (BitVec.ofNat 8 ((o - 0x100) / 4)) w s
  else if 0x80100 ≤ o ∧ o < 0x80120 then execXhSrcCfgWrite (BitVec.ofNat 8 (0x40 + (o - 0x80100) / 4)) w s
  else match o with
    | 0x00 => writeXhStatus w s
    | 0x08 => execXhResume w s
    | 0x0C => execXhInject w s
    | 0x80010 => execXhiRtcSecWrite w s
    | 0x80040 => execXhiLoopCtlWrite w s
    | _ => .next s

/-- A write to the registers of a line port: a word of a local address entry is staged until the last one is written (R375). -/
def writePort (p : Fin 2) (o : Nat) (w : Word) (s : State) : Host.Outcome State Fault Refusal :=
  if o = 0 then execLptPortCtlWrite p w s
  else if 0x100 ≤ o ∧ o < 0x110 then execLptTxeqWrite p (Fin.ofNat 4 ((o - 0x100) / 4)) w s
  else if 0x400 ≤ o ∧ o < 0x600 then
    let k := (o - 0x400) / 4
    if k % 8 = 7 then execLocalAddressWrite p (Fin.ofNat 16 (k / 8)) w s
    else .next (s.modPort p.val (fun x => { x with staged := KMap.put k w x.staged }))
  else .next (if (rwReg (Reg.port p.val + o)).isSome then s.writeRw (Reg.port p.val + o) w.toNat else s)

/-- A write to the window LPT; LINK_CHANGE bits are RW1C (R364). -/
def writeLpt (o : Nat) (w : Word) (s : State) : Host.Outcome State Fault Refusal :=
  if o < 0x80000 then writePort (Fin.ofNat 2 (o / 0x40000)) (o % 0x40000) w s
  else match o with
    | 0x80000 => .next (s.writeRw Reg.clsCtl w.toNat)
    | 0x80008 => .next (s.setReg Reg.lptInt (maskOf ((onesOf 8 (s.reg Reg.lptInt)).filter (fun b => !(w.getLsbD b)))))
    | _ => .next s

/-- A write to a span register (R600, R601). -/
def State.writeSpn (s : State) (o : Nat) (w : Word) : State :=
  if o = 4 then s.writeRw Reg.spnCtl w.toNat
  else if 0x100 ≤ o ∧ o < 0x114 then (if tapsOk w.toNat then s.setReg (0xF00000 + o) (w.toNat % 2 ^ 24) else s)
  else s

/-- A write to the window TOL. -/
def writeTol (o : Nat) (w : Word) (s : State) : Host.Outcome State Fault Refusal :=
  match o with
  | 0x00 => execTolBudgetWrite w s
  | 0x08 => execTolShareWrite w s
  | 0x20 => .next (s.writeAvs w.toNat)
  | 0x34 => execTolPdReqWrite w s
  | _ => .next s

/-- A write to the window FCL. -/
def writeFcl (o : Nat) (w : Word) (s : State) : Host.Outcome State Fault Refusal :=
  match o with
  | 0x10 => execFclStickyClear 0 w s
  | 0x14 => execFclStickyClear 1 w s
  | 0x18 => execFclStickyClear 2 w s
  | 0x1C => .next (s.writeRaise w.toNat)
  | 0x20 => execFclAck w s
  | 0x44 => writeInject w s
  | _ => .next (if (rwReg (0xC00000 + o)).isSome then s.writeRw (0xC00000 + o) w.toNat else s)

/-- A write to a register of a window that takes it: registers with a row of their own act as that row. -/
def writeWindow (win o : Nat) (w : Word) (s : State) : Host.Outcome State Fault Refusal :=
  match win with
  | 0x00 => if o = 0x10 then execGlbReset w s else .next s
  | 0x06 => if o = 0 then execDgeReclaim w s else .next s
  | 0x07 => if o = 0x10 then execEntRawCtlWrite w s else .next (if o = 4 then s.writeRw Reg.entCtl w.toNat else s)
  | 0x08 => if o = 0x20 then execCsnCtlWrite w s else .next s
  | 0x0B => writeTol o w s
  | 0x0C => writeFcl o w s
  | 0x0D => writeXh o w s
  | 0x0F => .next (s.writeSpn o w)
  | 0x11 => writeLpt o w s
  | _ => .next (if (rwReg (win * 0x100000 + o)).isSome then s.writeRw (win * 0x100000 + o) w.toNat else s)

/-- A write to PF BAR0: taken in READY; in HALTED XH_RESUME alone is (R29, R653). -/
def writeBar0 (a : Nat) (w : Word) (s : State) : Host.Outcome State Fault Refusal :=
  let win := a / 0x100000
  let o := a % 0x100000
  if s.winPowered win o ∧ (s.glb.dev = .ready ∨ (s.glb.dev = .halted ∧ a = 0xD00008)) then writeWindow win o w s else .next s

/-! ### Writes to an instance window -/

/-- Low or high word of a 64-bit address; bits [5:0] stay 0 (R36, R37). -/
def putLo (a : BitVec 64) (w : Nat) : BitVec 64 := BitVec.ofNat 64 (a.toNat / 2 ^ 32 * 2 ^ 32 + w / 64 * 64)
def putHi (a : BitVec 64) (w : Nat) : BitVec 64 := BitVec.ofNat 64 (a.toNat % 2 ^ 32 + w * 2 ^ 32)

/-- A write to a ring register (R36 to R44): the addresses stand still while the ring is enabled. -/
def State.writeRing (s : State) (v : Nat) (id : RingId) (o : Nat) (w : Word) : State :=
  let r := s.ring v id.key
  let n := w.toNat
  if id = .xq ∧ v ≠ 0 then s
  else match o with
    | 0x00 => if r.enable then s else s.setRing v id.key { r with baseA := putLo r.baseA n }
    | 0x04 => if r.enable then s else s.setRing v id.key { r with baseA := putHi r.baseA n }
    | 0x08 => if r.enable ∨ id = .ev then s else s.setRing v id.key { r with baseB := putLo r.baseB n }
    | 0x0C => if r.enable ∨ id = .ev then s else s.setRing v id.key { r with baseB := putHi r.baseB n }
    | 0x10 => s.writeCtl v id n
    | 0x14 => s.setRing v id.key { r with modCount := BitVec.ofNat 8 (bits n 23 16), modTimer := BitVec.ofNat 10 (bits n 9 0) }
    | _ => s

/-- A write to a doorbell (R42). -/
def State.writeBell (s : State) (v o : Nat) (w : Word) : State :=
  let i := bits w.toNat 15 0
  if o < 0x1080 then
    let n := Fin.ofNat 16 ((o - 0x1000) / 8)
    if o % 8 = 0 then s.tailBell v (.cmd n) i else s.headBell v (.cmd n) i
  else if 0x1100 ≤ o ∧ o < 0x1140 then s.headBell v (.rx (Fin.ofNat 16 ((o - 0x1100) / 4))) i
  else if 0x1200 ≤ o ∧ o < 0x1240 then s.tailBell v (.tx (Fin.ofNat 16 ((o - 0x1200) / 4))) i
  else if o = 0x1300 then s.headBell v .ev i
  else if o = 0x1304 ∧ v = 0 then s.headBell v .xq i
  else s

/-- CMD of a written DGE_CTL (R489). -/
def State.dgeDo (s : State) (v c cmd : Nat) : State :=
  match cmd with
  | 1 => if s.dgeLive v then s.dgeClaim v c else s
  | 2 => s.dgeCmd v c (fun t x => t.dgeRelease c x)
  | 3 => s.dgeCmd v c (fun t x => t.dgeDoInit v c x)
  | 4 => s.dgeCmd v c (fun t x => t.dgeFinal c x)
  | 5 => s.dgeCmd v c (fun t x => t.dgeSave c x)
  | 6 => s.dgeCmd v c (fun t x => t.dgeRestore v c x)
  | 7 => s.dgeCmd v c (fun t x => t.dgeSqueeze c x)
  | 8 => s.dgeCmd v c (fun t x => t.setDgeCtx c (x.cleared 0))
  | _ => s

/-- A write to context `c`: the owner's alone has an effect; DGE_CTL applies its set-up fields before CMD (R488, R489). -/
def State.writeDge (s : State) (v c o : Nat) (w : Word) : State :=
  let n := w.toNat
  let set (f : DgeCtx → DgeCtx) : State := s.dgeCmd v c (fun t x => t.setDgeCtx c (f x))
  match o with
  | 0x00 => (set (fun x => { x with softPad := n.testBit 16, alg := bits n 15 0 })).dgeDo v c (bits n 31 28)
  | 0x08 => set (fun x => { x with total := x.total / 2 ^ 32 * 2 ^ 32 + n })
  | 0x0C => set (fun x => { x with total := x.total % 2 ^ 32 + n * 2 ^ 32 })
  | 0x10 => set (fun x => { x with key := n })
  | 0x14 => set (fun x => { x with outlen := n % 2 ^ 17 })
  | 0x20 => s.dgeCmd v c (fun t x => t.dgeData c x w false)
  | 0x24 => set (fun x => { x with custlen := n % 256 })
  | 0x28 => set (fun x => { x with saveAddr := x.saveAddr / 2 ^ 32 * 2 ^ 32 + n / 64 * 64 })
  | 0x2C => set (fun x => { x with saveAddr := x.saveAddr % 2 ^ 32 + n * 2 ^ 32 })
  | _ => s

/-- A write to the MSI-X table: address bits [1:0] stay 0, of the vector control word the mask bit alone is kept; messages that it lets out go
out (R517). -/
def State.writeMsix (s : State) (v i : Nat) (w : Word) : State :=
  let n := w.toNat
  let kept := if i % 4 = 3 then n % 2 else if i % 4 = 0 then n / 4 * 4 else n
  (s.modVi v (fun x => { x with msix := SMap.set msixDef i (BitVec.ofNat 32 kept) x.msix })).flushMsix v

/-- A write to the window of VI `v`. -/
def State.writeInstance (s : State) (v o : Nat) (w : Word) : State :=
  if 0x100 ≤ o ∧ o < 0x740 then (match ringAt o with | some id => s.writeRing v id (o % 32) w | none => s)
  else if 0x1000 ≤ o ∧ o < 0x2000 then s.writeBell v o w
  else if 0x2000 ≤ o ∧ o < 0x2800 then s.writeDge v ((o - 0x2000) / 0x100) (o % 0x100) w
  else if 0x4000 ≤ o ∧ o < 0x4000 + 16 * msixEntries v then s.writeMsix v ((o - 0x4000) / 4) w
  else match o with
    | 0x3000 => s.clearStatus v w
    | 0x3004 => s.writeIntEnable v w
    | 0x3008 =>
      let n := bits w.toNat 10 0
      if n ≤ maxVector v then s.modVi v (fun x => { x with intVector := BitVec.ofNat 11 n }) else s
    | _ => s

/-- REGISTER_WRITE. -/
def execRegisterWrite (acc : RegAccess) (value : Word) (s : State) : Host.Outcome State Fault Refusal :=
  match s.accessFate acc with
  | .unsupported => .next s
  | .tdiRefused => .next (s.bump Reg.vimTdiReject)
  | .taken =>
    match acc.space with
    | .bar0 => writeBar0 acc.off value s
    | .window v => .next (s.writeInstance v.val acc.off value)

/-! ### The test port (R617, R627) -/

/-- Vendor scan is decoded: BLANK and TRIAL, or PROOF and RESTRIKE with a permit. -/
def State.scanOpen (s : State) : Bool := decide (s.debugCode = 2 ∨ s.debugCode = 3)

/-- A test-port write: LCS_REQ_TARGET in BLANK and TRIAL, discarded with REQ_RESULT 4 while a burn runs (R617, R632). -/
def State.scanTarget (s : State) (hi : Bool) (w : Word) : State :=
  if !s.testOpen then s
  else if s.lcs.burn.isSome then { s with lcs := { s.lcs with reqResult := 4 } }
  else
    let t := s.lcs.reqTarget
    { s with lcs := { s.lcs with reqTarget := if hi then t.take 4 ++ [w.setWidth 8] else leBytes 4 w.toNat ++ t.drop 4 } }

/-- VENDOR_SCAN: a register of PF BAR0 read or written through the test port; what lies beyond the registers reads as the model's free value
(assumption log 61). An instruction that is not decoded acts as BYPASS. -/
def execVendorScan (code : Byte) (reg : Nat) (value : Option Word) (s : State) : Host.Outcome State Fault Refusal :=
  if !s.testPortUp then .next s
  else
    let on := s.scanOpen && decide (0x10 ≤ code.toNat ∧ code.toNat ≤ 0x7F)
    let s1 := s.loadIr code on
    if !on then .next s1
    else match value with
      | none =>
        if 0x4000000 ≤ reg then .next ((s1.emit (.testPort (leBytes 4 (s1.freeVal % 2 ^ 32)))).nextFree)
        else if s1.winPowered (reg / 0x100000) (reg % 0x100000) then
          .next ((s1.emit (.testPort (leBytes 4 (s1.winWord (reg / 0x100000) (reg % 0x100000))))).afterRegRead reg)
        else .next (s1.emit (.testPort (leBytes 4 0)))
      | some w =>
        if reg = 0xE00020 ∨ reg = 0xE00024 then .next (s1.scanTarget (decide (reg = 0xE00024)) w) else writeBar0 reg w s1

end Sys2Proof.Machine
end

