-- ==== Sys2Proof/Machine/Replies.lean ====
section
/-! DEFINITION. The host interface's own opcodes, input from host memory, and the writing of replies (R54, R60 to R63, R70 to R72, R83, R87, R156,
R157, R268, R279). -/

namespace Sys2Proof.Machine

open Sys2Proof

/-! ### Group 0x0F (R156, R157) -/

/-- NOP. -/
def execNop (j : Nat) (s : State) : Host.Outcome State Fault Refusal := .next (s.runJob j 0x0F00 (fun t _ => (t, okWith 0 [], [])))

/-- ECHO: a copy of the input. -/
def execEcho (j : Nat) (s : State) : Host.Outcome State Fault Refusal := .next (s.runJob j 0x0F01 (fun t x => (t, okWith 0 x.input, [])))

/-- Algorithm IDs that a VI may use, ascending: none while its service is off (R153). -/
def State.algsOf (s : State) (v : Nat) : List Nat :=
  if (s.vi v).serviceOff then [] else (Alg.all.filter (fun a => !(s.fn.algs.contains a))).take 96

/-- The information record (R157). -/
def State.infoRecord (s : State) (v : Nat) : Bytes :=
  let algs := s.algsOf v
  leBytes 4 0x6440B000 ++ leBytes 4 s.fwVersion ++ leBytes 4 s.fwSvn ++ leBytes 2 v ++ leBytes 2 (s.vi v).gen.toNat ++ leBytes 1 s.glb.dev.code ++
    leBytes 1 s.lcs.lstate.code ++ leBytes 1 s.burinsOnDuty ++ leBytes 1 s.graversOnDuty ++ leBytes 1 (popCount 8 s.lne.onDuty) ++
    leBytes 1 (bitAt 0 s.paired) ++ leBytes 2 algs.length ++ (if v = 0 then s.unitId else zeros 16) ++ zeros 24 ++ (algs.map (leBytes 2)).flatten

/-- GET_INFO. -/
def execGetInfo (j : Nat) (s : State) : Host.Outcome State Fault Refusal := .next (s.runJob j 0x0F03 (fun t x => (t, okWith 0 (t.infoRecord x.vi), [])))

/-! ### ABORT (R70) -/

/-- What an ABORT matches: every undecided descriptor of the named ring of its VI with the named TAG, another ABORT excepted. -/
def State.abortTargets (s : State) (j : Nat) (x : Job) : List Nat :=
  let p0 := dP0 x.desc
  (s.jobs.filter (fun p => decide (p.1 ≠ j) && decide (p.2.origin = .host) && decide (p.2.vi = x.vi) && decide (p.2.ring = bits p0 3 0) &&
    decide (dTag p.2.desc = bits p0 63 32) && !(isAbort p.2.desc))).map (·.1)

/-- ABORT, at check 6: its own outcome comes when the outcome of every target is decided. HIF judges checks 7 to 12 there too, so that the
rule of R91 on KEY_HANDLE holds of it (assumption log 64). -/
def execAbort (j : Nat) (s : State) : Host.Outcome State Fault Refusal :=
  .next (match s.job j with
    | none => s
    | some x =>
      if !(isAbort x.desc) ∨ x.stage ≠ .fetched ∨ !s.fetching then s
      else match s.checkDispatch x.vi s.strict x.desc with
        | some r => s.refuseJob j r
        | none =>
          let l := s.abortTargets j x
          let y := { x with stage := .running, committed := true, targets := l, matched := l.length, abortedN := 0,
                            approved := s.runsApproved x.vi x.desc }
          if l.isEmpty then s.settleAbort j y
          else l.foldl (fun t k => t.requestAbort k St.aborted) (s.putJob j y))

/-! ### Input (R62, R87, R268, R279) -/

/-- The inline key of an encapsulation is refused as soon as it has been read: McEliece padding, either part of a hybrid key. -/
def Job.stagedDefect (x : Job) : Option Nat :=
  if dOp x.desc = 0x0202 ∧ dKey x.desc = noKey ∧ (Alg.isMce (dAlg x.desc) ∨ Alg.isHybrid (dAlg x.desc)) then publicDefect (dAlg x.desc) 0 x.input else none

/-- The whole input has come: an inline key is looked at. -/
def State.checkStaged (s : State) (j : Nat) : State :=
  match s.job j with
  | none => s
  | some x =>
    if !x.inputDone ∨ x.stage = .ready then s
    else match x.stagedDefect with
      | some st => s.inputFails j (failWith st 0)
      | none => s

/-- HOST_READ_COMPLETION: a read from IN_ADDR returns; while the VI may issue no DMA it waits (R518). -/
def execHostReadCompletion (j : Nat) (o : ReadOutcome) (s : State) : Host.Outcome State Fault Refusal :=
  .next (match s.job j with
    | none => s
    | some x =>
      match x.reading with
      | none => s
      | some n =>
        if !(s.dmaOk x.vi) then s
        else match o with
          | .data b => ((s.putJob j { x with input := x.input ++ b.take n, reading := none }).nextInput j).checkStaged j
          | _ => s.inputFails j (failWith St.hostDma 0))

/-! ### Replies (R50, R54, R71, R72) -/

/-- Replies are written: READY, HALTED (R734), FALSEWORK (R88). -/
def State.replying (s : State) : Bool := s.fetching || decide (s.glb.dev = .halted)

/-- The output of a job goes out before its reply. -/
def State.writeOutputs (s : State) (v : Nat) (l : List (Nat × Bytes)) : State :=
  l.foldl (fun t o => if o.2.isEmpty then t else t.emit (.dma v (t.via v) o.1 o.2)) s

/-- The reply leaves the device: output, entry, message. -/
def State.sendReply (s : State) (r : Reply) : State :=
  let s1 : State := { s with replies := s.replies.erase r }
  let s2 := s1.writeOutputs r.vi r.outputs
  let q := s2.ring r.vi r.ring
  s2.writeEntry r.vi r.ring q.baseB 18 (replyBytes r q.phase) r.notify

/-- REPLY_WRITE: the next reply of a ring, if the ring has room and the VI may issue DMA. -/
def execReplyWrite (v : Fin 256) (k : Fin 16) (s : State) : Host.Outcome State Fault Refusal :=
  .next (match s.nextReply v.val k.val with
    | none => s
    | some r =>
      if !s.replying ∨ !(s.dmaOk v.val) ∨ (s.ring v.val k.val).full then s
      else
        let t := s.sendReply r
        (match r.after with
        | some a => t.afterCrossing a
        | none => t).settleDrains)

end Sys2Proof.Machine
end

