-- ==== Sys2Proof/Machine/Sessions.lean ====
section
/-! DEFINITION. Meanings of the session and flow-rule opcodes (R104 to R110, R386, R413, R417, R419). -/

namespace Sys2Proof.Machine

open Sys2Proof

/-! ### SESSION_POLICY_SET (R105) -/

/-- The header of a policy is malformed. -/
def badPolicy (p : Bytes) : Bool :=
  let mask (off n m : Nat) : Bool := decide (rd p off n ≠ 0) && decide (rd p off n < m)
  decide (rd p 0 2 ≠ 1) || decide (8 ≤ rd p 2 2) || !(mask 4 4 8) || !(mask 8 4 64) || !(mask 12 4 64) || decide (rd p 20 2 < 256 ∨ 16384 < rd p 20 2) ||
    decide (16 ≤ rd p 22 1) || decide (16 < rd p 24 2) || decide (rd p 26 2 ≠ 0) || decide (32768 < rd p 28 4) ||
    (slice p 52 12).any (fun b => decide (b ≠ 0))

/-- The server key: a private key of the VI with SIGN usage, of an algorithm with a TLS 1.3 scheme. -/
def State.serverKeyDefect (s : State) (v h : Nat) : Option Nat :=
  match s.ownKey v h with
  | none => some St.keyNotFound
  | some k =>
    if !(Alg.hasUse k.attr Alg.uSign) || !k.isPrivate then some St.keyUsage
    else if [0x0201, 0x0202, 0x0203, 0x0711, 0x0712, 0x0721].contains k.alg then none else some St.badEncoding

/-- An anchor: a public verification key of the VI. -/
def State.anchorDefect (s : State) (v h : Nat) : Option Nat :=
  match s.ownKey v h with
  | none => some St.keyNotFound
  | some k => if k.isPrivate then some St.keyNotFound else if Alg.hasUse k.attr Alg.uVerify then none else some St.keyUsage

/-- Why a policy is refused: its header, its chain, its server key, its anchors in order. -/
def State.policyDefect (s : State) (v : Nat) (p : Bytes) : Option Nat :=
  let n := rd p 24 2
  let chain := p.drop (64 + 4 * n)
  if badPolicy p || (!chain.isEmpty && !(Config.stdCheck .structure 0 [chain])) then some St.badEncoding
  else match s.serverKeyDefect v (rd p 16 4) with
    | some st => some st
    | none => (List.range n).findSome? (fun i => s.anchorDefect v (rd p (64 + 4 * i) 4))

def doPolicySet (s : State) (x : Job) : State × Result × List Need :=
  match s.policyDefect x.vi x.input with
  | some st => (s, failWith st 0, [])
  | none => (s, okEff 0 [] [.setPolicy x.vi (bits (dP0 x.desc) 3 0) x.input], s.tableNeeds)

def execSessionPolicySet (j : Nat) (s : State) : Host.Outcome State Fault Refusal := .next (s.runJob j 0x0101 doPolicySet)

/-! ### SESSION_INSTALL (R106, R386) -/

/-- An SA record is malformed. -/
def badSa (r : Bytes) (alg : Nat) : Bool :=
  decide (1 < rd r 0 1) || decide (1 < rd r 1 1) || decide (1 < rd r 2 1) || decide (16 ≤ rd r 3 1) || decide (rd r 0 1 = 1 ∧ rd r 3 1 ≠ 0) ||
    decide (rd r 8 2 ≠ alg) || !([0x0901, 0x0902, 0x0903].contains (rd r 8 2)) || decide (4 ≤ rd r 10 1) || decide (rd r 12 4 ≠ 0) ||
    (slice r 76 20).any (fun b => decide (b ≠ 0))

/-- Why an SA record is refused, with its DETAIL: malformed, its address not bound to the VI (5), a second SA with its address and SPI (4). -/
def State.saDefect (s : State) (v : Nat) (r : Bytes) (alg : Nat) : Option Nat :=
  let v6 := (rd r 10 1).testBit 1
  let dst := if v6 then slice r 32 16 else slice r 32 4
  if badSa r alg then some 0
  else if rd r 0 1 = 1 then none
  else if !((s.port (rd r 2 1)).espBound v6 dst v) then some 5
  else if (s.findSa (rd r 2 1) v6 dst (rd r 4 4)).any (fun i => (s.session i).any (fun x => decide (x.vi = v))) then some 4
  else none

/-- SESSION_INSTALL: its index is kept for it until its table write. -/
def doInstall (j : Nat) (s : State) (x : Job) : State × Result × List Need :=
  let k := x.key.getD (newKey 0 0 0 0 [] [] true)
  match s.saDefect x.vi x.input k.alg with
  | some d => (s, failWith St.badEncoding d, [])
  | none =>
    match s.freeIndex x.vi with
    | none => (s, failWith St.quota 4, [])
    | some i =>
      let s1 : State := { s with cwy := { s.cwy with reserved := KMap.put j i s.cwy.reserved } }
      (s1, okEff 0 (leBytes 4 i) [.installSa i x.vi x.input k.value], s.tableNeeds)

def execSessionInstall (j : Nat) (s : State) : Host.Outcome State Fault Refusal := .next (s.runJob j 0x0102 (doInstall j))

/-! ### SESSION_REKEY (R107, R417, R419) -/

/-- The session that a job names, when its VI owns it. -/
def State.ownSession (s : State) (x : Job) : Option (Nat × Session) :=
  let i := bits (dP0 x.desc) 23 0
  match s.session i with
  | some y => if y.vi = x.vi then some (i, y) else none
  | none => none

/-- NEW_SPI may be taken by an inbound SA: not 0, and no SA of its address holds it but in the slot it replaces. -/
def State.spiFree (s : State) (i : Nat) (y : Session) (spi : Nat) : Bool :=
  decide (spi ≠ 0) && decide (spi ≠ y.rx.spi) &&
    (match s.findSa y.port y.ipv6 y.path.localAddr spi with | some k => decide (k = i) | none => true)

def doRekey (j : Nat) (s : State) (x : Job) : State × Result × List Need :=
  let spi := dP1 x.desc
  match s.ownSession x with
  | none => (s, failWith St.inputInvalid 0, [])
  | some (i, y) =>
    if y.state ≠ 2 then (s, failWith St.inputInvalid 0, [])
    else if y.kind = 1 then
      if dKey x.desc ≠ noKey then (s, failWith St.badParam 0x14, [])
      else if spi ≠ 0 then (s, failWith St.inputInvalid 0, [])
      else
        let s1 := (s.startKeyUpdate i (some j)).sweepRekey
        if (s1.session i).isSome then (s1, okEff 0 [] [.rekeyDtls i], [.peerAck]) else (s1, failWith St.state s.glb.dev.code, [])
    else
      match x.key with
      | none => (s, failWith St.keyNotFound 0, [])
      | some k =>
        if k.alg ≠ y.alg then (s, failWith St.keyUsage 0, [])
        else if !y.outbound && !(s.spiFree i y spi) then (s, failWith St.inputInvalid 0, [])
        else (s, okEff 0 [] [.rekeySa i spi k.value], s.tableNeeds)

/-- A second SESSION_REKEY of a DTLS session waits until the first has its outcome. -/
def State.rekeyHeld (s : State) (j : Nat) : Bool :=
  (s.job j).any (fun x => (s.session (bits (dP0 x.desc) 23 0)).any (fun y => (y.tx.kuJob.bind s.job).isSome))

def execSessionRekey (j : Nat) (s : State) : Host.Outcome State Fault Refusal :=
  .next (if s.rekeyHeld j then s else s.runJob j 0x0103 (doRekey j))

/-! ### SESSION_REMOVE, SESSION_QUERY, FLOW_RULE_SET (R108 to R110) -/

def doRemove (s : State) (x : Job) : State × Result × List Need :=
  match s.ownSession x with
  | none => (s, failWith St.inputInvalid 0, [])
  | some (i, y) =>
    let s1 := if y.kind = 1 ∧ (dP0 x.desc).testBit 32 then s.sendAlert i 1 0 else s
    (s1, okEff 0 [] [.removeSession i], s.tableNeeds)

def execSessionRemove (j : Nat) (s : State) : Host.Outcome State Fault Refusal := .next (s.runJob j 0x0104 doRemove)

/-- The 64 B of SESSION_QUERY. -/
def State.sessionReport (s : State) (x : Session) : Bytes :=
  leBytes 1 x.state ++ leBytes 1 x.kind ++ leBytes 2 x.alg ++ leBytes 2 x.rx.epoch ++ leBytes 1 x.port ++ leBytes 1 x.rx.ring ++ leBytes 8 x.tx.seq ++
    leBytes 8 x.rx.top ++ leBytes 8 x.counts.rxRecords ++ leBytes 8 x.counts.rxBytes ++ leBytes 8 x.counts.drops ++
    leBytes 8 (if x.state = 2 then s.second - x.estS else 0) ++ zeros 8

def doQuery (s : State) (x : Job) : State × Result × List Need :=
  match s.ownSession x with
  | none => (s, failWith St.inputInvalid 0, [])
  | some (_, y) => (s, okWith 0 (s.sessionReport y), [])

def execSessionQuery (j : Nat) (s : State) : Host.Outcome State Fault Refusal := .next (s.runJob j 0x0105 doQuery)

/-- A flow rule is malformed, or names a policy slot that has never been set. A deletion has no further field. -/
def State.badRule (s : State) (r : Bytes) : Bool :=
  if rd r 0 1 = 0 then false
  else
    decide (rd r 0 1 ≠ 1) || !([4, 6].contains (rd r 1 1)) || decide (4 ≤ rd r 2 1) || decide ((if rd r 1 1 = 4 then 32 else 128) < rd r 3 1) ||
      decide (256 ≤ rd r 4 2) || decide (16 ≤ rd r 6 1) || decide (rd r 7 1 ≠ 0) || decide (4096 ≤ rd r 26 2 ∧ rd r 26 2 ≠ 0xFFFF) ||
      (slice r 28 36).any (fun b => decide (b ≠ 0)) || (KMap.get (rd r 6 1) (s.vi (rd r 4 2)).policies).isNone

def doRuleSet (s : State) (x : Job) : State × Result × List Need :=
  if s.badRule x.input then (s, failWith St.badEncoding 0, [])
  else (s, okEff 0 [] [.setRule (bits (dP0 x.desc) 11 0) x.input], s.tableNeeds)

def execFlowRuleSet (j : Nat) (s : State) : Host.Outcome State Fault Refusal := .next (s.runJob j 0x0106 doRuleSet)

end Sys2Proof.Machine
end

