-- ==== Sys2Proof/Machine/Sig.lean ====
section
/-! DEFINITION. Meanings of group 0x03 and of the lease commands: signatures and stateful leases (R116 to R121, R191, R220 to R254,
R327 to R329, R344). -/

namespace Sys2Proof.Machine

open Sys2Proof

/-! ### SIG_KEYGEN (R116, R191, R225, R229, R231, R236, R245) -/

/-- The key that SIG_KEYGEN creates; a stateful one holds its whole index space, split with the twin when it is mirrored. -/
def genSig (s : State) (b : Bytes) : KeyRec :=
  let k := genKey (dAlg b) (dModBits b) (dP2 b) (dAttr b) false s.draws
  if Alg.isStateful (dAlg b) then
    let t := newStateful (dP2 b) (((Alg.genSet (dAlg b) (dP2 b)).map (Alg.hbsTotal (dAlg b))).getD 0)
    { k with stateful := some (if s.mirrors (dAttr b) then t.split else t) }
  else k

def execSigKeygen (j : Nat) (sound : Bool) (s : State) : Host.Outcome State Fault Refusal :=
  .next (match s.startable j 0x0301 with
    | none => s.noteWait j 0x0301
    | some x =>
      if x.engine = .burin then
        s.runBurin j 0x0301 (fun t y => let k := genSig t y.desc; (t.nextDraw, okKeys 0 k.pub [k] []))
      else
        s.runGraver j 0x0301 sound (fun t y =>
          let k := genSig t y.desc
          (t.nextDraw, okKeys 0 k.pub [k] [], t.keyNeeds (dAttr y.desc))))

/-! ### SIG_SIGN and SIG_SIGN_PREHASH (R117 to R119, R222, R223, R232, R327, R328) -/

/-- The parameters that enter a signature: opcode form, options and HASH (R116, R223). -/
def sigParams (pre : Bool) (b : Bytes) : Bytes :=
  leBytes 8 (dP0 b) ++ leBytes 8 (dP1 b) ++ [if pre then 1 else 0]

/-- A signature over context and message: `rnd` is the drawn randomness, or nothing where the signature is deterministic. -/
def signature (b : Bytes) (pre : Bool) (k : KeyRec) (input : Bytes) (index : Option Nat) (rnd : Bytes) : Bytes :=
  stdOut .signature (dAlg b) [k.value, sigParams pre b, input, rnd, (index.map (leBytes 8)).getD []] (Alg.sigLen (dAlg b) (dModBits b) k.setWord)

/-- The effect of a signing opcode: DETAIL carries the index of a stateful signature (R119). -/
def doSign (pre : Bool) (s : State) (x : Job) : State × Result :=
  let b := x.desc
  match x.key with
  | none => (s, failWith St.keyNotFound 0)
  | some k =>
    let rnd := if (dP0 b).testBit 16 then [] else drawBytes s.draws 64
    let s1 := if (dP0 b).testBit 16 then s else s.nextDraw
    match s.leaseOf (dKey b) with
    | some t =>
      let i := t.index
      (s1, okEff (i % 2 ^ 32) (signature b pre k x.input (some i) rnd) [.useIndex (dKey b) i])
    | none => (s1, okWith 0 (signature b pre k x.input none rnd))

/-- A signing opcode: a burin that finds no candidate in 1,000 iterations, or a core whose invariant fails, ends with INVARIANT_FAIL
(R221, R340). -/
def State.signJob (s : State) (j op : Nat) (pre sound : Bool) : State :=
  match s.startable j op with
  | none => s.noteWait j op
  | some x =>
    if x.engine = .burin then
      s.runBurin j op (fun t y => if !sound ∧ Alg.isMlDsa (dAlg y.desc) then (t, failWith St.invariantFail 0) else doSign pre t y)
    else s.runGraver j op sound (fun t y => let a := doSign pre t y; (a.1, a.2, []))

def execSigSign (j : Nat) (sound : Bool) (s : State) : Host.Outcome State Fault Refusal := .next (s.signJob j 0x0302 false sound)

def execSigSignPrehash (j : Nat) (sound : Bool) (s : State) : Host.Outcome State Fault Refusal := .next (s.signJob j 0x0304 true sound)

/-! ### SIG_VERIFY (R117, R120, R226, R235, R326, R344) -/

/-- The parts of the input: public key, context with message, signature. -/
def verifyParts (b input : Bytes) (k : Option KeyRec) : Bytes × Bytes × Bytes :=
  let alg := dAlg b
  let pkLen : Nat :=
    if k.isSome then 0
    else if Alg.isStateful alg then (match hbsKeyTypes alg input with | some (_, t, _) => hbsPkLen alg t | none => 0)
    else Alg.pkLen alg (dModBits b) 0
  let pk := match k with | some r => r.pub | none => input.take pkLen
  let m := bits (dP0 b) 31 24 + dP2 b
  (pk, slice input pkLen m, input.drop (pkLen + m))

/-- A stateful signature is well formed against its key: level count, types and index (R235 cases 2, 3 and 5). -/
def hbsFits (alg : Nat) (pk sig : Bytes) : Bool :=
  match hbsKeyTypes alg pk with
  | none => false
  | some (l, t, o) =>
    if alg = 0x0401 then
      decide (rdBe sig 0 4 + 1 = l) && (match hssWalk sig 8 4 t o (rdBe sig 0 4) with | .is n => decide (n = sig.length) | _ => false)
    else if alg = 0x0402 then decide (rdBe sig 0 4 < 2 ^ (((Alg.xmssOid t).map (·.2)).getD 0))
    else
      let h := ((Alg.xmssMtOid t).map (fun y => y.2.1)).getD 0
      decide (rdBe sig 0 ((h + 7) / 8) < 2 ^ h)

/-- The verdict of a standard's verification. -/
def verdictOf (b pk msg sig : Bytes) : Bool :=
  (!(Alg.isStateful (dAlg b)) || hbsFits (dAlg b) pk sig) &&
    Config.stdCheck .verify (dAlg b) [pk, sigParams ((dP0 b).testBit 17) b, msg, sig]

/-- The effect of SIG_VERIFY. -/
def doVerify (s : State) (x : Job) : State × Result :=
  let b := x.desc
  let k := if dKey b = noKey then none else x.key
  let p := verifyParts b x.input k
  match (if k.isSome then none else publicDefect (dAlg b) (dModBits b) p.1) with
  | some st => (s, failWith st 0)
  | none => (s, okWith (if verdictOf b p.1 p.2.1 p.2.2 then 1 else 0) [])

def execSigVerify (j : Nat) (sound : Bool) (s : State) : Host.Outcome State Fault Refusal :=
  .next (match s.startable j 0x0303 with
    | none => s.noteWait j 0x0303
    | some x =>
      if x.engine = .burin then s.runBurin j 0x0303 doVerify
      else s.runGraver j 0x0303 sound (fun t y => let a := doVerify t y; (a.1, a.2, [])))

/-! ### Leases (R121, R237, R238, R241 to R250) -/

/-- The 48 B of HBS_LEASE_QUERY (R121): a key between two leases shows the next one. -/
def leaseBytes (paired : Bool) (t : Stateful) : Bytes :=
  let next := if t.next < t.leaseEnd then t.next else t.leaseStart
  let stop := if t.next < t.leaseEnd then t.leaseEnd else Nat.min (t.leaseStart + 1024) t.rangeEnd
  leBytes 8 next ++ leBytes 8 stop ++ leBytes 8 t.total ++ leBytes 8 (t.rangeEnd - next) ++
    leBytes 8 (if paired then t.twinLease.getD t.twinStart else 2 ^ 64 - 1) ++
    leBytes 4 (bitAt 0 paired + bitAt 1 t.recordCurrent + bitAt 2 t.requested) ++ zeros 4

def doLeaseQuery (s : State) (x : Job) : State × Result × List Need :=
  match s.leaseOf (dKey x.desc) with
  | some t => (s, okWith 0 (leaseBytes s.paired t), [])
  | none => (s, failWith St.keyNotFound 0, [])

def execHbsLeaseQuery (j : Nat) (s : State) : Host.Outcome State Fault Refusal := .next (s.runJob j 0x0305 doLeaseQuery)

/-- LEASE_SUBTREE_BUILT: the build jobs of a requested lease have all ended; waiting signing jobs become eligible. -/
def execLeaseSubtreeBuilt (h : Word) (s : State) : Host.Outcome State Fault Refusal :=
  .next (if s.clocked then s.modStateful h.toNat (fun t => if t.requested then { t with subtreeBuilt := true } else t) else s)

/-- HBS_LEASE_GRANT: the record of a requested lease is programmed and read back, the BBRAM sequence raised, and the grant mirrored; under
STRICT the twin's acknowledgement is awaited (R241, R244, R252). With fewer than 2 usable blocks, or on a failed program, the grant is
refused and the fault logged; a block that fails is retired (R250). -/
def State.grantLease (s : State) (h : Nat) (k : KeyRec) (t : Stateful) (programmed : Bool) : State :=
  if s.logUsable < 2 then s.report uCsn 0 0x0D
  else if !programmed then
    let l := s.csn.leaseLog
    let l1 := match activeBlock l with | some (i, _) => listMod l i (fun b => { b with retired := true }) | none => l
    ({ s with csn := { s.csn with leaseLog := l1 } }).report uCsn 0 0x0D
  else
    let s1 := (s.leaseRecord 1 h k.kgen t.reqFirst t.reqEnd t.rangeEnd).raiseLeaseSeq
    let item : MirrorItem := .indexLease (BitVec.ofNat 32 h) t.reqFirst t.reqEnd
    let mine := s.mirrors k.attr
    let s2 := s1.modStateful h (fun y => { y with programmed := true, acked := !mine || y.available })
    if mine && !s.twinLost then s2.mirror (.stateful h) [item] else s2

def execHbsLeaseGrant (h : Word) (programmed : Bool) (s : State) : Host.Outcome State Fault Refusal :=
  .next (match KMap.get h.toNat s.csn.keys with
    | some k =>
      (match k.stateful with
      | some t => if s.serving ∧ t.requested ∧ !t.programmed then s.grantLease h.toNat k t programmed else s
      | none => s)
    | none => s)

/-- Every key's newest record lies in another block (R250). -/
def State.blockStale (s : State) (i : Nat) : Bool :=
  let all := (s.csn.leaseLog.map (·.recs)).flatten
  s.csn.keys.all (fun p => !p.2.stateful.isSome ||
    ((s.csn.leaseLog.getD i LeaseBlock.reset).recs.all (fun r =>
      decide (r.handle ≠ p.1) || decide (r.kgen ≠ p.2.kgen) ||
        all.any (fun q => decide (q.handle = r.handle) && decide (q.kgen = r.kgen) && decide (r.seq < q.seq)))))

/-- LEASE_LOG_ERASE: a block without a newest record is erased; at 100,000 erases, or when the erase fails, it is retired. -/
def execLeaseLogErase (i : Nat) (good : Bool) (s : State) : Host.Outcome State Fault Refusal :=
  .next (
    let l := s.csn.leaseLog
    let active := (activeBlock l).any (fun p => decide (p.1 = i))
    match l[i]? with
    | some b =>
      if b.retired ∨ b.blockSeq.isNone ∨ active ∨ !(s.blockStale i) then s
      else
        let n := b.erases + 1
        { s with csn := { s.csn with leaseLog := l.set i { erases := n, blockSeq := none, recs := [], retired := !good || decide (100000 ≤ n) } } }
    | none => s)

/-- LEASE_WAIT_TIMEOUT: 2 ms after its lease ran out, a signing job whose next lease is not acknowledged ends (R119, R244). -/
def execLeaseWaitTimeout (j : Nat) (s : State) : Host.Outcome State Fault Refusal :=
  .next (match s.job j with
    | some x =>
      (match (if dOp x.desc = 0x0302 ∧ x.stage = .queued then s.leaseOf (dKey x.desc) else none) with
      | some t =>
        if t.next < t.leaseEnd ∨ (t.requested ∧ t.programmed ∧ t.acked) then s
        else s.abandon j (if !t.available && s.twinLost then St.twinUnavailable else St.leaseWait)
      | none => s)
    | none => s)

end Sys2Proof.Machine
end

