-- ==== Sys2Proof/Machine/Startup.lean ====
section
/-! DEFINITION. FW_VERIFY and POST: images, unit tests, entropy, the Caisson's start, READY (R236, R248, R249, R442, R453, R454, R467, R469,
R506, R611, R612, R639, R684, R730 to R733, R807). -/

namespace Sys2Proof.Machine

open Sys2Proof

/-! ### FW_VERIFY (R709, R730, R731, R807) -/

/-- Slots in the order in which the ROM tries them. -/
def State.bootOrder (s : State) : List Bool :=
  (if s.glb.trial then [s.glb.slotB, s.flash.activeB, !s.flash.activeB] else [s.flash.activeB, !s.flash.activeB]).eraseDups

/-- Duty of the piers, the Graver and the lanes under the repair map; nothing works yet. -/
def State.assignDuty (s : State) : State :=
  let pier (p : Nat) : Pier :=
    let gone := maskOf (((s.mapped 1).filter (fun u => decide (u / 9 = p))).map (· % 9)).eraseDups
    let d := dutyMaps 9 8 gone
    { Pier.reset with onDuty := d.1, spare := d.2, retired := gone,
                      burins := (onesOf 9 gone).foldl (fun m b => SMap.set burinDef b { Burin.reset with state := .retired } m) [] }
  let cores := maskOf ((s.mapped 2).filter (fun c => decide (c < 18))).eraseDups
  let lanes := maskOf ((s.mapped 3).filter (fun l => decide (l < 8))).eraseDups
  let g := dutyMaps 18 16 cores
  let l := dutyMaps 8 7 lanes
  { s with
    bur := { s.bur with piers := (List.range 8).foldl (fun m p => SMap.set pierDef p (pier p) m) s.bur.piers }
    grv := { Grv.reset with onDuty := g.1, spare := g.2, retired := cores,
                            cores := (onesOf 18 cores).foldl (fun m c => SMap.set coreDef c { Core.reset with state := .retired } m) [] }
    lne := { Lne.reset with onDuty := l.1, spare := l.2, retired := lanes,
                            lanes := (onesOf 8 lanes).foldl (fun m k => SMap.set laneDef k { Lane.reset with state := .retired } m) [] } }

/-- Domains that are on in POST: all but the ports and the span link, by request and use. -/
def State.postDomains (s : State) : Nat :=
  s.tol.pd ||| maskOf ([16, 17, 18, 24, 25] ++ ([3, 4, 5, 6, 7, 8, 9, 10, 11, 12, 13, 14, 26] : List Nat).filter s.pdWanted)

/-- FIRMWARE_VERIFIED: the first slot that verifies is entered; none gives FALSEWORK. -/
def execFirmwareVerified (s : State) : Host.Outcome State Fault Refusal :=
  .next (
    if s.glb.dev ≠ .fwVerify then s
    else
      let order := s.bootOrder
      match order.find? (fun b => s.imageVerifies (s.slotOf b)) with
      | none => (({ s with glb := { s.glb with trial := false, slotB := s.flash.activeB } }).enterFalsework 2).settlePower
      | some b =>
        let first := decide (order.head? = some b)
        let other := s.slotOf (!b)
        let s1 : State := { s with
          glb := { s.glb with dev := .post, slotB := b, trial := s.glb.trial && first, fallback := !first }
          csn := { s.csn with fwMeas := fwMeas (s.slotOf b), stagedMeas := if other.isEmpty then [] else fwMeas other } }
        let s2 := s1.assignDuty
        s2.switchPd s2.postDomains)

/-! ### Units (R183, R203, R346, R427, R684, R688, R733) -/

/-- A unit that fails its start-up test is retired and reported. -/
def State.testFails (s : State) (source : Nat) : State :=
  let u := unitOf source
  let i := source % 256
  if !(instOk u i) ∨ !(decide (u = uBurin ∨ u = uGraver ∨ u = uLane ∨ u = uDrf)) then s
  else
    let s1 := (s.report u i 0x07).noteRetired (repairWord u i) false
    if u = uBurin then
      (s1.modPier (i / 9) (fun y => { y with retired := y.retired ||| 2 ^ (i % 9) })).modBurin (i / 9) (i % 9) (fun x => { x with state := .retired })
    else if u = uGraver then ({ s1 with grv := { s1.grv with retired := s1.grv.retired ||| 2 ^ i } }).modCore i (fun x => { x with state := .retired })
    else if u = uLane then ({ s1 with lne := { s1.lne with retired := s1.lne.retired ||| 2 ^ i } }).modLane i (fun x => { x with state := .retired })
    else { s1.reportAs { mkReport source 0x07 .contained with hostAck := false } with drf := { s1.drf with retired := s1.drf.retired ||| 2 ^ i } }

/-- Pools after the tests: duty by index, units on duty at work (R807). -/
def State.fillPools (s : State) : State :=
  let pier (y : Pier) : Pier :=
    let d := dutyMaps 9 8 y.retired
    { y with onDuty := d.1, spare := d.2,
             burins := (onesOf 9 d.1).foldl (fun m b => SMap.set burinDef b { SMap.get burinDef b m with state := .idle } m) y.burins }
  let g := dutyMaps 18 16 s.grv.retired
  let l := dutyMaps 8 7 s.lne.retired
  ({ s with
    bur := { s.bur with piers := (List.range 8).foldl (fun m p => SMap.set pierDef p (pier (SMap.get pierDef p m)) m) s.bur.piers }
    grv := { s.grv with onDuty := g.1, spare := g.2,
                        cores := (onesOf 18 g.1).foldl (fun m c => SMap.set coreDef c { SMap.get coreDef c m with state := .idle } m) s.grv.cores }
    lne := { s.lne with onDuty := l.1, spare := l.2,
                        lanes := (onesOf 8 l.1).foldl (fun m k => SMap.set laneDef k { SMap.get laneDef k m with state := .idle } m) s.lne.lanes } }).dutyDrf
    s.drf.retired

/-- The pool of a failed unit has its number on duty: the firmware acknowledges (R669). -/
def State.ackPool (s : State) (source : Nat) : State :=
  let u := unitOf source
  let full := if u = uBurin then decide (popCount 9 (s.pier (source % 256 / 9)).onDuty = 8) else if u = uGraver then decide (popCount 18 s.grv.onDuty = 16)
    else if u = uLane then decide (popCount 8 s.lne.onDuty = 7) else decide (popCount 10 s.drf.onDuty = 8)
  if full then s.ackSource source [0x07] else s

/-- A pier's stipple generator runs on a fixed seed (R203). -/
def State.testStipple (s : State) (passed : BitVec 8) : State :=
  let s1 := (List.range 8).foldl (fun t p => t.modPier p (fun y => { y with stippleOk := true })) s
  (List.range 8).foldl (fun t p => if passed.getLsbD p then t else t.stippleFails p false) s1

/-- Retired pages of the boot flash: those repaired return to the reserve and take a slot of KIND 0x7 (R684). -/
def State.repairPages (s : State) (pages : List (Nat × BitVec 28)) : State :=
  let fixed := pages.filter (fun p => s.flash.retired.contains p.1)
  let left := s.flash.retired.filter (fun p => !(fixed.any (fun q => decide (q.1 = p))))
  let s1 : State := { s with flash := { s.flash with retired := left }, fcl := { s.fcl with pages := left, reserve := 65536 - left.length } }
  fixed.foldl (fun t p => t.noteRetired (7 * 2 ^ 28 + p.2.toNat) false) s1

/-- Unit tests, stores and memories. -/
def State.testUnits (s : State) (units : List (BitVec 16)) (stipple : BitVec 8) (pages : List (Nat × BitVec 28)) : State :=
  let l := (units.map BitVec.toNat).eraseDups
  let s1 := ((l.foldl State.testFails (s.repairPages pages)).fillPools).testStipple stipple
  let s2 := l.foldl State.ackPool s1
  if s2.drf.onDuty = 0 then s2.reportAs (mkReport (src uDrf 0) 0x03 .fatal) else s2

/-! ### Entropy and what is drawn at a power-up (R454, R499, R506, R572, R639) -/

/-- READY and DRBG_OK, the mesh seeds, the save key, the boot nonce and PAIR_NONCE. -/
def State.startEntropy (s : State) : State :=
  let s1 : State := { s with ent := { s.ent with ready := true, drbgOk := true, reseedAt := s.time } }
  let s2 := s1.takeBlock
  let s3 := (List.range 8).foldl (fun t g =>
    ({ t with xh := { t.xh with mesh := listSet t.xh.mesh g (leNat (drawBytes t.draws 8)) } }).nextDraw) s2
  let s4 : State := ({ s3 with xh := { s3.xh with meshSeeded := true } }).redrawSaveKey
  let s5 := ({ s4 with csn := { s4.csn with bootNonce := drawBytes s4.draws 32 } }).nextDraw
  s5.redrawPairNonce

/-! ### Root seed, identity keys, anchors (R453, R454, R472, R611, R612) -/

def seedAt (k : Nat) : Nat := 0x80 + 48 * k

/-- The seed of a slot whose CRC is right. -/
def State.seedSlot (s : State) (k : Nat) : Option Bytes :=
  let b := s.otpBytes (seedAt k) 32
  if s.otpBytes (seedAt k + 32) 4 = leBytes 4 (crc32c b) then some b else none

/-- A partly burned or empty slot. -/
def State.seedEmpty (s : State) (k : Nat) : Bool := (s.otpBytes (seedAt k) 48).all (fun b => decide (b = 0))

/-- The root seed that the key loader reads; an empty slot is no seed (R611). -/
def State.rootSeed (s : State) : Option Bytes :=
  (([0, 1] : List Nat).filter (fun k => !(s.seedEmpty k))).findSome? s.seedSlot

/-- Burn some bytes into OTP. -/
def State.burnBytes (s : State) (a : Nat) (b : Bytes) : State :=
  ((List.range b.length).foldl (fun t i => t.setOtp (a + i) (t.otp (a + i) ||| b.getD i 0)) s).bump Reg.tolPdSwitch 2

/-- The first start in PROOF burns a new seed into the first empty slot. -/
def State.newSeed (s : State) : State :=
  if s.lcs.lstate ≠ .proof ∨ s.rootSeed.isSome then s
  else match ([0, 1] : List Nat).find? s.seedEmpty with
    | some k => let d := drawBytes s.draws 32; (s.burnBytes (seedAt k) (d ++ leBytes 4 (crc32c d))).nextDraw
    | none => s

/-- The order of P-384 (FIPS 186-5). -/
def p384Order : Nat := 0xFFFFFFFFFFFFFFFFFFFFFFFFFFFFFFFFFFFFFFFFFFFFFFFFC7634D81F4372DDF581A0DB248B0A77AECEC196ACCC52973

/-- ATTR of the fixed keys that the device derives: APPROVED, no usage, EXPORT NEVER (assumption log 57). -/
def fixedAttr : BitVec 32 := BitVec.ofNat 32 (2 ^ 31)

/-- ATTR of an anchor that comes from the shelf: APPROVED, ANCHOR, VERIFY (assumption log 57). -/
def anchorAttr : BitVec 32 := BitVec.ofNat 32 (2 ^ 31 + 2 ^ 24 + 2)

/-- Handles 1 to 3 from the root seed; RESTRIKE has no migration key (R457). -/
def State.identity (s : State) (seed : Bytes) : State :=
  let out (label : String) (n : Nat) : Bytes := kmac256 seed s.unitId (ascii label) n
  let d := beBytes 48 (beNat (out "STQ6440 ID P384" 64) % (p384Order - 1) + 1)
  let s1 := (s.setKey 1 (keyOf 0x0203 fixedAttr oDerived (out "STQ6440 ID MLDSA87" 32))).setKey 2 (keyOf 0x0712 fixedAttr oDerived d)
  if s.lcs.lstate = .restrike then s1
  else
    let k := keyOf 0x0103 fixedAttr oDerived (out "STQ6440 MIGRATION" 64)
    s1.setKey 3 { k with kgen := s.migKgen, highKgen := s.migKgen }

/-- The newest public record of a kind. -/
def State.publicBody (s : State) (kind : Nat) : Option Bytes := (s.publicLive.find? (fun r => decide (r.pub = kind))).map (·.body)

/-- The owner anchors of the shelf. -/
def State.loadAnchors (s : State) : State :=
  match s.publicBody 1 with
  | none => s
  | some b =>
    let put (t : State) (h alg : Nat) (pub : Bytes) : State :=
      if pub.all (fun x => decide (x = 0)) then t else t.setKey h (newKey alg 0 anchorAttr oPublic pub pub false)
    put (put s 4 0x0203 (b.take 2592)) 5 0x0712 (slice b 2592 97)

/-- The digest that EDITION takes from OTP: the higher-numbered valid slot. -/
def State.otpAnchor (s : State) : Option Bytes :=
  ([1, 0] : List Nat).findSome? (fun k =>
    let d := s.otpBytes (anchorAt k) 48
    if !(d.all (fun b => decide (b = 0))) ∧ s.otpBytes (anchorAt k + 48) 4 = leBytes 4 (crc32c d) then some d else none)

/-- In EDITION the anchors stand against OTP; without them the LCS reports (R612). -/
def State.checkAnchors (s : State) : State :=
  if s.lcs.lstate ≠ .edition then s
  else if s.otpAnchor.isSome ∧ s.otpAnchor = s.anchorDigest then s
  else ({ s with csn := { s.csn with keys := KMap.del 5 (KMap.del 4 s.csn.keys) } }).report uLcs 0 0x07

/-! ### The key shelf (R467, R469) -/

/-- The integrity word of BBRAM fails: a new epoch and a new secret. With every epoch bit burned it is the MAC that leaves earlier records
behind. -/
def State.startBbram (s : State) : State :=
  if s.csn.bbramOk then s
  else
    let s1 := match s.nextEpochBit with
      | some (a, v) => s.burnBytes a [v]
      | none => { s with csn := { s.csn with shelf := s.csn.shelf.filter (fun r => decide (r.rtype = 4)) } }
    s1.newBbram

/-- The newest base record. -/
def State.baseRecord (s : State) : Option ShelfRec := ((s.shelfSeen).filter (fun r => decide (r.rtype = 5))).getLast?

/-- Both checks of R467. -/
def State.shelfSound (s : State) : Bool :=
  let l := s.shelfSeen
  let v := s.csn.shelfVersion
  let base := ((s.baseRecord).map (·.version)).getD 0
  let covered := l.filter (fun r => decide (r.version < base) && decide (r.rtype = 1 ∨ r.rtype = 3))
  (List.range (v - base)).all (fun i => l.any (fun r => decide (r.version = base + 1 + i))) &&
    (match s.baseRecord with | some r => decide (r.body = baseBody covered) | none => true) &&
    (decide (v = 0) || l.any (fun r => decide (r.version = v)))

/-- Records of the lease log for a key, and the latest of some types. -/
def State.leaseRecs (s : State) (h kgen : Nat) : List LeaseRec :=
  ((s.csn.leaseLog.filter (fun b => !b.retired)).map (fun b => b.recs.filter (fun r => decide (r.handle = h) && decide (r.kgen = kgen)))).flatten

def lastRec (l : List LeaseRec) (types : List Nat) : Option LeaseRec :=
  (l.filter (fun r => types.contains r.rtype)).foldl (fun (m : Option LeaseRec) r =>
    match m with | none => some r | some q => if q.seq < r.seq then some r else some q) none

/-- The highest LOG_SEQ of the lease log. -/
def State.topLogSeq (s : State) : Nat := s.csn.leaseLog.foldl (fun n b => b.recs.foldl (fun m r => Nat.max m r.seq) n) 0

/-- The lease state of a key as the log gives it: everything below the end of its last lease is consumed (R241, R245, R248, R252). -/
def State.leaseState (s : State) (h kgen : Nat) (t : Stateful) : Stateful :=
  let l := s.leaseRecs h kgen
  let used := match lastRec l [1, 5] with | some r => if r.rtype = 1 then r.stop else r.first | none => 0
  let start := match lastRec l [2, 5] with | some r => r.first | none => 0
  let stop := match lastRec l [1, 2, 5] with | some r => if r.rtype = 1 then r.aux else r.stop | none => t.total
  let next := Nat.max used start
  let own := { newStateful t.set t.total with next := next, leaseEnd := next, rangeStart := start, rangeEnd := stop,
                                              rolledBack := decide (s.topLogSeq < s.csn.leaseSeq) }
  if !s.paired then { own with twinStart := stop, twinEnd := stop, twinLeaseEnd := stop }
  else
    let a := if stop < t.total then stop else 0
    let b := if stop < t.total then t.total else start
    let tw := { own with twinStart := a, twinEnd := b, twinLease := some a, twinLeaseEnd := a }
    match lastRec l [4, 5] with
    | some r =>
      if r.rtype = 4 then { tw with twinEnd := if r.aux = 0 then b else r.aux, twinLease := some r.first, twinLeaseEnd := r.stop }
      else { tw with twinLeaseEnd := r.aux % 2 ^ 63, twinUncertain := r.aux.testBit 63 }
    | none => tw

/-- A key as the shelf gives it: its public part recomputed but for McEliece (R263), its counter at the end of the written lease (R446). -/
def State.loadedKey (s : State) (h : Nat) (k : KeyRec) : KeyRec :=
  let mce := Alg.isMce k.alg && k.isPrivate
  { k with staged := none, uses := 0, resident := true, derived := true, lastUse := 0, shelved := true, mirrored := false, destroying := false,
           unusable := false, badValue := false, counter := k.counterLease, pub := if mce then [] else k.pub, publicPresent := !mce && !k.pub.isEmpty,
           stateful := k.stateful.map (s.leaseState h k.kgen) }

/-- Shares that wait for officers, from handle 6's record (R771). -/
def shareList : Nat → Bytes → List (Nat × Bytes)
  | 0, _ => []
  | n + 1, b => if b.length < 47 then [] else (rd b 0 1, slice b 1 46) :: shareList n (b.drop 47)

/-- Persistent keys, cursors, and the shares of the archive key (R442, R467). -/
def State.loadShelf (s : State) : State :=
  if !s.shelfSound then { s with csn := { s.csn with rollback := true } }
  else
    let l := s.keysLive.filter (fun r => decide (r.rtype = 1))
    let s1 := l.foldl (fun t r =>
      match r.key with
      | none => t
      | some k =>
        let t1 := t.setKey r.handle (t.loadedKey r.handle k)
        let t2 := if isFixed r.handle then t1 else t1.modVi (r.handle / 2 ^ 24) (fun x => { x with cursor := Nat.max x.cursor (r.handle % 2 ^ 24) })
        if r.handle = 6 then { t2 with cus := { t2.cus with splitSeq := rd r.body 0 4, shares := shareList 8 (r.body.drop 4) } } else t2) s
    s1.evict s1.csn.keys.length

/-! ### The pairing (R568, R576, R595) -/

/-- The pairing record gives peer, sequence, boot counts and roles, where handle 7 holds the keys. -/
def State.loadPairing (s : State) : State :=
  match s.publicBody 4 with
  | none => s
  | some b =>
    let vis := (List.range 256).foldl (fun m v =>
      SMap.set Vi.reset v { (SMap.get Vi.reset v m) with primary := (rd b 76 32).testBit v, auto := (rd b 108 32).testBit v } m) s.vis
    { s with vis := vis,
             spn := { s.spn with pair := .starting, peerId := b.take 16, peerPub := slice b 16 48, pairSeq := rd b 64 4, bootCount := rd b 68 4,
                                 hbBoot := rd b 72 4 } }

/-- A paired device raises and writes its boot count, and enters STARTING. -/
def State.rejoin (s : State) : State :=
  if !s.paired then s
  else
    let s1 : State := { s with spn := { s.spn with bootCount := s.spn.bootCount + 1 } }
    (s1.writePairing 0).startPair

/-! ### The Caisson (R457) -/

/-- The cookie key of this power-up (R16, R440). -/
def State.drawCookieKey (s : State) : State := (s.setKey 8 (newKey 0x0A01 0 fixedAttr oDerived (drawBytes s.draws 32) [] true)).nextDraw

/-- Owner, tenant, pair and cookie keys: EDITION holds them. -/
def State.loadEdition (s : State) : State :=
  if s.lcs.lstate ≠ .edition then s
  else
    let s0 := s.loadPairing
    let s1 := s0.loadShelf
    let s2 : State := if (KMap.get 7 s1.csn.keys).isSome then s1 else { s1 with spn := { s1.spn with pair := .unpaired } }
    s2.drawCookieKey

/-- What the life-cycle state lets the Caisson hold (R457). A device without a seed leaves service (R611). -/
def State.startCaisson (s : State) (identityFails : Bool) : State :=
  let s1 := s.startBbram.newSeed
  let s2 : State := { s1 with csn := { s1.csn with logSeq := s1.topLogSeq } }
  if s2.lcs.lstate = .trial then { s2 with csn := { s2.csn with ready := true } }
  else match s2.rootSeed with
    | none => s2.reportAs (mkReport (src uLcs 0) 0x07 .fatal)
    | some seed =>
      let s3 : State := { s2.identity seed with csn := { (s2.identity seed).csn with chain := s2.publicBody 3 } }
      if identityFails then s3.enterFalsework 7
      else
        let s4 := if s3.lcs.lstate = .restrike then s3
          else let t := s3.loadAnchors.checkAnchors; { t with csn := { t.csn with policy := t.publicBody 2 } }
        let s5 := s4.loadEdition
        { s5 with csn := { s5.csn with ready := true } }

/-! ### READY (R728, R730, R732, R742) -/

/-- Burn the thermometer of FW_SVN_FLOOR up to `n` bits. -/
def State.raiseFloor (s : State) (n : Nat) : State :=
  let free := (List.range 64).filter (fun i => !((s.otp (0x170 + i / 8)).getLsbD (i % 8)))
  let go := free.take (n - s.svnFloor)
  if go.isEmpty then s
  else (go.foldl (fun t i => t.setOtp (0x170 + i / 8) (t.otp (0x170 + i / 8) ||| BitVec.ofNat 8 (2 ^ (i % 8)))) s).bump Reg.tolPdSwitch 2

/-- The floor follows the lower of two slots that verify, once ACTIVE is confirmed (R732). -/
def State.settleFloor (s : State) : State :=
  let both := s.imageVerifies s.flash.slotA && s.imageVerifies s.flash.slotB
  if both && !s.glb.trial && decide (s.glb.slotB = s.flash.activeB) then
    s.raiseFloor (Nat.min 64 (Nat.min (rd s.flash.slotA 12 4) (rd s.flash.slotB 12 4)))
  else s

/-- The patrols run from POST on (R695). -/
def State.startPatrols (s : State) : State := ([1, 2, 3] : List Nat).foldl (fun t a => t.setAct a { t.act a with mstate := 1 }) s

/-- READY: a trial is confirmed, ports and span link come on as requested, a paired device rejoins. -/
def State.ready (s : State) : State :=
  let s1 := s.settleFloor
  let s2 := if s1.glb.trial then s1.bootRecord s1.glb.slotB none else s1
  let s3 : State := { s2 with glb := { s2.glb with dev := .ready, readyMs := Nat.min 65535 (s2.time / 100000) } }
  let s4 := (s3.switchPd (s3.tol.pd ||| maskOf (([20, 21, 22] : List Nat).filter s3.pdWanted))).settlePower
  let s5 := if s4.paired then s4.rejoin else if s4.pdOn 22 then s4.sendHello else s4
  s5.startPatrols

/-- A step of POST, while POST lasts. -/
def State.postStep (s : State) (f : State → State) : State := if s.glb.dev = .post then f s else s

/-- POST_COMPLETE: the tests of R733 in the order of R728. -/
def execPostComplete (failed : List PostTest) (units : List (BitVec 16)) (stipple : BitVec 8) (detectors : List (Byte × Detector))
    (pages : List (Nat × BitVec 28)) (s : State) : Host.Outcome State Fault Refusal :=
  .next (
    if s.glb.dev ≠ .post then s
    else
      let s1 := if failed.contains .checkers then s.report uFcl 0 0x07 else { s with fcl := { s.fcl with checked := true } }
      let s2 := s1.postStep (fun t =>
        if failed.contains .entropy then (t.enterFalsework 6).reportAs (mkReport (src uEnt 3) 0x07 .fatal) else t.startEntropy)
      let s3 := s2.postStep (fun t =>
        if failed.contains .hbm then t.reportAs (mkReport (src uVdt 0xFF) 0x07 .fatal) else t.testUnits units stipple pages)
      let s4 := s3.postStep (fun t => if failed.contains .kat then t.enterFalsework 3 else t)
      let s5 := s4.postStep (fun t => t.xhTested detectors)
      let s6 := s5.postStep (fun t => t.startCaisson (failed.contains .identity))
      (s6.postStep State.ready).settlePower)

end Sys2Proof.Machine
end

