-- ==== Sys2Proof/Machine/Tdisp.lean ====
section
/-! DEFINITION. IDE key management and TDISP in a secured SPDM session (R554 to R561). Codes and layouts of the messages are those of the PCIe base
specification (assumption log 58). -/

namespace Sys2Proof.Machine

open Sys2Proof

/-! ### IDE streams (R554) -/

/-- Place of a key: stream, direction, sub-stream (posted, non-posted, completions), key set. -/
def idePlace (stream : Nat) (tx : Bool) (sub : Nat) (set : Bool) : Nat := ((stream * 2 + bitAt 0 tx) * 3 + sub) * 2 + bitAt 0 set

/-- Key set, direction and sub-stream as IDE_KM messages carry them. -/
def ideFlags (set tx : Bool) (sub : Nat) : Nat := bitAt 0 set + bitAt 1 tx + sub * 16

/-- An answer of IDE_KM. -/
def State.ideAnswer (s : State) (k : Nat) (b : Bytes) : State := s.emit (.secured k b)

/-- IDE_KM_QUERY: one port; link and selective IDE with AES-256-GCM, four selective streams, IDE_KM. -/
def execIdeKmQuery (k port : Nat) (s : State) : Host.Outcome State Fault Refusal :=
  .next (s.inSession k true (fun t _ => t.ideAnswer k (octets [1, 0, port, 0, 0, 0, 0] ++ leBytes 4 (0x43 + 3 * 2 ^ 16))))

/-- KEY_PROG: a key of 32 B with its initial vector of 8 B; one of another length, or for a key set in use, is refused in the acknowledgement. -/
def execKeyProg (k : Nat) (stream : Fin 5) (set tx : Bool) (sub : Fin 3) (key : Bytes) (s : State) : Host.Outcome State Fault Refusal :=
  let p := idePlace stream.val tx sub.val set
  .next (s.inSession k true (fun t _ =>
    let ack (st : Nat) : Bytes := octets [3, 0, 0, stream.val, st, ideFlags set tx sub.val, 0]
    if key.length ≠ 40 then t.ideAnswer k (ack 1)
    else if t.doe.going.contains p then t.ideAnswer k (ack 4)
    else (t.withDoe { t.doe with keys := KMap.put p key t.doe.keys }).ideAnswer k (ack 0)))

def goAck (stream : Nat) (flags : Nat) : Bytes := octets [6, 0, 0, stream, 0, flags, 0]

/-- K_SET_GO: the key set that was programmed is used from now on. -/
def execKSetGo (k : Nat) (stream : Fin 5) (set tx : Bool) (sub : Fin 3) (s : State) : Host.Outcome State Fault Refusal :=
  let p := idePlace stream.val tx sub.val set
  let q := idePlace stream.val tx sub.val (!set)
  .next (s.inSession k true (fun t _ =>
    let u := if (KMap.get p t.doe.keys).isSome then t.withDoe { t.doe with going := insertNat p (t.doe.going.filter (fun x => decide (x ≠ q))) } else t
    u.ideAnswer k (goAck stream.val (ideFlags set tx sub.val))))

/-- K_SET_STOP: the key set is used no longer, and its key goes. -/
def execKSetStop (k : Nat) (stream : Fin 5) (set tx : Bool) (sub : Fin 3) (s : State) : Host.Outcome State Fault Refusal :=
  let p := idePlace stream.val tx sub.val set
  .next (s.inSession k true (fun t _ =>
    (t.withDoe { t.doe with keys := KMap.del p t.doe.keys, going := t.doe.going.filter (fun x => decide (x ≠ p)) }).ideAnswer k
      (goAck stream.val (ideFlags set tx sub.val))))

/-- The keys of a stream are set: each sub-stream of each direction has a key set in use. -/
def Doe.streamSet (d : Doe) (stream : Nat) : Bool :=
  ([true, false] : List Bool).all (fun tx => ([0, 1, 2] : List Nat).all (fun sub => ([true, false] : List Bool).any (fun set => d.going.contains (idePlace stream tx sub set))))

/-! ### TDISP (R556 to R560) -/

/-- A TDISP response: version, type, interface. The interface is shown as the VI. -/
def tdiMessage (typ v : Nat) (payload : Bytes) : Bytes := octets [0x10, typ, 0, 0] ++ leBytes 4 v ++ zeros 8 ++ payload

/-- A request in an open session for the TDI of a VF that is enabled; the PF is no interface (R556). -/
def State.tdisp (s : State) (k v : Nat) (f : State → State) : State :=
  s.inSession k true (fun t _ =>
    if v = 0 ∨ t.glb.numVfs < v then t.emit (.secured k (tdiMessage 0x7F v (leBytes 4 0x101 ++ zeros 4))) else f t)

def State.tdiError (s : State) (k v code : Nat) : State := s.emit (.secured k (tdiMessage 0x7F v (leBytes 4 code ++ zeros 4)))

def State.tdiAnswer (s : State) (k typ v : Nat) (payload : Bytes) : State := s.emit (.secured k (tdiMessage typ v payload))

def execGetTdispVersion (k : Nat) (v : Fin 256) (s : State) : Host.Outcome State Fault Refusal :=
  .next (s.tdisp k v.val (fun t => t.tdiAnswer k 0x01 v.val (octets [1, 0x10])))

/-- GET_TDISP_CAPABILITIES: the requests of R556. What else the message holds is not in the spec. -/
def execGetTdispCapabilities (k : Nat) (v : Fin 256) (s : State) : Host.Outcome State Fault Refusal :=
  .next (s.tdisp k v.val (fun t =>
    t.tdiAnswer k 0x02 v.val ((List.range 4).map (Config.vendorByte 0x82) ++ octets [0xFE] ++ zeros 15 ++ (List.range 8).map (fun i => Config.vendorByte 0x82 (4 + i)))))

/-- LOCK_INTERFACE_REQUEST: the VF is bound to a selective stream whose keys are set (R556); the response carries a nonce. -/
def execLockInterfaceRequest (k : Nat) (v : Fin 256) (stream : Fin 5) (s : State) : Host.Outcome State Fault Refusal :=
  .next (s.tdisp k v.val (fun t =>
    if (t.vi v.val).tdi ≠ .unlocked then t.tdiError k v.val 0x04
    else if stream.val = 4 ∨ !(t.doe.streamSet stream.val) then t.tdiError k v.val 0x01
    else if !t.ent.drbgOk then t.tdiError k v.val 0x103
    else
      let n := drawBytes t.draws 32
      let u := (t.nextDraw).modVi v.val (fun x => { x with tdi := .locked, stream := some stream.val })
      (u.withDoe { u.doe with nonces := KMap.put v.val n u.doe.nonces }).tdiAnswer k 0x03 v.val n))

/-- The device-specific part of the interface report (R557). -/
def State.reportInfo (s : State) (v : Nat) : Bytes :=
  let x := s.vi v
  leBytes 1 v ++ zeros 1 ++ leBytes 2 x.gen.toNat ++ leBytes 4 x.quota.sessionBase ++ leBytes 4 x.quota.sessions ++ leBytes 4 x.quota.handles

/-- The interface report (R557): one range of sixteen 4 KiB pages, TEE memory. Interface flags and the page address of the BAR, which the spec does
not give, are unstated. -/
def State.interfaceReport (s : State) (v : Nat) : Bytes :=
  stdOut .spdm 3 [leBytes 1 v] 12 ++ leBytes 4 1 ++ stdOut .spdm 4 [leBytes 1 v] 8 ++ leBytes 4 16 ++ zeros 4 ++ leBytes 4 16 ++ s.reportInfo v

/-- GET_DEVICE_INTERFACE_REPORT: a part of it, in CONFIG_LOCKED or RUN. -/
def execGetDeviceInterfaceReport (k : Nat) (v : Fin 256) (off len : Nat) (s : State) : Host.Outcome State Fault Refusal :=
  .next (s.tdisp k v.val (fun t =>
    let r := t.interfaceReport v.val
    let part := slice r off len
    if (t.vi v.val).tdi ≠ .locked ∧ (t.vi v.val).tdi ≠ .run then t.tdiError k v.val 0x04
    else if r.length ≤ off then t.tdiError k v.val 0x01
    else t.tdiAnswer k 0x04 v.val (leBytes 2 part.length ++ leBytes 2 (r.length - off - part.length) ++ part)))

def execGetDeviceInterfaceState (k : Nat) (v : Fin 256) (s : State) : Host.Outcome State Fault Refusal :=
  .next (s.tdisp k v.val (fun t => t.tdiAnswer k 0x05 v.val (octets [(t.vi v.val).tdi.code])))

/-- START_INTERFACE_REQUEST: with the nonce of the lock, the TDI runs (R559). -/
def execStartInterfaceRequest (k : Nat) (v : Fin 256) (nonce : Bytes) (s : State) : Host.Outcome State Fault Refusal :=
  .next (s.tdisp k v.val (fun t =>
    if (t.vi v.val).tdi ≠ .locked then t.tdiError k v.val 0x04
    else if KMap.get v.val t.doe.nonces ≠ some nonce then t.tdiError k v.val 0x102
    else
      let u := t.modVi v.val (fun x => { x with tdi := .run })
      (u.withDoe { u.doe with nonces := KMap.del v.val u.doe.nonces }).tdiAnswer k 0x06 v.val []))

/-- STOP_INTERFACE_REQUEST: a VI reset; the answer comes when it completes (R560). An unlocked interface stays as it is. -/
def execStopInterfaceRequest (k : Nat) (v : Fin 256) (s : State) : Host.Outcome State Fault Refusal :=
  .next (s.tdisp k v.val (fun t =>
    if (t.vi v.val).tdi = .unlocked then t.tdiAnswer k 0x07 v.val []
    else (t.withDoe { t.doe with stops := KMap.put v.val k t.doe.stops, nonces := KMap.del v.val t.doe.nonces }).startReset v.val))

end Sys2Proof.Machine
end

