-- ==== Sys2Proof/Machine/Tokens.lean ====
section
/-! DEFINITION. Phase tokens: who asks, in which order they are granted, and their release (R177, R338, R426, R714 to R719). The
current-slope windows of R178, R339 and R719 are timing and are left out. -/

namespace Sys2Proof.Machine

open Sys2Proof

/-- A request: unit, in self-test, class, VI, tick of asking. -/
structure TokenAsk where
  unit : Nat
  test : Bool
  cls : Nat
  vi : Nat
  since : Nat
  deriving DecidableEq, Repr

def State.askedAt (s : State) (k u : Nat) : Nat := (KMap.get (askKey k u) s.tol.asked).getD s.time

/-- A request with the class and VI of the job that holds the unit. -/
def State.tokenAsk (s : State) (k u : Nat) (test : Bool) (j : Option Nat) : TokenAsk :=
  let x := j.bind s.job
  { unit := u, test := test, cls := (x.map (·.cls)).getD 3, vi := (x.map (·.vi)).getD 0, since := s.askedAt k u }

/-- The firmware has work: descriptors to dispatch, jobs of its own, handshakes, exception frames (R18, R714). -/
def State.draftWork (s : State) : Bool :=
  s.jobs.any (fun p => decide (p.2.stage = .fetched) || (decide (p.2.engine = .firmware) && decide (p.2.stage = .running))) ||
    !s.lpt.intake.isEmpty || !s.lpt.exc.isEmpty || !s.cwy.hs.isEmpty

/-- The units of a kind that wait for a token. -/
def State.askers (s : State) (k : PhaseKind) : List TokenAsk :=
  match k with
  | .burin =>
    (allBurins.filter (fun u => let x := (s.burin u.1 u.2).state; decide (x = .tokenWait ∨ x = .yieldHold ∨ x = .selftest) &&
      !(s.hasToken 0 (burinUnit u.1 u.2)))).map
      (fun u => s.tokenAsk 0 (burinUnit u.1 u.2) (decide ((s.burin u.1 u.2).state = .selftest)) (s.burin u.1 u.2).job)
  | .lane =>
    ((List.range 8).filter (fun l => decide ((s.lane l).state = .tokenWait ∨ (s.lane l).state = .selftest) && !(s.hasToken 1 l))).map (fun l =>
      match (s.lane l).work.head? with
      | some w => { unit := l, test := false, cls := w.cls, vi := w.vi, since := s.askedAt 1 l }
      | none => { unit := l, test := decide ((s.lane l).state = .selftest), cls := 3, vi := 0, since := s.askedAt 1 l })
  | .graver =>
    ((List.range 18).filter (fun c => decide ((s.core c).state = .tokenWait ∨ (s.core c).state = .selftest) && !(s.hasToken 2 c))).map
      (fun c => s.tokenAsk 2 c (decide ((s.core c).state = .selftest)) (s.core c).computing)
  | .draft =>
    if s.draftWork then
      ((onesOf 10 s.drf.onDuty).filter (fun p => !(s.hasToken 3 p))).map (fun p => s.tokenAsk 3 p false none)
    else []

def kindNum : PhaseKind → Nat
  | .burin => 0 | .lane => 1 | .graver => 2 | .draft => 3

/-- Share weight of a VI in a kind (R717). -/
def State.kindWeight (s : State) (k v : Nat) : Nat :=
  let q := (s.vi v).quota
  if k = 0 then q.burinWeight else if k = 1 then q.laneWeight else if k = 2 then q.graverWeight else 1

/-- The longest waiting request. -/
def oldestAsk (l : List TokenAsk) : Option TokenAsk :=
  l.foldl (fun (m : Option TokenAsk) x => match m with | none => some x | some y => if x.since < y.since then some x else some y) none

/-- One request per VI of a class, the longest waiting, as candidates of a round. -/
def askCands (l : List TokenAsk) : List Cand :=
  (List.range 256).filterMap (fun v => (oldestAsk (l.filter (fun x => decide (x.vi = v)))).map (fun x => (v, 8192, x.unit)))

/-- Within a class, deficit round robin over VIs: the request, and the Tollhouse after it. -/
def State.askClass (s : State) (k c : Nat) (l : List TokenAsk) : Option (TokenAsk × Tol) :=
  let base := k * 4096 + c * 256
  match drr (s.kindWeight k) base (SMap.get zeroDef (k * 4 + c) s.tol.turn) s.tol.deficits (askCands (l.filter (fun x => decide (x.cls = c)))) with
  | none => none
  | some (u, d, turn) =>
    (l.find? (fun x => decide (x.unit = u))).map
      (fun x => (x, { s.tol with deficits := d, turn := SMap.set zeroDef (k * 4 + c) turn s.tol.turn }))

/-- The request that is granted next (R717): a spare in self-test, on each eighth grant the oldest aged request, else by class; Drafting
pairs in arrival order. -/
def State.nextAsk (s : State) (kind : PhaseKind) : Option (TokenAsk × Tol) :=
  let l := s.askers kind
  let k := kindNum kind
  match oldestAsk (l.filter (·.test)) with
  | some x => some (x, s.tol)
  | none =>
    if kind = .draft then (oldestAsk l).map (fun x => (x, s.tol))
    else
      let eighth := (SMap.get zeroDef k s.tol.counts + 1) % 8 = 0
      match (if eighth then oldestAsk (l.filter (fun x => s.aged x.cls x.since)) else none) with
      | some x => some (x, s.tol)
      | none => ([0, 1, 2, 3] : List Nat).findSome? (fun c => s.askClass k c l)

/-- Requests of a lower class of another kind go first to the common remainder (R716). -/
def State.remainderTaken (s : State) (k cls : Nat) : Bool :=
  ([.burin, .lane, .graver, .draft] : List PhaseKind).any (fun o =>
    decide ((kindNum o) ≠ k) && !(s.ownRoom (kindNum o)) && (s.askers o).any (fun x => decide (x.cls < cls)))

/-- The pool has a token for the request: from the kind's own share, as the floor token, or from the remainder (R716). -/
def State.roomFor (s : State) (k cls : Nat) : Bool :=
  s.ownRoom k || decide (heldOf s.tol.grants k = 0) || (s.spareRoom k && !(s.remainderTaken k cls))

/-- What a unit does with its token: a job's first active phase starts its input. -/
def State.wake (s : State) (kind : PhaseKind) (u : Nat) : State :=
  match kind with
  | .burin =>
    let p := u / 9
    let b := u % 9
    let x := s.burin p b
    if x.state = .selftest then s
    else
      let s1 := s.modBurin p b (fun y => { y with state := .run })
      (match x.state, x.job with
      | .tokenWait, some j => if (s.job j).any (fun y => decide (y.stage = .running)) then s1.beginInput j else s1
      | _, _ => s1)
  | .lane =>
    let x := s.lane u
    if x.state = .selftest then s
    else
      let s1 := s.modLane u (fun y => { y with state := .run })
      (match x.work.head? with
      | some w => if w.isRec then s1 else s1.beginInput w.id
      | none => s1)
  | .graver => if (s.core u).state = .selftest then s else s.modCore u (fun y => { y with state := .run })
  | .draft => s

/-- TOKEN_GRANT: the Tollhouse grants the next request of a kind, when the pool has a token for it. HALTED grants none (R734). -/
def execTokenGrant (kind : PhaseKind) (s : State) : Host.Outcome State Fault Refusal :=
  let k := kindNum kind
  .next (
    if !(decide (s.glb.dev = .ready ∨ s.glb.dev = .post ∨ s.glb.dev = .falsework)) ∨ (kind ≠ .draft ∧ !s.glb.pll) then s
    else match s.nextAsk kind with
      | none => s
      | some (x, t) =>
        if !(s.roomFor k x.cls) then s
        else
          let s1 : State := { s with tol := { t with grants := (k, x.unit) :: t.grants, asked := KMap.del (askKey k x.unit) t.asked,
                                                     counts := SMap.set zeroDef k ((SMap.get zeroDef k t.counts + 1) % 8) t.counts } }
          s1.wake kind x.unit)

/-- LANE_IDLE_TOKEN_RELEASE: a lane without a job for 10 µs gives its token back (R426). -/
def execLaneIdleTokenRelease (l : Fin 8) (s : State) : Host.Outcome State Fault Refusal :=
  .next (if (s.lane l.val).state = .idle ∧ (s.lane l.val).work.isEmpty then s.releaseToken 1 l.val else s)

/-- DRAFT_TOKEN_RELEASE: a Drafting pair that entered its idle wait 20 µs ago, or returns to its dispatch loop with a recalled token,
gives it back (R714, R718). -/
def execDraftTokenRelease (p : Fin 10) (s : State) : Host.Outcome State Fault Refusal :=
  .next (if !s.draftWork || s.recalledFrom 3 p.val then s.releaseToken 3 p.val else s)

end Sys2Proof.Machine
end

