-- ==== Sys2Proof/Machine/Dispatch.lean ====
section
/-! DEFINITION. The meaning of every command: one arm per constructor of Instr. -/

namespace Sys2Proof.Machine

open Sys2Proof

def exec (i : Instr) (s : State) : Host.Outcome State Fault Refusal :=
  match i with
  | .sessionPolicySet job => Sys2Proof.Machine.execSessionPolicySet job s
  | .sessionInstall job => Sys2Proof.Machine.execSessionInstall job s
  | .sessionRekey job => Sys2Proof.Machine.execSessionRekey job s
  | .sessionRemove job => Sys2Proof.Machine.execSessionRemove job s
  | .sessionQuery job => Sys2Proof.Machine.execSessionQuery job s
  | .flowRuleSet job => Sys2Proof.Machine.execFlowRuleSet job s
  | .kemKeygen job sound core => Sys2Proof.Machine.execKemKeygen job sound core s
  | .kemEncaps job sound => Sys2Proof.Machine.execKemEncaps job sound s
  | .kemDecaps job sound => Sys2Proof.Machine.execKemDecaps job sound s
  | .matrixPin job => Sys2Proof.Machine.execMatrixPin job s
  | .kexDerive job sound => Sys2Proof.Machine.execKexDerive job sound s
  | .sigKeygen job sound => Sys2Proof.Machine.execSigKeygen job sound s
  | .sigSign job sound => Sys2Proof.Machine.execSigSign job sound s
  | .sigSignPrehash job sound => Sys2Proof.Machine.execSigSignPrehash job sound s
  | .sigVerify job sound => Sys2Proof.Machine.execSigVerify job sound s
  | .hbsLeaseQuery job => Sys2Proof.Machine.execHbsLeaseQuery job s
  | .hash job => Sys2Proof.Machine.execHash job s
  | .mac job => Sys2Proof.Machine.execMac job s
  | .kdf job => Sys2Proof.Machine.execKdf job s
  | .aeadSeal job => Sys2Proof.Machine.execAeadSeal job s
  | .aeadOpen job => Sys2Proof.Machine.execAeadOpen job s
  | .recordSeal job => Sys2Proof.Machine.execRecordSeal job s
  | .recordOpen job => Sys2Proof.Machine.execRecordOpen job s
  | .batch job inputs => Sys2Proof.Machine.execBatch job inputs s
  | .keyGenerate job => Sys2Proof.Machine.execKeyGenerate job s
  | .keyImport job sound => Sys2Proof.Machine.execKeyImport job sound s
  | .keyExportWrapped job agree => Sys2Proof.Machine.execKeyExportWrapped job agree s
  | .keyReplaceStage job sound => Sys2Proof.Machine.execKeyReplaceStage job sound s
  | .keyReplaceCommit job => Sys2Proof.Machine.execKeyReplaceCommit job s
  | .keyDestroy job => Sys2Proof.Machine.execKeyDestroy job s
  | .keyAttr job => Sys2Proof.Machine.execKeyAttr job s
  | .keyDerive job => Sys2Proof.Machine.execKeyDerive job s
  | .impressionDevice job sound => Sys2Proof.Machine.execImpressionDevice job sound s
  | .impressionKey job sound => Sys2Proof.Machine.execImpressionKey job sound s
  | .impressionChain job => Sys2Proof.Machine.execImpressionChain job s
  | .maintStart job => Sys2Proof.Machine.execMaintStart job s
  | .maintStatus job => Sys2Proof.Machine.execMaintStatus job s
  | .maintStop job => Sys2Proof.Machine.execMaintStop job s
  | .repairQuery job => Sys2Proof.Machine.execRepairQuery job s
  | .selftestRun job failed kat => Sys2Proof.Machine.execSelftestRun job failed kat s
  | .lcsQuery job => Sys2Proof.Machine.execLcsQuery job s
  | .lcsRequest job agree => Sys2Proof.Machine.execLcsRequest job agree s
  | .lcsChallenge job => Sys2Proof.Machine.execLcsChallenge job s
  | .lcsPermit job agree => Sys2Proof.Machine.execLcsPermit job agree s
  | .cardStatus job => Sys2Proof.Machine.execCardStatus job s
  | .archiveScan job => Sys2Proof.Machine.execArchiveScan job s
  | .archiveRestore job => Sys2Proof.Machine.execArchiveRestore job s
  | .officerLogin job present => Sys2Proof.Machine.execOfficerLogin job present s
  | .officerLogout job => Sys2Proof.Machine.execOfficerLogout job s
  | .quorumSet job => Sys2Proof.Machine.execQuorumSet job s
  | .twinPair job => Sys2Proof.Machine.execTwinPair job s
  | .twinStatus job => Sys2Proof.Machine.execTwinStatus job s
  | .twinRoleSet job => Sys2Proof.Machine.execTwinRoleSet job s
  | .twinTakeover job => Sys2Proof.Machine.execTwinTakeover job s
  | .twinUnpair job => Sys2Proof.Machine.execTwinUnpair job s
  | .viQuotaSet job => Sys2Proof.Machine.execViQuotaSet job s
  | .viReset job => Sys2Proof.Machine.execViReset job s
  | .viFreeze job => Sys2Proof.Machine.execViFreeze job s
  | .viSave job => Sys2Proof.Machine.execViSave job s
  | .viRestore job sound => Sys2Proof.Machine.execViRestore job sound s
  | .viThaw job => Sys2Proof.Machine.execViThaw job s
  | .functionSet job => Sys2Proof.Machine.execFunctionSet job s
  | .viQuery job => Sys2Proof.Machine.execViQuery job s
  | .ucodeLoad job sound => Sys2Proof.Machine.execUcodeLoad job sound s
  | .ucodeInvoke job => Sys2Proof.Machine.execUcodeInvoke job s
  | .ucodeQuery job => Sys2Proof.Machine.execUcodeQuery job s
  | .nop job => Sys2Proof.Machine.execNop job s
  | .echo job => Sys2Proof.Machine.execEcho job s
  | .abort job => Sys2Proof.Machine.execAbort job s
  | .getInfo job => Sys2Proof.Machine.execGetInfo job s
  | .fwStage job => Sys2Proof.Machine.execFwStage job s
  | .descriptorFetch vi ring entries readError => Sys2Proof.Machine.execDescriptorFetch vi ring entries readError s
  | .jobDispatch job => Sys2Proof.Machine.execJobDispatch job s
  | .completionRequest job => Sys2Proof.Machine.execCompletionRequest job s
  | .replyWrite vi ring => Sys2Proof.Machine.execReplyWrite vi ring s
  | .interruptTimer vi ring => Sys2Proof.Machine.execInterruptTimer vi ring s
  | .sqDoorbell vi n index => Sys2Proof.Machine.execSqDoorbell vi n index s
  | .cqDoorbell vi n index => Sys2Proof.Machine.execCqDoorbell vi n index s
  | .rxDoorbell vi n index => Sys2Proof.Machine.execRxDoorbell vi n index s
  | .txDoorbell vi n index => Sys2Proof.Machine.execTxDoorbell vi n index s
  | .evDoorbell vi index => Sys2Proof.Machine.execEvDoorbell vi index s
  | .xqDoorbell index => Sys2Proof.Machine.execXqDoorbell index s
  | .ringEnable vi ring value => Sys2Proof.Machine.execRingEnable vi ring value s
  | .ringDisable vi ring value => Sys2Proof.Machine.execRingDisable vi ring value s
  | .viIntStatusClear vi value => Sys2Proof.Machine.execViIntStatusClear vi value s
  | .viIntEnableWrite vi value => Sys2Proof.Machine.execViIntEnableWrite vi value s
  | .rcRead acc => Sys2Proof.Machine.execRcRead acc s
  | .registerWrite acc value => Sys2Proof.Machine.execRegisterWrite acc value s
  | .burinPick pier burin => Sys2Proof.Machine.execBurinPick pier burin s
  | .tokenGrant kind => Sys2Proof.Machine.execTokenGrant kind s
  | .microwordIssue pier burin => Sys2Proof.Machine.execMicrowordIssue pier burin s
  | .commit pier burin => Sys2Proof.Machine.execCommit pier burin s
  | .end_ pier burin => Sys2Proof.Machine.execEnd pier burin s
  | .yield_ pier burin => Sys2Proof.Machine.execYield pier burin s
  | .maskRefresh pier burin => Sys2Proof.Machine.execMaskRefresh pier burin s
  | .setLc pier burin => Sys2Proof.Machine.execSetLc pier burin s
  | .baseLoad pier burin => Sys2Proof.Machine.execBaseLoad pier burin s
  | .wait pier burin => Sys2Proof.Machine.execWait pier burin s
  | .yieldHoldPreemption pier burin => Sys2Proof.Machine.execYieldHoldPreemption pier burin s
  | .parkBufferRoom pier => Sys2Proof.Machine.execParkBufferRoom pier s
  | .counterproofVerdict job valid => Sys2Proof.Machine.execCounterproofVerdict job valid s
  | .stippleReseed pier => Sys2Proof.Machine.execStippleReseed pier s
  | .stippleFailure pier => Sys2Proof.Machine.execStippleFailure pier s
  | .burinSpareReady pier burin passed => Sys2Proof.Machine.execBurinSpareReady pier burin passed s
  | .leaseSubtreeBuilt handle => Sys2Proof.Machine.execLeaseSubtreeBuilt handle s
  | .hbsLeaseGrant handle programmed => Sys2Proof.Machine.execHbsLeaseGrant handle programmed s
  | .leaseLogErase block good => Sys2Proof.Machine.execLeaseLogErase block good s
  | .graverSlotLoad core => Sys2Proof.Machine.execGraverSlotLoad core s
  | .graverYieldPoint core ran => Sys2Proof.Machine.execGraverYieldPoint core ran s
  | .graverSpareReady core passed => Sys2Proof.Machine.execGraverSpareReady core passed s
  | .publicKeyRegeneration handle good => Sys2Proof.Machine.execPublicKeyRegeneration handle good s
  | .frameReceive port link frame fec => Sys2Proof.Machine.execFrameReceive port link frame fec s
  | .frameTransmit port link => Sys2Proof.Machine.execFrameTransmit port link s
  | .linkUp port link => Sys2Proof.Machine.execLinkUp port link s
  | .linkDown port link => Sys2Proof.Machine.execLinkDown port link s
  | .lptPortCtlWrite port value => Sys2Proof.Machine.execLptPortCtlWrite port value s
  | .lptTxeqWrite port lane value => Sys2Proof.Machine.execLptTxeqWrite port lane value s
  | .localAddressWrite port entry value => Sys2Proof.Machine.execLocalAddressWrite port entry value s
  | .excLimitInterval => Sys2Proof.Machine.execExcLimitInterval s
  | .exceptionDelivery => Sys2Proof.Machine.execExceptionDelivery s
  | .handshakeIntake => Sys2Proof.Machine.execHandshakeIntake s
  | .cookieKeyRotation => Sys2Proof.Machine.execCookieKeyRotation s
  | .sessionPending hs suite => Sys2Proof.Machine.execSessionPending hs suite s
  | .sessionEstablished session => Sys2Proof.Machine.execSessionEstablished session s
  | .handshakeFailed session alert => Sys2Proof.Machine.execHandshakeFailed session alert s
  | .cwySlotIssue => Sys2Proof.Machine.execCwySlotIssue s
  | .dtlsRecordReceive => Sys2Proof.Machine.execDtlsRecordReceive s
  | .espPacketReceive => Sys2Proof.Machine.execEspPacketReceive s
  | .laneTakeJob lane => Sys2Proof.Machine.execLaneTakeJob lane s
  | .laneJobComplete lane checksAgree => Sys2Proof.Machine.execLaneJobComplete lane checksAgree s
  | .dtlsRecordVerdict session => Sys2Proof.Machine.execDtlsRecordVerdict session s
  | .espPacketVerdict session => Sys2Proof.Machine.execEspPacketVerdict session s
  | .heldRecordRelease session => Sys2Proof.Machine.execHeldRecordRelease session s
  | .peerKeyupdate session => Sys2Proof.Machine.execPeerKeyupdate session s
  | .peerKeyupdateAck session => Sys2Proof.Machine.execPeerKeyupdateAck session s
  | .keyupdateTimeout session => Sys2Proof.Machine.execKeyupdateTimeout session s
  | .epoch2HoldExpiry session => Sys2Proof.Machine.execEpoch2HoldExpiry session s
  | .sessionTimeLimit session => Sys2Proof.Machine.execSessionTimeLimit session s
  | .checkpointDue session => Sys2Proof.Machine.execCheckpointDue session s
  | .transmitEntryFetch vi ring entry message => Sys2Proof.Machine.execTransmitEntryFetch vi ring entry message s
  | .sendLeaseGrant session => Sys2Proof.Machine.execSendLeaseGrant session s
  | .keyCounterLeaseWrite handle programmed => Sys2Proof.Machine.execKeyCounterLeaseWrite handle programmed s
  | .laneSpareReady lane passed => Sys2Proof.Machine.execLaneSpareReady lane passed s
  | .laneIdleTokenRelease lane => Sys2Proof.Machine.execLaneIdleTokenRelease lane s
  | .draftTokenRelease pair => Sys2Proof.Machine.execDraftTokenRelease pair s
  | .shelfRecordWrite job programmed => Sys2Proof.Machine.execShelfRecordWrite job programmed s
  | .overflowKeyFetch handle intact => Sys2Proof.Machine.execOverflowKeyFetch handle intact s
  | .derivationJob handle => Sys2Proof.Machine.execDerivationJob handle s
  | .keyZeroise handle => Sys2Proof.Machine.execKeyZeroise handle s
  | .storeRewrite pier good => Sys2Proof.Machine.execStoreRewrite pier good s
  | .dgeClaim vi ctx => Sys2Proof.Machine.execDgeClaim vi ctx s
  | .dgeRelease vi ctx => Sys2Proof.Machine.execDgeRelease vi ctx s
  | .dgeInit vi ctx => Sys2Proof.Machine.execDgeInit vi ctx s
  | .dgeDataWrite vi ctx value poisoned => Sys2Proof.Machine.execDgeDataWrite vi ctx value poisoned s
  | .dgeFinal vi ctx => Sys2Proof.Machine.execDgeFinal vi ctx s
  | .dgeSqueeze vi ctx => Sys2Proof.Machine.execDgeSqueeze vi ctx s
  | .dgeSave vi ctx => Sys2Proof.Machine.execDgeSave vi ctx s
  | .dgeRestore vi ctx => Sys2Proof.Machine.execDgeRestore vi ctx s
  | .dgeAbandon vi ctx => Sys2Proof.Machine.execDgeAbandon vi ctx s
  | .dgeOperationComplete ctx saved => Sys2Proof.Machine.execDgeOperationComplete ctx saved s
  | .dgeZeroiseComplete ctx => Sys2Proof.Machine.execDgeZeroiseComplete ctx s
  | .dgeReclaim value => Sys2Proof.Machine.execDgeReclaim value s
  | .entHealthFailure sourceB adaptive => Sys2Proof.Machine.execEntHealthFailure sourceB adaptive s
  | .entRetest sourceB passed => Sys2Proof.Machine.execEntRetest sourceB passed s
  | .entBlockConditioned => Sys2Proof.Machine.execEntBlockConditioned s
  | .drbgReseed => Sys2Proof.Machine.execDrbgReseed s
  | .drbgRequest => Sys2Proof.Machine.execDrbgRequest s
  | .entRawCtlWrite value => Sys2Proof.Machine.execEntRawCtlWrite value s
  | .flrVf vi => Sys2Proof.Machine.execFlrVf vi s
  | .flrPf => Sys2Proof.Machine.execFlrPf s
  | .vfEnableSet numVfs => Sys2Proof.Machine.execVfEnableSet numVfs s
  | .vfEnableClear numVfs => Sys2Proof.Machine.execVfEnableClear numVfs s
  | .busMasterEnableChange vi on => Sys2Proof.Machine.execBusMasterEnableChange vi on s
  | .viResetComplete vi => Sys2Proof.Machine.execViResetComplete vi s
  | .viScrubComplete vi => Sys2Proof.Machine.execViScrubComplete vi s
  | .getVersion request => Sys2Proof.Machine.execGetVersion request s
  | .getCapabilities request => Sys2Proof.Machine.execGetCapabilities request s
  | .negotiateAlgorithms request => Sys2Proof.Machine.execNegotiateAlgorithms request s
  | .getDigests request => Sys2Proof.Machine.execGetDigests request s
  | .getCertificate request => Sys2Proof.Machine.execGetCertificate request s
  | .challenge request => Sys2Proof.Machine.execChallenge request s
  | .getMeasurements request => Sys2Proof.Machine.execGetMeasurements request s
  | .keyExchange request => Sys2Proof.Machine.execKeyExchange request s
  | .finish session request => Sys2Proof.Machine.execFinish session request s
  | .heartbeat session => Sys2Proof.Machine.execHeartbeat session s
  | .keyUpdate session request => Sys2Proof.Machine.execKeyUpdate session request s
  | .endSession session => Sys2Proof.Machine.execEndSession session s
  | .ideKmQuery session port => Sys2Proof.Machine.execIdeKmQuery session port s
  | .keyProg session stream keySet tx sub key => Sys2Proof.Machine.execKeyProg session stream keySet tx sub key s
  | .kSetGo session stream keySet tx sub => Sys2Proof.Machine.execKSetGo session stream keySet tx sub s
  | .kSetStop session stream keySet tx sub => Sys2Proof.Machine.execKSetStop session stream keySet tx sub s
  | .getTdispVersion session vi => Sys2Proof.Machine.execGetTdispVersion session vi s
  | .getTdispCapabilities session vi => Sys2Proof.Machine.execGetTdispCapabilities session vi s
  | .lockInterfaceRequest session vi stream => Sys2Proof.Machine.execLockInterfaceRequest session vi stream s
  | .getDeviceInterfaceReport session vi off len => Sys2Proof.Machine.execGetDeviceInterfaceReport session vi off len s
  | .getDeviceInterfaceState session vi => Sys2Proof.Machine.execGetDeviceInterfaceState session vi s
  | .startInterfaceRequest session vi nonce => Sys2Proof.Machine.execStartInterfaceRequest session vi nonce s
  | .stopInterfaceRequest session vi => Sys2Proof.Machine.execStopInterfaceRequest session vi s
  | .spanFrameReceive frame => Sys2Proof.Machine.execSpanFrameReceive frame s
  | .spanHello frame => Sys2Proof.Machine.execSpanHello frame s
  | .spanRetransmitTimeout => Sys2Proof.Machine.execSpanRetransmitTimeout s
  | .spanIdleTimer => Sys2Proof.Machine.execSpanIdleTimer s
  | .spanLinkSilence => Sys2Proof.Machine.execSpanLinkSilence s
  | .spanLaneFailure lane => Sys2Proof.Machine.execSpanLaneFailure lane s
  | .heartbeatWordSend => Sys2Proof.Machine.execHeartbeatWordSend s
  | .heartbeatWordReceive word => Sys2Proof.Machine.execHeartbeatWordReceive word s
  | .heartbeatSilence => Sys2Proof.Machine.execHeartbeatSilence s
  | .rejoinTimeout => Sys2Proof.Machine.execRejoinTimeout s
  | .pairFrame frame => Sys2Proof.Machine.execPairFrame frame s
  | .pairRefusal => Sys2Proof.Machine.execPairRefusal s
  | .mirrorMessageReceive id items => Sys2Proof.Machine.execMirrorMessageReceive id items s
  | .mirrorAckReceive id => Sys2Proof.Machine.execMirrorAckReceive id s
  | .mirrorWaitTimeout id => Sys2Proof.Machine.execMirrorWaitTimeout id s
  | .syncComplete => Sys2Proof.Machine.execSyncComplete s
  | .otpByteBurn readBack second => Sys2Proof.Machine.execOtpByteBurn readBack second s
  | .challengeExpiry => Sys2Proof.Machine.execChallengeExpiry s
  | .restrikeHalfExpiry => Sys2Proof.Machine.execRestrikeHalfExpiry s
  | .lcsDrainTimeout => Sys2Proof.Machine.execLcsDrainTimeout s
  | .lcsReqConfirm value agree => Sys2Proof.Machine.execLcsReqConfirm value agree s
  | .extest => Sys2Proof.Machine.execExtest s
  | .idcode => Sys2Proof.Machine.execIdcode s
  | .samplePreload => Sys2Proof.Machine.execSamplePreload s
  | .vendorScan code reg value => Sys2Proof.Machine.execVendorScan code reg value s
  | .vendorOtpProgramming addr value => Sys2Proof.Machine.execVendorOtpProgramming addr value s
  | .bypass => Sys2Proof.Machine.execBypass s
  | .xhSourceEvent source det => Sys2Proof.Machine.execXhSourceEvent source det s
  | .xhSecondDecision agree => Sys2Proof.Machine.execXhSecondDecision agree s
  | .xhDecisionTimeout => Sys2Proof.Machine.execXhDecisionTimeout s
  | .xhTableCompare => Sys2Proof.Machine.execXhTableCompare s
  | .meshChange matching => Sys2Proof.Machine.execMeshChange matching s
  | .loopWord matching => Sys2Proof.Machine.execLoopWord matching s
  | .islandMeasurement temp vbatMv clockOk => Sys2Proof.Machine.execIslandMeasurement temp vbatMv clockOk s
  | .islandSecondDecision agree => Sys2Proof.Machine.execIslandSecondDecision agree s
  | .islandSelftest failed => Sys2Proof.Machine.execIslandSelftest failed s
  | .xhResume value => Sys2Proof.Machine.execXhResume value s
  | .xhInject value => Sys2Proof.Machine.execXhInject value s
  | .xhSrcCfgWrite source value => Sys2Proof.Machine.execXhSrcCfgWrite source value s
  | .xhWarnClear => Sys2Proof.Machine.execXhWarnClear s
  | .xhLock => Sys2Proof.Machine.execXhLock s
  | .xhiRtcSecWrite value => Sys2Proof.Machine.execXhiRtcSecWrite value s
  | .xhiLoopCtlWrite value => Sys2Proof.Machine.execXhiLoopCtlWrite value s
  | .faultReport source cause spot job => Sys2Proof.Machine.execFaultReport source cause spot job s
  | .draftingSpareTakeover pair passed => Sys2Proof.Machine.execDraftingSpareTakeover pair passed s
  | .escalationTimeout => Sys2Proof.Machine.execEscalationTimeout s
  | .fclAck value => Sys2Proof.Machine.execFclAck value s
  | .fclStickyClear map value => Sys2Proof.Machine.execFclStickyClear map value s
  | .fclInjectReport value => Sys2Proof.Machine.execFclInjectReport value s
  | .fclInjectWriteCheck value => Sys2Proof.Machine.execFclInjectWriteCheck value s
  | .fclInjectReadCheck value => Sys2Proof.Machine.execFclInjectReadCheck value s
  | .scrubSram found => Sys2Proof.Machine.execScrubSram found s
  | .scrubHbm found => Sys2Proof.Machine.execScrubHbm found s
  | .healthSweep failed => Sys2Proof.Machine.execHealthSweep failed s
  | .repairCommit burned => Sys2Proof.Machine.execRepairCommit burned s
  | .caissonCompact => Sys2Proof.Machine.execCaissonCompact s
  | .xhSelftest failed => Sys2Proof.Machine.execXhSelftest failed s
  | .archiveExport => Sys2Proof.Machine.execArchiveExport s
  | .avsRecal slacks => Sys2Proof.Machine.execAvsRecal slacks s
  | .avsRecalDue => Sys2Proof.Machine.execAvsRecalDue s
  | .tjSample tj => Sys2Proof.Machine.execTjSample tj s
  | .avsSample slack low => Sys2Proof.Machine.execAvsSample slack low s
  | .avsAck => Sys2Proof.Machine.execAvsAck s
  | .avsRetry => Sys2Proof.Machine.execAvsRetry s
  | .tolBudgetWrite value => Sys2Proof.Machine.execTolBudgetWrite value s
  | .tolShareWrite value => Sys2Proof.Machine.execTolShareWrite value s
  | .tolPdReqWrite value => Sys2Proof.Machine.execTolPdReqWrite value s
  | .csnCtlWrite value => Sys2Proof.Machine.execCsnCtlWrite value s
  | .domainSwitchComplete domain => Sys2Proof.Machine.execDomainSwitchComplete domain s
  | .rootPllLock => Sys2Proof.Machine.execRootPllLock s
  | .pllLockRestored => Sys2Proof.Machine.execPllLockRestored s
  | .mainResetAssert perst => Sys2Proof.Machine.execMainResetAssert perst s
  | .glbReset value => Sys2Proof.Machine.execGlbReset value s
  | .mainResetRelease clkMode smb1 smb0 => Sys2Proof.Machine.execMainResetRelease clkMode smb1 smb0 s
  | .romBoot stuck => Sys2Proof.Machine.execRomBoot stuck s
  | .firmwareVerified => Sys2Proof.Machine.execFirmwareVerified s
  | .postComplete failed units stipple detectors pages => Sys2Proof.Machine.execPostComplete failed units stipple detectors pages s
  | .mainPowerLoss => Sys2Proof.Machine.execMainPowerLoss s
  | .vbatApplied => Sys2Proof.Machine.execVbatApplied s
  | .vbatLoss => Sys2Proof.Machine.execVbatLoss s
  | .vddIoSwitchover onVbat => Sys2Proof.Machine.execVddIoSwitchover onVbat s
  | .sdCardInsertion sdsc initOk speed width4 lbas => Sys2Proof.Machine.execSdCardInsertion sdsc initOk speed width4 lbas s
  | .sdCardRemoval => Sys2Proof.Machine.execSdCardRemoval s
  | .sdBusyTimeout => Sys2Proof.Machine.execSdBusyTimeout s
  | .officerCardRemoval slot => Sys2Proof.Machine.execOfficerCardRemoval slot s
  | .officerLoginExpiry officer => Sys2Proof.Machine.execOfficerLoginExpiry officer s
  | .drainTimeout => Sys2Proof.Machine.execDrainTimeout s
  | .leaseWaitTimeout job => Sys2Proof.Machine.execLeaseWaitTimeout job s
  | .viFreezeTimeout vi => Sys2Proof.Machine.execViFreezeTimeout vi s
  | .ucodeLoadTimeout job => Sys2Proof.Machine.execUcodeLoadTimeout job s
  | .twinPairTimeout => Sys2Proof.Machine.execTwinPairTimeout s
  | .smbusDeviceState => Sys2Proof.Machine.execSmbusDeviceState s
  | .smbusTj => Sys2Proof.Machine.execSmbusTj s
  | .smbusTjMax => Sys2Proof.Machine.execSmbusTjMax s
  | .smbusStatusFlags => Sys2Proof.Machine.execSmbusStatusFlags s
  | .smbusVddMv => Sys2Proof.Machine.execSmbusVddMv s
  | .smbusBudget => Sys2Proof.Machine.execSmbusBudget s
  | .smbusIdentity => Sys2Proof.Machine.execSmbusIdentity s
  | .hostReadCompletion job outcome => Sys2Proof.Machine.execHostReadCompletion job outcome s
  | .pcieLinkStateChange link => Sys2Proof.Machine.execPcieLinkStateChange link s
  | .vfBarWrite vi => Sys2Proof.Machine.execVfBarWrite vi s
  | .sdTransferEnd ended data => Sys2Proof.Machine.execSdTransferEnd ended data s
  | .sdResponseTimeout => Sys2Proof.Machine.execSdResponseTimeout s
  | .t1BlockReceive block => Sys2Proof.Machine.execT1BlockReceive block s
  | .t1BlockTimeout => Sys2Proof.Machine.execT1BlockTimeout s
  | .shelfBlockErase block => Sys2Proof.Machine.execShelfBlockErase block s
  | .fwSlotBlockWrite good => Sys2Proof.Machine.execFwSlotBlockWrite good s

end Sys2Proof.Machine
end

