-- ==== Sys2Proof/Machine/Tick.lean ====
section
/-! DEFINITION. One tick of CLK_SLOW, 10 ns, with no command (R13, R638, R655; assumption log 15). -/

namespace Sys2Proof.Machine

open Sys2Proof

/-- TIMESTAMP counts from the release of the last main reset, while main power is present (R13). -/
def State.ticks (s : State) : Bool := s.mainPower && s.glb.released

/-- The island's 32,768 Hz tick and its real-time clock, moved on by 10 ns: 10^8 parts of 32,768 make an island tick (R655). -/
def Island.tick (i : Island) : Island :=
  let part := i.rtcPart + 32768
  if part < 100000000 then { i with rtcPart := part }
  else
    let sub := i.rtcSub + 1
    { i with rtcPart := part - 100000000, ticks := i.ticks + 1, rtcSub := sub % 32768
             rtcSec := if sub = 32768 then (i.rtcSec + 1) % 2 ^ 32 else i.rtcSec }

/-- One tick with no command: TIMESTAMP, the island's clock, and the reports of single detectors that their 1 µs has passed for. -/
def State.idle (s : State) : State :=
  let s1 : State := if s.islandUp then { s with island := s.island.tick } else s
  if s1.ticks then ({ s1 with time := s1.time + 1 }).settleSplits else s1

end Sys2Proof.Machine
end

