-- ==== Sys2Proof/Safety.lean ====
section
/-! DEFINITION. What a safe run is: no fault and no refusal; and the form of the OTP table that every run keeps. -/

namespace Sys2Proof

/-- The outcome is a next state. -/
def Runs (o : Host.Outcome Machine.State Machine.Fault Machine.Refusal) : Prop := ∃ t, o = .next t

/-- The next command of a state runs. -/
def Safe (s : Machine.State) : Prop := Runs (Machine.step s)

/-- The table of OTP bytes is in its canonical form: addresses strictly rising, no byte listed that is not burned. -/
def OtpForm (s : Machine.State) : Prop := Machine.SMap.wf Machine.otpDef s.lcs.otp = true

end Sys2Proof
end

