-- ==== Sys2Proof/Certificates/Slice0/Obligations.lean ====
section
/-! DEFINITION. Statements about the model, for the provers: one group of commands each, after the rules of spec/. -/

open Sys2Proof
open Sys2Proof.Machine

/-- A step runs the command at the front of the queue, and an empty queue is an idle tick (R13). A step of a state with command c at the front of its
queue answers what the meaning of c answers on the state with the rest of the queue. With an empty queue the step is one idle tick of CLK_SLOW: it
answers a next state with nothing queued; TIMESTAMP counts one while main power is present and main reset is released, and else stands still (that the
queue's end is a tick is the model's choice, log entry 15). -/
def Obligations.StepRunsFrontCommand : Prop :=
  (∀ (s : State) (c : Instr) (rest : List Instr), s.pending = c :: rest → step s = exec c { s with pending := rest }) ∧
  (∀ s : State, s.pending = [] → ∃ t, step s = .next t ∧ t.pending = [] ∧
    t.time = (if s.mainPower ∧ s.glb.released then s.time + 1 else s.time) ∧ t.vis = s.vis ∧ t.rings = s.rings ∧ t.jobs = s.jobs ∧
    t.replies = s.replies ∧ t.csn = s.csn ∧ t.lcs = s.lcs ∧ t.out = s.out)

/-- Doorbells hand entries to the device and return slots, or are refused by the first case of R48 (R42, R47, R48, R49, R50, R74, R86). For
SQ_DOORBELL and TX_DOORBELL (tail), CQ_DOORBELL, RX_DOORBELL, EV_DOORBELL and XQ_DOORBELL of VI 0 (head), of a VI whose window the host reaches: with
the ring enabled, INDEX below its size and no move that the ring forbids (backwards; past the write index), the tail or head becomes INDEX, returned
slots release their data-area pieces, and nothing else of the machine changes. A disabled ring, an INDEX not below the size and a forbidden move are
refused in this order with CAUSE 3, 1 and 2: no ring changes; VI_RING_ERR captures cause, kind, ring and INDEX and RING_ERR rises unless a capture
stands already. A window that is not reached changes nothing but the VIM_TDI_REJECT count. -/
def Obligations.Doorbells : Prop :=
  (∀ (s : State) (v : Fin 256) (n : Fin 16) (i : BitVec 16) (c : Instr) (id : RingId),
    (c = .sqDoorbell v n i ∧ id = .cmd n) ∨ (c = .txDoorbell v n i ∧ id = .tx n) →
    let r := s.ring v.val id.key
    let size := 2 ^ r.log2Size.toNat
    let ahead := (i.toNat + size - r.fetchIdx % size) % size
    let handed := (r.tail + size - r.fetchIdx % size) % size
    (s.reaches v.val = true →
      (r.enable = true → i.toNat < size → handed ≤ ahead → exec c s = .next (s.setRing v.val id.key { r with tail := i.toNat })) ∧
      (∀ cause, (r.enable = false ∧ cause = 3) ∨ (r.enable = true ∧ size ≤ i.toNat ∧ cause = 1) ∨
          (r.enable = true ∧ i.toNat < size ∧ ahead < handed ∧ cause = 2) →
        ∃ t, exec c s = .next t ∧ t.rings = s.rings ∧ (t.vi v.val).intStatus.getLsbD 0 = true ∧
          (t.vi v.val).ringErr = (if (s.vi v.val).intStatus.getLsbD 0 then (s.vi v.val).ringErr
            else BitVec.ofNat 32 (cause * 2 ^ 24 + id.kind * 2 ^ 20 + id.index * 2 ^ 16 + i.toNat)) ∧
          { t with vis := s.vis, out := s.out } = s ∧ ∀ w, w ≠ v.val → t.vi w = s.vi w)) ∧
    (s.reaches v.val = false → ∃ t, exec c s = .next t ∧ { t with regs := s.regs } = s ∧
      ∀ a, a ≠ Reg.vimTdiReject → t.reg a = s.reg a)) ∧
  (∀ (s : State) (v : Fin 256) (n : Fin 16) (i : BitVec 16) (c : Instr) (id : RingId),
    (c = .cqDoorbell v n i ∧ id = .cmd n) ∨ (c = .rxDoorbell v n i ∧ id = .rx n) ∨ (c = .evDoorbell v i ∧ id = .ev) ∨
      (c = .xqDoorbell i ∧ id = .xq ∧ v = 0) →
    let r := s.ring v.val id.key
    let size := 2 ^ r.log2Size.toNat
    let back := (i.toNat + size - r.head % size) % size
    let held := (r.writeIdx + size - r.head % size) % size
    s.reaches v.val = true →
      (r.enable = true → i.toNat < size → back ≤ held →
        exec c s = .next (s.setRing v.val id.key { r with head := i.toNat, pieces := r.pieces.drop back })) ∧
      (∀ cause, (r.enable = false ∧ cause = 3) ∨ (r.enable = true ∧ size ≤ i.toNat ∧ cause = 1) ∨
          (r.enable = true ∧ i.toNat < size ∧ held < back ∧ cause = 2) →
        ∃ t, exec c s = .next t ∧ t.rings = s.rings ∧ (t.vi v.val).intStatus.getLsbD 0 = true ∧
          (t.vi v.val).ringErr = (if (s.vi v.val).intStatus.getLsbD 0 then (s.vi v.val).ringErr
            else BitVec.ofNat 32 (cause * 2 ^ 24 + id.kind * 2 ^ 20 + id.index * 2 ^ 16 + i.toNat)) ∧
          { t with vis := s.vis, out := s.out } = s ∧ ∀ w, w ≠ v.val → t.vi w = s.vi w))

/-- A ring is enabled only when its index is below the VI's quota for its kind (R34). When RING_ENABLE turns ENABLE of command ring pair n, receive
ring n or transmit ring n of a VI from 0 to 1, n is below that VI's quota of such rings; with n at or above the quota the command completes with
ENABLE still 0. -/
def Obligations.RingQuotaBoundsEnable : Prop :=
  ∀ (s : State) (v : Fin 256) (n : Fin 16) (id : RingId) (q : Nat) (w : Word),
    (id = .cmd n ∧ q = (s.vi v.val).quota.cmdRings) ∨ (id = .rx n ∧ q = (s.vi v.val).quota.rxRings) ∨
      (id = .tx n ∧ q = (s.vi v.val).quota.txRings) →
    (s.ring v.val id.key).enable = false →
    ∃ t, exec (.ringEnable v id w) s = .next t ∧ ((t.ring v.val id.key).enable = true → n.val < q) ∧
      (q ≤ n.val → (t.ring v.val id.key).enable = false)

/-- RING_ENABLE and RING_DISABLE write a ring's control register (R33, R38, R43, R44, R45, R86). In a window that the host reaches (the exception ring
in VI 0's alone): RING_ENABLE of a disabled ring whose written fields pass the five conditions of R43 enables it with those fields, INDEX 0 and PHASE
1; the first condition that fails leaves ENABLE 0 with the fields written and captures its CAUSE (4 size, 5 data area, 8 weight, 6 vector, 7 quota).
On an enabled ring LOG2_SIZE, LOG2_DATA and MSIX_VECTOR stay; WEIGHT takes a value that is not 0. RING_DISABLE clears ENABLE of an enabled ring and
leaves its indices. No other ring and nothing else of the machine changes. -/
def Obligations.RingControl : Prop :=
  ∀ (s : State) (v : Fin 256) (id : RingId) (w : Word), s.reaches v.val = true → (id = .xq → v = 0) →
    let r := s.ring v.val id.key
    let data := if id.hasData then BitVec.ofNat 5 (bits w.toNat 29 25) else r.log2Data
    let size := BitVec.ofNat 5 (bits w.toNat 24 20)
    let weight := if id.fetched then BitVec.ofNat 4 (bits w.toNat 19 16) else r.weight
    let vector := BitVec.ofNat 11 (bits w.toNat 10 0)
    let badSize := size.toNat < 6 ∨ (if id.kind = 0 then 12 else 16) < size.toNat
    let badData := id.hasData = true ∧ (data.toNat < 16 ∨ 28 < data.toNat)
    let badWeight := id.fetched = true ∧ weight = 0
    let badVector := (if v = 0 then 2047 else 31) < vector.toNat
    let badQuota := s.ringQuota v.val id = false
    let written : Ring := { r with log2Data := data, log2Size := size, weight := weight, vector := vector }
    (r.enable = false → w.getLsbD 31 = true → ¬badSize → ¬badData → ¬badWeight → ¬badVector → ¬badQuota →
      exec (.ringEnable v id w) s = .next (s.setRing v.val id.key
        { written with enable := true, fetchIdx := 0, tail := 0, writeIdx := 0, phase := true, head := 0, pieces := [] })) ∧
    (∀ cause, r.enable = false → w.getLsbD 31 = true →
      (badSize ∧ cause = 4) ∨ (¬badSize ∧ badData ∧ cause = 5) ∨ (¬badSize ∧ ¬badData ∧ badWeight ∧ cause = 8) ∨
        (¬badSize ∧ ¬badData ∧ ¬badWeight ∧ badVector ∧ cause = 6) ∨
        (¬badSize ∧ ¬badData ∧ ¬badWeight ∧ ¬badVector ∧ badQuota ∧ cause = 7) →
      ∃ t, exec (.ringEnable v id w) s = .next t ∧ t.rings = (s.setRing v.val id.key written).rings ∧
        (t.vi v.val).ringErr = (if (s.vi v.val).intStatus.getLsbD 0 then (s.vi v.val).ringErr
          else BitVec.ofNat 32 (cause * 2 ^ 24 + id.kind * 2 ^ 20 + id.index * 2 ^ 16)) ∧
        { t with rings := s.rings, vis := s.vis, out := s.out } = s ∧ ∀ u, u ≠ v.val → t.vi u = s.vi u) ∧
    (r.enable = true → w.getLsbD 31 = true → exec (.ringEnable v id w) s = .next (s.setRing v.val id.key
      { r with weight := if id.fetched ∧ bits w.toNat 19 16 ≠ 0 then BitVec.ofNat 4 (bits w.toNat 19 16) else r.weight })) ∧
    (r.enable = true → w.getLsbD 31 = false → exec (.ringDisable v id w) s = .next (s.setRing v.val id.key
      { r with enable := false,
               weight := if id.fetched ∧ bits w.toNat 19 16 ≠ 0 then BitVec.ofNat 4 (bits w.toNat 19 16) else r.weight }))

/-- Interrupt moderation, VI_INT_STATUS and VI_INT_ENABLE (R83, R85, R86, R518). INTERRUPT_TIMER of a ring with TIMER not 0 and counted entries
restarts its count and sends one message of its vector, or leaves it pending while the vector is masked or DMA is stopped. VI_INT_STATUS_CLEAR clears
the status bits written 1, and the ring-error capture with RING_ERR. VI_INT_ENABLE_WRITE sets the enable bits and, for each status bit whose AND with
its enable rises, sends one VI_INT_VECTOR message. Nothing else changes. -/
def Obligations.InterruptCommands : Prop :=
  ∀ (s : State) (v : Fin 256) (id : RingId) (w : Word),
    let x := s.vi v.val
    let r := s.ring v.val id.key
    (r.modTimer ≠ 0 → r.unsignalled ≠ 0 → ∃ t, exec (.interruptTimer v id) s = .next t ∧
      t.rings = (s.setRing v.val id.key { r with unsignalled := 0 }).rings ∧
      t.out = s.out ++ (if s.dmaOk v.val ∧ x.masked r.vector.toNat = false then [.msix v.val (s.via v.val) r.vector.toNat] else []) ∧
      (¬(s.dmaOk v.val ∧ x.masked r.vector.toNat = false) → r.vector.toNat ∈ (t.vi v.val).pba) ∧
      { t with rings := s.rings, vis := s.vis, out := s.out } = s) ∧
    (s.reaches v.val = true → exec (.viIntStatusClear v w) s = .next (s.setVi v.val
      { x with intStatus := x.intStatus &&& ~~~(w.setWidth 4), ringErr := if w.getLsbD 0 then 0 else x.ringErr })) ∧
    (s.reaches v.val = true → s.dmaOk v.val = true → x.masked x.intVector.toNat = false → ∃ t, exec (.viIntEnableWrite v w) s = .next t ∧
      t.vis = (s.setVi v.val { x with intEnable := w.setWidth 4 }).vis ∧
      t.out = s.out ++ List.replicate ((List.range 4).countP (fun b => x.intStatus.getLsbD b && w.getLsbD b && !x.intEnable.getLsbD b))
        (.msix v.val (s.via v.val) x.intVector.toNat) ∧
      { t with vis := s.vis, out := s.out } = s) ∧
    (s.reaches v.val = true → ¬(s.dmaOk v.val = true ∧ x.masked x.intVector.toNat = false) → ∃ t, exec (.viIntEnableWrite v w) s = .next t ∧
      (t.vi v.val).intEnable = w.setWidth 4 ∧ (t.vi v.val).intStatus = x.intStatus ∧ { t with vis := s.vis } = s)

/-- DESCRIPTOR_FETCH takes the next descriptors of a command ring and checks each of them (R47, R53, R55, R57, R60, R65, R87). When the device
fetches, n entries (1 to what R47 and R57 let it fetch, as n reads of 64 B in ring order) are at its turn: SQ_HEAD moves n on modulo the size, the
next n job identifiers are used up, and host memory is read at each entry. A single fetched descriptor that passes checks 1 to 6 becomes a job that
waits for dispatch, with the VI stamped and VI_GEN recorded; one that fails has its reply decided at once with the failing check's status and DETAIL.
A read error clears ENABLE and is captured as CAUSE 9 unless a capture stands. Jobs, replies, rings, arbitration counts and outputs apart, nothing
changes but the VI's status. -/
def Obligations.DescriptorFetch : Prop :=
  ∀ (s : State) (v : Fin 256) (k : Fin 16) (entries : List Bytes) (h : Hif), s.fetching = true →
    let r := s.ring v.val k.val
    let n := entries.length
    s.fetchTurn v.val k.val n = some h → n ≤ s.fetchable v.val k.val → 0 < s.fetchable v.val k.val →
    (0 < n → ∃ t, exec (.descriptorFetch v k entries false) s = .next t ∧ t.rings = (s.setRing v.val k.val { r with fetchIdx := (r.fetchIdx + n) % r.size }).rings ∧
      t.nextJob = s.nextJob + n ∧
      t.out = s.out ++ (List.range n).map (fun i => Out.hostRead v.val (s.via v.val) (r.baseA.toNat + 64 * ((r.fetchIdx + i) % r.size)) 64) ∧
      { t with jobs := s.jobs, nextJob := s.nextJob, replies := s.replies, rings := s.rings, hif := s.hif, out := s.out } = s) ∧
    (∀ e, entries = [e] → e.length = 64 → s.checkFetch v.val e = none → ∃ t, exec (.descriptorFetch v k entries false) s = .next t ∧
      (∃ x, t.job s.nextJob = some x ∧ x.vi = v.val ∧ x.ring = k.val ∧ x.origin = .host ∧ x.desc = stampVi e v.val ∧ x.gen = (s.vi v.val).gen ∧
        x.stage = .fetched ∧ x.cls = classOf e) ∧ t.replies = s.replies ∧ ∀ j, j ≠ s.nextJob → t.job j = s.job j) ∧
    (∀ e st det len, entries = [e] → e.length = 64 → s.checkFetch v.val e = some (st, det, len) →
      ∃ t x, exec (.descriptorFetch v k entries false) s = .next t ∧ t.jobs = s.jobs ∧ t.replies = s.replies ++ [x] ∧ x.vi = v.val ∧ x.ring = k.val ∧
        x.tag = dTag e ∧ x.opcode = dOp e ∧ x.status = st ∧ x.detail = det ∧ x.lenOut = len ∧ x.outputs = [] ∧ x.stamp = s.time) ∧
    ((s.vi v.val).intStatus.getLsbD 0 = false → ∃ t, exec (.descriptorFetch v k entries true) s = .next t ∧ (t.ring v.val k.val).enable = false ∧
      (t.vi v.val).ringErr = BitVec.ofNat 32 (9 * 2 ^ 24 + k.val * 2 ^ 16) ∧ (t.vi v.val).intStatus.getLsbD 0 = true)

/-- JOB_DISPATCH refuses a job at the first failing check, or hands it to its engine (R52, R54, R55, R58, R67, R70, R126). For a fetched job that is
not an ABORT, whose VI may issue DMA, and that ring order and FENCE let go, while the device fetches: if checks 7 to 12 refuse it, its outcome is the
refusal, decided at once. Else, with a counter value within its lease: the keys of the VI that it names are bound, the approved flag and the handles
to reserve recorded; a lane job joins the waiting look-aside jobs; a Caisson, firmware, digest or host-interface job without input starts with its
input complete. AEAD_SEAL with NONCE_DEVICE takes the key's counter value, and the counter moves on by one. -/
def Obligations.JobDispatch : Prop :=
  ∀ (s : State) (j : Nat) (x : Job), s.job j = some x → x.stage = .fetched → isAbort x.desc = false → s.dmaOk x.vi = true → s.inOrder j x = true →
    s.fetching = true →
    let b := x.desc
    (∀ r, s.checkDispatch x.vi s.strict b = some r → exec (.jobDispatch j) s = .next (s.refuseJob j r)) ∧
    (s.checkDispatch x.vi s.strict b = none → s.leaseCovers b = true →
      let bound (y : Job) : Prop := y.key = s.ownKey x.vi (dKey b) ∧ y.key2 = (secondHandle b).bind (s.ownKey x.vi) ∧ y.reserve = newHandles b ∧
        y.approved = s.runsApproved x.vi b ∧ y.quorum = s.quorumMask ∧ y.queuedAt = s.time
      (x.engine = .lane → dOp b ≠ 0x0302 → ∃ t y, exec (.jobDispatch j) s = .next t ∧ t.job j = some y ∧ bound y ∧ y.stage = .queued ∧
        y.nonce = ((s.ownKey x.vi (dKey b)).map (·.counter)).getD 0 ∧ t.cwy = { s.cwy with lookaside := s.cwy.lookaside ++ [j] } ∧
        (∀ h, KMap.get h t.csn.keys = (KMap.get h s.csn.keys).map
          (fun k => if h = dKey b ∧ dOp b = 0x0501 ∧ (dP0 b).testBit 16 then { k with counter := k.counter + 1 } else k)) ∧
        (∀ i, i ≠ j → t.job i = s.job i) ∧ { t with jobs := s.jobs, csn := { t.csn with keys := s.csn.keys }, cwy := s.cwy } = s) ∧
      ((x.engine = .caisson ∨ x.engine = .firmware ∨ x.engine = .hif ∨ x.engine = .dge) → dLenIn b = 0 → dOp b ≠ 0x0302 → dOp b ≠ 0x0501 →
        ∃ t y, exec (.jobDispatch j) s = .next t ∧ t.job j = some y ∧ bound y ∧ y.stage = .running ∧ y.inputDone = true ∧
          (∀ i, i ≠ j → t.job i = s.job i) ∧ { t with jobs := s.jobs } = s))

/-- The commit arbiter decides a finished job's outcome exactly once (R60, R63, R64, R65, R68, R72). COMPLETION_REQUEST of a job of a descriptor whose
completion is requested: with the generation it was fetched under still in force, and no other job, ABORT or hand-over waiting on it, exactly one
reply is recorded, with the job's tag, opcode, status (OK_ABORT_LATE for a success that an abort reached late), DETAIL and LEN_OUT, and the job is
gone. When VI_GEN has changed no reply is recorded and VI_LATE_DISCARD counts one. -/
def Obligations.CommitArbiter : Prop :=
  ∀ (s : State) (j : Nat) (x : Job), s.job j = some x → x.stage = .ready → x.origin = .host → s.spn.draining = [] → dOp x.desc ≠ 0x0B01 →
    (∀ p ∈ s.jobs, p.1 ≠ j → p.2.targets = [] ∧ p.2.stage ≠ .waiting ∧ p.2.origin ≠ .counterproof j) →
    (x.gen = (s.vi x.vi).gen → ∃ t r, exec (.completionRequest j) s = .next t ∧ t.job j = none ∧ t.replies = s.replies ++ [r] ∧ r.vi = x.vi ∧
      r.ring = x.ring ∧ r.tag = dTag x.desc ∧ r.opcode = dOp x.desc ∧ r.gen = dGen x.desc ∧
      r.status = (if statusOk x.result.status ∧ x.late then St.okLate else x.result.status) ∧
      r.detail = (if statusOk x.result.status ∧ x.late then 0 else x.result.detail) ∧
      (statusOk x.result.status = false → r.outputs = [] ∧ r.lenOut = x.result.lenOut) ∧
      (statusOk x.result.status = true → x.result.lenOut = 0 → r.lenOut = x.result.payload.length)) ∧
    (x.gen ≠ (s.vi x.vi).gen → ∃ t, exec (.completionRequest j) s = .next t ∧ t.job j = none ∧ t.replies = s.replies ∧
      (t.vi x.vi).lateDiscard = satInc (s.vi x.vi).lateDiscard)

/-- REPLY_WRITE writes the output, then the reply, then its message (R50, R63, R71, R72, R83). When the VI may issue DMA, the completion queue has
room and a decided reply may be written: the held output goes to its addresses first, then the 32 B reply to the entry at CQ_TAIL with the ring's
PHASE, then at most one MSI-X message; the reply is no longer held and CQ_TAIL moves on, PHASE toggling at the wrap. While nothing may be written
(queue full, DMA stopped) the command changes nothing. -/
def Obligations.ReplyWrite : Prop :=
  ∀ (s : State) (v : Fin 256) (k : Fin 16) (r : Reply), s.nextReply v.val k.val = some r →
    let q := s.ring v.val k.val
    (s.replying = true → s.dmaOk v.val = true → q.full = false → r.after = none → s.spn.draining = [] → (∀ p ∈ s.jobs, p.2.stage ≠ .waiting) →
      ∃ t msgs, exec (.replyWrite v k) s = .next t ∧ t.replies = s.replies.erase r ∧
        t.out = s.out ++ (r.outputs.filter (fun o => !o.2.isEmpty)).map (fun o => Out.dma v.val (s.via v.val) o.1 o.2) ++
          [.dma v.val (s.via v.val) (q.baseB.toNat + 32 * q.writeIdx) (withPhase (replyBytes r q.phase) 18 q.phase)] ++ msgs ∧
        (msgs = [] ∨ msgs = [.msix v.val (s.via v.val) q.vector.toNat]) ∧
        (t.ring v.val k.val).writeIdx = (if q.writeIdx + 1 = q.size then 0 else q.writeIdx + 1) ∧
        (t.ring v.val k.val).phase = (if q.writeIdx + 1 = q.size then !q.phase else q.phase) ∧
        { t with replies := s.replies, rings := s.rings, vis := s.vis, out := s.out } = s) ∧
    (s.replying = false ∨ s.dmaOk v.val = false ∨ q.full = true → exec (.replyWrite v k) s = .next s)

/-- RC_READ returns a counter and clears it; REGISTER_WRITE sets RW fields that are in range and leaves everything else (R9, R10, R11, R29, R30, R35,
R36, R39, R44, R85, R382, R561). An aligned 32-bit read of an RC counter of an open, powered PF BAR0 window returns it and makes it 0, and a read of a
ring's loss counter in the function's own window likewise; of another width or alignment it returns Unsupported Request. In READY a write of an RW
register of a powered BAR0 window without a row of its own sets each field whose new value is in its range and keeps the others. A write of a ring's
base register sets the half it names with address bits [5:0] 0 while the ring is disabled, else nothing. VI_INT_VECTOR takes a vector in range. A
write that is not aligned or not 32 bits wide is discarded, one that a TDI in ERROR refuses is counted. -/
def Obligations.RegisterAccess : Prop :=
  (∀ (s : State) (a : RegAccess),
    (a.space = .bar0 → s.pcieUp = true → a.fn = 0 → a.size = 4 → a.off % 4 = 0 → a.off < 0x4000000 →
      rcCounter (a.off / 0x100000) (a.off % 0x100000) = true → s.winReadable (a.off / 0x100000) = true →
      s.winPowered (a.off / 0x100000) (a.off % 0x100000) = true →
      ∃ t, exec (.rcRead a) s = .next t ∧ t.reg a.off = 0 ∧ t.out = s.out ++ [.readReply (some (BitVec.ofNat 32 (s.bar0Word a.off)))] ∧
        (∀ b, b ≠ a.off → t.reg b = s.reg b) ∧ { t with regs := s.regs, out := s.out } = s) ∧
    (∀ (v : Fin 256) (id : RingId), a.space = .window v → a.fn = v → s.pcieUp = true → a.size = 4 → a.off % 4 = 0 → a.off < 0x10000 →
      (v = 0 ∨ (s.vi v.val).state ≠ .detached) → ((s.vi v.val).tdi = .unlocked ∨ (s.vi v.val).tdi = .locked) →
      ringAt a.off = some id → a.off % 32 = 0x1C → id.kind ≠ 0 → (id = .xq → v = 0) →
      exec (.rcRead a) s = .next ((s.emit (.readReply (some (BitVec.ofNat 32 (s.windowWord v.val a.off))))).setRing v.val id.key
        { s.ring v.val id.key with losses := 0 })) ∧
    ((a.size ≠ 4 ∨ a.off % 4 ≠ 0) → exec (.rcRead a) s = .next (s.emit (.readReply none)))) ∧
  (∀ (s : State) (a : RegAccess) (w : Word),
    (∀ r, a.space = .bar0 → s.pcieUp = true → a.fn = 0 → a.size = 4 → a.off % 4 = 0 → a.off < 0x4000000 → s.glb.dev = .ready →
      s.winPowered (a.off / 0x100000) (a.off % 0x100000) = true →
      (a.off = Reg.burCtl ∨ a.off = Reg.burStarve ∨ a.off = Reg.burYieldHold ∨ a.off = Reg.grvCtl ∨ a.off = Reg.cwyCtl ∨ a.off = Reg.cwyArb ∨
        a.off = Reg.entCtl ∨ a.off = Reg.fclCtl ∨ a.off = Reg.fclEscTimeout ∨ a.off = Reg.fclScrubCtl ∨ a.off = Reg.fclSweepCtl ∨
        a.off = Reg.spnCtl ∨ a.off = Reg.cusCtl ∨ a.off = Reg.clsCtl) → rwReg a.off = some r →
      ∃ t, exec (.registerWrite a w) s = .next t ∧
        (∀ f ∈ r.fields, bits (t.reg a.off) f.hi f.lo =
          (if f.min ≤ bits w.toNat f.hi f.lo ∧ bits w.toNat f.hi f.lo ≤ f.max then bits w.toNat f.hi f.lo else bits (s.reg a.off) f.hi f.lo)) ∧
        (∀ b, b ≠ a.off → t.reg b = s.reg b) ∧ { t with regs := s.regs } = s) ∧
    (∀ (v : Fin 256), a.space = .window v → a.fn = v → s.pcieUp = true → a.size = 4 → a.off % 4 = 0 → (v = 0 ∨ (s.vi v.val).state ≠ .detached) →
      ((s.vi v.val).tdi = .unlocked ∨ (s.vi v.val).tdi = .locked) →
      (∀ n : Fin 16, a.off = 0x100 + 32 * n.val →
        let r := s.ring v.val n.val
        exec (.registerWrite a w) s = .next (if r.enable then s
          else s.setRing v.val n.val { r with baseA := BitVec.ofNat 64 (r.baseA.toNat / 2 ^ 32 * 2 ^ 32 + w.toNat / 64 * 64) })) ∧
      (a.off = 0x3008 → exec (.registerWrite a w) s = .next (
        if bits w.toNat 10 0 ≤ (if v = 0 then 2047 else 31) then
          s.setVi v.val { s.vi v.val with intVector := BitVec.ofNat 11 (bits w.toNat 10 0) } else s))) ∧
    ((a.size ≠ 4 ∨ a.off % 4 ≠ 0) → exec (.registerWrite a w) s = .next s) ∧
    (∀ (v : Fin 256), a.space = .window v → a.fn = v → s.pcieUp = true → a.size = 4 → a.off % 4 = 0 → a.off < 0x10000 → v ≠ 0 →
      (s.vi v.val).state ≠ .detached → (s.vi v.val).tdi = .error → exec (.registerWrite a w) s = .next (s.bump Reg.vimTdiReject)))

/-- What the end of a job's engine does: nothing outside the job before its commit point (R65, R67, R68, R69, R98, R102). When the engine of a job
with no abort pending ends with a result: a failing result makes the job ask for its completion with that status and DETAIL; a success that waits for
nothing, creates no key and has no effect passes its commit point and asks for its completion with its output; a success that must wait (for the
shelf, a drain, a card ...) waits with its needs, uncommitted. In each case keys, VIs, rings, replies, registers, life cycle, sessions and outputs
stay as they were; only the job and the places it held in the engines change. A job with an abort pending is abandoned with that status. -/
def Obligations.EngineEndsJob : Prop :=
  ∀ (s : State) (j : Nat) (x : Job) (r : Result) (needs : List Need), s.job j = some x → x.origin = .host →
    let t := s.finishJob j r needs
    let frame := t.csn = s.csn ∧ t.vis = s.vis ∧ t.rings = s.rings ∧ t.replies = s.replies ∧ t.regs = s.regs ∧ t.lcs = s.lcs ∧ t.glb = s.glb ∧
      t.cwy.sessions = s.cwy.sessions ∧ t.fn = s.fn ∧ t.spn = s.spn ∧ t.fcl = s.fcl ∧ t.out = s.out
    (x.abortBy = none → statusOk r.status = false → (∃ y, t.job j = some y ∧ y.stage = .ready ∧ y.result = r ∧ y.committed = x.committed) ∧ frame) ∧
    (x.abortBy = none → statusOk r.status = true → r.newKeys = [] → r.effects = [] → needs = [] → x.usesOnce = false → x.usesOnce2 = false →
      (∃ y, t.job j = some y ∧ y.stage = .ready ∧ y.committed = true ∧ y.result = r) ∧ frame) ∧
    (∀ n rest, x.abortBy = none → statusOk r.status = true → r.newKeys = [] → needs = n :: rest → n ≠ .twin →
      (∃ y, t.job j = some y ∧ y.stage = .waiting ∧ y.needs = needs ∧ y.committed = x.committed ∧ y.result = r) ∧ frame) ∧
    (∀ st, x.abortBy = some st → t = s.abandon j st)

/-- What the effects of jobs do at the commit point (R105, R108, R110, R115, R138, R139, R153, R243, R475, R526). A policy set, a flow rule set or
deleted, a quota record put, an attribute word, a staged key set or removed, a record counter and top, a customer image loaded, an algorithm, pier,
lane or VI service switched, officers logged in and out: each changes its own table entry, and QUOTA_CHANGED rises in the VI whose quota changed; a
changed session base, session count or handle count of a locked or running TDI moves it to ERROR. -/
def Obligations.EffectsAtCommit : Prop :=
  ∀ s : State,
    (∀ v slot input, s.applyEffect (.setPolicy v slot input) = s.setVi v { s.vi v with policies := KMap.put slot input (s.vi v).policies }) ∧
    (∀ slot rule, rd rule 0 1 ≠ 0 → s.applyEffect (.setRule slot rule) = { s with cwy := { s.cwy with rules := KMap.put slot rule s.cwy.rules } }) ∧
    (∀ slot rule, rd rule 0 1 = 0 → s.applyEffect (.setRule slot rule) = { s with cwy := { s.cwy with rules := KMap.del slot s.cwy.rules } }) ∧
    (∀ v q, let t := s.applyEffect (.putQuota v q)
      (t.vi v).quota = q ∧ (t.vi v).intStatus.getLsbD 2 = true ∧
      (((s.vi v).tdi = .locked ∨ (s.vi v).tdi = .run) → ((s.vi v).quota.sessionBase ≠ q.sessionBase ∨ (s.vi v).quota.sessions ≠ q.sessions ∨
        (s.vi v).quota.handles ≠ q.handles) → (t.vi v).tdi = .error) ∧
      { t with vis := s.vis, out := s.out } = s) ∧
    (∀ h a, s.twinLost = false → s.applyEffect (.setAttr h a) = s.modKey h (fun k => { k with attr := a })) ∧
    (∀ h, s.applyEffect (.setStaged h none) = s.modKey h (fun k => { k with staged := none })) ∧
    (∀ h g, s.applyEffect (.setStaged h (some g)) = s.modKey h (fun k => { k with staged := some g, highKgen := g.kgen })) ∧
    (∀ h n, s.applyEffect (.recCounter h n) = s.modKey h (fun k => { k with recCounter := n })) ∧
    (∀ h n, s.applyEffect (.recTop h n) = s.modKey h (fun k => { k with recTop := n })) ∧
    (∀ h i, s.applyEffect (.useIndex h i) = s.modKey h (fun k => { k with stateful := k.stateful.map (fun t => t.consume i) })) ∧
    (∀ mask image, (s.applyEffect (.ucode mask image)).bur.current = some image) ∧
    (∀ v a, s.applyEffect (.functionSet 1 v a false) = { s with fn := { s.fn with algs := insertNat a s.fn.algs } }) ∧
    (∀ v p, s.applyEffect (.functionSet 2 v p false) = { s with fn := { s.fn with piers := insertNat p s.fn.piers } }) ∧
    (∀ v l, s.applyEffect (.functionSet 3 v l false) = { s with fn := { s.fn with lanes := insertNat l s.fn.lanes } }) ∧
    (∀ v u on, s.applyEffect (.functionSet 4 v u on) = s.setVi v { s.vi v with serviceOff := !on }) ∧
    (∀ o slot, s.applyEffect (.login o slot) = { s with csn := { s.csn with officers := KMap.put o (slot, s.time) s.csn.officers } }) ∧
    s.applyEffect (.logout 0xFF) = { s with csn := { s.csn with officers := [] } }

/-- The session and flow-rule opcodes of group 0x01 (R104, R105, R106, R107, R108, R109, R110, R386, R413, R417). For a job that its engine runs with
its input complete. SESSION_POLICY_SET of a policy without defect stores the input in the slot named by PARAM0[3:0] of its VI, waiting for the twin
when paired; a defect ends it with its status. SESSION_INSTALL of a valid record takes a free index of the VI, keeps it, and installs the SA,
answering the index. SESSION_REKEY of an ESP session takes the new key and SPI; of a DTLS session without a KEY_HANDLE it starts a KeyUpdate and waits
for the peer's ACK. SESSION_REMOVE removes the VI's session. SESSION_QUERY writes the 64 B report. FLOW_RULE_SET sets the slot named by PARAM0[11:0].
A session that the VI does not own is INPUT_INVALID, whether or not it exists. -/
def Obligations.SessionOpcodes : Prop :=
  ∀ (s : State) (j : Nat) (x : Job),
    let i := bits (dP0 x.desc) 23 0
    let none_ := s.session i = none ∨ ∃ y, s.session i = some y ∧ y.vi ≠ x.vi
    let own (y : Session) := s.session i = some y ∧ y.vi = x.vi
    (s.startable j 0x0101 = some x → s.policyDefect x.vi x.input = none →
      exec (.sessionPolicySet j) s = .next (s.finishJob j (okEff 0 [] [.setPolicy x.vi (bits (dP0 x.desc) 3 0) x.input]) s.tableNeeds)) ∧
    (∀ st, s.startable j 0x0101 = some x → s.policyDefect x.vi x.input = some st →
      exec (.sessionPolicySet j) s = .next (s.finishJob j (failWith st 0) [])) ∧
    (∀ k n, s.startable j 0x0102 = some x → x.key = some k → s.saDefect x.vi x.input k.alg = none → s.freeIndex x.vi = some n →
      exec (.sessionInstall j) s = .next (({ s with cwy := { s.cwy with reserved := KMap.put j n s.cwy.reserved } } : State).finishJob j
        (okEff 0 (leBytes 4 n) [.installSa n x.vi x.input k.value]) s.tableNeeds)) ∧
    (∀ k d, s.startable j 0x0102 = some x → x.key = some k → s.saDefect x.vi x.input k.alg = some d →
      exec (.sessionInstall j) s = .next (s.finishJob j (failWith St.badEncoding d) [])) ∧
    (∀ y k, s.startable j 0x0103 = some x → s.rekeyHeld j = false → own y → y.state = 2 → y.kind = 2 → x.key = some k → k.alg = y.alg →
      (y.outbound = true ∨ s.spiFree i y (dP1 x.desc) = true) →
      exec (.sessionRekey j) s = .next (s.finishJob j (okEff 0 [] [.rekeySa i (dP1 x.desc) k.value]) s.tableNeeds)) ∧
    (∀ y, s.startable j 0x0103 = some x → s.rekeyHeld j = false → own y → y.state = 2 → y.kind = 1 → dKey x.desc = noKey → dP1 x.desc = 0 →
      let u := (s.startKeyUpdate i (some j)).sweepRekey
      (u.session i).isSome = true → exec (.sessionRekey j) s = .next (u.finishJob j (okEff 0 [] [.rekeyDtls i]) [.peerAck])) ∧
    (s.startable j 0x0103 = some x → s.rekeyHeld j = false → none_ →
      exec (.sessionRekey j) s = .next (s.finishJob j (failWith St.inputInvalid 0) [])) ∧
    (∀ y, s.startable j 0x0104 = some x → own y → (y.kind ≠ 1 ∨ (dP0 x.desc).testBit 32 = false) →
      exec (.sessionRemove j) s = .next (s.finishJob j (okEff 0 [] [.removeSession i]) s.tableNeeds)) ∧
    (s.startable j 0x0104 = some x → none_ → exec (.sessionRemove j) s = .next (s.finishJob j (failWith St.inputInvalid 0) [])) ∧
    (∀ y, s.startable j 0x0105 = some x → own y → exec (.sessionQuery j) s = .next (s.finishJob j (okWith 0
      (leBytes 1 y.state ++ leBytes 1 y.kind ++ leBytes 2 y.alg ++ leBytes 2 y.rx.epoch ++ leBytes 1 y.port ++ leBytes 1 y.rx.ring ++
        leBytes 8 y.tx.seq ++ leBytes 8 y.rx.top ++ leBytes 8 y.counts.rxRecords ++ leBytes 8 y.counts.rxBytes ++ leBytes 8 y.counts.drops ++
        leBytes 8 (if y.state = 2 then s.second - y.estS else 0) ++ zeros 8)) [])) ∧
    (s.startable j 0x0105 = some x → none_ → exec (.sessionQuery j) s = .next (s.finishJob j (failWith St.inputInvalid 0) [])) ∧
    (s.startable j 0x0106 = some x → s.badRule x.input = false →
      exec (.flowRuleSet j) s = .next (s.finishJob j (okEff 0 [] [.setRule (bits (dP0 x.desc) 11 0) x.input]) s.tableNeeds)) ∧
    (s.startable j 0x0106 = some x → s.badRule x.input = true → exec (.flowRuleSet j) s = .next (s.finishJob j (failWith St.badEncoding 0) []))

/-- KEM key generation, encapsulation, decapsulation, matrix pins and key agreement (R111, R113, R114, R115, R206, R217, R218, R219, R259, R343,
R354). For a job that stands in its engine with its input complete. KEM_KEYGEN answers the public key of a fresh key pair and creates it (a burin's
result waits for COMMIT; a Graver's goes on to its needs); a burin that fails its pairwise test, not ONCE, reports a contained fault. KEM_ENCAPS of a
key without defect answers the ciphertext and creates the secret with the SUBALG algorithm; a defect of an inline key ends it. KEM_DECAPS of a post-
quantum algorithm always creates a secret. MATRIX_PIN pins in the named piers, or is BUSY with the mask of those without a free line. KEX_DERIVE
creates the shared secret or ends with the peer value's defect, counted in GRV_DUMMY where it ran on the dummy; a Graver whose invariants fail ends
with INVARIANT_FAIL. -/
def Obligations.KemOpcodes : Prop :=
  ∀ (s : State) (j : Nat) (x : Job) (core : Bool),
    let b := x.desc
    let a := dAlg b
    let k := genKey a 0 0 (dAttr b) (dOnce b) s.draws
    let pk := x.encapsKey
    let q := encapsTo a pk (drawBytes s.draws 32)
    let v := (x.key.map (·.value)).getD []
    let c := Alg.hybridCurve a
    let e := stdOut .derivedValue c [(drawBytes s.draws 128).drop 32] (Alg.genValueLen c 0 0)
    let parts := Alg.splitHybrid a pk
    let u := match x.pier with | some p => s.lookMatrix p x | none => s
    let no := (onesOf 8 (bits (dP0 b) 15 8)).filter (fun p => !(s.mayPin (dKey b) p))
    (s.startable j 0x0201 = some x → x.engine ≠ .graver → exec (.kemKeygen j true true) s = .next
      ((if Alg.isMce a then s.nextDraw.nextFree else s.nextDraw).computed j (okKeys (if Alg.isMce a then (s.freeVal + 1) % 2 ^ 32 else 0) k.pub [k] []))) ∧
    (s.startable j 0x0201 = some x → x.engine = .graver → Alg.isMce a = false →
      exec (.kemKeygen j true core) s = .next (s.nextDraw.finishJob j (okKeys 0 k.pub [k] []) (s.keyNeeds (dAttr b)))) ∧
    (s.startable j 0x0201 = some x → x.engine = .burin → dOnce b = false → exec (.kemKeygen j false core) s = .next (s.burinTestFails j)) ∧
    (s.startable j 0x0202 = some x → Alg.isHybrid a = false → (dKey b = noKey → encapsDefect a pk = none) →
      exec (.kemEncaps j true) s = .next (s.nextDraw.computed j (okKeys 0 q.1 [secretKey (dAttr b) (dOnce b) q.2] []))) ∧
    (s.startable j 0x0202 = some x → Alg.isHybrid a = true → (dKey b = noKey → encapsDefect a pk = none) → secretDefect c e parts.1 = none →
      let r := encapsTo (Alg.hybridKem a) parts.2 (drawBytes s.draws 32)
      exec (.kemEncaps j true) s = .next (s.nextDraw.computed j (okKeys 0 (joinHybrid a (stdOut .publicKey c [e] (Alg.classicalLen a)) r.1)
        [secretKey (dAttr b) (dOnce b) (joinHybrid a (kexSecret c e parts.1) r.2)] []))) ∧
    (∀ st, s.startable j 0x0202 = some x → dKey b = noKey → encapsDefect a pk = some st → statusOk st = false →
      exec (.kemEncaps j true) s = .next (s.finishJob j (failWith st 0) [])) ∧
    (s.startable j 0x0203 = some x → Alg.isHybrid a = false →
      exec (.kemDecaps j true) s = .next (u.computed j (okKeys 0 [] [secretKey (dAttr b) (dOnce b) (decapsWith a v x.input)] []))) ∧
    (s.startable j 0x0203 = some x → Alg.isHybrid a = true → kexDefect c (hybridValue a v).2 (Alg.splitHybrid a x.input).1 = none →
      exec (.kemDecaps j true) s = .next (u.computed j (okKeys 0 [] [secretKey (dAttr b) (dOnce b) (joinHybrid a
        (kexSecret c (hybridValue a v).2 (Alg.splitHybrid a x.input).1)
        (decapsWith (Alg.hybridKem a) (hybridValue a v).1 (Alg.splitHybrid a x.input).2))] []))) ∧
    (s.startable j 0x0204 = some x → ((dP0 b).testBit 0 = false ∨ no = []) →
      exec (.matrixPin j) s = .next (s.finishJob j (okEff 0 [] [.pin (dKey b) x.boundKgen (bits (dP0 b) 15 8) ((dP0 b).testBit 0)]) [])) ∧
    (s.startable j 0x0204 = some x → (dP0 b).testBit 0 = true → no ≠ [] →
      exec (.matrixPin j) s = .next (s.finishJob j (failWith St.busy (maskOf no)) [])) ∧
    (s.startable j 0x0205 = some x → kexDefect a v x.input = none →
      exec (.kexDerive j true) s = .next (s.finishJob j (okKeys 0 [] [secretKey (dAttr b) (dOnce b) (kexSecret a v x.input)] []) (s.keyNeeds (dAttr b)))) ∧
    (∀ st, s.startable j 0x0205 = some x → kexDefect a v x.input = some st →
      exec (.kexDerive j true) s = .next ((if (peerDefect a x.input).isSome then s.bump (Reg.grv 0x50) else s).finishJob j (failWith st 0) [])) ∧
    (s.startable j 0x0205 = some x → exec (.kexDerive j false) s = .next (s.invariantFails j))

/-- Signature key generation, signing, verification and the lease query (R116, R117, R118, R119, R120, R121, R191, R193, R220, R225, R226, R340). For
a job that stands in its engine with its input complete. SIG_KEYGEN on the Graver creates the fresh key and answers its public key. Signing with a
Graver key answers the signature over context and message, with no further draw when bit 16 asks for a deterministic one. Signing in a burin goes to
the park buffer with its candidate, whose counterproof another pier verifies. SIG_VERIFY answers DETAIL 1 for a signature that verifies and 0 for one
that does not, with OK in both cases; a defective inline public key ends it. HBS_LEASE_QUERY answers 48 B of the key's lease. INVARIANT_FAIL ends a
failed core's job. -/
def Obligations.SignatureOpcodes : Prop :=
  ∀ (s : State) (j : Nat) (x : Job) (k : KeyRec),
    let b := x.desc
    let g := genSig s b
    let det := (dP0 b).testBit 16
    let p := verifyParts b x.input (if dKey b = noKey then none else x.key)
    (s.startable j 0x0301 = some x → x.engine = .graver →
      exec (.sigKeygen j true) s = .next (s.nextDraw.finishJob j (okKeys 0 g.pub [g] []) (s.keyNeeds (dAttr b)))) ∧
    (s.startable j 0x0301 = some x → x.engine = .burin →
      exec (.sigKeygen j true) s = .next (s.nextDraw.burinComputed j (okKeys 0 g.pub [g] []))) ∧
    (∀ pre c op, (pre = false ∧ c = .sigSign j true ∧ op = 0x0302) ∨ (pre = true ∧ c = .sigSignPrehash j true ∧ op = 0x0304) →
      s.startable j op = some x → x.key = some k →
      let u := if det then s else s.nextDraw
      let rnd := if det then [] else drawBytes s.draws 64
      (x.engine = .graver → s.leaseOf (dKey b) = none → exec c s = .next (u.finishJob j (okWith 0 (signature b pre k x.input none rnd)) [])) ∧
      (x.engine = .burin → s.leaseOf (dKey b) = none → exec c s = .next (u.burinComputed j (okWith 0 (signature b pre k x.input none rnd)))) ∧
      (∀ t, x.engine = .burin → s.leaseOf (dKey b) = some t → exec c s = .next (u.burinComputed j
        (okEff (t.index % 2 ^ 32) (signature b pre k x.input (some t.index) rnd) [.useIndex (dKey b) t.index])))) ∧
    (∀ c op, (c = .sigSign j false ∧ op = 0x0302) ∨ (c = .sigSignPrehash j false ∧ op = 0x0304) → s.startable j op = some x →
      (x.engine = .graver → exec c s = .next (s.invariantFails j)) ∧
      (x.engine = .burin → Alg.isMlDsa (dAlg b) = true → exec c s = .next (s.finishJob j (failWith St.invariantFail 0) []))) ∧
    (s.startable j 0x0303 = some x → x.engine = .graver → (dKey b = noKey → publicDefect (dAlg b) (dModBits b) p.1 = none) →
      (dKey b ≠ noKey → x.key.isSome = true) →
      exec (.sigVerify j true) s = .next (s.finishJob j (okWith (if verdictOf b p.1 p.2.1 p.2.2 then 1 else 0) []) [])) ∧
    (∀ st, s.startable j 0x0303 = some x → dKey b = noKey → publicDefect (dAlg b) (dModBits b) p.1 = some st → statusOk st = false →
      exec (.sigVerify j true) s = .next (s.finishJob j (failWith st 0) [])) ∧
    (∀ t, s.startable j 0x0305 = some x → s.leaseOf (dKey b) = some t →
      exec (.hbsLeaseQuery j) s = .next (s.finishJob j (okWith 0 (leaseBytes s.paired t)) []))

/-- HASH, MAC and KDF (R122, R123, R124, R445, R447, R456, R487). For a job that stands in a command unit with its input complete. HASH answers the
digest of its input, or with the stream forms 1, 2 and 3 creates a context, extends it and finishes it with the digest of the whole stream, deleting
the context. MAC answers the tag of LENGTH bytes, or DETAIL 1 or 0 for a supplied one. KDF without a bad or OWNER specification creates one key per
specification from consecutive slices of the output; a bad one ends it with BAD_ENCODING and an owner one with POLICY. With every command unit retired
HASH and MAC wait and change nothing. -/
def Obligations.HashMacKdf : Prop :=
  ∀ (s : State) (j : Nat) (x : Job),
    let b := x.desc
    let a := dAlg b
    let n := if Alg.isShake a then dP1 b else Alg.hashLen a
    let old := (((KMap.get (dKey b) s.csn.keys).map (·.value)).getD [])
    let key := (x.key.map (·.value)).getD []
    let cust := x.input.take (dP2 b)
    let rest := x.input.drop (dP2 b)
    let len := dP1 b
    let tag (msg : Bytes) := if Alg.isKmac a then stdOut .kmac a [key, [], cust, msg] len else (stdOut .hmac a [key, [], msg] (Alg.hashLen a)).take len
    let specs := (List.range (dP2 b)).map (kdfSpec x.input)
    let d := x.input.drop (8 * dP2 b)
    let owned := specs.any (fun p => (Alg.aOwner p.2 && (decide (x.vi ≠ 0) || !(x.quorum.testBit 13))) || Alg.aAnchor p.2)
    let salt := if dP1 b = noKey then zeros (Alg.hashLen a) else x.key2Value
    let ks := (slices (kdfBytes b key salt d (specs.foldl (fun m p => m + p.1) 0)) specs).map (fun p => kdfKey x p.1 p.2)
    (s.unitLeft = true → s.startable j 0x0401 = some x →
      (bits (dP0 b) 17 16 = 0 → exec (.hash j) s = .next (s.finishJob j (okWith 0 (digestOf a n x.input)) [])) ∧
      (bits (dP0 b) 17 16 = 1 → exec (.hash j) s = .next (s.finishJob j (okKeys 0 [] [streamKey a x.input] []) [])) ∧
      (∀ k, bits (dP0 b) 17 16 = 2 → KMap.get (dKey b) s.csn.keys = some k →
        exec (.hash j) s = .next (s.finishJob j (okEff 0 [] [.putKey (dKey b) { k with value := old ++ x.input }]) [])) ∧
      (bits (dP0 b) 17 16 = 3 → exec (.hash j) s = .next (s.finishJob j (okEff 0 (digestOf a n (old ++ x.input)) [.delKey (dKey b)]) []))) ∧
    (s.unitLeft = true → s.startable j 0x0402 = some x →
      ((dP0 b).testBit 16 = false → exec (.mac j) s = .next (s.finishJob j (okWith 0 (tag rest)) [])) ∧
      ((dP0 b).testBit 16 = true → exec (.mac j) s = .next (s.finishJob j
        (okWith (if tag (rest.take (rest.length - len)) = rest.drop (rest.length - len) then 1 else 0) []) []))) ∧
    (s.unitLeft = false → exec (.hash j) s = .next s ∧ exec (.mac j) s = .next s) ∧
    (s.startable j 0x0403 = some x →
      (specs.any (specBad b x.key d) = false → owned = false → exec (.kdf j) s = .next (s.finishJob j (okKeys 0 [] ks []) (s.newNeeds ks))) ∧
      (specs.any (specBad b x.key d) = true → exec (.kdf j) s = .next (s.finishJob j (failWith St.badEncoding 0) [])) ∧
      (specs.any (specBad b x.key d) = false → owned = true → exec (.kdf j) s = .next (s.finishJob j (failWith St.policy 0) [])))

/-- A failed tag never lets an AEAD_OPEN write plaintext (R125, R127). AEAD_OPEN of a job that stands in its lane answers OK and plaintext only when
the tag over nonce, AAD and ciphertext verifies; otherwise its result is INPUT_INVALID with DETAIL 1 and no output at all. -/
def Obligations.AeadOpenChecksTag : Prop :=
  ∀ (s : State) (j : Nat) (x : Job), s.startable j 0x0502 = some x →
    let a := dAlg x.desc
    let key := aeadKey a ((x.key.map (·.value)).getD [])
    let good := tagOk a key (x.input.take 12) 0 (slice x.input 12 (dP1 x.desc)) (x.input.drop (12 + dP1 x.desc))
    ∃ t y, exec (.aeadOpen j) s = .next t ∧ t.job j = some y ∧ y.stage = .computed ∧ t.out = s.out ∧ t.replies = s.replies ∧
      (good = true → y.result = okWith 0 (opened a key (x.input.take 12) 0 (slice x.input 12 (dP1 x.desc)) (x.input.drop (12 + dP1 x.desc)))) ∧
      (good = false → y.result = failWith St.inputInvalid 1 ∧ y.result.payload = [])

/-- AEAD_SEAL, RECORD_SEAL, RECORD_OPEN and BATCH in their lane (R125, R126, R128, R129, R130, R446). For a job that stands in its lane with its input
complete. AEAD_SEAL answers ciphertext and tag, behind the nonce when the device makes it. RECORD_SEAL of a TLS record answers the protected record
under the key's counter and asks for its increment; of a DTLS record likewise. RECORD_OPEN of a TLS record with a wrong header is BAD_ENCODING, with a
wrong tag INPUT_INVALID DETAIL 1. BATCH runs its items and answers 16 B for each, once its items' counters are leased. The result stands in the job;
keys, replies and outputs of the device do not change. -/
def Obligations.LaneJobs : Prop :=
  ∀ (s : State) (j : Nat) (x : Job) (inputs : List Bytes),
    let b := x.desc
    let a := dAlg b
    let key := aeadKey a ((x.key.map (·.value)).getD [])
    let own := (dP0 b).testBit 16
    let nonce := if own then (x.key.map (·.nonceField)).getD [] ++ beBytes 8 x.nonce else x.input.take 12
    let rest := if own then x.input else x.input.drop 12
    let c := sealed a key nonce 0 (rest.take (dP1 b)) (rest.drop (dP1 b))
    let k := s.traffic x
    let inner (m : Bytes) : Bytes := m ++ [BitVec.ofNat 8 (bits (dP0 b) 15 8)] ++ zeros (bits (dP0 b) 31 16)
    let hdr : Bytes := [23, 3, 3] ++ beBytes 2 ((inner x.input).length + 16)
    let cid := bits (dP1 b) 4 0
    let body := x.input.drop 5
    (s.startable j 0x0501 = some x → exec (.aeadSeal j) s = .next (s.computed j (okWith 0 (if own then nonce ++ c else c)))) ∧
    (s.startable j 0x0503 = some x → bits (dP0 b) 7 0 = 1 → exec (.recordSeal j) s = .next (s.computed j
      (okEff 0 (hdr ++ sealed k.alg k.value k.iv k.recCounter hdr (inner x.input)) [.recCounter (dKey b) (k.recCounter + 1)]))) ∧
    (s.startable j 0x0503 = some x → bits (dP0 b) 7 0 ≠ 1 → exec (.recordSeal j) s = .next (s.computed j
      (okEff 0 (dtlsRecord k.alg k.slot (bits (dP1 b) 31 16) k.recCounter (x.input.take cid) (inner (x.input.drop cid)))
        [.recCounter (dKey b) (k.recCounter + 1)]))) ∧
    (s.startable j 0x0504 = some x → bits (dP0 b) 7 0 = 1 →
      ((x.input.take 3 ≠ [23, 3, 3] ∨ body.length < 17 ∨ rdBe x.input 3 2 ≠ body.length) →
        exec (.recordOpen j) s = .next (s.computed j (failWith St.badEncoding 0))) ∧
      (x.input.take 3 = [23, 3, 3] → 17 ≤ body.length → rdBe x.input 3 2 = body.length →
        tagOk k.alg k.value k.iv k.recCounter (x.input.take 5) body = false →
        exec (.recordOpen j) s = .next (s.computed j (failWith St.inputInvalid 1))) ∧
      (x.input.take 3 = [23, 3, 3] → 17 ≤ body.length → rdBe x.input 3 2 = body.length →
        tagOk k.alg k.value k.iv k.recCounter (x.input.take 5) body = true →
        exec (.recordOpen j) s = .next (s.computed j (openEnd (opened k.alg k.value k.iv k.recCounter (x.input.take 5) body) k.recCounter
          (.recCounter (dKey b) (k.recCounter + 1)))))) ∧
    (s.startable j 0x0504 = some x → bits (dP0 b) 7 0 ≠ 1 → rd x.input 0 1 / 32 ≠ 1 →
      exec (.recordOpen j) s = .next (s.computed j (failWith St.badEncoding 0))) ∧
    (s.startable j 0x0504 = some x → bits (dP0 b) 7 0 ≠ 1 → ∃ r, exec (.recordOpen j) s = .next (s.computed j r)) ∧
    (s.batchCovered j = true → s.unitLeft = true → s.startable j 0x0505 = some x →
      exec (.batch j inputs) s = .next ((doBatch inputs s x).1.computed j (doBatch inputs s x).2)) ∧
    (s.batchCovered j = false → exec (.batch j inputs) s = .next s)

/-- Claims, releases and reclaims of a DGE context (R491, R492, R493, R501). In a window that the DGE answers: DGE_CLAIM of a free context below the
VI's quota gives it the VI as owner in IDLE with RESULT 1, at the quota RESULT 3, and of another VI's context RESULT 2 without touching it. RELEASE by
the owner zeroises the context, which is FREE once its zeroisation ends; ABANDON zeroises it and keeps the claim in IDLE. DGE_RECLAIM zeroises and
releases every context whose bit is set. A command of a VI that is not the owner changes nothing. -/
def Obligations.DgeClaims : Prop :=
  ∀ (s : State) (v : Fin 256) (c : Fin 8) (w : Word),
    let x := s.dgeNow c.val
    let set (result owner : Nat) (t : State) : State :=
      t.setVi v.val { s.vi v.val with claimResult := BitVec.ofNat 32 (result * 2 ^ 28 + owner * 2 ^ 16 + c.val) }
    (s.dgeLive v.val = true →
      ((s.dgeCtx c.val).owner = none → s.dgeHeld v.val < (s.vi v.val).quota.dgeCtx → exec (.dgeClaim v c) s = .next
        (set 1 0 (s.setDgeCtx c.val { DgeCtx.reset with owner := some v.val, stage := .idle }))) ∧
      ((s.dgeCtx c.val).owner = none → (s.vi v.val).quota.dgeCtx ≤ s.dgeHeld v.val →
        exec (.dgeClaim v c) s = .next ((set 3 0 s).bump Reg.dgeClaimRefused)) ∧
      (∀ o, (s.dgeCtx c.val).owner = some o → o ≠ v.val →
        exec (.dgeClaim v c) s = .next ((set 2 (if v = 0 then o else 0) s).bump Reg.dgeClaimRefused)) ∧
      ((s.dgeCtx c.val).owner = some v.val → exec (.dgeClaim v c) s = .next (set 1 0 s)) ∧
      (x.owner = some v.val → x.releasing = false →
        exec (.dgeRelease v c) s = .next (s.setDgeCtx c.val { DgeCtx.reset with owner := some v.val, stage := x.stage, releasing := true }) ∧
        exec (.dgeAbandon v c) s = .next (s.setDgeCtx c.val { DgeCtx.reset with owner := some v.val, stage := .idle, err := 0 })) ∧
      (x.owner ≠ some v.val ∨ x.releasing = true → exec (.dgeRelease v c) s = .next s ∧ exec (.dgeAbandon v c) s = .next s)) ∧
    (∀ o, (s.dgeCtx c.val).owner = some o → (s.dgeCtx c.val).releasing = true → ∃ t, exec (.dgeZeroiseComplete c) s = .next t ∧
      t.dgeCtx c.val = DgeCtx.reset ∧ { t with dge := s.dge, vis := s.vis } = s) ∧
    (s.dgeLive 0 = true → ∃ t, exec (.dgeReclaim w) s = .next t ∧ { t with dge := s.dge, regs := s.regs } = s ∧
      ∀ k : Fin 8, (w.getLsbD k.val = true → (t.dgeCtx k.val).owner = none) ∧ (w.getLsbD k.val = false → t.dgeCtx k.val = s.dgeCtx k.val))

/-- INIT, data, FINAL, SQUEEZE, SAVE and RESTORE of a DGE context, and how they complete (R494, R495, R496, R497, R498, R499, R500). For the owner of
a context that is not being released. INIT in IDLE or DONE with an accepted set-up without key enters ABSORB with WORDS 0 and no output; a refused
set-up sets ERR 7. A data word in ABSORB enters the buffer and WORDS counts it; with 64 words waiting it is lost with ERR 4; poisoned data clears the
context with ERR 8. FINAL in ABSORB closes the message. SQUEEZE, SAVE and RESTORE start from their states. A command in another state sets ERR 0x0B
alone. FINAL completes in DONE with the output when WORDS is the required count, else the context is cleared with ERR 3. No other context changes. -/
def Obligations.DgeCommands : Prop :=
  ∀ (s : State) (v : Fin 256) (c : Fin 8) (w : Word),
    let x := s.dgeNow c.val
    let refused := s.setDgeCtx c.val { x with err := 0xB }
    s.dgeLive v.val = true → x.owner = some v.val → x.releasing = false →
      ((x.stage = .idle ∨ (x.stage = .done ∧ x.op = .none)) → x.setupOk = true → x.key = noKey →
        ∃ t, exec (.dgeInit v c) s = .next t ∧ (t.dgeCtx c.val).stage = .absorb ∧ (t.dgeCtx c.val).words = 0 ∧ (t.dgeCtx c.val).err = 0 ∧
          (t.dgeCtx c.val).stream = [] ∧ (t.dgeCtx c.val).runAlg = x.alg ∧ (t.dgeCtx c.val).owner = some v.val ∧ { t with dge := s.dge } = s ∧
          ∀ k : Fin 8, k ≠ c → t.dgeCtx k.val = s.dgeCtx k.val) ∧
      ((x.stage = .idle ∨ (x.stage = .done ∧ x.op = .none)) → x.setupOk = false →
        exec (.dgeInit v c) s = .next (s.setDgeCtx c.val { x with stage := .idle, approved := false, err := 7 })) ∧
      (x.stage ≠ .idle → x.stage ≠ .done → exec (.dgeInit v c) s = .next refused) ∧
      (x.stage = .absorb → x.closed = false → x.buf.length < 64 → ∃ t, exec (.dgeDataWrite v c w false) s = .next t ∧
        (t.dgeCtx c.val).words = (x.words + 1) % 2 ^ 64 ∧ (t.dgeCtx c.val).err = x.err ∧ (t.dgeCtx c.val).stage = .absorb ∧ { t with dge := s.dge } = s ∧
        ((t.dgeCtx c.val).buf = x.buf ++ [w] ∨ (t.dgeCtx c.val).data ++ wordBytes (t.dgeCtx c.val).buf = x.data ++ wordBytes (x.buf ++ [w]))) ∧
      (x.stage = .absorb → x.closed = false → 64 ≤ x.buf.length →
        exec (.dgeDataWrite v c w false) s = .next (s.setDgeCtx c.val { x with err := 4, lost := true })) ∧
      (x.stage = .absorb → x.closed = false → exec (.dgeDataWrite v c w true) s = .next (s.clearDge c.val 8)) ∧
      (∀ p, x.stage ≠ .absorb → exec (.dgeDataWrite v c w p) s = .next refused) ∧
      (x.stage = .absorb → x.closed = false → exec (.dgeFinal v c) s = .next (s.setDgeCtx c.val (DgeCtx.begin_ { x with closed := true } s.time))) ∧
      (x.stage ≠ .absorb → exec (.dgeFinal v c) s = .next refused) ∧
      (x.stage = .done → x.op = .none → xof x.runAlg = true → x.pos + 64 < x.stream.length →
        exec (.dgeSqueeze v c) s = .next (s.setDgeCtx c.val { x with pos := x.pos + 64, op := .squeeze })) ∧
      (x.stage = .done → x.stream.length ≤ x.pos + 64 → exec (.dgeSqueeze v c) s = .next refused) ∧
      (x.stage = .absorb → x.closed = false → x.buf = [] →
        exec (.dgeSave v c) s = .next (s.setDgeCtx c.val { x with stage := .saving, op := .save })) ∧
      (x.stage = .idle → exec (.dgeRestore v c) s = .next
        ((s.setDgeCtx c.val { x with stage := .restoring, op := .restore }).emit (.hostRead v.val (s.via v.val) x.saveAddr 512))) ∧
      (x.stage ≠ .idle → exec (.dgeRestore v c) s = .next refused) ∧
      (∀ o, (s.dgeCtx c.val).releasing = false → s.dgeLive 0 = true → x.op = .final → x.lost = false → x.words = (x.total + 3) / 4 + x.custWords →
        x.runSoft = false → exec (.dgeOperationComplete c o) s = .next (s.setDgeCtx c.val
          { x with stage := .done, op := .none, closed := false, approved := s.lcs.lstate = .edition && (decide (x.runKey = noKey) || x.keyApproved),
                   stream := x.finish, pos := 0, buf := [], data := [] })) ∧
      (∀ o, (s.dgeCtx c.val).releasing = false → s.dgeLive 0 = true → x.op = .final → x.words ≠ (x.total + 3) / 4 + x.custWords →
        exec (.dgeOperationComplete c o) s = .next ((s.clearDge c.val 3).bump Reg.dgeFinalFail))

/-- KEY_ATTR with WRITE narrows a key's attributes and nothing else (R139). KEY_ATTR of a present key, run with its input complete. With WRITE, a new
attribute word that only removes usage bits, moves the export policy towards NEVER or clears the approved flag is asked for, and its commit waits for
the shelf record of a persistent key and the twin's acknowledgement of a mirrored one; any other word ends the job with POLICY. Until the commit
nothing but the job changes. Without WRITE the 32 B record is answered. -/
def Obligations.KeyAttrNarrows : Prop :=
  ∀ (s : State) (j : Nat) (x : Job) (k : KeyRec),
    let h := dKey x.desc
    let a := dAttr x.desc
    let only := (∀ i, i < 16 → a.getLsbD i = true → k.attr.getLsbD i = true) ∧ Alg.aExport a ≤ Alg.aExport k.attr ∧
      (a.getLsbD 31 = true → k.attr.getLsbD 31 = true) ∧ (∀ i, 16 ≤ i → i < 28 ∨ i = 30 → a.getLsbD i = k.attr.getLsbD i)
    s.startable j 0x0607 = some x → KMap.get h s.csn.keys = some k →
      ((dP0 x.desc).testBit 0 = true → only →
        exec (.keyAttr j) s = .next (s.finishJob j (okEff 0 (attrRecord h { k with attr := a }) [.setAttr h a])
          ((if k.attr.getLsbD 30 then [Need.shelf] else []) ++ (if decide (1 ≤ Alg.aExport k.attr) && s.twinWaits then [Need.twin] else [])))) ∧
      ((dP0 x.desc).testBit 0 = true → ¬only → exec (.keyAttr j) s = .next (s.finishJob j (failWith St.policy 0) [])) ∧
      ((dP0 x.desc).testBit 0 = false → exec (.keyAttr j) s = .next (s.finishJob j (okWith 0 (attrRecord h k)) []))

/-- Generating, importing, exporting, replacing, destroying and deriving keys (R132, R134, R135, R136, R137, R138, R443, R445, R455, R459, R461,
R462). For a job that its engine runs with its input complete. KEY_GENERATE creates a key with drawn bytes; KEY_DERIVE one from KMAC256 of its source.
KEY_IMPORT of a wrapped record that unwraps under the named key creates it, otherwise WRAP_INVALID. KEY_EXPORT_WRAPPED answers the public key, or the
AES-KW record under the wrapping key when the export policy allows, else POLICY. KEY_REPLACE_STAGE stages a fresh value one KGEN higher; COMMIT swaps
it when PARAM0 names its KGEN, else BAD_PARAM. KEY_DESTROY marks the handle at once and deletes it at its commit; with STAGED_ONLY the staged key
alone goes. -/
def Obligations.KeyOpcodes : Prop :=
  ∀ (s : State) (j : Nat) (x : Job),
    let b := x.desc
    let h := dKey b
    let a := dAlg b
    let f := bits (dP0 b) 23 16
    let salt := if Alg.isAead a && Alg.hasUse (dAttr b) Alg.uSession then 4 else 0
    let g := newKey a 0 (dAttr b) oGenerated (drawBytes s.draws (if Alg.isSecret a then dP2 b else Alg.genValueLen a 0 0 + salt)) [] true
    let n := rd x.input 0 1
    let d := newKey ((derivedAlg (dAttr b) (dP2 b)).getD 0) 0 (inheritOwner x.key (dAttr b)) oDerived
      (kmac256 x.keyValue (x.input.drop (1 + n)) (slice x.input 1 n) (dP2 b)) [] true
    (s.startable j 0x0601 = some x → exec (.keyGenerate j) s = .next (s.nextDraw.finishJob j (okKeys 0 [] [g] []) (s.newNeeds [g]))) ∧
    (s.startable j 0x0608 = some x → exec (.keyDerive j) s = .next (s.finishJob j (okKeys 0 [] [d] []) (s.newNeeds [d]))) ∧
    (s.startable j 0x0602 = some x → f ≠ 3 → unwrap f 1 x.keyValue x.input = none →
      exec (.keyImport j true) s = .next (s.finishJob j (failWith St.wrapInvalid 0) [])) ∧
    (∀ u, s.startable j 0x0602 = some x → f ≠ 3 → unwrap f 1 x.keyValue x.input = some u → (u.alg ≠ a ∨ wider (dAttr b) u.attr = true) →
      exec (.keyImport j true) s = .next (s.finishJob j (failWith St.wrapInvalid 0) [])) ∧
    (∀ u, s.startable j 0x0602 = some x → f ≠ 3 → unwrap f 1 x.keyValue x.input = some u → u.alg = a → wider (dAttr b) u.attr = false →
      let k := keyOf u.alg (inheritOwner x.key (dAttr b)) oWrapped u.value
      exec (.keyImport j true) s = .next (s.finishJob j (okKeys 0 [] [k] []) (s.newNeeds [k]))) ∧
    (s.startable j 0x0602 = some x → f = 3 → badRsaLen x = false → isMigImport b = false → isAnchorImport b = false →
      let m := if Alg.isRsa a then rsaPubBits x.input.length else 0
      let k := newKey a m (dAttr b) oPublic [] x.input false
      (publicDefect a m x.input = none → exec (.keyImport j true) s = .next (s.finishJob j (okKeys 0 [] [k] []) (s.newNeeds [k]))) ∧
      (∀ st, publicDefect a m x.input = some st → exec (.keyImport j true) s = .next (s.finishJob j (failWith st 0) []))) ∧
    (∀ k, s.startable j 0x0603 = some x → x.key = some k → exportOk k f (dP1 b) x.key2 = true →
      (f = 3 → exec (.keyExportWrapped j true) s = .next (s.finishJob j (okWith 0 k.pub) [])) ∧
      (f = 1 → exec (.keyExportWrapped j true) s = .next ((s.bump Reg.csnExport).finishJob j
        (okWith 0 (wrapKw x.key2Value 1 k.alg k.attr k.kgen s.unitId k.value)) []))) ∧
    (∀ k, s.startable j 0x0603 = some x → x.key = some k → exportOk k f (dP1 b) x.key2 = false →
      exec (.keyExportWrapped j true) s = .next (s.finishJob j (failWith St.policy 0) [])) ∧
    (s.startable j 0x0603 = some x → exec (.keyExportWrapped j false) s = .next (s.splitDecision [] 0)) ∧
    (∀ k, s.startable j 0x0604 = some x → f = 0 → KMap.get h s.csn.keys = some k →
      let v := if Alg.isAsym k.alg then genValue k.alg k.modBits ((k.stateful.map (·.set)).getD 0) s.draws else drawBytes s.draws k.value.length
      let y := stagedKey k k.attr v
      exec (.keyReplaceStage j true) s = .next (s.nextDraw.finishJob j
        (okEff 0 (leBytes 4 h ++ leBytes 4 (k.highKgen + 1) ++ y.pub) [.setStaged h (some y)]) [])) ∧
    (∀ k y, s.startable j 0x0605 = some x → KMap.get h s.csn.keys = some k → k.staged = some y →
      (y.kgen = bits (dP0 b) 31 0 → exec (.keyReplaceCommit j) s = .next (s.finishJob j (okEff y.kgen [] [.swapKey h]) (s.keyNeeds y.attr))) ∧
      (y.kgen ≠ bits (dP0 b) 31 0 → exec (.keyReplaceCommit j) s = .next (s.finishJob j (failWith St.badParam 0x28) []))) ∧
    (∀ k, s.startable j 0x0606 = some x → KMap.get h s.csn.keys = some k →
      ((dP0 b).testBit 0 = true → exec (.keyDestroy j) s = .next (s.finishJob j (okEff 0 [] [.setStaged h none]) [])) ∧
      ((dP0 b).testBit 0 = false → exec (.keyDestroy j) s = .next
        ((s.modKey h (fun y => { y with destroying := true })).finishJob j (okEff 0 [] [.delKey h]) (s.destroyNeeds j x k))))

/-- The Caisson's own events: shelf records, block erases, zeroisation, residency and counter leases (R138, R446, R451, R452, R466, R468, R469, R582).
SHELF_RECORD_WRITE of a waiting job's next record that programs lets the job go on, and one that fails ends it with UNCORRECTABLE_MEM and reports the
fault. SHELF_BLOCK_ERASE takes the records of a block that holds only dead ones, and else changes nothing. KEY_ZEROISE lets the KEY_DESTROY that waits
for it go on. OVERFLOW_KEY_FETCH makes a key resident; DERIVATION_JOB derives a fetched key's data again. KEY_COUNTER_LEASE_WRITE of a persistent key
that is not mirrored and whose lease runs low writes its shelf record and raises its lease by 65,536. STORE_REWRITE writes a damaged microstore again
and acknowledges its report. -/
def Obligations.CaissonEvents : Prop :=
  ∀ (s : State) (j : Nat) (h : Word),
    (∀ x, s.job j = some x → x.stage = .waiting → x.needs.head? = some .shelf →
      exec (.shelfRecordWrite j false) s = .next ((s.report uCsn 0 0x0D).failJob j St.uncorrectable 0) ∧
      exec (.shelfRecordWrite j true) s = .next (((match (s.shelfItems x)[(s.shelfItems x).length -
        (x.needs.filter (fun n => decide (n = Need.shelf))).length]? with | some i => s.writeShelf i | none => s).popNeed j .shelf).compactIfLow)) ∧
    (∀ b programmed, (s.job j).any (fun x => decide (x.stage = .waiting ∧ x.needs.head? = some Need.shelf)) = false →
      exec (.shelfRecordWrite j programmed) s = .next s ∧ (∃ t, exec (.shelfBlockErase b) s = .next t ∧
        (∀ r ∈ t.csn.shelf, r ∈ s.csn.shelf) ∧ (∀ r ∈ s.csn.shelf, r.block ≠ b → r ∈ t.csn.shelf) ∧ { t with csn := s.csn } = s ∧
        ((∃ r ∈ s.csn.shelf, r.block = b ∧ r.pub ≠ 9 ∧ (r.rtype = 4 ∨ r.epoch = s.shelfEpoch)) → t = s))) ∧
    (∀ p, s.jobs.find? (fun p => decide (dOp p.2.desc = 0x0606) && decide (dKey p.2.desc = h.toNat) && decide (p.2.needs.head? = some .zeroise)) = some p →
      exec (.keyZeroise h) s = .next (s.popNeed p.1 .zeroise)) ∧
    (∀ k, KMap.get h.toNat s.csn.keys = some k →
      (s.serving = true → k.resident = false → ∃ t, exec (.overflowKeyFetch h true) s = .next t ∧
        t = (((s.setKey h.toNat { k with resident := true, lastUse := s.time }).bump Reg.csnFetch).evict
          (s.setKey h.toNat { k with resident := true, lastUse := s.time }).csn.keys.length).ackSource (src uCsn 0) [0x02]) ∧
      (s.clocked = true → k.resident = true → k.derived = false →
        exec (.derivationJob h) s = .next ((s.modKey h.toNat (fun y => { y with derived := true })).bump Reg.csnDeriveJobs)) ∧
      (s.clocked = true → k.derived = true → exec (.derivationJob h) s = .next s) ∧
      (s.serving = true → s.mirrors k.attr = false → Alg.aPersistent k.attr = true → k.counterLease ≤ k.leasedCount + 16384 →
        s.spn.waits.any (fun p => match p.2 with | .counter i _ => decide (i = h.toNat) | _ => false) = false →
        let k1 := { k with counterLease := k.counterLease + 65536 }
        exec (.keyCounterLeaseWrite h true) s = .next ((s.shelfRecord 1 h.toNat k.kgen (some { k1 with staged := none }) [] s.shelfEpoch).compactIfLow.modKey
          h.toNat (fun _ => k1)))) ∧
    (∀ p : Fin 8, (s.pier p.val).damaged = true → exec (.storeRewrite p true) s = .next
      (((s.setPier p.val { s.pier p.val with damaged := false }).bump (Reg.pier p.val 0xA4)).ackSource (src uPier p.val) [0x02]))

/-- NOP, ECHO, GET_INFO, ABORT and FW_STAGE (R70, R153, R156, R157, R158, R730, R731). For a job that its engine runs with its input complete: NOP
answers nothing, ECHO its input, GET_INFO the information record of its VI. ABORT at check 6 that fails one of checks 7 to 12 ends with its status;
one that matches no undecided descriptor is decided at once with 0 matched; one that matches some is committed, waits for them, and asks each for its
abort. FW_STAGE of an image that no activity, signature, measurement or security version forbids starts writing the inactive slot, whose number is its
DETAIL; otherwise it ends with its defect. A block of the slot that cannot be written ends it with UNCORRECTABLE_MEM; a good block that is not the
last one counts. -/
def Obligations.HostOpcodes : Prop :=
  ∀ (s : State) (j : Nat) (x : Job),
    let l := s.abortTargets j x
    let y := { x with stage := .running, committed := true, targets := l, matched := l.length, abortedN := 0, approved := s.runsApproved x.vi x.desc }
    (s.startable j 0x0F00 = some x → exec (.nop j) s = .next (s.finishJob j (okWith 0 []) [])) ∧
    (s.startable j 0x0F01 = some x → exec (.echo j) s = .next (s.finishJob j (okWith 0 x.input) [])) ∧
    (s.startable j 0x0F03 = some x → exec (.getInfo j) s = .next (s.finishJob j (okWith 0 (s.infoRecord x.vi)) [])) ∧
    (s.job j = some x → isAbort x.desc = true → x.stage = .fetched → s.fetching = true →
      (∀ r, s.checkDispatch x.vi s.strict x.desc = some r → exec (.abort j) s = .next (s.refuseJob j r)) ∧
      (s.checkDispatch x.vi s.strict x.desc = none → l = [] → ∃ t, exec (.abort j) s = .next t ∧ t.job j = none ∧ t.rings = s.rings ∧ t.csn = s.csn) ∧
      (∀ k, s.checkDispatch x.vi s.strict x.desc = none → l = [k] → exec (.abort j) s = .next ((s.putJob j y).requestAbort k St.aborted))) ∧
    (s.startable j 0x0F04 = some x → x.abortBy = none →
      (∀ st det, s.stageDefect x.input = some (st, det) → exec (.fwStage j) s = .next (s.finishJob j (failWith st det) [])) ∧
      (s.stageDefect x.input = none → exec (.fwStage j) s = .next
        ((s.finishJob j (okWith (if s.inactive then 1 else 0) []) [.flash]).beginStage j x.input ((dP0 x.desc).testBit 0)))) ∧
    (∀ slot im n activate, s.flash.staging = some (j, slot, im, n, activate) → (s.job j).map (·.stage) = some .waiting →
      exec (.fwSlotBlockWrite false) s = .next ((s.endStage St.uncorrectable).failJob j St.uncorrectable 0) ∧
      (n ≤ 1 → exec (.fwSlotBlockWrite true) s = .next (s.staged j slot im activate)) ∧
      (1 < n → ∃ t, exec (.fwSlotBlockWrite true) s = .next t ∧ t.flash.staging = some (j, slot, im, n - 1, activate) ∧
        (t.act 8).progress = (blocksOf im - (n - 1)) * 1000 / blocksOf im ∧ t.jobs = s.jobs ∧ t.csn = s.csn))

/-- The three impressions (R140, R477, R478, R479, R480). For a job that its engine runs with its input complete: IMPRESSION_DEVICE and IMPRESSION_KEY
have as result the signed impression of the device, or of the named key, over the host's nonce, once their Graver part has not failed (a failed
invariant ends them); the body begins with MAGIC, FORMAT 1 and the kind, and carries the life-cycle state, the unit ID and the VI. IMPRESSION_CHAIN
answers the stored identity chain when its leaf carries this device's keys, else POLICY. -/
def Obligations.Impressions : Prop :=
  ∀ (s : State) (j : Nat) (x : Job),
    let s2 := s.nextDraw.nextDraw
    (s.startable j 0x0701 = some x → exec (.impressionDevice j true) s = .next (s2.burinComputed j (okWith 0 (s.impression x.vi x.input none)))) ∧
    (s.startable j 0x0702 = some x → exec (.impressionKey j true) s = .next
      (s2.burinComputed j (okWith 0 (s.impression x.vi x.input (x.key.map (fun k => (dKey x.desc, k))))))) ∧
    (∀ c op, (c = .impressionDevice j false ∧ op = 0x0701) ∨ (c = .impressionKey j false ∧ op = 0x0702) →
      s.startable j op = some x → x.graverPart ≠ .finished → exec c s = .next (s.invariantFails j)) ∧
    (s.startable j 0x0703 = some x →
      (s.chainOwn = true → exec (.impressionChain j) s = .next (s.finishJob j (okWith 0 (s.csn.chain.getD [])) [])) ∧
      (s.chainOwn = false → exec (.impressionChain j) s = .next (s.finishJob j (failWith St.policy 0) []))) ∧
    (∀ v nonce key, let b := s.impressionBody v nonce key;
      b.take 8 = leBytes 4 0x52504D49 ++ leBytes 2 1 ++ leBytes 1 (if key.isSome then 2 else 1) ++ leBytes 1 s.lcs.lstate.code)

/-- Maintenance: MAINT_START, MAINT_STATUS, MAINT_STOP, REPAIR_QUERY and SELFTEST_RUN (R142, R143, R144, R145, R146, R659, R695, R696). For a job that
its engine runs with its input complete. MAINT_START of an activity that nothing forbids starts it and answers its run number, the next one; one that
conflicts ends with MAINT_CONFLICT and the running activity. MAINT_STATUS answers the record of one activity, or of all nine; REPAIR_QUERY the repair
summary. MAINT_STOP of an idle activity answers OK at once, of another stops it. SELFTEST_RUN without the Crosshatch test answers the tests run and
those that failed; a failed test takes the device to FALSEWORK once its reply is written. -/
def Obligations.MaintenanceOpcodes : Prop :=
  ∀ (s : State) (j : Nat) (x : Job),
    let a := bits (dP0 x.desc) 7 0
    (s.startable j 0x0801 = some x → x.abortBy = none →
      (∀ st det, s.startDefect a (dP1 x.desc) = some (st, det) →
        exec (.maintStart j) s = .next ((s.finishJob j (failWith st det) []).settleDrains)) ∧
      (s.startDefect a (dP1 x.desc) = none → exec (.maintStart j) s = .next
        (((s.startAct a (dP1 x.desc) none).finishJob j (okWith ((s.startAct a (dP1 x.desc) none).act a).run []) []).settleDrains))) ∧
    (s.startable j 0x0802 = some x →
      (a ≠ 0 → exec (.maintStatus j) s = .next (s.finishJob j (okWith 0 (s.actRecord a)) [])) ∧
      (a = 0 → exec (.maintStatus j) s = .next (s.finishJob j (okWith 0 (s.actRecord 1 ++ s.actRecord 2 ++ s.actRecord 3 ++ s.actRecord 4 ++
        s.actRecord 5 ++ s.actRecord 6 ++ s.actRecord 7 ++ s.actRecord 8 ++ s.actRecord 9)) []))) ∧
    (s.startable j 0x0803 = some x → x.abortBy = none →
      ((s.act a).mstate ≠ 1 → (s.act a).mstate ≠ 2 → exec (.maintStop j) s = .next ((s.finishJob j (okWith 0 []) []).settleDrains)) ∧
      ((s.act a).mstate = 1 ∨ (s.act a).mstate = 2 → a ≠ 7 →
        exec (.maintStop j) s = .next (((s.stopAct a).finishJob j (okWith 0 []) []).settleDrains)) ∧
      ((s.act a).mstate = 1 ∨ (s.act a).mstate = 2 → a = 7 → s.cardOp.isSome = true →
        exec (.maintStop j) s = .next ((s.finishJob j (okWith 0 []) [.safePoint]).settleDrains))) ∧
    (s.startable j 0x0804 = some x → exec (.repairQuery j) s = .next (s.finishJob j (okWith 0 s.repairSummary) [])) ∧
    (∀ (failed : BitVec 8) (kat : BitVec 16), s.startable j 0x0805 = some x → x.abortBy = none → s.glb.dev ≠ .falsework →
      let m := bits (dP0 x.desc) 4 0
      let f := failed.toNat &&& m &&& 0x17
      m.testBit 3 = false → exec (.selftestRun j failed kat) s = .next ((s.finishJob j
        (okEff f (leBytes 4 m ++ leBytes 4 f ++ leBytes 8 (if f.testBit 0 then kat.toNat else 0) ++ zeros 16)
          (if f = 0 then [] else [.after (.falsework 8)])) []).settleDrains)) ∧
    (∀ (failed : BitVec 8) (kat : BitVec 16) c, s.startable j 0x0805 = some x → x.abortBy = none → s.glb.dev ≠ .falsework →
      (bits (dP0 x.desc) 4 0).testBit 3 = true → s.conflictWith 6 = some c →
      exec (.selftestRun j failed kat) s = .next ((s.finishJob j (failWith St.maintConflict c) []).settleDrains))

/-- The life-cycle opcodes (R147, R148, R149, R150, R617, R618, R621, R622, R623, R624, R626, R630). For a job that its engine runs with its input
complete. LCS_QUERY answers the record at any time, a burn included. The others wait, unchanged, while a transition runs. LCS_REQUEST of a transition
that R618 refuses ends with STATE, another starts its burn. LCS_CHALLENGE in PROOF, EDITION or RESTRIKE draws a new challenge of 32 B and answers it
with the unit ID. LCS_PERMIT consumes the challenge whatever its outcome: a failed check ends it and counts, a first half is remembered and answers 1,
a debug unlock answers 3. Decision units that disagree raise the split-decision alarm. -/
def Obligations.LifeCycleOpcodes : Prop :=
  ∀ (s : State) (j : Nat) (x : Job),
    let used : State := { s with lcs := { s.lcs with challenge := none } }
    let kind := bits (dP0 x.desc) 7 0
    (s.startable j 0x0901 = some x → exec (.lcsQuery j) s = .next (s.finishJob j (okWith 0 s.lcsRecord) [])) ∧
    (∀ c op, (∃ b, c = .lcsRequest j b ∧ op = 0x0902) ∨ (c = .lcsChallenge j ∧ op = 0x0903) ∨ (∃ b, c = .lcsPermit j b ∧ op = 0x0904) →
      s.startable j op = some x → s.lcs.burn.isSome = true → exec c s = .next s) ∧
    (s.startable j 0x0902 = some x → s.lcs.burn = none →
      exec (.lcsRequest j false) s = .next (s.splitDecision [] 0) ∧
      (s.planBurn (leBytes 5 (dP0 x.desc)) = none →
        exec (.lcsRequest j true) s = .next (s.finishJob j (failWith St.state s.glb.dev.code) [])) ∧
      (∀ l code steps, s.planBurn (leBytes 5 (dP0 x.desc)) = some (l, code, steps) → l ≠ .restrike →
        exec (.lcsRequest j true) s = .next
          ((s.finishJob j (okEff 0 [] (if l = .cancelled then [.after .cancelled] else [])) [.burn]).startBurn l code steps (.job j)))) ∧
    (s.startable j 0x0903 = some x → s.lcs.burn = none →
      (s.lcs.lstate = .proof ∨ s.lcs.lstate = .edition ∨ s.lcs.lstate = .restrike →
        exec (.lcsChallenge j) s = .next (({ s with lcs := { s.lcs with challenge := some (drawBytes s.draws 32) } }).nextDraw.finishJob j
          (okWith 0 (drawBytes s.draws 32 ++ s.unitId)) [])) ∧
      (s.lcs.lstate ≠ .proof → s.lcs.lstate ≠ .edition → s.lcs.lstate ≠ .restrike →
        exec (.lcsChallenge j) s = .next (s.finishJob j (failWith St.state s.glb.dev.code) []))) ∧
    (s.startable j 0x0904 = some x → s.lcs.burn = none →
      exec (.lcsPermit j false) s = .next (used.splitDecision [] 0) ∧
      (∀ st det, used.permitFails x.input kind s.lcs.challenge (x.quorum.testBit 10) = some (st, det) →
        exec (.lcsPermit j true) s = .next ((used.finishJob j (failWith st det) []).bump Reg.lcsPermitFail)) ∧
      (used.permitFails x.input kind s.lcs.challenge (x.quorum.testBit 10) = none →
        (kind = 3 → exec (.lcsPermit j true) s = .next (used.openDebug.finishJob j (okWith 3 []) [])) ∧
        (kind ≠ 3 → s.lcs.half = 0 ∨ s.lcs.half = kind → exec (.lcsPermit j true) s = .next
          (({ used with lcs := { used.lcs with half := kind } } : State).finishJob j (okWith 1 []) []))))

/-- The custody opcodes: card status, scan, restore, officer login and logout, quorum policy (R151, R473, R475, R747, R748, R754, R757, R768, R770).
For a job that its engine runs with its input complete. CARD_STATUS answers the record at once, whether or not the card is held. ARCHIVE_SCAN and,
with its quorum and no conflicting activity, ARCHIVE_RESTORE find a held card with MAINT_CONFLICT DETAIL 7 and an absent one with CARD_REMOVED; a free
ready card is taken by a scan, which sends its first command. OFFICER_LOGIN outside PROOF and EDITION is STATE, without a slot to serve CARD_REMOVED,
else it begins an exchange; OFFICER_LOGOUT logs the officer out at its commit. QUORUM_SET refuses a bad form, then bad signatures, then a missing
quorum. -/
def Obligations.CustodyOpcodes : Prop :=
  ∀ (s : State) (j : Nat) (x : Job) (present : BitVec 8),
    let seen : State := { s with cus := { s.cus with ocd := present.toNat } }
    let first := s.csn.policy = none ∧ s.lcs.lstate = .proof
    (s.startable j 0x0A01 = some x → exec (.cardStatus j) s = .next (s.finishJob j (okWith 0 s.cardRecord) [])) ∧
    (s.startable j 0x0A02 = some x → s.holdsCard j = false → x.abortBy = none →
      (s.cardOp.isSome = true → exec (.archiveScan j) s = .next (s.finishJob j (failWith St.maintConflict 7) [])) ∧
      (s.cardOp = none → s.cus.ready = false → exec (.archiveScan j) s = .next (s.finishJob j (failWith St.cardRemoved 0) [])) ∧
      (s.cardOp = none → s.cus.ready = true →
        exec (.archiveScan j) s = .next ((s.setOp (some (CardOp.start (.scan j) [.read 2048, .read 2056]))).emit (.sdCommand 18 2048 [])))) ∧
    (s.startable j 0x0A03 = some x → s.holdsCard j = false → x.abortBy = none →
      (x.quorum.testBit 11 = false → exec (.archiveRestore j) s = .next (s.finishJob j (failWith St.quorum 0) [])) ∧
      (x.quorum.testBit 11 = true → ([5, 6, 7] : List Nat).find? s.startedRuns = none →
        (s.cardOp.isSome = true → exec (.archiveRestore j) s = .next (s.finishJob j (failWith St.maintConflict 7) [])) ∧
        (s.cardOp = none → s.cus.ready = false → exec (.archiveRestore j) s = .next (s.finishJob j (failWith St.cardRemoved 0) [])) ∧
        (s.cardOp = none → s.cus.ready = true → s.cus.valid = false → exec (.archiveRestore j) s = .next (s.finishJob j (failWith St.policy 0) [])) ∧
        (∀ k, s.cardOp = none → s.cus.ready = true → s.cus.valid = true → s.archiveKey = some k → kcvOf k = slice (s.cus.ruling.getD []) 80 8 →
          exec (.archiveRestore j) s = .next (s.readView { CardOp.start (.restore j) [] with key := k })))) ∧
    (s.startable j 0x0A04 = some x → s.exchange = none → x.abortBy = none →
      (s.lcs.lstate ≠ .proof → s.lcs.lstate ≠ .edition →
        exec (.officerLogin j present) s = .next (seen.refuseLogin j St.state s.glb.dev.code)) ∧
      ((s.lcs.lstate = .proof ∨ s.lcs.lstate = .edition) → s.pdOn 26 = true →
        (seen.loginSlot = none → exec (.officerLogin j present) s = .next (seen.refuseLogin j St.cardRemoved 0)) ∧
        (∀ i, seen.loginSlot = some i → exec (.officerLogin j present) s = .next (seen.beginExch i j true)))) ∧
    (s.startable j 0x0A05 = some x →
      exec (.officerLogout j) s = .next (s.finishJob j (okEff 0 [] [.logout (bits (dP0 x.desc) 7 0)]) [])) ∧
    (s.startable j 0x0A06 = some x → s.ent.noEntropy = false →
      (policyForm x.input = false → exec (.quorumSet j) s = .next (s.finishJob j (failWith St.badEncoding 0) [])) ∧
      (policyForm x.input = true → s.policySigned x.input = false → exec (.quorumSet j) s = .next (s.finishJob j (failWith St.policy 0) [])) ∧
      (policyForm x.input = true → s.policySigned x.input = true → ¬first → x.quorum.testBit 12 = false →
        exec (.quorumSet j) s = .next (s.finishJob j (failWith St.quorum 0) [])) ∧
      (policyForm x.input = true → s.policySigned x.input = true → (first ∨ x.quorum.testBit 12 = true) → s.lcs.lstate ≠ .edition →
        exec (.quorumSet j) s = .next (s.finishJob j (okEff 0 [] [.quorum x.input]) ([Need.shelf] ++ s.tableNeeds))))

/-- Events of the custody interfaces (R743, R744, R745, R746, R747, R756, R762, R763, R765, R769). With the custody interfaces working, a card that is
inserted and initialises is present and ready at the lower of its mode and the configured one, and its superblocks are read; one that does not
initialise shows an error, an SDSC card is not present. Removal ends the card's operation with CARD_REMOVED and nothing else of the machine is
written. A transfer that ends hands its data to the operation that holds the card; a CRC error or timeout counts. An officer card's block or silence
goes to the exchange under way, its removal ends its login, and a login expires after 300 s. -/
def Obligations.CustodyEvents : Prop :=
  ∀ (s : State),
    (∀ speed width4 lbas, s.custodyOn = true → s.cus.present = false →
      (exec (.sdCardInsertion true true speed width4 lbas) s = .next s) ∧
      (∃ t, exec (.sdCardInsertion false false speed width4 lbas) s = .next t ∧ t.cus.present = true ∧ t.cus.error = true ∧ t.cus.ready = s.cus.ready ∧
        { t with cus := s.cus } = s) ∧
      (∃ t, exec (.sdCardInsertion false true speed width4 lbas) s = .next t ∧ t.cus.present = true ∧ t.cus.ready = true ∧ t.cus.lbas = lbas ∧
        t.cus.speed = Nat.max 1 (Nat.min speed.val (bits (s.reg Reg.cusCtl) 2 0)) ∧ t.cus.op = some (CardOp.start .auto [.read 2048, .read 2056]) ∧
        t.out = s.out ++ [.sdCommand 18 2048 []] ∧ { t with cus := s.cus, out := s.out } = s)) ∧
    (s.cus.present = true → exec .sdCardRemoval s = .next s.cardGone) ∧ (s.cus.present = false → exec .sdCardRemoval s = .next s) ∧
    (∀ o data, s.cardOp = some o → s.opAbort o = none → o.todo ≠ [] →
      exec (.sdTransferEnd .ok data) s = .next (s.xferDone o data) ∧
      exec (.sdTransferEnd .crcError data) s = .next ((s.bump (Reg.cus 0x100)).xferFailed o) ∧
      exec (.sdTransferEnd .timeout data) s = .next ((s.bump (Reg.cus 0x104)).xferFailed o) ∧
      exec .sdResponseTimeout s = .next ((s.bump (Reg.cus 0x104)).xferFailed o) ∧
      (∀ a d r, o.todo = .write a d :: r → exec .sdBusyTimeout s = .next ((s.bump (Reg.cus 0x104)).opRemoved o)) ∧
      (∀ a r, o.todo = .read a :: r → exec .sdBusyTimeout s = .next s)) ∧
    (∀ x y block, s.exchange = some (x, y) → y.abortBy = none →
      exec (.t1BlockReceive block) s = .next (s.cardBlock x block) ∧ exec .t1BlockTimeout s = .next (s.cardSilent x)) ∧
    (∀ slot, exec (.officerCardRemoval slot) s = .next (s.officerCardGone slot.val)) ∧
    (∀ officer : Fin 8, ∃ t, exec (.officerLoginExpiry officer) s = .next t ∧ { t with csn := s.csn } = s ∧
      KMap.get officer.val t.csn.officers = none ∧ (∀ k, k ≠ officer.val → KMap.get k t.csn.officers = KMap.get k s.csn.officers) ∧
      { t.csn with officers := s.csn.officers } = s.csn) ∧
    (s.startedRuns 7 = true → s.custodyOn = true → s.cardOp = none →
      (s.cus.ready = false → exec .archiveExport s = .next (s.endAct 7 St.cardRemoved)) ∧
      (s.cus.ready = true → s.archiveKey = none → exec .archiveExport s = .next (s.endAct 7 St.policy)) ∧
      (∀ k, s.cus.ready = true → s.archiveKey = some k → unitCount (s.snapshot k (s.act 7).arg) ≤ s.freeUnits →
        exec .archiveExport s = .next (s.beginExport k (s.act 7).arg))) ∧
    (s.startedRuns 7 = false → exec .archiveExport s = .next s)

/-- The twin opcodes and the pairing exchange (R152, R572, R573, R574, R575, R577, R579, R591, R592). For a job that its engine runs with its input
complete and no abort pending. TWIN_STATUS answers the 72 B record. TWIN_ROLE_SET outside IN_STEP is TWIN_UNAVAILABLE; in it the role change waits for
the twin, behind a drain when this device gives a primary role away. TWIN_TAKEOVER becomes primary at once when the peer is lost, claims with the
fence while the link is down, and is refused elsewhere. TWIN_UNPAIR needs a pair and its quorum. TWIN_PAIR outside EDITION, paired, or without quorum
is refused before its input is looked at. Frames of the pairing that are damaged count and change nothing else. -/
def Obligations.TwinOpcodes : Prop :=
  ∀ (s : State) (j : Nat) (x : Job),
    let p0 := dP0 x.desc
    let v := bits p0 7 0
    let prim := p0.testBit 8
    let gives := !prim && (s.vi v).primary
    let held := s.modVi v (fun y => { y with handover := true })
    let roles : Result := okEff 0 [] [.roles [v] prim (some (p0.testBit 9)) 1]
    let vs := (if v = 0xFF then allVis else [v]).filter (fun u => !(s.vi u).primary)
    let won (u : State) : State := if u.spn.claim = some j ∧ u.spn.hbAlive ∧ u.spn.peerState = 6 then u.claimWon else u
    (s.startable j 0x0B02 = some x → ∃ r, exec (.twinStatus j) s = .next (s.finishJob j (okWith 0 r) []) ∧
      r.take 1 = leBytes 1 s.spn.pair.code) ∧
    (s.startable j 0x0B03 = some x → x.abortBy = none →
      (s.spn.pair ≠ .inStep → exec (.twinRoleSet j) s = .next ((s.finishJob j (failWith St.twinUnavailable 0) []).settleDrains)) ∧
      (s.spn.pair = .inStep → gives = false → exec (.twinRoleSet j) s = .next ((s.finishJob j roles [.twin]).settleDrains)) ∧
      (s.spn.pair = .inStep → gives = true → exec (.twinRoleSet j) s = .next ((held.finishJob j roles [.drain, .twin]).settleDrains))) ∧
    (s.startable j 0x0B04 = some x → x.abortBy = none →
      (s.spn.pair = .peerLost → exec (.twinTakeover j) s = .next (won (s.finishJob j (okEff 0 [] [.roles vs true none 3]) []).settleDrains)) ∧
      (s.spn.pair = .linkDown → v = 0xFF → s.spn.claim = none → exec (.twinTakeover j) s = .next
        (won (({ s with spn := { s.spn with fence := true, claim := some j } } : State).finishJob j (okWith 0 []) [.takeover]).settleDrains)) ∧
      (s.spn.pair = .linkDown → v ≠ 0xFF →
        exec (.twinTakeover j) s = .next (won (s.finishJob j (failWith St.badParam 0x28) []).settleDrains)) ∧
      (s.spn.pair = .inStep → vs ≠ [] →
        exec (.twinTakeover j) s = .next (won (s.finishJob j (okEff 0 [] [.roles vs true none 1]) [.twin]).settleDrains))) ∧
    (s.startable j 0x0B05 = some x → x.abortBy = none →
      (s.spn.pair = .unpaired → exec (.twinUnpair j) s = .next ((s.finishJob j s.wrongState []).settleDrains)) ∧
      (s.spn.pair = .peerLost → x.quorum.testBit 9 = false →
        exec (.twinUnpair j) s = .next ((s.finishJob j (failWith St.quorum 0) []).settleDrains)) ∧
      (s.spn.pair = .peerLost → x.quorum.testBit 9 = true →
        exec (.twinUnpair j) s = .next ((s.finishJob j (okEff 0 [] [.unpair]) []).settleDrains)) ∧
      (s.spn.pair = .inStep → x.quorum.testBit 9 = true →
        exec (.twinUnpair j) s = .next ((s.finishJob j (okEff 0 [] [.unpair]) [.twin]).settleDrains))) ∧
    (s.startable j 0x0B01 = some x → x.abortBy = none → s.spn.early = [] →
      (s.lcs.lstate ≠ .edition → ∃ t, exec (.twinPair j) s = .next t ∧
        t = ((s.finishJob j s.wrongState []).settleDrains).takePair) ∧
      (s.lcs.lstate = .edition → s.glb.dev = .ready → s.spn.pair = .unpaired → s.spn.pairing = none → x.quorum.testBit 8 = false →
        exec (.twinPair j) s = .next (((s.finishJob j (failWith St.quorum 0) []).settleDrains).takePair)) ∧
      (∀ d, s.lcs.lstate = .edition → s.glb.dev = .ready → s.spn.pair = .unpaired → s.spn.pairing = none → x.quorum.testBit 8 = true →
        s.pairDefect x.input (p0.testBit 0) = some d →
        exec (.twinPair j) s = .next (((s.finishJob j (failWith d.1 d.2) []).settleDrains).takePair))) ∧
    (∀ p, s.spn.pairing = some p → (s.job p.job).any (fun y => decide (y.stage = .waiting ∧ y.needs.head? = some Need.pair)) = true →
      exec .twinPairTimeout s = .next (s.failJob p.job St.twinUnavailable 0)) ∧
    (s.spn.pairing = none → exec .twinPairTimeout s = .next s) ∧
    (s.spanOn = true → exec .pairRefusal s = .next s.refusedByPeer) ∧
    (∀ frame, s.spanOn = true → s.spn.dead = false → frameWhole frame = false → exec (.pairFrame frame) s = .next (s.bump (Reg.spn 0x208))) ∧
    (∀ frame, s.spanOn = true → s.spn.dead = false → frameWhole frame = true → frameOf frame [tPair] = true → 6 ≤ rd frame 4 2 →
      rd (slice frame 32 (rd frame 4 2)) 0 1 = 0x0F → exec (.pairFrame frame) s = .next s.refusedByPeer)

/-- The opcodes of the VI manager (R153, R197, R522, R523, R526, R529, R534, R540, R544, R549, R552, R558). For a job that its engine runs with its
input complete and no abort pending. VI_QUOTA_SET of a record without defect asks for it, one with a defect is BAD_ENCODING with its DETAIL; VI_QUERY
answers quota and use. VI_RESET starts the reset and waits for its end. VI_FREEZE needs RUNNING and a TDI that is not locked or running, and waits for
the drain; VI_THAW needs FROZEN and thaws at once. VI_SAVE and VI_RESTORE in a wrong state return STATE, on a locked TDI POLICY. FUNCTION_SET enables
at once, refuses to leave fewer than 2 piers or 1 lane, and otherwise disables from now on and replies after the drain. -/
def Obligations.ViOpcodes : Prop :=
  ∀ (s : State) (j : Nat) (x : Job) (sound : Bool),
    let p0 := dP0 x.desc
    let v := targetVi x.desc
    let y := s.vi v
    let kind := bits p0 15 8
    let unit := bits p0 31 16
    let ends (r : Result) : State := (s.finishJob j r []).settleDrains
    let fewPiers := kind = 2 ∧ (s.piersOn.filter (fun p => decide (p ≠ unit))).length < 2
    let fewLanes := kind = 3 ∧ s.laneUp unit = true ∧ s.lanesOnDuty ≤ 1
    (s.startable j 0x0C01 = some x →
      (∀ o, s.quotaBad v x.input = some o → exec (.viQuotaSet j) s = .next (s.finishJob j (failWith St.badEncoding o) [])) ∧
      (s.quotaBad v x.input = none → exec (.viQuotaSet j) s = .next
        (s.finishJob j (okEff 0 [] [.putQuota v (Quota.ofBytes x.input)]) s.tableNeeds))) ∧
    (s.startable j 0x0C08 = some x → exec (.viQuery j) s = .next (s.finishJob j (okWith 0 (y.quota.bytes ++ s.useRecord v)) [])) ∧
    (s.startable j 0x0C02 = some x → x.abortBy = none →
      exec (.viReset j) s = .next (((s.startReset v).finishJob j (okWith 0 []) [.reset]).settleDrains)) ∧
    (s.startable j 0x0C03 = some x → x.abortBy = none →
      (y.state ≠ .running ∨ y.freezing = true → exec (.viFreeze j) s = .next (ends s.wrongState)) ∧
      (y.state = .running → y.freezing = false → (y.tdi = .locked ∨ y.tdi = .run) → exec (.viFreeze j) s = .next (ends (failWith St.policy 0))) ∧
      (y.state = .running → y.freezing = false → y.tdi ≠ .locked → y.tdi ≠ .run →
        exec (.viFreeze j) s = .next (((s.beginFreeze v).finishJob j (okEff 0 [] [.freeze v]) [.drain]).settleDrains))) ∧
    (s.startable j 0x0C06 = some x → x.abortBy = none →
      (y.state ≠ .frozen → exec (.viThaw j) s = .next (ends s.wrongState)) ∧
      (y.state = .frozen → exec (.viThaw j) s = .next (((s.thaw v).finishJob j (okWith 0 []) []).settleDrains))) ∧
    (s.startable j 0x0C04 = some x → x.abortBy = none →
      (y.state ≠ .frozen → exec (.viSave j) s = .next (s.finishJob j s.wrongState [])) ∧
      (y.state = .frozen → y.tdi ≠ .unlocked → exec (.viSave j) s = .next (s.finishJob j (failWith St.policy 0) [])) ∧
      (∀ k, y.state = .frozen → y.tdi = .unlocked → s.paired = false → x.key = some k →
        let n := (s.blob v k).1.length + (s.blob v k).2.length
        (dOutMax x.desc < n → exec (.viSave j) s = .next (s.finishJob j { failWith St.badParam 16 with lenOut := n } [])) ∧
        (n ≤ dOutMax x.desc → exec (.viSave j) s = .next (((s.nextDraw.nextDraw.nextDraw.nextDraw).emit
            (.dma x.vi (s.via x.vi) (dOutAddr x.desc) (s.blob v k).1)).finishJob j
          { okEff 0 [] [.saved v] with lenOut := n, extra := [(dOutAddr x.desc + (s.blob v k).1.length, (s.blob v k).2)] }
          ([Need.shelf] ++ (if s.twinWaits then [Need.twin] else [])))))) ∧
    (s.startable j 0x0C05 = some x → x.abortBy = none →
      (y.lockedDown = true → exec (.viRestore j sound) s = .next (s.finishJob j (failWith St.policy 0) [])) ∧
      (y.lockedDown = false → ((y.state ≠ .running ∧ y.state ≠ .detached) ∨ y.freezing = true ∨ y.tdi ≠ .unlocked ∨ s.viEmpty v = false) →
        exec (.viRestore j sound) s = .next (s.finishJob j s.wrongState [])) ∧
      (exec (.viRestore j sound) s = .next ((doRestore sound s x).1.finishJob j (doRestore sound s x).2.1 (doRestore sound s x).2.2))) ∧
    (s.startable j 0x0C07 = some x → x.abortBy = none →
      (p0.testBit 32 = true → exec (.functionSet j) s = .next (((s.setFunction kind v unit true).finishJob j (okWith 0 []) []).settleDrains)) ∧
      (p0.testBit 32 = false → (fewPiers ∨ fewLanes) → exec (.functionSet j) s = .next (ends (failWith St.badParam 0x28))) ∧
      (p0.testBit 32 = false → ¬fewPiers → ¬fewLanes → exec (.functionSet j) s = .next
        (((if kind = 2 then (s.setFunction kind v unit false).disablePier unit else s.setFunction kind v unit false).finishJob j (okWith 0 [])
          [.drain]).settleDrains)))

/-- Resets, detachment, Bus Master Enable and BAR changes of virtual instances (R516, R518, R534, R535, R537, R538, R539, R558). FLR_VF of an enabled
VF resets it: VI_GEN counts one, STATE is RESETTING, its rings go, its policies are cleared, its quota and cursor stay, and no other VI's state,
generation or quota changes. VI_RESET_COMPLETE of a pending reset makes it RUNNING (DETACHED when its VF is off) with GEN_CHANGED set and the TDI
unlocked. VF_ENABLE_SET makes detached VFs up to NumVFs RUNNING. A change of Bus Master Enable or of a VF's BAR moves a locked or running TDI to
ERROR; a change to the same value changes nothing. VI_FREEZE_TIMEOUT of a VI that is being frozen asks its uncommitted jobs for their abort. -/
def Obligations.ViEvents : Prop :=
  ∀ (s : State) (v : Fin 256),
    let x := s.vi v.val
    (s.pcieUp = true → v ≠ 0 → v.val ≤ s.glb.numVfs → exec (.flrVf v) s = .next (s.startReset v.val)) ∧
    ((s.pcieUp = false ∨ v = 0 ∨ s.glb.numVfs < v.val) → exec (.flrVf v) s = .next s) ∧
    (let t := s.resetWindow v.val .resetting;
      (t.vi v.val).gen = x.gen + 1 ∧ (t.vi v.val).state = .resetting ∧ (t.vi v.val).quota = x.quota ∧ (t.vi v.val).cursor = x.cursor ∧
      (t.vi v.val).intStatus = 0 ∧ (t.vi v.val).intEnable = 0 ∧ (t.vi v.val).ringErr = 0 ∧ (t.vi v.val).lateDiscard = x.lateDiscard ∧
      (∀ k, k < 64 → t.ring v.val k = Ring.reset) ∧ (∀ u, u ≠ v.val → t.vi u = s.vi u) ∧
      { t with vis := s.vis, rings := s.rings, hif := s.hif } = s) ∧
    (s.pcieUp = true → exec .flrPf s = .next ((s.lowerVfs 0).detach 0 .running)) ∧
    (∀ n, s.pcieUp = true → exec (.vfEnableClear n) s = .next (s.lowerVfs n)) ∧
    (∀ n, s.pcieUp = true → n ≤ 255 → let k := Nat.max s.glb.numVfs n; ∃ t, exec (.vfEnableSet n) s = .next t ∧ t.glb.numVfs = k ∧
      (∀ u, 1 ≤ u → u ≤ k → t.vi u = if (s.vi u).state = .detached then { s.vi u with state := .running } else s.vi u) ∧
      (∀ u, u = 0 ∨ k < u → t.vi u = s.vi u) ∧ { t with vis := s.vis, glb := s.glb } = s) ∧
    (exec (.busMasterEnableChange v x.bme) s = .next s) ∧
    (∀ on, on ≠ x.bme → ∃ t, exec (.busMasterEnableChange v on) s = .next t ∧ (t.vi v.val).bme = on ∧
      (t.vi v.val).tdi = (if x.tdi = .locked ∨ x.tdi = .run then .error else x.tdi) ∧ (∀ u, u ≠ v.val → t.vi u = s.vi u) ∧
      { t with vis := s.vis, out := s.out } = s) ∧
    (x.resetPending = true → s.spn.waits.any (fun p => decide (p.2 = .viReset v.val)) = false → exec (.viResetComplete v) s = .next
      (((s.endReset v.val (decide (v.val ≤ s.glb.numVfs))).resetReplies v.val).answerStop v.val)) ∧
    (x.resetPending = false → exec (.viResetComplete v) s = .next s) ∧
    (let t := s.endReset v.val (decide (v.val ≤ s.glb.numVfs));
      (t.vi v.val).state = (if v.val ≤ s.glb.numVfs then .running else .detached) ∧ (t.vi v.val).tdi = .unlocked ∧
      (t.vi v.val).intStatus.getLsbD 1 = true ∧ (t.vi v.val).resetPending = false) ∧
    (x.scrubPending = true → x.resetPending = false → exec (.viScrubComplete v) s = .next ((s.scrubVi v.val).dropDgeOf v.val)) ∧
    (x.scrubPending = false → exec (.viScrubComplete v) s = .next s) ∧
    (v ≠ 0 → (x.tdi = .locked ∨ x.tdi = .run) → exec (.vfBarWrite v) s = .next (s.setVi v.val { x with tdi := .error })) ∧
    ((v = 0 ∨ (x.tdi ≠ .locked ∧ x.tdi ≠ .run)) → exec (.vfBarWrite v) s = .next s) ∧
    (x.freezing = false → exec (.viFreezeTimeout v) s = .next s) ∧
    (x.freezing = true → exec (.viFreezeTimeout v) s = .next
      (((s.jobs.filter (fun p => decide (p.2.vi = v.val) && !p.2.committed)).map (·.1)).foldl (fun t j => t.requestAbort j St.aborted) s).settleDrains) ∧
    (s.jobs.find? (fun p => decide (dOp p.2.desc = 0x0C07) && decide (p.2.stage = .waiting) && decide (p.2.needs.head? = some Need.drain)) = none →
      exec .drainTimeout s = .next s) ∧
    (∀ j y, s.jobs.find? (fun p => decide (dOp p.2.desc = 0x0C07) && decide (p.2.stage = .waiting) && decide (p.2.needs.head? = some Need.drain)) =
        some (j, y) → bits (dP0 y.desc) 15 8 ≠ 3 →
      exec .drainTimeout s = .next (((s.drainHolders j y).foldl (fun t k => t.requestAbort k St.functionDisabled) s).settleDrains))

/-- The words of a vendor routine in a burin: issue, YIELD, COMMIT and END (R67, R119, R160, R161, R179, R291, R295, R297, R299, R300, R302). A burin
in RUN or POST_COMMIT with a job and a vendor routine: MICROWORD_ISSUE of an unmasked job, MASK_REFRESH aside, issues one more word and changes
nothing else of the machine. COMMIT of a job whose result stands (and whose counterproof accepted) with no abort pending consumes its index, marks it
committed and puts the burin in POST_COMMIT; with an abort pending the job is abandoned. END in POST_COMMIT ends the job with its result and what its
keys wait for. YIELD acts on a pending abort. A burin that computes no job does nothing at any of these commands, and BURIN_PICK without a clock does
nothing. -/
def Obligations.BurinRoutine : Prop :=
  ∀ (s : State) (p : Fin 8) (b : Fin 9) (j : Nat) (x : Job),
    let y := s.burin p.val b.val
    (s.issuing p.val b.val = none → ∀ c, c = .microwordIssue p b ∨ c = .commit p b ∨ c = .end_ p b ∨ c = .yield_ p b ∨ c = .maskRefresh p b ∨ c = .setLc p b ∨
      c = .baseLoad p b ∨ c = .wait p b → exec c s = .next s) ∧
    (s.clocked = false → exec (.burinPick p b) s = .next s) ∧
    (s.clocked = true → y.state = .idle → (s.pier p.val).onDuty.testBit b.val = true → exec (.burinPick p b) s = .next (s.fillQueues.pick p.val b.val)) ∧
    (s.issuing p.val b.val = some (j, x) → y.micro = none →
      (x.masked = false → exec (.microwordIssue p b) s = .next (s.setBurin p.val b.val { y with issued := y.issued + 1 })) ∧
      (∀ c, c = .setLc p b ∨ c = .baseLoad p b ∨ c = .wait p b → exec c s = .next (s.setBurin p.val b.val { y with issued := y.issued + 1 })) ∧
      ((s.pier p.val).stippleStall = true → exec (.maskRefresh p b) s = .next s) ∧
      ((s.pier p.val).stippleStall = false → exec (.maskRefresh p b) s = .next
        (((s.setBurin p.val b.val { y with issued := y.issued + 1 }).useStipple p.val 8).nextFree)) ∧
      (y.state = .run → x.mayCommit = true → x.abortBy = none → ∃ t, exec (.commit p b) s = .next t ∧ (t.burin p.val b.val).state = .postCommit ∧
        t = (s.applyAtCommit j x).modBurin p.val b.val (fun y => { y with state := .postCommit }) ∧ t.replies = s.replies ∧ t.out = s.out ∧
        (∃ z, t.job j = some z ∧ z.committed = x.result.newKeys.isEmpty)) ∧
      (∀ st, y.state = .run → x.mayCommit = true → x.abortBy = some st → exec (.commit p b) s = .next (s.abandon j st)) ∧
      (x.mayCommit = false → exec (.commit p b) s = .next s) ∧
      (y.state = .postCommit → exec (.end_ p b) s = .next (s.finishJob j x.result (s.resultNeeds x.result))) ∧
      (y.state ≠ .postCommit → exec (.end_ p b) s = .next s) ∧
      (y.state ≠ .postCommit → x.abortBy = none → s.recalledFrom 0 (burinUnit p.val b.val) = false →
        exec (.yield_ p b) s = .next (s.setBurin p.val b.val { y with issued := y.issued + 1 })) ∧
      (∀ st, y.state ≠ .postCommit → x.abortBy = some st →
        exec (.yield_ p b) s = .next ((s.setBurin p.val b.val { y with issued := y.issued + 1 }).abandon j st)))

/-- The words of a customer routine (R284, R285, R287, R288, R290, R291, R292, R293, R294, R295, R298). A burin in RUN or POST_COMMIT with a customer
routine m: SET_LC0 to 3 loads the counter, BASE_LOAD the base and WAIT only time, each moving to the next word; MICROWORD_ISSUE of a word of SEQ 0 to
2 that takes no stipple word and breaks no share-tag rule issues it and moves the routine as the word says; one that breaks a rule ends the job with
INVARIANT_FAIL. YIELD, COMMIT and END act only on a word of their special code. -/
def Obligations.CustomerWords : Prop :=
  ∀ (s : State) (p : Fin 8) (b : Fin 9) (j : Nat) (x : Job) (m : Micro) (w : Nat),
    let put (k : Micro) : State := s.modBurin p.val b.val (fun y => { y with micro := some k })
    let n := etchWord m.image (wNano w)
    s.issuing p.val b.val = some (j, x) → (s.burin p.val b.val).micro = some m → plateWord m.image m.pc = some w →
      (wSeq w = 3 → 0x10 ≤ wImm w → wImm w ≤ 0x13 → exec (.setLc p b) s = .next
        (put { m.land with lcs := listSet m.land.lcs (wImm w - 0x10) (wNano w), pc := m.land.pc + 1, cycle := m.land.cycle + 1 })) ∧
      (wSeq w = 3 → wImm w = 0x20 → exec (.baseLoad p b) s = .next
        (put { m.land with bases := listSet m.land.bases (wA w) (imBase m.land.image (wNano w % 64)), pc := m.land.pc + 1, cycle := m.land.cycle + 1 })) ∧
      (wSeq w = 3 → wImm w = 0x30 → exec (.wait p b) s = .next (put { m.land with pc := m.land.pc + 1, cycle := m.land.cycle + wNano w + 1 })) ∧
      (wSeq w = 3 → exec (.microwordIssue p b) s = .next s) ∧
      (wSeq w ≠ 3 → stippleWords n = 0 → m.land.tagFault n (wA w) (wB w) = true → exec (.microwordIssue p b) s = .next (s.invariantEnds j)) ∧
      (wSeq w ≠ 3 → stippleWords n = 0 → m.land.tagFault n (wA w) (wB w) = false → exec (.microwordIssue p b) s = .next
        (({ s with frees := s.frees + issueFrees } : State).modBurin p.val b.val (fun y => { y with micro := some (m.land.issue w s.frees) }))) ∧
      (wSeq w ≠ 3 ∨ wImm w ≠ 1 → exec (.commit p b) s = .next s) ∧ (wSeq w ≠ 3 ∨ wImm w ≠ 2 → exec (.end_ p b) s = .next s) ∧
      (wSeq w ≠ 3 ∨ wImm w ≠ 3 → exec (.yield_ p b) s = .next s) ∧ (wSeq w ≠ 3 ∨ wImm w ≠ 4 → exec (.maskRefresh p b) s = .next s) ∧
      (∀ st, wSeq w = 3 → wImm w = 1 → x.abortBy = some st → exec (.commit p b) s = .next (s.abandon j st)) ∧
      (wSeq w = 3 → wImm w = 2 → (s.burin p.val b.val).state ≠ .postCommit → exec (.end_ p b) s = .next s)

/-- Preemption, parking, counterproof verdicts, stipple generators and spares of a pier (R180, R184, R185, R193, R194, R195, R202, R203).
YIELD_HOLD_PREEMPTION restarts a job that holds, once, when a more urgent one waits in its pier. PARK_BUFFER_ROOM parks as far as room reaches.
COUNTERPROOF_VERDICT valid frees the verifier and lets the signer commit; invalid is a mismatch. STIPPLE_RESEED absorbs the seed that is ready;
STIPPLE_FAILURE of a sound generator reports and moves the pier's masked jobs. BURIN_SPARE_READY takes a spare in SELFTEST that holds its token on
duty, or retires it. -/
def Obligations.BurinEvents : Prop :=
  ∀ (s : State) (p : Fin 8) (b : Fin 9),
    let y := s.burin p.val b.val
    let u := burinUnit p.val b.val
    let g := s.pier p.val
    (∀ j x, y.state = .yieldHold → y.job = some j → s.job j = some x →
      (x.preempted = false → x.committed = false → s.reg Reg.burYieldHold ≠ 0 → (s.pierQueue p.val).any (fun q => decide (q.2.cls < x.cls)) = true →
        exec (.yieldHoldPreemption p b) s = .next
          (((s.restartBurinJob j false).modJob j (fun q => { q with preempted := true })).bump (Reg.pier p.val 0x7C))) ∧
      (x.preempted = true ∨ x.committed = true ∨ s.reg Reg.burYieldHold = 0 → exec (.yieldHoldPreemption p b) s = .next s)) ∧
    (y.state ≠ .yieldHold → exec (.yieldHoldPreemption p b) s = .next s) ∧
    (s.clocked = true → (∀ i, i < 9 → (s.burin p.val i).state ≠ .parking) → exec (.parkBufferRoom p) s = .next s) ∧
    (∀ i, s.clocked = true → i < 9 → (∀ k, k < 9 → k ≠ i → (s.burin p.val k).state ≠ .parking) → ∀ j, (s.burin p.val i).state = .parking →
      (s.burin p.val i).job = some j → (∀ k, k < 9 → k ≠ i → ((s.tryPark p.val i j).burin p.val k).state ≠ .parking) →
      exec (.parkBufferRoom p) s = .next (s.tryPark p.val i j)) ∧
    (∀ j v vp vb x, s.clocked = true → s.proofOf j = some (v, vp, vb) → s.job j = some x →
      let t := ((s.idleBurin vp vb).delJob v).bump (Reg.pier vp 0x64)
      exec (.counterproofVerdict j true) s = .next (t.modJob j (fun q => { q with verdict := some true })) ∧
      exec (.counterproofVerdict j false) s = .next (t.mismatch j x.signer (burinUnit vp vb) false)) ∧
    (g.seedReady = false → exec (.stippleReseed p) s = .next s) ∧
    (g.seedReady = true → g.stippleOk = true → exec (.stippleReseed p) s = .next ((s.setPier p.val
      { g with seedReady := false, stippleStall := false, stippleUsed := 0, stippleSeeds := g.stippleSeeds + 1 }).bump (Reg.pier p.val 0x50))) ∧
    (g.stippleOk = false → exec (.stippleFailure p) s = .next s) ∧
    (s.clocked = true → exec (.stippleFailure p) s = .next (s.stippleFails p.val false)) ∧
    (y.state = .selftest → s.hasToken 0 u = true →
      (let t := (((s.releaseToken 0 u).modPier p.val (fun q => { q with onDuty := q.onDuty ||| 2 ^ b.val, spare := q.spare - bitAt b.val (q.spare.testBit b.val) })).modBurin
          p.val b.val (fun q => { q with state := .idle })).ackRetired p.val;
        exec (.burinSpareReady p b true) s = .next (if (t.reg Reg.burCtl).testBit 30 && !t.fcl.uncommitted.isEmpty then t.wantAct 4 else t)) ∧
      exec (.burinSpareReady p b false) s = .next (((s.report uBurin u 0x07).retireBurin p.val b.val false).bringSpare p.val)) ∧
    (∀ passed, y.state ≠ .selftest ∨ s.hasToken 0 u = false → exec (.burinSpareReady p b passed) s = .next s)

/-- UCODE_LOAD, UCODE_INVOKE and UCODE_QUERY (R98, R154, R155, R307, R310, R311, R314, R473). For a job that its engine runs with its input complete.
UCODE_LOAD of an image without fault that the policy admits asks for its effect and waits for the drain of the named piers; one that the policy does
not admit is POLICY, one with a fault INPUT_INVALID with its DETAIL. UCODE_INVOKE in a pier with an image sets its burin up at the named entry with
the job's input, key and parameters. UCODE_QUERY answers a 64 B record for each pier. At its time limit a load that waits asks every invocation in its
piers for its abort. -/
def Obligations.UcodeOpcodes : Prop :=
  ∀ (s : State) (j : Nat) (x : Job),
    let d := imageFault x.input
    (s.startable j 0x0D01 = some x →
      (s.ucodeAllowed x.input = false → d ≠ 3 → ∀ sound, exec (.ucodeLoad j sound) s = .next (s.finishJob j (failWith St.policy 0) [])) ∧
      (s.ucodeAllowed x.input = true ∨ d = 3 → d ≠ 0 → ∀ sound, exec (.ucodeLoad j sound) s = .next (s.finishJob j (failWith St.inputInvalid d) [])) ∧
      (s.ucodeAllowed x.input = true → d = 0 → exec (.ucodeLoad j true) s = .next
        ((s.finishJob j (okEff 0 [] [.ucode (dP0 x.desc) (x.input.take (256 + imBodyLen x.input))]) [.drain]).settleDrains)) ∧
      (s.ucodeAllowed x.input = true → d = 0 → s.drained j x = false → exec (.ucodeLoad j false) s = .next s)) ∧
    (∀ p b im, s.startable j 0x0D02 = some x → s.burinOf j = some (p, b) → (s.burin p b).micro = none → (s.pier p).image = some im →
      ∃ t, exec (.ucodeInvoke j) s = .next t ∧ (t.burin p b).micro = some (Micro.start im (dP0 x.desc) x.input ((x.key.map (·.value)).getD [])
        (leBytes 8 (dP1 x.desc) ++ leBytes 4 (dP2 x.desc) ++ zeros 20) s.draws s.frees) ∧ t.jobs = s.jobs ∧ t.csn = s.csn ∧ t.out = s.out) ∧
    (s.startable j 0x0D03 = some x → exec (.ucodeQuery j) s = .next (s.finishJob j (okWith 0 (s.ucodeRecord 0 ++ s.ucodeRecord 1 ++ s.ucodeRecord 2 ++
      s.ucodeRecord 3 ++ s.ucodeRecord 4 ++ s.ucodeRecord 5 ++ s.ucodeRecord 6 ++ s.ucodeRecord 7)) [])) ∧
    (∀ y, s.job j = some y → dOp y.desc = 0x0D01 → y.stage = .waiting →
      exec (.ucodeLoadTimeout j) s = .next (((s.jobs.filter (fun q => decide (dOp q.2.desc = 0x0D02) &&
        (q.2.pier.map (dP0 y.desc).testBit).getD false)).foldl (fun t q => t.requestAbort q.1 St.aborted) s).settleDrains)) ∧
    (s.job j = none → exec (.ucodeLoadTimeout j) s = .next s)

/-- Phase tokens: granting and giving back (R177, R338, R426, R714, R716, R717, R718). TOKEN_GRANT with an asker that the pool has a token for adds
exactly that unit's token, takes it off the askers and wakes the unit, which keeps it unless its job's input starts and fails at once; without an
asker or without room it changes nothing, and in HALTED, or without the engines' clock for a kind other than a Drafting pair, it grants none. A lane
idle without work gives its token back, and a Drafting pair without work or with a recalled token; with work neither gives it back. A release changes
nothing else. -/
def Obligations.PhaseTokens : Prop :=
  ∀ (s : State) (kind : PhaseKind),
    let k := kindNum kind
    let may := (s.glb.dev = .ready ∨ s.glb.dev = .post ∨ s.glb.dev = .falsework) ∧ (kind = .draft ∨ s.glb.pll = true)
    let grant (x : TokenAsk) (t : Tol) : State := { s with tol := { t with grants := (k, x.unit) :: t.grants, asked := KMap.del (askKey k x.unit) t.asked, counts := SMap.set zeroDef k ((SMap.get zeroDef k t.counts + 1) % 8) t.counts } }
    (¬may → exec (.tokenGrant kind) s = .next s) ∧
    (may → s.nextAsk kind = none → exec (.tokenGrant kind) s = .next s) ∧
    (∀ x t, may → s.nextAsk kind = some (x, t) → s.roomFor k x.cls = false → exec (.tokenGrant kind) s = .next s) ∧
    (∀ x t, may → s.nextAsk kind = some (x, t) → s.roomFor k x.cls = true →
      exec (.tokenGrant kind) s = .next ((grant x t).wake kind x.unit) ∧ (grant x t).tol.grants = (k, x.unit) :: s.tol.grants ∧
      ((kind = .graver ∨ kind = .draft ∨ ∀ j y, s.job j = some y → y.inputDone = true) →
        ((grant x t).wake kind x.unit).hasToken k x.unit = true ∧ ((grant x t).wake kind x.unit).tol = (grant x t).tol ∧
        ((grant x t).wake kind x.unit).regs = s.regs ∧ ((grant x t).wake kind x.unit).jobs = s.jobs ∧ ((grant x t).wake kind x.unit).csn = s.csn ∧
        ((grant x t).wake kind x.unit).vis = s.vis)) ∧
    (∀ l : Fin 8, ((s.lane l.val).state = .idle → (s.lane l.val).work = [] → ∃ t, exec (.laneIdleTokenRelease l) s = .next t ∧
        t.hasToken 1 l.val = false ∧ (∀ g, g ≠ (1, l.val) → (g ∈ t.tol.grants ↔ g ∈ s.tol.grants)) ∧ { t with tol := s.tol } = s) ∧
      ((s.lane l.val).state ≠ .idle → exec (.laneIdleTokenRelease l) s = .next s)) ∧
    (∀ p : Fin 10, (s.draftWork = false ∨ s.recalledFrom 3 p.val = true → ∃ t, exec (.draftTokenRelease p) s = .next t ∧
        t.hasToken 3 p.val = false ∧ (∀ g, g ≠ (3, p.val) → (g ∈ t.tol.grants ↔ g ∈ s.tol.grants)) ∧ { t with tol := s.tol } = s) ∧
      (s.draftWork = true → s.recalledFrom 3 p.val = false → exec (.draftTokenRelease p) s = .next s))

/-- Graver slots, yield points, spares and regenerated public keys (R263, R273, R330, R331, R333, R336, R338, R341, R347, R452). GRAVER_SLOT_LOAD of
the core that R331 chooses loads the job that R330 chooses; another core, or no entropy, loads none. GRAVER_YIELD_POINT of a core that computes acts
first on a pending abort; with no other resident job and no recalled token it changes nothing. GRAVER_SPARE_READY takes a spare that passed on duty,
else retires it. PUBLIC_KEY_REGENERATION writes the missing public key of a McEliece private key, or marks its value bad. -/
def Obligations.GraverCommands : Prop :=
  ∀ (s : State) (c : Fin 18),
    let y := s.core c.val
    let t := s.fillGraver
    (s.clocked = false → exec (.graverSlotLoad c) s = .next s ∧ exec (.graverYieldPoint c 0) s = .next s) ∧
    (s.clocked = true → (t.chosenCore ≠ some c.val ∨ t.ent.noEntropy = true ∨ t.nextGraver = none) → exec (.graverSlotLoad c) s = .next t) ∧
    (∀ j g, s.clocked = true → t.chosenCore = some c.val → t.ent.noEntropy = false → t.nextGraver = some (j, g) →
      exec (.graverSlotLoad c) s = .next (({ t with grv := g } : State).loadSlot c.val j)) ∧
    (∀ ran, y.state ≠ .run → exec (.graverYieldPoint c ran) s = .next s) ∧
    (∀ j x st ran, s.clocked = true → y.state = .run → y.computing = some j → s.job j = some x → x.abortBy = some st →
      exec (.graverYieldPoint c ran) s = .next (s.abandon j st)) ∧
    (∀ j x ran, s.clocked = true → y.state = .run → y.computing = some j → s.job j = some x → x.abortBy = none →
      (∀ q ∈ y.slots, q.job = j) → s.recalledFrom 2 c.val = false → exec (.graverYieldPoint c ran) s = .next s) ∧
    (∀ j x ran k, s.clocked = true → y.state = .run → y.computing = some j → s.job j = some x → x.abortBy = none →
      (∀ q ∈ y.slots, q.job = j → q.yields < 64) → s.switchTo y j ran = some k → (s.switchCore c.val j k).recalledFrom 2 c.val = false →
      exec (.graverYieldPoint c ran) s = .next (s.switchCore c.val j k)) ∧
    (y.state = .selftest → s.hasToken 2 c.val = true →
      (∃ u : State, exec (.graverSpareReady c true) s = .next u ∧ u = (((({ (s.releaseToken 2 c.val) with grv := { s.grv with onDuty := s.grv.onDuty ||| 2 ^ c.val, spare := s.grv.spare - bitAt c.val (s.grv.spare.testBit c.val) } } : State)).modCore c.val (fun q => { q with state := .idle })).ackCores)) ∧
      exec (.graverSpareReady c false) s = .next (((s.report uGraver c.val 0x07).retireCore c.val none false).bringCore)) ∧
    (∀ passed, y.state ≠ .selftest → exec (.graverSpareReady c passed) s = .next s) ∧
    (∀ (h : Word) k, KMap.get h.toNat s.csn.keys = some k →
      (s.clocked = true → Alg.isMce k.alg = true → k.isPrivate = true → k.publicPresent = false → k.destroying = false → k.badValue = false → s.piersOn ≠ [] →
        exec (.publicKeyRegeneration h true) s = .next (s.modKey h.toNat
          (fun q => { q with pub := stdOut .publicKey k.alg [k.value] (Alg.pkLen k.alg 0 0), publicPresent := true })) ∧
        exec (.publicKeyRegeneration h false) s = .next (s.modKey h.toNat (fun q => { q with badValue := true }))) ∧
      (∀ good, k.publicPresent = true → exec (.publicKeyRegeneration h good) s = .next s))

/-- Stateful leases: subtree, grant, log erase and wait limit (R119, R237, R238, R241, R244, R250, R252). LEASE_SUBTREE_BUILT marks the subtree of a
requested lease built. HBS_LEASE_GRANT of a requested, unprogrammed lease with fewer than 2 usable log blocks, or whose record does not program, is
refused and reported; one that programs is recorded before it counts as programmed. LEASE_LOG_ERASE erases a block that is neither retired, empty,
active nor holds a newest record, counts the erase and retires it at 100,000 or on failure; other blocks stay. LEASE_WAIT_TIMEOUT ends a signing job
whose lease ran out and whose next one is not there, with LEASE_WAIT or, cut off from a lost twin, TWIN_UNAVAILABLE. -/
def Obligations.StatefulLeases : Prop :=
  ∀ (s : State) (h : Word) (k : KeyRec) (t : Stateful),
    (s.clocked = true → exec (.leaseSubtreeBuilt h) s = .next
      (s.modStateful h.toNat (fun t => if t.requested then { t with subtreeBuilt := true } else t))) ∧
    (s.clocked = false → exec (.leaseSubtreeBuilt h) s = .next s) ∧
    (KMap.get h.toNat s.csn.keys = some k → k.stateful = some t → s.serving = true → t.requested = true → t.programmed = false →
      (∀ programmed, s.logUsable < 2 → exec (.hbsLeaseGrant h programmed) s = .next (s.report uCsn 0 0x0D)) ∧
      (2 ≤ s.logUsable → s.mirrors k.attr = false → exec (.hbsLeaseGrant h true) s = .next
        (((s.leaseRecord 1 h.toNat k.kgen t.reqFirst t.reqEnd t.rangeEnd).raiseLeaseSeq).modStateful h.toNat
          (fun y => { y with programmed := true, acked := true }))) ∧
      (2 ≤ s.logUsable → ∃ u : State, exec (.hbsLeaseGrant h false) s = .next (u.report uCsn 0 0x0D) ∧ u.csn.keys = s.csn.keys ∧ { u with csn := s.csn } = s)) ∧
    (∀ programmed, KMap.get h.toNat s.csn.keys = some k → k.stateful = some t → (t.requested = false ∨ t.programmed = true) →
      exec (.hbsLeaseGrant h programmed) s = .next s) ∧
    (∀ i good b, s.csn.leaseLog[i]? = some b →
      (b.retired = false → b.blockSeq ≠ none → (activeBlock s.csn.leaseLog).any (fun p => decide (p.1 = i)) = false → s.blockStale i = true →
        let e : LeaseBlock := { erases := b.erases + 1, blockSeq := none, recs := [], retired := !good || decide (100000 ≤ b.erases + 1) }
        exec (.leaseLogErase i good) s = .next { s with csn := { s.csn with leaseLog := s.csn.leaseLog.set i e } }) ∧
      (b.retired = true ∨ b.blockSeq = none ∨ s.blockStale i = false → exec (.leaseLogErase i good) s = .next s)) ∧
    (∀ j x, s.job j = some x → dOp x.desc = 0x0302 → x.stage = .queued → s.leaseOf (dKey x.desc) = some t →
      (t.next < t.leaseEnd → exec (.leaseWaitTimeout j) s = .next s) ∧
      (t.leaseEnd ≤ t.next → t.requested = false → exec (.leaseWaitTimeout j) s = .next
        (s.abandon j (if !t.available && s.twinLost then St.twinUnavailable else St.leaseWait))))

/-- Frames in and out, links, lane and port control, local addresses of a line port (R360, R361, R363, R364, R365, R366, R369, R375, R381, R382).
FRAME_RECEIVE on a link that is not up changes nothing; on one that is, a frame below 64 B, above the maximum, with a wrong FCS, of MAC control or not
addressed is counted once in its counter and nothing else changes; an accepted one counts and is parsed. FRAME_TRANSMIT sends the oldest queued frame
of the link with station address, padding and FCS. LINK_UP in phases 1 to 3 enters phase 4 and sets its bit; LINK_DOWN drops the queue.
LPT_PORT_CTL_WRITE while ENABLE is 1 changes only ENABLE and PROMISC. LPT_TXEQ_WRITE takes taps that sum to at most 63. EXC_LIMIT_INTERVAL readmits
exception frames. -/
def Obligations.PortCommands : Prop :=
  ∀ (s : State) (p : Fin 2) (k : Fin 4) (f : Bytes) (fec : FecReport) (w : Word),
    let n := f.length
    let body := f.take (n - 4)
    let u := s.countFec p.val k.val fec
    let on := s.clocked = true ∧ s.pdOn (20 + p.val) = true
    let old := s.reg (Reg.portCtl p.val)
    (s.linkWorks p.val k.val = false → exec (.frameReceive p k f fec) s = .next s ∧ exec (.frameTransmit p k) s = .next s) ∧
    (s.linkWorks p.val k.val = true → fec.uncorrectable = true → exec (.frameReceive p k f fec) s = .next u) ∧
    (s.linkWorks p.val k.val = true → fec.uncorrectable = false →
      (n < 64 → exec (.frameReceive p k f fec) s = .next (u.bump (Reg.linkCtr p.val k.val 4))) ∧
      (64 ≤ n → bits (u.reg (Reg.portMaxFrame p.val)) 13 0 < n → exec (.frameReceive p k f fec) s = .next (u.bump (Reg.linkCtr p.val k.val 8))) ∧
      (64 ≤ n → n ≤ bits (u.reg (Reg.portMaxFrame p.val)) 13 0 → f.drop (n - 4) ≠ leBytes 4 (fcs32 body) →
        exec (.frameReceive p k f fec) s = .next (u.bump (Reg.linkCtr p.val k.val 0xC))) ∧
      (64 ≤ n → n ≤ bits (u.reg (Reg.portMaxFrame p.val)) 13 0 → f.drop (n - 4) = leBytes 4 (fcs32 body) → rdBe body 12 2 = 0x8808 →
        exec (.frameReceive p k f fec) s = .next (u.bump (Reg.linkCtr p.val k.val 0x14))) ∧
      (64 ≤ n → n ≤ bits (u.reg (Reg.portMaxFrame p.val)) 13 0 → f.drop (n - 4) = leBytes 4 (fcs32 body) → rdBe body 12 2 ≠ 0x8808 →
        u.addressed p.val (body.take 6) = false → exec (.frameReceive p k f fec) s = .next (u.bump (Reg.linkCtr p.val k.val 0x10))) ∧
      (64 ≤ n → n ≤ bits (u.reg (Reg.portMaxFrame p.val)) 13 0 → f.drop (n - 4) = leBytes 4 (fcs32 body) → rdBe body 12 2 ≠ 0x8808 →
        u.addressed p.val (body.take 6) = true →
        exec (.frameReceive p k f fec) s = .next ((u.bump (Reg.linkCtr p.val k.val 0)).parseFrame p.val k.val body))) ∧
    (fec.corrected = 0 → fec.symbols = 0 → fec.uncorrectable = false → u = s) ∧
    (s.linkWorks p.val k.val = true → (s.port p.val).txq.getD k.val [] = [] → exec (.frameTransmit p k) s = .next s) ∧
    (∀ g more, s.linkWorks p.val k.val = true → (s.port p.val).txq.getD k.val [] = g :: more → ∃ t, exec (.frameTransmit p k) s = .next t ∧
      t.out = s.out ++ [.frame p.val k.val (macFrame (s.stationMac p.val) g)] ∧
      t.port p.val = { s.port p.val with txq := listSet (s.port p.val).txq k.val more } ∧ { t with lpt := s.lpt, out := s.out, regs := s.regs } = s) ∧
    (s.pdOn (20 + p.val) = true → s.glb.pll = true → s.portOn p.val = true → k.val < modeLinks (s.portMode p.val) → rxMapOk old = true →
      1 ≤ (s.port p.val).phases.getD k.val 0 → (s.port p.val).phases.getD k.val 0 ≤ 3 →
      exec (.linkUp p k) s = .next ((s.modPort p.val (fun x => { x with phases := listSet x.phases k.val 4 })).linkChanged p.val k.val)) ∧
    ((s.portOn p.val = false ∨ (s.port p.val).phases.getD k.val 0 = 4) → exec (.linkUp p k) s = .next s) ∧
    ((s.port p.val).phases.getD k.val 0 = 4 → exec (.linkDown p k) s = .next (s.linkFalls p.val k.val 2)) ∧
    ((s.port p.val).phases.getD k.val 0 ≠ 4 → exec (.linkDown p k) s = .next s) ∧
    (on → old.testBit 31 = true → w.getLsbD 31 = true → exec (.lptPortCtlWrite p w) s = .next (s.setReg (Reg.portCtl p.val)
      (setBits (setBits old (w.toNat / 2 ^ 31) 31 31) (w.toNat / 2 ^ 27) 27 27))) ∧
    (on → exec (.lptPortCtlWrite p w) s = .next (s.writePortCtl p.val w.toNat)) ∧ (¬on → exec (.lptPortCtlWrite p w) s = .next s) ∧
    (on → tapsOk w.toNat = true → exec (.lptTxeqWrite p k w) s = .next (s.setReg (Reg.laneTxEq p.val k.val) (w.toNat % 2 ^ 24))) ∧
    (tapsOk w.toNat = false → exec (.lptTxeqWrite p k w) s = .next s) ∧
    (∀ e : Fin 16, (on → exec (.localAddressWrite p e w) s = .next (s.writeAddress p.val e.val w)) ∧ (¬on → exec (.localAddressWrite p e w) s = .next s)) ∧
    (∃ t, exec .excLimitInterval s = .next t ∧ (∀ q, q < 2 → t.port q = { s.port q with admitted := 0 }) ∧ { t with lpt := s.lpt } = s)

/-- Delivery of exception frames, staged address words and a falling link (R28, R46, R75, R76, R82, R365, R375, R381). EXCEPTION_DELIVERY takes the
oldest waiting frame: with the exception ring disabled it is dropped and counted against that ring, else it is written to the ring when it has room
and counted as lost when not; with no frame waiting, or no clock, nothing changes. The last word of a local address entry makes the seven staged words
and itself the entry, and no other entry changes. A link that falls from phase 4 loses its queued frames, counts each, and its bit of LPT_INT is set.
-/
def Obligations.ExceptionsAndAddresses : Prop :=
  ∀ (s : State),
    (s.clocked = false ∨ s.lpt.exc = [] → exec .exceptionDelivery s = .next s) ∧
    (∀ x more, s.clocked = true → s.lpt.exc = x :: more → ∃ t, exec .exceptionDelivery s = .next t ∧ t.lpt.exc = more ∧ t.csn = s.csn ∧ t.jobs = s.jobs ∧
      (let u : State := { s with lpt := { s.lpt with exc := more } };
        ((s.ring 0 49).enable = false → t = u.ringLoss 0 49) ∧
        ((s.ring 0 49).enable = true → t = (u.writeData 0 49 x.frame (fun off => rxEntry x.reason false x.port 0 x.vi 0 off x.frame.length s.time)).getD
          (u.ringLoss 0 49)))) ∧
    (∀ (p : Fin 2) (e : Fin 16) (w : Word), let t := s.writeAddress p.val e.val w;
      SMap.get wordDef (e.val * 8 + 7) (t.port p.val).addr = w ∧
      (∀ k, k < 7 → SMap.get wordDef (e.val * 8 + k) (t.port p.val).addr =
        (KMap.get (e.val * 8 + k) (s.port p.val).staged).getD (SMap.get wordDef (e.val * 8 + k) (s.port p.val).addr)) ∧
      (∀ i, i / 8 ≠ e.val → SMap.get wordDef i (t.port p.val).addr = SMap.get wordDef i (s.port p.val).addr) ∧ { t with lpt := s.lpt } = s) ∧
    (∀ (p : Fin 2) (k : Fin 4), (s.port p.val).phases.getD k.val 0 = 4 → (s.port p.val).phases.length = 4 → (s.port p.val).txq.length = 4 →
      let t := s.linkFalls p.val k.val 2;
      (t.port p.val).phases.getD k.val 0 = 2 ∧ (t.port p.val).txq.getD k.val [] = [] ∧ (t.reg Reg.lptInt).testBit (4 * p.val + k.val) = true ∧
      { t with lpt := s.lpt, regs := s.regs, out := s.out } = s)

/-- The inline handshake: intake, cookie key, PENDING, ESTABLISHED, failure (R15, R16, R17, R18, R22, R82, R105, R391, R398, R404, R440).
HANDSHAKE_INTAKE takes the oldest waiting frame: a standby or not running VI counts and drops it, what is no ClientHello goes to the exception ring, a
ClientHello without a valid cookie is answered and leaves no state, one with it starts a handshake. COOKIE_KEY_ROTATION replaces the cookie key and
keeps the old one. SESSION_PENDING writes the entry when the peer's key exchange is signed and the suite is allowed, and gives up the handshake
without a free index. SESSION_ESTABLISHED of a PENDING entry whose client Finished verifies takes effect at once while unpaired. HANDSHAKE_FAILED acts
on a PENDING entry alone. -/
def Obligations.Handshakes : Prop :=
  ∀ (s : State) (i : BitVec 24) (h : Nat) (suite : BitVec 16) (alert : Byte),
    let k := i.toNat
    (s.serving = false → exec .handshakeIntake s = .next s ∧ exec .cookieKeyRotation s = .next s ∧ exec (.sessionPending h suite) s = .next s ∧
      exec (.sessionEstablished i) s = .next s ∧ exec (.handshakeFailed i alert) s = .next s) ∧
    (s.lpt.intake = [] → exec .handshakeIntake s = .next s) ∧
    (∀ x more, s.serving = true → s.lpt.intake = x :: more →
      let u : State := { s with lpt := { s.lpt with intake := more } };
      (u.standby x.vi = true → exec .handshakeIntake s = .next (u.bump (Reg.spn 0x220))) ∧
      (u.standby x.vi = false → (u.viFrozen x.vi = true ∨ (u.vi x.vi).state ≠ .running) → exec .handshakeIntake s = .next (u.bump Reg.vimHsDrop)) ∧
      (∀ d r policy, u.standby x.vi = false → u.viFrozen x.vi = false → (u.vi x.vi).state = .running → (parseEth x.frame).parse = .ip d →
        KMap.get x.rule u.cwy.rules = some r → KMap.get (rd r 6 1) (u.vi x.vi).policies = some policy →
        (parseHello d.payload = none → exec .handshakeIntake s = .next (u.toException x.port 5 x.vi x.frame)) ∧
        (∀ c, parseHello d.payload = some c → u.cookieOk (pathOf (parseEth x.frame) d) c.cookie = false →
          exec .handshakeIntake s = .next (u.sendUdp x.port 0 d.v6 (pathOf (parseEth x.frame) d) (u.helloRetry policy (pathOf (parseEth x.frame) d) c))) ∧
        (∀ c share key, parseHello d.payload = some c → u.cookieOk (pathOf (parseEth x.frame) d) c.cookie = true → chosenShare policy c = some share →
          (chosenSuite policy c).isSome = true → u.key (rd policy 16 4) = some key → c.schemes.contains (serverScheme key.alg) = true →
          exec .handshakeIntake s = .next (u.acceptHello x policy d.v6 (pathOf (parseEth x.frame) d) c share)))) ∧
    (∀ q, s.serving = true → KMap.get 8 s.csn.keys = some q → ∃ t, exec .cookieKeyRotation s = .next t ∧
      KMap.get 8 t.csn.keys = some { q with value := drawBytes s.draws 32, kgen := q.kgen + 1 } ∧ t.csn.oldCookie = q.value ∧
      (∀ n, n ≠ 8 → KMap.get n t.csn.keys = KMap.get n s.csn.keys) ∧ t.draws = s.draws + 1 ∧ t.cwy = s.cwy ∧ t.out = s.out ∧ t.jobs = s.jobs) ∧
    (∀ y, s.serving = true → KMap.get h s.cwy.hs = some y →
      ((y.session.isSome = true ∨ y.signed = false ∨ (policySuites y.policy).contains suite.toNat = false) → exec (.sessionPending h suite) s = .next s) ∧
      (y.session = none → y.signed = true → (policySuites y.policy).contains suite.toNat = true →
        (s.freeIndex y.vi = none → exec (.sessionPending h suite) s = .next (s.delHs h)) ∧
        (∀ n, s.freeIndex y.vi = some n → exec (.sessionPending h suite) s = .next (s.writePending h y suite.toNat n).sweepRekey))) ∧
    (∀ x n y, s.serving = true → s.session k = some x → s.hsOf k = some (n, y) →
      ((x.state ≠ 1 ∨ x.twinWait = true ∨ finishedOk x = false) → exec (.sessionEstablished i) s = .next s) ∧
      (x.state = 1 → x.twinWait = false → finishedOk x = true → s.entryWaits = false → exec (.sessionEstablished i) s = .next (s.finishEstablish k)) ∧
      (x.state = 1 → x.twinWait = false → finishedOk x = true → s.entryWaits = true → exec (.sessionEstablished i) s = .next
        ((s.setSession k { x with twinWait := true }).mirror (.established k) [sessionItem k (s.establishedEntry x y.policy)]))) ∧
    ((s.session k = none ∨ s.hsOf k = none) → exec (.sessionEstablished i) s = .next s) ∧ (s.session k = none → exec (.handshakeFailed i alert) s = .next s) ∧
    (KMap.get h s.cwy.hs = none → exec (.sessionPending h suite) s = .next s) ∧ (KMap.get 8 s.csn.keys = none → exec .cookieKeyRotation s = .next s) ∧
    (∀ x, s.serving = true → s.session k = some x →
      (x.state ≠ 1 → exec (.handshakeFailed i alert) s = .next s) ∧
      (x.state = 1 → exec (.handshakeFailed i alert) s = .next (s.failHandshake k alert.toNat)))

/-- Received records: slots, checks 4 and 5, lanes, verdicts, held records (R392, R394, R395, R397, R400, R403, R404, R406, R422, R427, R429).
CWY_SLOT_ISSUE without work changes nothing, and a port with the only work gives its oldest record a place in the pipeline. DTLS_RECORD_RECEIVE and
ESP_PACKET_RECEIVE take the oldest record of their kind through checks 2 to 5, and its session's head is looked up. A verdict is given to the oldest
record of the session that its lane has decided: a tag failure drops it and counts TAG_FAIL, else checks 7 and 8 follow. LANE_TAKE_JOB of the lane
with the least to run takes the next work; LANE_JOB_COMPLETE decides a record by its tag. HELD_RECORD_RELEASE of an entry without held records changes
nothing. -/
def Obligations.RecordPath : Prop :=
  ∀ (s : State) (i : BitVec 24) (l : Fin 8),
    let k := i.toNat
    (s.clocked = false → exec .cwySlotIssue s = .next s ∧ exec .dtlsRecordReceive s = .next s ∧ exec .espPacketReceive s = .next s ∧
      exec (.laneTakeJob l) s = .next s ∧ exec (.dtlsRecordVerdict i) s = .next s ∧ exec (.espPacketVerdict i) s = .next s ∧
      exec (.heldRecordRelease i) s = .next s) ∧
    (s.slotWork 0 = false → s.slotWork 1 = false → s.slotWork 4 = false → exec .cwySlotIssue s = .next s) ∧
    (∀ p, p < 2 → s.clocked = true → s.slotWork p = true → s.slotWork (1 - p) = false → s.slotWork 4 = false →
      exec .cwySlotIssue s = .next (((s.takeSlots p 1).getD s).receiveSlot p)) ∧
    (∀ j x, s.clocked = true → s.slotWork 0 = false → s.slotWork 1 = false → s.nextLookaside = some (j, x) → dOp x.desc ≠ 0x0505 →
      exec .cwySlotIssue s = .next (((s.takeSlots 4 1).getD s).lookasideSlot j x)) ∧
    (∀ n r, s.clocked = true → s.nextRec 1 = some (n, r) → exec .dtlsRecordReceive s = .next (s.dtlsReceive n r).settleDrains) ∧
    (∀ n r x, s.session r.session = some x → x.state ≠ 1 → x.state ≠ 2 → s.dtlsReceive n r = (s.touchHead r.session).dropRec n Reg.headerDrop) ∧
    (∀ n r x, s.session r.session = some x → (x.state = 1 ∨ x.state = 2) → parseDtls r.data = none →
      s.dtlsReceive n r = (s.touchHead r.session).dropRest n r) ∧
    (∀ n r x h, s.session r.session = some x → (x.state = 1 ∨ x.state = 2) → parseDtls r.data = some h → h.cid = x.cid r.session →
      h.hdrLen + h.len ≤ r.data.length → 17 ≤ h.len → h.len ≤ x.maxPlaintext + 272 → x.slotFor (rd r.data 0 1 % 4) = none →
      s.dtlsReceive n r = (s.touchHead r.session).dropRec n Reg.epochMiss) ∧
    (∀ n r, s.clocked = true → s.nextRec 2 = some (n, r) → exec .espPacketReceive s = .next (s.espReceive n r).settleDrains) ∧
    (∀ n r x, s.session r.session = some x → (x.state ≠ 2 ∨ r.data.length < 34) →
      s.espReceive n r = (s.touchHead r.session).dropRec n Reg.headerDrop) ∧
    (∀ n r x, s.session r.session = some x → x.state = 2 → 34 ≤ r.data.length → rdBe r.data 0 4 = x.rx.spi → x.esn = false → rdBe r.data 4 4 ≠ 0 →
      x.rx.admits (rdBe r.data 4 4) = false →
      ∃ y : Rec, s.espReceive n r = (((s.touchHead r.session).bodyRead x y).dropRec n Reg.replayDrop) ∧ y.recnum = rdBe r.data 4 4 ∧ y.slot = x.rx.slot) ∧
    (∀ n r x, s.clocked = true → s.decidedRec k 1 = some (n, r, x) →
      (r.stage = 4 → exec (.dtlsRecordVerdict i) s = .next (s.tagFails n r).sweepRekey.settleDrains) ∧
      (r.stage ≠ 4 → exec (.dtlsRecordVerdict i) s = .next (s.dtlsVerdict k n r x).sweepRekey.settleDrains)) ∧
    (∀ n r x, s.clocked = true → s.decidedRec k 2 = some (n, r, x) →
      (r.stage = 4 → exec (.espPacketVerdict i) s = .next (s.tagFails n r).sweepRekey.settleDrains) ∧
      (r.stage ≠ 4 → exec (.espPacketVerdict i) s = .next (s.espVerdict k n r x).sweepRekey.settleDrains)) ∧
    (s.decidedRec k 1 = none → exec (.dtlsRecordVerdict i) s = .next s) ∧ (s.decidedRec k 2 = none → exec (.espPacketVerdict i) s = .next s) ∧
    (∀ x, s.session k = some x → x.held = [] → exec (.heldRecordRelease i) s = .next s) ∧
    (∀ x q more, s.session k = some x → x.held = q :: more → s.clocked = true → x.state = 2 → (s.ring x.vi (16 + x.rx.ring)).enable = true →
      let y := { x with held := more, rx := { x.rx with creditUsed := x.rx.creditUsed - 1 } };
      exec (.heldRecordRelease i) s = .next (((s.setSession k y).postRecord k y q).getD s).sweepRekey) ∧
    (s.chosenLane ≠ some l.val → exec (.laneTakeJob l) s = .next s) ∧ (s.nextLaneWork = none → exec (.laneTakeJob l) s = .next s) ∧
    (∀ w n, s.clocked = true → s.chosenLane = some l.val → s.nextLaneWork = some (w, n) → w.isRec = true → (s.lane l.val).state = .run →
      exec (.laneTakeJob l) s = .next ((((({ s with lne := { n with queue := n.queue.filter (fun y => decide (y.tag ≠ w.tag)) } } : State).modLane l.val
        (fun x => { x with work := x.work ++ [w] })).modRec w.id (fun r => { r with stage := 2 }))).modLane l.val (fun x => { x with state := .run }))) ∧
    (∀ w more r, s.clocked = true → (s.lane l.val).state = .run → (s.lane l.val).work = w :: more → w.isRec = true → s.rxRec w.id = some r →
      exec (.laneJobComplete l true) s = .next ((((s.popLane l.val).modRec w.id
        (fun y => { y with stage := if ((s.session r.session).map r.tagVerifies).getD false then 3 else 4, stamp := s.time })).laneEnds l.val).settleDrains) ∧
      exec (.laneJobComplete l false) s = .next ((s.popLane l.val).laneFault l.val w false).settleDrains) ∧
    (∀ w more x, s.clocked = true → (s.lane l.val).state = .run → (s.lane l.val).work = w :: more → w.isRec = false → s.job w.id = some x →
      x.abortBy = none → x.stage = .computed →
      exec (.laneJobComplete l true) s = .next (((s.popLane l.val).finishJob w.id x.result []).laneEnds l.val).settleDrains) ∧
    (∀ agree, (s.lane l.val).state ≠ .run → exec (.laneJobComplete l agree) s = .next s.settleDrains)

/-- Key updates, limits, checkpoints, transmit entries, send leases, the redundant lane (R76, R77, R410, R412, R414, R415, R416, R417, R420, R428).
PEER_KEYUPDATE of an established entry puts the next receive epoch's keys into its alternate slot and acknowledges, PEER_KEYUPDATE_ACK puts the next
transmit epoch in use, KEYUPDATE_TIMEOUT sends KeyUpdate again up to KU_RETRIES, then removes the session. EPOCH2_HOLD_EXPIRY empties the alternate
slot of epoch 2, SESSION_TIME_LIMIT removes an entry past its hard time. TRANSMIT_ENTRY_FETCH rejects an entry with the first failing check, and
stalls one without a leased number. SEND_LEASE_GRANT makes the requested lease usable. LANE_SPARE_READY puts a lane that passed on duty, and retires
it otherwise. -/
def Obligations.SessionTimersAndTransmit : Prop :=
  ∀ (s : State) (i : BitVec 24),
    let k := i.toNat
    (s.session k = none → exec (.peerKeyupdate i) s = .next s ∧ exec (.peerKeyupdateAck i) s = .next s ∧ exec (.keyupdateTimeout i) s = .next s ∧
      exec (.epoch2HoldExpiry i) s = .next s ∧ exec (.sessionTimeLimit i) s = .next s ∧ exec (.checkpointDue i) s = .next s ∧
      exec (.sendLeaseGrant i) s = .next s) ∧
    (∀ x num msg more, s.clocked = true → s.session k = some x → x.inbox = (num, 22, msg) :: more → x.state = 2 → rd msg 0 1 = 24 →
      (∀ p ∈ s.spn.waits, p.2 ≠ .altKeys k) →
      (x.altValid = true → x.alt.id = x.rx.epoch + 1 → exec (.peerKeyupdate i) s = .next ((s.setSession k { x with inbox := more }).sendAck k num)) ∧
      (¬(x.altValid = true ∧ x.alt.id = x.rx.epoch + 1) → 65535 ≤ x.rx.epoch → exec (.peerKeyupdate i) s = .next (s.limitSession k 3).sweepRekey) ∧
      (¬(x.altValid = true ∧ x.alt.id = x.rx.epoch + 1) → x.rx.epoch < 65535 → s.entryWaits = false → exec (.peerKeyupdate i) s = .next
        ((s.setSession k { x with altValid := true, alt := { id := x.rx.epoch + 1, slot := nextSlot x.alg x.rx.slot, floor := 0 }, inbox := more }).sendAck k num))) ∧
    (∀ x num msg more, s.clocked = true → s.session k = some x → x.inbox = (num, 26, msg) :: more → x.state = 2 → x.tx.kuWait = true →
      (∀ p ∈ s.spn.waits, p.2 ≠ .txKeys k) → s.entryWaits = false →
      exec (.peerKeyupdateAck i) s = .next ((s.setSession k { x with inbox := more }).applyTxKeys k)) ∧
    (∀ x, s.session k = some x → x.inbox = [] → exec (.peerKeyupdate i) s = .next s ∧ exec (.peerKeyupdateAck i) s = .next s) ∧
    (∀ x, s.clocked = true → s.session k = some x →
      (x.tx.kuWait = false → exec (.keyupdateTimeout i) s = .next s) ∧
      (x.tx.kuWait = true → s.timersRun x.vi = true → bits (s.reg Reg.cwyCtl) 23 20 ≤ x.tx.kuTries →
        exec (.keyupdateTimeout i) s = .next (s.removeSession k 5).sweepRekey) ∧
      (x.tx.kuWait = true → s.timersRun x.vi = true → x.tx.kuTries < bits (s.reg Reg.cwyCtl) 23 20 →
        exec (.keyupdateTimeout i) s = .next ((s.setSession k { x with tx := { x.tx with kuTries := x.tx.kuTries + 1 } }).sendKeyUpdate k x.tx.kuHost))) ∧
    (∀ x, s.session k = some x →
      (x.kind = 1 → x.state = 2 → x.altValid = true → x.alt.id = 2 → s.timersRun x.vi = true → x.estS + bits (s.reg Reg.cwyCtl) 31 24 ≤ s.second →
        exec (.epoch2HoldExpiry i) s = .next (s.setSession k { x with altValid := false, alt := { id := 0, slot := KeySlot.empty, floor := 0 } })) ∧
      ((x.kind ≠ 1 ∨ x.altValid = false ∨ x.alt.id ≠ 2) → exec (.epoch2HoldExpiry i) s = .next s) ∧
      (x.hardAtS ≠ 0 → x.hardAtS ≤ s.second → s.timersRun x.vi = true → exec (.sessionTimeLimit i) s = .next (s.limitSession k 2).sweepRekey) ∧
      ((x.hardAtS = 0 ∨ s.second < x.hardAtS ∨ s.timersRun x.vi = false) → exec (.sessionTimeLimit i) s = .next s) ∧
      (x.rx.ckptCount ≠ 0 → s.timersRun x.vi = true → exec (.checkpointDue i) s = .next (s.sendCheckpoint k x.rx.top)) ∧
      (x.rx.ckptCount = 0 → exec (.checkpointDue i) s = .next s) ∧
      (x.tx.leaseReq = false → exec (.sendLeaseGrant i) s = .next s) ∧
      (∀ y, x.tx.leaseReq = true → (s.paired = false ∨ s.lone = true ∨ x.tx.leaseAck = true) → s.grantSend x = some y →
        exec (.sendLeaseGrant i) s = .next (s.setSession k y) ∧ y.tx.leaseReq = false ∧ y.tx.leaseEnd = s.leaseStart x.base x.tx.leaseEnd + 65536)) ∧
    (∀ (v : Fin 256) (ring : Fin 16) entry message,
      let r := s.ring v.val (32 + ring.val)
      let read := s.emit (.hostRead v.val (s.via v.val) (r.baseA.toNat + 32 * r.fetchIdx) 32)
      ((s.clocked = false ∨ r.enable = false ∨ r.dist r.fetchIdx r.tail = 0 ∨ s.viFetches v.val = false) →
        exec (.transmitEntryFetch v ring entry message) s = .next s) ∧
      (s.clocked = true → r.enable = true → r.dist r.fetchIdx r.tail ≠ 0 → s.viFetches v.val = true →
        (exec (.transmitEntryFetch v ring none message) s = .next
          ((read.modRing v.val (32 + ring.val) (fun x => { x with enable := false })).ringError v.val 9 2 ring.val 0)) ∧
        (∀ raw st, s.txRefused v.val (padTo 32 raw) = some st →
          exec (.transmitEntryFetch v ring (some raw) message) s = .next (read.txReject v.val ring.val (padTo 32 raw) st)) ∧
        (∀ raw x, s.txRefused v.val (padTo 32 raw) = none → s.session (rd (padTo 32 raw) 4 4) = some x →
          (x.tx.leaseEnd ≤ x.tx.seq → exec (.transmitEntryFetch v ring (some raw) message) s = .next
            ((s.txStall (rd (padTo 32 raw) 4 4) x).requestLease (rd (padTo 32 raw) 4 4))) ∧
          (∀ t, x.tx.seq < x.tx.leaseEnd → read.takeSlots (2 + x.port) 1 = some t → exec (.transmitEntryFetch v ring (some raw) message) s = .next
            ((t.touchHead (rd (padTo 32 raw) 4 4)).txTake v.val ring.val (rd (padTo 32 raw) 4 4) x (padTo 32 raw) message))))) ∧
    (∀ l : Fin 8, ((s.lane l.val).state ≠ .selftest ∨ s.hasToken 1 l.val = false → ∀ passed, exec (.laneSpareReady l passed) s = .next s) ∧
      ((s.lane l.val).state = .selftest → s.hasToken 1 l.val = true →
        let n : Lne := { s.lne with onDuty := s.lne.onDuty ||| 2 ^ l.val, spare := s.lne.spare - bitAt l.val (s.lne.spare.testBit l.val) };
        exec (.laneSpareReady l true) s = .next ((({ s with lne := n } : State).modLane l.val (fun x => { x with state := .idle })).ackLanes) ∧
        exec (.laneSpareReady l false) s = .next (((s.report uLane l.val 0x07).retireLane l.val false).bringLane)))

/-- Entropy sources, DRBG and raw capture (R504, R505, R507, R508, R509, R510, R513). Before the entropy unit is ready its events change nothing. A
health failure counts in its counter and takes a source in service out of it, its third one disables it (with room in the pending table, so that
nothing escalates). A retest that passes returns a source that awaits it, and ends NO_ENTROPY with a reseed; other sources ignore it. A conditioned
block adds one to a reserve below 4. A DRBG request serves the lowest priority number first. A write of ENT_RAW_CTL outside the states that allow it
changes nothing. None of these effects touches keys, jobs or sessions. -/
def Obligations.EntropyCommands : Prop :=
  ∀ (s : State) (b adaptive passed : Bool) (w : Word),
    (s.ent.ready = false → exec (.entHealthFailure b adaptive) s = .next s ∧ exec (.entRetest b passed) s = .next s ∧ exec .entBlockConditioned s = .next s) ∧
    (s.ent.ready = true → exec (.entHealthFailure b adaptive) s = .next ((s.bump (if adaptive then Reg.entAptFail else Reg.entRctFail)).sourceFails b false)) ∧
    (s.ent.ready = true → s.ent.stateOf b = 0 → s.fcl.pending.length < 31 → ∃ t, exec (.entHealthFailure b adaptive) s = .next t ∧
      t.ent.stateOf b = (if s.ent.failsOf b < 2 then 1 else 2) ∧ t.ent.failsOf b = satAdd 8 (s.ent.failsOf b) 1 ∧ t.csn = s.csn ∧ t.jobs = s.jobs ∧ t.cwy = s.cwy) ∧
    (s.ent.ready = true → s.ent.stateOf b = 2 → ∃ t, exec (.entHealthFailure b adaptive) s = .next t ∧ t.ent.failsOf b = satAdd 8 (s.ent.failsOf b) 1 ∧
      t.ent.stateOf b = 2 ∧ t.ent.stateOf (!b) = s.ent.stateOf (!b) ∧ t.fcl = s.fcl ∧ t.out = s.out ∧ { t with ent := s.ent, regs := s.regs } = s) ∧
    (s.ent.ready = true → s.ent.stateOf b ≠ 1 → exec (.entRetest b passed) s = .next s) ∧
    (s.ent.ready = true → s.ent.stateOf b = 1 → exec (.entRetest b false) s = .next ((s.disableSource b false).checkEntropy) ∧
      ∃ t, exec (.entRetest b true) s = .next t ∧ t.ent.stateOf b = 0 ∧ (s.ent.noEntropy = true → t.ent.noEntropy = false ∧ t.ent.drbgOk = true) ∧
        t.csn = s.csn ∧ t.jobs = s.jobs ∧ t.cwy = s.cwy) ∧
    (s.ent.ready = true → s.ent.reserve < 4 → s.ent.noEntropy = false → ∃ t, exec .entBlockConditioned s = .next t ∧ t.ent = { s.ent with reserve := s.ent.reserve + 1 } ∧
      { t with ent := s.ent, regs := s.regs } = s) ∧
    ((4 ≤ s.ent.reserve ∨ s.ent.noEntropy = true) → exec .entBlockConditioned s = .next s) ∧
    (s.ent.drbgOk = true → exec .drbgReseed s = .next s.reseed) ∧ (s.ent.drbgOk = false → exec .drbgReseed s = .next s ∧ exec .drbgRequest s = .next s) ∧
    (∀ u, s.ent.drbgOk = true → nextRequest s.ent.waiting = some u → ∃ t, exec .drbgRequest s = .next t ∧ t.ent.waiting = s.ent.waiting.erase u ∧
      t.draws = s.draws + 1 ∧ t.csn = s.csn ∧ t.jobs = s.jobs ∧ t.cwy = s.cwy) ∧
    (s.ent.drbgOk = true → s.ent.waiting = [] → exec .drbgRequest s = .next s) ∧
    ((s.rawAllowed = false ∨ s.glb.dev ≠ .ready) → exec (.entRawCtlWrite w) s = .next s) ∧
    (s.rawAllowed = true → s.glb.dev = .ready → ∃ t, exec (.entRawCtlWrite w) s = .next t ∧ t.ent.sourceB = w.getLsbD 30 ∧
      (w.getLsbD 31 = false → t.ent.capture = false) ∧ (t.ent.capture = true → t.ent.stateOf (!t.ent.sourceB) = 0) ∧ { t with ent := s.ent } = s)

/-- The SPDM responder: negotiation, chain, signatures, sessions (R478, R481, R555). Outside READY nothing is answered. GET_VERSION starts over and
ends the sessions. A request after the negotiation with another version, too short, or before the negotiation is answered with an ERROR and changes no
state but the outputs. CHALLENGE and signed GET_MEASUREMENTS need DEV_ID_ECDSA and the DRBG. KEY_EXCHANGE takes a third session with Busy. FINISH,
HEARTBEAT, KEY_UPDATE and END_SESSION act on the session they name, and answer InvalidSession where it is not there. The message codes and layouts are
the model's presumption (assumption log 58). -/
def Obligations.SpdmRequests : Prop :=
  ∀ (s : State) (r : Bytes) (k : Nat),
    let d := s.doe
    let ready := s.glb.dev = .ready
    (¬ready → exec (.getVersion r) s = .next s ∧ exec (.getCapabilities r) s = .next s ∧ exec (.negotiateAlgorithms r) s = .next s ∧
      exec (.getDigests r) s = .next s ∧ exec (.getCertificate r) s = .next s ∧ exec (.challenge r) s = .next s ∧ exec (.getMeasurements r) s = .next s ∧
      exec (.keyExchange r) s = .next s ∧ exec (.finish k r) s = .next s ∧ exec (.heartbeat k) s = .next s ∧ exec (.keyUpdate k r) s = .next s ∧
      exec (.endSession k) s = .next s) ∧
    (ready → rd r 1 1 = 0x84 → rd r 0 1 = 0x10 → ∃ t, exec (.getVersion r) s = .next t ∧ t.doe.phase = .version ∧ t.doe.sessions = [] ∧ t.doe.keys = d.keys ∧
      t.out.length = s.out.length + 1 ∧ { t with doe := d, out := s.out } = s) ∧
    (ready → rd r 1 1 = 0xE1 → d.phase ≠ .version → exec (.getCapabilities r) s = .next (s.spdmError 0x04)) ∧
    (ready → rd r 1 1 = 0xE1 → d.phase = .version → rd r 0 1 = 0x12 → 20 ≤ r.length → ∃ t, exec (.getCapabilities r) s = .next t ∧
      t.doe.phase = .capabilities ∧ t.doe.version = 0x12 ∧ { t with doe := d, out := s.out } = s) ∧
    (ready → rd r 1 1 = 0xE3 → d.phase = .capabilities → rd r 0 1 = d.version → 32 ≤ r.length → (rd r 8 4).testBit 7 = true → (rd r 12 4).testBit 1 = true →
      ∃ t, exec (.negotiateAlgorithms r) s = .next t ∧ t.doe.phase = .negotiated ∧ t.doe.version = d.version ∧ { t with doe := d, out := s.out } = s) ∧
    (∀ e ∈ [(0x81, 4, Instr.getDigests r), (0x82, 8, .getCertificate r), (0x83, 36, .challenge r), (0xE0, 4, .getMeasurements r), (0xE4, 138, .keyExchange r)],
      ready → rd r 1 1 = e.1 → (rd r 0 1 ≠ d.version → exec e.2.2 s = .next (s.spdmError 0x41)) ∧
        (rd r 0 1 = d.version → (r.length < e.2.1 → exec e.2.2 s = .next (s.spdmError 0x01)) ∧
          (e.2.1 ≤ r.length → d.phase ≠ .negotiated → exec e.2.2 s = .next (s.spdmError 0x04)))) ∧
    (∀ c, { s.spdmError c with out := s.out } = s) ∧
    (ready → d.phase = .negotiated → rd r 0 1 = d.version →
      (rd r 1 1 = 0x81 → 4 ≤ r.length → ∃ m, exec (.getDigests r) s = .next (s.certReply r m) ∧ m.length = if s.spdmChain = [] then 4 else 4 + (sha384 s.spdmChain).length) ∧
      (rd r 1 1 = 0x82 → 8 ≤ r.length → bits (rd r 2 1) 3 0 = 0 → rd r 4 2 < s.spdmChain.length →
        let part := slice s.spdmChain (rd r 4 2) (rd r 6 2);
        exec (.getCertificate r) s = .next (s.certReply r (octets [d.version, 0x02, 0, 0] ++ leBytes 2 part.length ++
          leBytes 2 (s.spdmChain.length - rd r 4 2 - part.length) ++ part))) ∧
      (rd r 1 1 = 0x83 → 36 ≤ r.length → rd r 2 1 = 0 → rd r 3 1 = 0 → s.canSign = false → exec (.challenge r) s = .next s.signRefused) ∧
      (∀ h, rd r 1 1 = 0x83 → 36 ≤ r.length → rd r 2 1 = 0 → s.summaryHash (rd r 3 1) = some h → s.canSign = true → ∃ t, exec (.challenge r) s = .next t ∧
        t.doe = { d with certMsgs := [] } ∧ t.draws = s.draws + 2 ∧ t.csn = s.csn ∧ t.jobs = s.jobs) ∧
      (rd r 1 1 = 0xE0 → 4 ≤ r.length → rd r 2 1 = 0 → rd r 3 1 = 0xFF → s.ent.drbgOk = true → ∃ t, exec (.getMeasurements r) s = .next t ∧
        t.doe.sessions = d.sessions ∧ t.draws = s.draws + 1 ∧ t.csn = s.csn ∧ t.jobs = s.jobs) ∧
      (rd r 1 1 = 0xE0 → 37 ≤ r.length → rd r 2 1 = 1 → rd r 3 1 = 0 → rd r 36 1 = 0 → s.canSign = false → exec (.getMeasurements r) s = .next s.signRefused) ∧
      (rd r 1 1 = 0xE4 → 138 ≤ r.length → d.freeSession = none → exec (.keyExchange r) s = .next (s.spdmError 0x03)) ∧
      (∀ n h, rd r 1 1 = 0xE4 → 138 ≤ r.length → d.freeSession = some n → s.summaryHash (rd r 2 1) = some h → d.version ≠ 0x10 → rd r 3 1 = 0 →
        pointDefect 0x0712 (4 :: slice r 40 96) = none → s.canSign = true → ∃ t x, exec (.keyExchange r) s = .next t ∧
        t.doe.sessions = KMap.put n x d.sessions ∧ x.isOpen = false ∧ t.csn = s.csn ∧ t.jobs = s.jobs)) ∧
    (ready → KMap.get k d.sessions = none → exec (.finish k r) s = .next (s.spdmError 0x02) ∧ exec (.heartbeat k) s = .next (s.spdmError 0x02) ∧
      exec (.keyUpdate k r) s = .next (s.spdmError 0x02) ∧ exec (.endSession k) s = .next (s.spdmError 0x02)) ∧
    (∀ x, ready → KMap.get k d.sessions = some x →
      (x.isOpen = true → ∃ t, exec (.heartbeat k) s = .next t ∧ t.out = s.out ++ [.secured k (octets [d.version, 0x68, 0, 0])] ∧
        KMap.get k t.doe.sessions = some { x with reqSeq := x.reqSeq + 1, rspSeq := x.rspSeq + 1 } ∧ { t with doe := d, out := s.out } = s) ∧
      (x.isOpen = true → ∃ t, exec (.endSession k) s = .next t ∧ KMap.get k t.doe.sessions = none ∧
        t.out = s.out ++ [.secured k (octets [d.version, 0x6C, 0, 0])] ∧ { t with doe := d, out := s.out } = s) ∧
      (x.isOpen = true → d.wellMade 0xE9 4 r = true → rd r 2 1 = 1 → ∃ t y, exec (.keyUpdate k r) s = .next t ∧ KMap.get k t.doe.sessions = some y ∧
        y.reqGen = x.reqGen + 1 ∧ y.rspGen = x.rspGen ∧ y.reqSeq = 0 ∧ { t with doe := d, out := s.out } = s) ∧
      (x.isOpen = false → exec (.heartbeat k) s = .next (s.spdmError 0x02)) ∧
      (x.isOpen = false → d.wellMade 0xE5 52 r = true → ∃ t, exec (.finish k r) s = .next t ∧ { t with doe := d, out := s.out } = s ∧
        (checkStd .finished 0x0A02 0 [x.secret, x.record ++ r.take 4, slice r 4 48] = false → KMap.get k t.doe.sessions = none) ∧
        (checkStd .finished 0x0A02 0 [x.secret, x.record ++ r.take 4, slice r 4 48] = true → ∃ y, KMap.get k t.doe.sessions = some y ∧ y.isOpen = true)))

/-- IDE keys and TEE device interfaces (R554, R556, R557, R559, R560). Without an open session of its number none of them acts. KEY_PROG stores a key
of 40 B for a key set that is not in use, K_SET_GO uses a stored one in place of the other set, K_SET_STOP ends its use and deletes the key.
LOCK_INTERFACE_REQUEST of an unlocked TDI of an enabled VF binds it to a selective stream whose keys are all in use, and answers a new nonce; START
with that nonce sets it running, once; STOP of a locked or running one starts a VI reset. The PF and a VF that is not enabled are no interface.
Message layouts are the model's presumption (assumption log 58). -/
def Obligations.IdeAndTdisp : Prop :=
  ∀ (s : State) (k : Nat) (v : Fin 256) (stream : Fin 5) (set tx : Bool) (sub : Fin 3) (key : Bytes) (port off len : Nat),
    let p := idePlace stream.val tx sub.val set
    (s.glb.dev ≠ .ready → exec (.ideKmQuery k port) s = .next s ∧ exec (.keyProg k stream set tx sub key) s = .next s ∧
      exec (.kSetGo k stream set tx sub) s = .next s ∧ exec (.kSetStop k stream set tx sub) s = .next s ∧ exec (.getTdispVersion k v) s = .next s ∧
      exec (.getTdispCapabilities k v) s = .next s ∧ exec (.lockInterfaceRequest k v stream) s = .next s ∧
      exec (.getDeviceInterfaceReport k v off len) s = .next s ∧ exec (.getDeviceInterfaceState k v) s = .next s ∧
      exec (.startInterfaceRequest k v key) s = .next s ∧ exec (.stopInterfaceRequest k v) s = .next s) ∧
    (s.glb.dev = .ready → (∀ x, KMap.get k s.doe.sessions = some x → x.isOpen = false) →
      ∀ c ∈ [Instr.ideKmQuery k port, .keyProg k stream set tx sub key, .kSetGo k stream set tx sub, .kSetStop k stream set tx sub, .getTdispVersion k v,
          .getTdispCapabilities k v, .lockInterfaceRequest k v stream, .getDeviceInterfaceReport k v off len, .getDeviceInterfaceState k v,
          .startInterfaceRequest k v key, .stopInterfaceRequest k v], exec c s = .next (s.spdmError 0x02)) ∧
    (∀ x, s.glb.dev = .ready → KMap.get k s.doe.sessions = some x → x.isOpen = true →
      let y := { x with reqSeq := x.reqSeq + 1, rspSeq := x.rspSeq + 1 }
      let t := s.withDoe { s.doe with sessions := KMap.put k y s.doe.sessions }
      (exec (.ideKmQuery k port) s = .next (t.ideAnswer k (octets [1, 0, port, 0, 0, 0, 0] ++ leBytes 4 (0x43 + 3 * 2 ^ 16)))) ∧
      (key.length = 40 → s.doe.going.contains p = false → ∃ u, exec (.keyProg k stream set tx sub key) s = .next u ∧
        u.doe = { t.doe with keys := KMap.put p key s.doe.keys } ∧ { u with doe := s.doe, out := s.out } = s) ∧
      ((key.length ≠ 40 ∨ s.doe.going.contains p = true) → ∃ u, exec (.keyProg k stream set tx sub key) s = .next u ∧ u.doe = t.doe ∧
        { u with doe := s.doe, out := s.out } = s) ∧
      (∀ b, KMap.get p s.doe.keys = some b → ∃ u, exec (.kSetGo k stream set tx sub) s = .next u ∧ p ∈ u.doe.going ∧
        idePlace stream.val tx sub.val (!set) ∉ u.doe.going ∧ u.doe.keys = s.doe.keys ∧ { u with doe := s.doe, out := s.out } = s) ∧
      (∃ u, exec (.kSetStop k stream set tx sub) s = .next u ∧ p ∉ u.doe.going ∧ KMap.get p u.doe.keys = none ∧ { u with doe := s.doe, out := s.out } = s) ∧
      ((v.val = 0 ∨ s.glb.numVfs < v.val) → ∃ m, exec (.lockInterfaceRequest k v stream) s = .next (t.emit (.secured k m)) ∧
        exec (.startInterfaceRequest k v key) s = .next (t.emit (.secured k m)) ∧ exec (.stopInterfaceRequest k v) s = .next (t.emit (.secured k m)) ∧
        exec (.getTdispVersion k v) s = .next (t.emit (.secured k m))) ∧
      (v.val ≠ 0 → v.val ≤ s.glb.numVfs →
        exec (.getTdispVersion k v) s = .next (t.tdiAnswer k 0x01 v.val (octets [1, 0x10])) ∧
        (∃ m, exec (.getTdispCapabilities k v) s = .next (t.tdiAnswer k 0x02 v.val m)) ∧
        exec (.getDeviceInterfaceState k v) s = .next (t.tdiAnswer k 0x05 v.val (octets [(s.vi v.val).tdi.code])) ∧
        ((s.vi v.val).tdi ≠ .locked → (s.vi v.val).tdi ≠ .run → exec (.getDeviceInterfaceReport k v off len) s = .next (t.tdiError k v.val 0x04)) ∧
        (((s.vi v.val).tdi = .locked ∨ (s.vi v.val).tdi = .run) → off < (t.interfaceReport v.val).length →
          let part := slice (t.interfaceReport v.val) off len;
          exec (.getDeviceInterfaceReport k v off len) s = .next (t.tdiAnswer k 0x04 v.val
            (leBytes 2 part.length ++ leBytes 2 ((t.interfaceReport v.val).length - off - part.length) ++ part))) ∧
        ((s.vi v.val).tdi ≠ .unlocked → exec (.lockInterfaceRequest k v stream) s = .next (t.tdiError k v.val 0x04)) ∧
        ((s.vi v.val).tdi = .unlocked → (stream.val = 4 ∨ s.doe.streamSet stream.val = false) →
          exec (.lockInterfaceRequest k v stream) s = .next (t.tdiError k v.val 0x01)) ∧
        ((s.vi v.val).tdi = .unlocked → stream.val ≠ 4 → s.doe.streamSet stream.val = true → s.ent.drbgOk = true → ∃ u,
          exec (.lockInterfaceRequest k v stream) s = .next u ∧ (u.vi v.val).tdi = .locked ∧ (u.vi v.val).stream = some stream.val ∧
          KMap.get v.val u.doe.nonces = some (drawBytes s.draws 32) ∧ (∀ n, n ≠ v.val → u.vi n = s.vi n) ∧ u.draws = s.draws + 1) ∧
        ((s.vi v.val).tdi ≠ .locked → exec (.startInterfaceRequest k v key) s = .next (t.tdiError k v.val 0x04)) ∧
        ((s.vi v.val).tdi = .locked → KMap.get v.val s.doe.nonces ≠ some key → exec (.startInterfaceRequest k v key) s = .next (t.tdiError k v.val 0x102)) ∧
        ((s.vi v.val).tdi = .locked → KMap.get v.val s.doe.nonces = some key → ∃ u, exec (.startInterfaceRequest k v key) s = .next u ∧
          (u.vi v.val).tdi = .run ∧ KMap.get v.val u.doe.nonces = none ∧ (∀ n, n ≠ v.val → u.vi n = s.vi n)) ∧
        ((s.vi v.val).tdi = .unlocked → exec (.stopInterfaceRequest k v) s = .next (t.tdiAnswer k 0x07 v.val [])) ∧
        ((s.vi v.val).tdi ≠ .unlocked → 
          let u := t.withDoe { t.doe with stops := KMap.put v.val k t.doe.stops, nonces := KMap.del v.val t.doe.nonces };
          exec (.stopInterfaceRequest k v) s = .next (u.startReset v.val))))

/-- Span frames, HELLO, timers, silence and lane failures (R562, R563, R564, R565, R566, R567, R570, R577). While the span unit does not work none of
them acts. A frame that is not whole counts a CRC error and nothing else; a protected frame without a pairing is answered with a refusal; one whose
tag fails counts; one out of order is answered with NAK; one in order is taken. HELLO of the peer after an alignment starts a new one. A retransmit
timeout sends the unacknowledged frames again, the idle timer an IDLE frame while the window has room. Silence of an aligned link with the heartbeat
alive leads to LINK_DOWN, without it to the loss of the peer. A lane that failed once is not counted again. -/
def Obligations.SpanLink : Prop :=
  ∀ (s : State) (f : Bytes) (l : Fin 5),
    let deaf := s.spanOn = false ∨ s.spn.dead = true
    (s.spanOn = false → exec (.spanFrameReceive f) s = .next s ∧ exec (.spanHello f) s = .next s ∧ exec .spanRetransmitTimeout s = .next s ∧
      exec .spanIdleTimer s = .next s ∧ exec .spanLinkSilence s = .next s ∧ exec (.spanLaneFailure l) s = .next s) ∧
    (deaf → exec (.spanFrameReceive f) s = .next s ∧ exec (.spanHello f) s = .next s) ∧
    (¬deaf → frameWhole f = false → ∃ t, exec (.spanFrameReceive f) s = .next t ∧ exec (.spanHello f) s = .next t ∧ t = s.bump (Reg.spn 0x208) ∧
      { t with regs := s.regs } = s) ∧
    (¬deaf → frameWhole f = true → frameOf f [tIdle, tData, tNak] = false → exec (.spanFrameReceive f) s = .next s) ∧
    (¬deaf → frameWhole f = true → frameOf f [tIdle, tData, tNak] = true → s.paired = false → ∃ t, exec (.spanFrameReceive f) s = .next t ∧
      t.out = s.out ++ [.span refusalFrame] ∧ { t with out := s.out, regs := s.regs } = s) ∧
    (¬deaf → frameWhole f = true → frameOf f [tIdle, tData, tNak] = true → s.aligned = true →
      (s.spanTagOk f = false → exec (.spanFrameReceive f) s = .next s.spanTagFails) ∧
      (s.spanTagOk f = true → rd f 8 8 ≠ s.spn.rxSeq →
        exec (.spanFrameReceive f) s = .next (({ s with spn := { s.spn with linkRx := s.time } } : State).sendSpan tNak 0 [])) ∧
      (s.spanTagOk f = true → rd f 8 8 = s.spn.rxSeq → exec (.spanFrameReceive f) s = .next (s.takeFrame f))) ∧
    (¬deaf → frameWhole f = true → (frameOf f [tHello] = false ∨ rd f 4 2 ≠ 32) → exec (.spanHello f) s = .next s) ∧
    (¬deaf → frameWhole f = true → frameOf f [tHello] = true → rd f 4 2 = 32 → ∃ t, exec (.spanHello f) s = .next t ∧
      t.spn.peerNonce = some (slice f 32 32) ∧ (s.spn.peerNonce.isSome = true → t.spn.ourNonce = some (drawBytes s.draws 32) ∧ t.spn.rxSeq = 0) ∧
      (s.spn.peerNonce = none → s.spn.ourNonce.isSome = true → t.spn.ourNonce = s.spn.ourNonce) ∧ t.csn = s.csn ∧ t.jobs = s.jobs ∧ t.cwy = s.cwy) ∧
    (s.spanOn = true → s.aligned = true → exec .spanRetransmitTimeout s = .next (s.resend 0) ∧
      (s.spn.sent.length < spanWindow → exec .spanIdleTimer s = .next (s.sendSpan tIdle 0 []) ∧ (s.sendSpan tIdle 0 []).spn.txSeq = s.spn.txSeq + 1) ∧
      (spanWindow ≤ s.spn.sent.length → exec .spanIdleTimer s = .next s)) ∧
    (s.aligned = false → exec .spanRetransmitTimeout s = .next s ∧ exec .spanIdleTimer s = .next s) ∧
    (s.paired = false → exec .spanLinkSilence s = .next s) ∧
    (s.spanOn = true → s.paired = true → (s.spn.pair = .syncing ∨ s.spn.pair = .inStep) →
      (s.spn.hbAlive = true → exec .spanLinkSilence s = .next (({ s with spn := s.spn.unalign } : State).setPair .linkDown)) ∧
      (s.spn.hbAlive = false → exec .spanLinkSilence s = .next (({ s with spn := s.spn.unalign } : State).losePeer))) ∧
    (s.spn.badLanes.testBit l.val = true → exec (.spanLaneFailure l) s = .next s) ∧
    (s.spanOn = true → s.spn.badLanes.testBit l.val = false → exec (.spanLaneFailure l) s = .next (s.spanLaneFails l.val false))

/-- Heartbeat words, mirror messages and acknowledgements, the end of a synchronisation (R566, R568, R569, R570, R579, R581, R586, R592, R595, R597).
A heartbeat word goes out with the device's counter, which rises by one, or wraps and raises the wrap count; a received word that no key of R569 makes
valid counts and changes nothing else, a valid one is noted and heeded. A message of the peer is applied item by item and, outside IN_STEP,
acknowledged at once. An acknowledgement of a message that does not wait changes nothing; of one that does, what waited takes effect. A timeout of a
wait ends it and counts. REJOIN_TIMEOUT acts in STARTING alone, SYNC_COMPLETE in a settled SYNCING with the link. -/
def Obligations.TwinMessages : Prop :=
  ∀ (s : State) (w : Bytes) (id : Nat) (items : List MirrorItem),
    let x := s.spn
    let able := s.spanOn = true ∧ s.paired = true ∧ (KMap.get 7 s.csn.keys).isSome = true
    (s.spanOn = false → exec .heartbeatWordSend s = .next s ∧ exec (.heartbeatWordReceive w) s = .next s ∧ exec .heartbeatSilence s = .next s ∧
      exec .rejoinTimeout s = .next s ∧ exec (.mirrorMessageReceive id items) s = .next s ∧ exec (.mirrorAckReceive id) s = .next s ∧
      exec .syncComplete s = .next s) ∧
    (able → ∃ t, exec .heartbeatWordSend s = .next t ∧
      t.out = s.out ++ [.heartbeat (hbWord (s.hbKey x.bootCount x.hbWraps) (hbHead x.pair.code x.fence x.hbCounter))] ∧
      (x.hbCounter ≠ 2 ^ 32 - 1 → t.spn = { x with hbCounter := x.hbCounter + 1 }) ∧
      (x.hbCounter = 2 ^ 32 - 1 → t.spn = { x with hbCounter := 0, hbWraps := x.hbWraps + 1 }) ∧ { t with spn := x, out := s.out } = s) ∧
    (able → s.hbValid w = none → exec (.heartbeatWordReceive w) s = .next (s.bump (Reg.spn 0x214))) ∧
    (∀ k, able → s.hbValid w = some k →
      let y : Spn := { x with hbBoot := k.1, hbWrap := k.2, hbCount := some (rdBe w 1 4), hbAlive := true, hbRx := s.time,
                              peerState := rd w 0 1 / 2 % 8, peerFence := (rd w 0 1).testBit 0 };
      exec (.heartbeatWordReceive w) s = .next (({ s with spn := y } : State).heedWord)) ∧
    (¬able → exec .heartbeatWordSend s = .next s ∧ exec (.heartbeatWordReceive w) s = .next s) ∧
    (s.spanOn = true → s.paired = true → x.fence = true → x.claim.isSome = true →
      exec .heartbeatSilence s = .next (({ s with spn := { x with hbAlive := false } } : State).claimWon)) ∧
    (s.spanOn = true → s.paired = true → x.fence = false → x.pair = .inStep → ∃ t, exec .heartbeatSilence s = .next t ∧ t.spn = { x with hbAlive := false } ∧
      { t with spn := x } = s) ∧
    (s.spanOn = true → x.pair = .starting → exec .rejoinTimeout s = .next s.losePeer) ∧ (x.pair ≠ .starting → exec .rejoinTimeout s = .next s) ∧
    (s.aligned = false → exec (.mirrorMessageReceive id items) s = .next s ∧ exec (.mirrorAckReceive id) s = .next s) ∧
    (s.spanOn = true → s.aligned = true → items.contains .unpair = true →
      exec (.mirrorMessageReceive id items) s = .next ((((items.foldl State.takeItem s).settleSync).mirrorAck id).unpair)) ∧
    (s.spanOn = true → s.aligned = true → items.contains .unpair = false → ((items.foldl State.takeItem s).settleSync).spn.pair ≠ .inStep →
      exec (.mirrorMessageReceive id items) s = .next (((items.foldl State.takeItem s).settleSync).mirrorAck id)) ∧
    (s.spanOn = true → s.aligned = true → items.contains .unpair = false → ((items.foldl State.takeItem s).settleSync).spn.pair = .inStep →
      exec (.mirrorMessageReceive id items) s = .next (((items.foldl State.takeItem s).settleSync).takeRolesIn id items)) ∧
    (KMap.get id x.waits = none → exec (.mirrorAckReceive id) s = .next s ∧ exec (.mirrorWaitTimeout id) s = .next s) ∧
    (∀ m, s.spanOn = true → s.aligned = true → KMap.get id x.waits = some m →
      exec (.mirrorAckReceive id) s = .next ((({ s with spn := { x with waits := KMap.del id x.waits } } : State).waitMet m).sweepRekey)) ∧
    (∀ m, s.clocked = true → KMap.get id x.waits = some m → exec (.mirrorWaitTimeout id) s = .next (s.waitTimesOut id m).sweepRekey) ∧
    (∀ i n, s.waitTimesOut id (.checkpoint i n) = s) ∧
    (∀ j y, s.job j = some y → y.stage ≠ .waiting → s.waitTimesOut id (.job j) =
      ({ s with spn := { x with waits := KMap.del id x.waits } } : State).bump (Reg.spn 0x218)) ∧
    (s.spanOn = true → x.pair = .syncing → x.settled = true → x.link = true → exec .syncComplete s = .next s.dropOwn.inStepNow) ∧
    ((x.pair ≠ .syncing ∨ x.settled = false ∨ x.link = false) → exec .syncComplete s = .next s)

/-- Life-cycle burns, limits and the test port (R604, R607, R617, R619, R622, R624, R625, R627, R628, R629). OTP_BYTE_BURN burns the front byte of the
transition under way: bits that were set stay set and no bit outside the byte's value is set. CHALLENGE_EXPIRY and RESTRIKE_HALF_EXPIRY clear their
record and nothing else. LCS_DRAIN_TIMEOUT ends a drain. LCS_REQ_CONFIRM outside BLANK and TRIAL changes nothing; a value that is no complement
answers 1, a transition that runs 4. The test port works only while debug leaves it on; IDCODE answers 0x1644092F; EXTEST in PROOF, EDITION and
RESTRIKE is a Crosshatch event first, VENDOR_SCAN reads a register where scan is decoded. VENDOR_OTP_PROGRAMMING in BLANK and TRIAL adds bits to a
byte of 0x60 to 0x7FF and changes no other. -/
def Obligations.LifeCycleEvents : Prop :=
  ∀ (s : State) (rb second : Byte) (w : Word) (agree : Bool),
    (s.lcs.burn = none → exec (.otpByteBurn rb second) s = .next s ∧ exec .lcsDrainTimeout s = .next s) ∧
    (∀ b, s.lcs.burn = some b → b.draining = true → s.drainedJobs ≠ [] → exec (.otpByteBurn rb second) s = .next s) ∧
    (∀ b a v r, s.lcs.burn = some b → (b.draining = false ∨ s.drainedJobs = []) → b.steps = .byte a v :: r →
      exec (.otpByteBurn rb second) s = .next ((s.burnByte a v rb second).goOn b r)) ∧
    (∀ a v i, i < 8 → ((s.otp a).getLsbD i = true → ((s.burnByte a v rb second).otp a).getLsbD i = true) ∧
      (((s.burnByte a v rb second).otp a).getLsbD i = true → (s.otp a).getLsbD i = true ∨ v.getLsbD i = true) ∧
      (∀ n, n ≠ a → (s.burnByte a v rb second).otp n = s.otp n)) ∧
    (∃ t, exec .challengeExpiry s = .next t ∧ t.lcs = { s.lcs with challenge := none } ∧ { t with lcs := s.lcs } = s) ∧
    (∃ t, exec .restrikeHalfExpiry s = .next t ∧ t.lcs = { s.lcs with half := 0 } ∧ { t with lcs := s.lcs } = s) ∧
    (∀ b, s.lcs.burn = some b → b.draining = false → exec .lcsDrainTimeout s = .next s) ∧
    (∀ b, s.lcs.burn = some b → b.draining = true → s.drainedJobs = [] → exec .lcsDrainTimeout s = .next
      (({ s with lcs := { s.lcs with burn := some { b with draining := false } } } : State).settlePower)) ∧
    (s.testOpen = false → exec (.lcsReqConfirm w agree) s = .next s) ∧
    (s.testOpen = true → s.glb.dev ≠ .off → s.glb.dev ≠ .islandOnly → s.glb.dev ≠ .reset → s.glb.dev ≠ .romBoot →
      (s.lcs.burn.isSome = true → exec (.lcsReqConfirm w agree) s = .next { s with lcs := { s.lcs with reqResult := 4 } }) ∧
      (s.lcs.burn = none → w ≠ ~~~(BitVec.ofNat 32 (rd s.lcs.reqTarget 0 4)) →
        exec (.lcsReqConfirm w agree) s = .next { s with lcs := { s.lcs with reqResult := 1 } }) ∧
      (s.lcs.burn = none → w = ~~~(BitVec.ofNat 32 (rd s.lcs.reqTarget 0 4)) → exec (.lcsReqConfirm w false) s = .next (s.splitDecision [] 0)) ∧
      (s.lcs.burn = none → w = ~~~(BitVec.ofNat 32 (rd s.lcs.reqTarget 0 4)) → s.planBurn s.lcs.reqTarget = none →
        exec (.lcsReqConfirm w true) s = .next { s with lcs := { s.lcs with reqResult := 2 } }) ∧
      (∀ l code steps, s.lcs.burn = none → w = ~~~(BitVec.ofNat 32 (rd s.lcs.reqTarget 0 4)) → s.planBurn s.lcs.reqTarget = some (l, code, steps) →
        exec (.lcsReqConfirm w true) s = .next (s.startBurn l code steps .testPort))) ∧
    (s.testPortUp = false → exec .extest s = .next s ∧ exec .idcode s = .next s ∧ exec .samplePreload s = .next s ∧ exec .bypass s = .next s ∧
      (∀ code reg value, exec (.vendorScan code reg value) s = .next s) ∧ (∀ a v, exec (.vendorOtpProgramming a v) s = .next s)) ∧
    (s.testPortUp = true →
      exec .idcode s = .next { s with lcs := { s.lcs with ir := 0x01 }, out := s.out ++ [.testPort (leBytes 4 0x1644092F)] } ∧
      exec .samplePreload s = .next { s with lcs := { s.lcs with ir := 0x02 } } ∧ exec .bypass s = .next { s with lcs := { s.lcs with ir := 0xFF } } ∧
      ((s.lcs.shown = .proof ∨ s.lcs.shown = .edition ∨ s.lcs.shown = .restrike) → exec .extest s = .next
        (({ s with lcs := { s.lcs with ir := 0x00 } } : State).xhEvent { source := 0x3E, detA := false, detB := false, injected := false })) ∧
      ((s.lcs.shown = .blank ∨ s.lcs.shown = .trial ∨ s.lcs.shown = .cancelled) → exec .extest s = .next { s with lcs := { s.lcs with ir := 0x00 } }) ∧
      (∀ code reg value, s.scanOpen = false → exec (.vendorScan code reg value) s = .next { s with lcs := { s.lcs with ir := 0xFF } }) ∧
      (∀ code reg, s.scanOpen = true → 0x10 ≤ code.toNat → code.toNat ≤ 0x7F →
        let u : State := { s with lcs := { s.lcs with ir := code } };
        (reg < 0x4000000 → s.winPowered (reg / 0x100000) (reg % 0x100000) = true → exec (.vendorScan code reg none) s = .next
          ((u.emit (.testPort (leBytes 4 (u.winWord (reg / 0x100000) (reg % 0x100000))))).afterRegRead reg)) ∧
        (reg < 0x4000000 → s.winPowered (reg / 0x100000) (reg % 0x100000) = false →
          exec (.vendorScan code reg none) s = .next (u.emit (.testPort (leBytes 4 0)))) ∧
        (∀ w, (reg = 0xE00020 ∨ reg = 0xE00024) → exec (.vendorScan code reg (some w)) s = .next (u.scanTarget (decide (reg = 0xE00024)) w))) ∧
      (∀ a v, (s.testOpen = false ∨ a < 0x60 ∨ 0x800 ≤ a) → ∃ t, exec (.vendorOtpProgramming a v) s = .next t ∧ t.lcs.otp = s.lcs.otp ∧
        { t with lcs := s.lcs } = s) ∧
      (∀ a v, s.testOpen = true → 0x60 ≤ a → a < 0x800 → ∃ t, exec (.vendorOtpProgramming a v) s = .next t ∧ t.otp a = s.otp a ||| v ∧
        (∀ n, n ≠ a → t.otp n = s.otp n) ∧ { t with lcs := s.lcs, regs := s.regs } = s))

/-- Crosshatch and island events and their doubled decisions (R636, R638, R639, R640, R641, R650, R651, R652, R656, R660). An event of an unknown
source, or of one that does not monitor, changes nothing. The second decision carries the waiting response out when the units agree, else, as a
decision timeout, it is a split. Equal tables compare without effect. MESH_CHANGE without main power changes nothing, with every group matching it
only advances the eight LFSRs. LOOP_WORD with every enabled pair matching changes nothing. ISLAND_MEASUREMENT within its limits notes the crystal
alone, an unsupplied island does nothing. ISLAND_SELFTEST acts on VBAT alone, on the island sources that failed. -/
def Obligations.CrosshatchEvents : Prop :=
  ∀ (s : State) (id : Byte) (det : Detector) (agree ok : Bool),
    (xhSource id.toNat = none → exec (.xhSourceEvent id det) s = .next s) ∧
    (onIsland id.toNat = false → s.monitors id.toNat = false → exec (.xhSourceEvent id det) s = .next s) ∧
    (onIsland id.toNat = true → s.islandUp = false → exec (.xhSourceEvent id det) s = .next s) ∧
    (onIsland id.toNat = false → (xhSource id.toNat).isSome = true → id ≠ 0x3E → id ≠ 0x3F → id ≠ 0x18 → s.monitors id.toNat = true →
      exec (.xhSourceEvent id det) s = .next ((s.noteReport id.toNat (decide (det = .b))).xhEvent
        { source := id.toNat, detA := !(decide (det = .b)), detB := decide (det = .b), injected := false })) ∧
    (onIsland id.toNat = true → (xhSource id.toNat).isSome = true → (0x44 ≤ id.toNat ∨ s.island.loopEn.testBit (id.toNat - 0x40) = true) →
      s.mainPower = true → exec (.xhSourceEvent id det) s = .next (s.xhEvent { source := id.toNat, detA := false, detB := false, injected := false })) ∧
    (s.xh.pending = none → exec (.xhSecondDecision agree) s = .next s ∧ exec .xhDecisionTimeout s = .next s) ∧
    (∀ p, s.xh.pending = some p →
      exec (.xhSecondDecision true) s = .next (({ s with xh := { s.xh with pending := none } } : State).respond p.hits p.resp) ∧
      exec (.xhSecondDecision false) s = .next (s.splitDecision p.hits p.resp) ∧ exec .xhDecisionTimeout s = .next (s.splitDecision p.hits p.resp)) ∧
    ((s.mainPower = false ∨ s.xh.cfgA = s.xh.cfgB) → exec .xhTableCompare s = .next s) ∧
    (s.mainPower = true → s.xh.cfgA ≠ s.xh.cfgB → exec .xhTableCompare s = .next (s.splitDecision [] 0)) ∧
    (∀ m : BitVec 8, s.mainPower = false → exec (.meshChange m) s = .next s) ∧
    (s.mainPower = true → exec (.meshChange 0xFF) s = .next { s with xh := { s.xh with mesh := s.xh.mesh.map (meshStep 64) } }) ∧
    (exec (.loopWord 0xF) s = .next s ∧ (s.island.loopEn = 0 → ∀ m : BitVec 4, exec (.loopWord m) s = .next s)) ∧
    (∀ (temp : Int) mv, s.islandUp = false → exec (.islandMeasurement temp mv ok) s = .next s ∧ exec (.islandSecondDecision agree) s = .next s ∧
      ∀ l, exec (.islandSelftest l) s = .next s) ∧
    (∀ (temp : Int) mv, s.islandUp = true → -800 ≤ temp → temp ≤ 2080 → 2100 ≤ mv →
      exec (.islandMeasurement temp mv true) s = .next { s with island := { s.island with xtalOk := true } } ∧
      exec (.islandMeasurement temp mv false) s = .next (({ s with island := { s.island with xtalOk := false } } : State).islandEvent 0x47 false)) ∧
    (s.islandUp = true → s.island.pendingErase = [] → exec (.islandSecondDecision agree) s = .next s) ∧
    (∀ h, s.islandUp = true → s.island.pendingErase = [h] → exec (.islandSecondDecision agree) s = .next
      (({ s with island := { s.island with pendingErase := [] } } : State).aloneDecide agree h)) ∧
    (∀ l, s.mainPower = true → exec (.islandSelftest l) s = .next s) ∧ (exec (.islandSelftest []) s = .next s) ∧
    (∀ b : Byte, s.islandUp = true → s.mainPower = false → onIsland b.toNat = true → (xhSource b.toNat).isSome = true →
      exec (.islandSelftest [b]) s = .next (s.aloneFire { source := b.toNat, detA := false, detB := false, injected := false }))

/-- Writes of the Crosshatch registers (R645, R653, R654, R655, R662, R663, R666). XH_RESUME resumes from HALTED under its key and conditions, and is
counted as refused otherwise. XH_INJECT, source configuration, WARN clear, LOCK, the island's clock and loop control take writes in READY alone. A
fixed or locked source keeps its configuration; from EDITION on a weaker configuration is refused and counted, a stronger one written; a write changes
that source's configuration and no other's. LOCK stays until main power-up. A write of the clock is logged and sets the second. In EDITION and
RESTRIKE loop bits can only be set. -/
def Obligations.CrosshatchWrites : Prop :=
  ∀ (s : State) (w : Word) (id : Byte),
    let open_ := s.lcs.shown = .blank ∨ s.lcs.shown = .trial ∨ s.lcs.shown = .proof
    (s.glb.dev ≠ .ready → exec (.xhInject w) s = .next s ∧ exec (.xhSrcCfgWrite id w) s = .next s ∧ exec .xhWarnClear s = .next s ∧
      exec .xhLock s = .next s ∧ exec (.xhiRtcSecWrite w) s = .next s ∧ exec (.xhiLoopCtlWrite w) s = .next s) ∧
    (s.glb.dev ≠ .ready → s.glb.dev ≠ .halted → exec (.xhResume w) s = .next s) ∧
    (s.glb.dev = .ready → exec (.xhResume w) s = .next (s.bump Reg.xhResumeRefused)) ∧
    (s.glb.dev = .halted → (w ≠ 0x52455355 ∨ s.mayResume = false) → exec (.xhResume w) s = .next (s.bump Reg.xhResumeRefused)) ∧
    (s.mayResume = true → ∃ t, exec (.xhResume 0x52455355) s = .next t ∧ t.glb = s.resume.glb ∧ t.xh = s.resume.xh ∧
      (∀ d, s.resume.island.deferred = some d → d.sev = 2 → t.island.deferred = none) ∧ { t with island := s.resume.island } = s.resume) ∧
    (s.glb.dev = .ready → onIsland (bits w.toNat 7 0) = true → (xhSource (bits w.toNat 7 0)).isSome = true →
      exec (.xhInject w) s = .next (s.islandEvent (bits w.toNat 7 0) true)) ∧
    (s.glb.dev = .ready → onIsland (bits w.toNat 7 0) = false → exec (.xhInject w) s = .next (s.detectorEvent (bits w.toNat 7 0) (w.getLsbD 8) true)) ∧
    (xhSource id.toNat = none → exec (.xhSrcCfgWrite id w) s = .next s) ∧
    (∀ n win r fixed, s.glb.dev = .ready → xhSource id.toNat = some (n, win, r, fixed) →
      let old := s.xhCfg id.toNat
      let new := cfgLaid old w.toNat
      let weaker := new.2.2 < bits old 2 0 ∨ bits old 15 8 < new.1 ∨ bits old 31 16 < new.2.1
      ((fixed = true ∨ s.xh.locked = true) → exec (.xhSrcCfgWrite id w) s = .next s) ∧
      (fixed = false → s.xh.locked = false → ¬open_ → weaker → exec (.xhSrcCfgWrite id w) s = .next (s.bump Reg.xhWriteRefused)) ∧
      (fixed = false → s.xh.locked = false → (open_ ∨ ¬weaker) → ∃ t, exec (.xhSrcCfgWrite id w) s = .next t ∧
        t.xhCfg id.toNat = (cfgWord new.1 new.2.1 new.2.2 false) % 2 ^ 32 ∧ t.xhCfgB id.toNat = t.xhCfg id.toNat ∧
        (∀ k, k ≠ id.toNat → t.xhCfg k = s.xhCfg k) ∧ { t with xh := s.xh, island := s.island } = s)) ∧
    (s.glb.dev = .ready → (s.xhQuiet = true → exec .xhWarnClear s = .next { s with xh := { s.xh with warn := false } }) ∧
      (s.xhQuiet = false → exec .xhWarnClear s = .next s) ∧ exec .xhLock s = .next { s with xh := { s.xh with locked := true } }) ∧
    (s.glb.dev = .ready → ∃ t, exec (.xhiRtcSecWrite w) s = .next t ∧ t.island.rtcSec = w.toNat ∧ t.island.rtcSub = 0 ∧
      KMap.get s.island.next t.island.log = some (leBytes 4 s.island.rtcSec ++ leBytes 2 s.island.rtcSub ++ [0, 0] ++ leBytes 8 s.time) ∧
      { t with island := s.island } = s) ∧
    (s.glb.dev = .ready → ∃ t, exec (.xhiLoopCtlWrite w) s = .next t ∧ { t with island := s.island } = s ∧
      ((s.lcs.shown = .edition ∨ s.lcs.shown = .restrike) → t.island.loopEn = bits w.toNat 3 0 ||| s.island.loopEn) ∧
      (s.lcs.shown ≠ .edition → s.lcs.shown ≠ .restrike → t.island.loopEn = bits w.toNat 3 0))

/-- Fault reports, escalation, acknowledgement, sticky bits and injection (R667, R669, R671, R673, R675, R676, R678, R688). A report of a source that
does not report, with no alteration armed for it, changes nothing. ESCALATION_TIMEOUT takes the oldest pending report and makes it a FATAL of the
collector; with none it changes nothing. FCL_ACK of a pending number takes it off the table and marks its log entry; of another it changes nothing. A
write of 1 clears bits of the CORRECTED map, and of the CONTAINED map but for units with a pending report; nothing clears FATAL. FCL_INJ_CTL with the
wrong MODE changes nothing; MODE 1 reports the target, MODES 2 and 3 arm one alteration for it. DRAFTING_SPARE_TAKEOVER puts a pair that passed on
duty. -/
def Obligations.FaultCommands : Prop :=
  ∀ (s : State) (w : Word) (source : BitVec 16) (cause : Byte) (spot : FaultSpot) (job : Option Nat) (p : Fin 10),
    let target := s.reg Reg.fclInjTarget
    let tsrc := bits target 15 0
    (KMap.get source.toNat s.fcl.armed = none → s.reports (source.toNat / 256) (source.toNat % 256) = false →
      exec (.faultReport source cause spot job) s = .next s) ∧
    (exec (.faultReport source cause spot job) s = .next (s.memFault source.toNat cause.toNat spot job false)) ∧
    (s.fcl.pending = [] → exec .escalationTimeout s = .next s) ∧
    (∀ e l, s.fcl.pending = e :: l → exec .escalationTimeout s = .next
      ((({ s with fcl := { s.fcl with pending := l } } : State).bump Reg.fclEscalated).escalate e.seq)) ∧
    (s.glb.dev ≠ .ready → exec (.fclAck w) s = .next s ∧ (∀ m, exec (.fclStickyClear m w) s = .next s) ∧ exec (.fclInjectReport w) s = .next s ∧
      exec (.fclInjectWriteCheck w) s = .next s ∧ exec (.fclInjectReadCheck w) s = .next s) ∧
    (s.glb.dev = .ready → (∀ e ∈ s.fcl.pending, e.seq ≠ w.toNat) → exec (.fclAck w) s = .next s) ∧
    (∀ e, s.glb.dev = .ready → e ∈ s.fcl.pending → e.seq = w.toNat → ∃ t, exec (.fclAck w) s = .next t ∧
      (∀ x, x ∈ t.fcl.pending ↔ x ∈ s.fcl.pending ∧ x.seq ≠ w.toNat) ∧
      (∀ n x, KMap.get n s.fcl.log = some x → KMap.get n t.fcl.log = some (if x.seq = w.toNat then { x with acked := true } else x)) ∧
      { t with fcl := s.fcl } = s) ∧
    (s.glb.dev = .ready →
      (∃ t, exec (.fclStickyClear 0 w) s = .next t ∧ t.fcl = { s.fcl with corr := t.fcl.corr } ∧
        (∀ i, i < 19 → t.fcl.corr.testBit i = (s.fcl.corr.testBit i && !(w.toNat.testBit i))) ∧ { t with fcl := s.fcl } = s) ∧
      (∃ t, exec (.fclStickyClear 1 w) s = .next t ∧ t.fcl = { s.fcl with cont := t.fcl.cont } ∧
        (∀ i, i < 19 → t.fcl.cont.testBit i = (s.fcl.cont.testBit i && (!(w.toNat.testBit i) || s.pendingMap.testBit i))) ∧ { t with fcl := s.fcl } = s) ∧
      exec (.fclStickyClear 2 w) s = .next s) ∧
    ((injMode w ≠ 1 ∨ unitOf tsrc = uXh) → exec (.fclInjectReport w) s = .next s) ∧
    (s.glb.dev = .ready → injMode w = 1 → unitOf tsrc ≠ uXh →
      exec (.fclInjectReport w) s = .next (s.fault tsrc (bits target 31 24) noSpot none true (w.getLsbD 0))) ∧
    ((injMode w ≠ 2 ∨ unitOf tsrc = uXh ∨ instOk (unitOf tsrc) (tsrc % 256) = false) → exec (.fclInjectWriteCheck w) s = .next s) ∧
    ((injMode w ≠ 3 ∨ unitOf tsrc = uXh ∨ instOk (unitOf tsrc) (tsrc % 256) = false) → exec (.fclInjectReadCheck w) s = .next s) ∧
    (s.glb.dev = .ready → unitOf tsrc ≠ uXh → instOk (unitOf tsrc) (tsrc % 256) = true →
      (injMode w = 2 → ∃ t a, exec (.fclInjectWriteCheck w) s = .next t ∧ t.fcl = { s.fcl with armed := KMap.put tsrc a s.fcl.armed } ∧ a.mode = 2 ∧
        a.mask = bits w.toNat 12 8 ∧ { t with fcl := s.fcl } = s) ∧
      (injMode w = 3 → ∃ t a, exec (.fclInjectReadCheck w) s = .next t ∧ t.fcl = { s.fcl with armed := KMap.put tsrc a s.fcl.armed } ∧ a.mode = 3 ∧
        a.mask = bits w.toNat 12 8 ∧ { t with fcl := s.fcl } = s)) ∧
    (∀ passed, s.drf.testing.testBit p.val = false → exec (.draftingSpareTakeover p passed) s = .next s) ∧
    (s.drf.testing.testBit p.val = true → ∃ t, exec (.draftingSpareTakeover p true) s = .next t ∧ t.drf.onDuty.testBit p.val = true ∧
      (∀ q, q ≠ p.val → t.drf.onDuty.testBit q = s.drf.onDuty.testBit q) ∧ t.drf.retired = s.drf.retired ∧ { t with drf := s.drf, fcl := s.fcl } = s)

/-- Maintenance activities that run (R468, R659, R661, R685, R686, R690, R693, R695, R698). An activity that does not run is not advanced by its
event: SCRUB_SRAM, SCRUB_HBM, REPAIR_COMMIT, CAISSON_COMPACT and XH_SELFTEST then change nothing. A started scrub pass that finds nothing ends and
reports nothing; a patrol goes on unchanged. REPAIR_COMMIT with nothing left to write, or no free slot, ends; with both it burns the retirement into
the three copies of the lowest free slot. CAISSON_COMPACT compacts the shelf and ends. HEALTH_SWEEP outside READY changes nothing. -/
def Obligations.MaintenanceEvents : Prop :=
  ∀ (s : State) (rows : List RowError) (lines : List LineError) (failed : List (BitVec 16)) (dets : List (Byte × Detector)) (burned : Bool),
    (s.actRuns 1 = false → exec (.scrubSram rows) s = .next s) ∧ (s.actRuns 2 = false → exec (.scrubHbm lines) s = .next s) ∧
    (s.actRuns 1 = true → s.fcl.armed = [] → exec (.scrubSram []) s = .next (s.passEnds 1)) ∧
    (s.actRuns 1 = true → s.fcl.armed = [] → ∀ e : RowError,
      exec (.scrubSram [e]) s = .next ((s.memFault e.source.toNat (syndromeCause e.spot.syndrome.toNat) e.spot none true).passEnds 1)) ∧
    (s.actRuns 2 = true → exec (.scrubHbm []) s = .next (s.passEnds 2)) ∧
    (∀ a, (s.act a).started = false → s.passEnds a = s) ∧ (∀ a, (s.act a).started = true → s.passEnds a = s.endAct a 0) ∧
    (s.glb.dev ≠ .ready → exec (.healthSweep failed) s = .next s) ∧
    (s.glb.dev = .ready → s.fcl.targeted = [] → s.actRuns 3 = false → exec (.healthSweep failed) s = .next s) ∧
    (s.glb.dev = .ready → s.fcl.targeted = [] → s.actRuns 3 = true → exec (.healthSweep []) s = .next (s.passEnds 3)) ∧
    ((s.startedRuns 4 = false ∨ s.glb.dev ≠ .ready) → exec (.repairCommit burned) s = .next s) ∧
    (s.startedRuns 4 = true → s.glb.dev = .ready → (s.nextCommit = none ∨ s.freeSlots = []) → exec (.repairCommit burned) s = .next (s.endAct 4 0)) ∧
    (∀ word k more, s.startedRuns 4 = true → s.glb.dev = .ready → s.nextCommit = some word → s.freeSlots = k :: more → word < 2 ^ 32 →
      let u := ((s.burnSlot 0 k word).burnSlot 1 k word).burnSlot 2 k word
      let t : State := { u with fcl := { u.fcl with slots := KMap.put k word u.fcl.slots, uncommitted := u.fcl.uncommitted.filter (fun x => decide (x ≠ word)) } }
      (exec (.repairCommit true) s = .next (if t.nextCommit.isNone = true ∨ t.freeSlots = [] then t.endAct 4 0 else t)) ∧
      (∀ c, c < 3 → t.slotWord c k = word) ∧ (∀ a, (∀ c, c < 3 → a < slotAt c k ∨ slotAt c k + 4 ≤ a) → t.otp a = s.otp a)) ∧
    ((s.startedRuns 5 = true ∧ s.glb.dev = .ready) → exec .caissonCompact s = .next ((s.compactShelf).endAct 5 0)) ∧
    (¬(s.startedRuns 5 = true ∧ s.glb.dev = .ready) → exec .caissonCompact s = .next s) ∧
    ((s.startedRuns 6 = false ∨ (s.glb.dev ≠ .ready ∧ s.glb.dev ≠ .falsework)) → exec (.xhSelftest dets) s = .next s) ∧
    (s.startedRuns 6 = true → (s.glb.dev = .ready ∨ s.glb.dev = .falsework) → (s.act 6).job = none → exec (.xhSelftest dets) s = .next ((s.endAct 6 0).xhTested dets) ∧
      exec (.xhSelftest []) s = .next (s.endAct 6 0))

/-- Budget, voltage, requested domains, SMBus reads and a read completion (R709, R710, R715, R718, R720, R721, R722, R723, R740, R796). TJ_SAMPLE
notes the temperature, its maximum and the effective budget. TOL_SHARE takes only shares that sum to 100. TOL_PD_REQ keeps SPAN at 1 while paired. A
domain that stands as it is wanted does not switch. AVS_SAMPLE below 80 ‰ asks for 5 mV more up to 850 mV while the loop is not held; AVS_ACK makes
the asked setpoint stand; AVS_RETRY sends the transaction again. CSN_CTL waits for the twin where there is one. An SMBus read answers its value, and
changes nothing else, while main power is there. A read completion for a job without an open read changes nothing. -/
def Obligations.TollhouseAndPorts : Prop :=
  ∀ (s : State) (tj : BitVec 16) (w : Word) (link : PcieLink) (d : Fin 30) (slack : Nat) (low : List (BitVec 16)),
    let t := s.tol
    ((s.mainPower = false ∨ s.glb.released = false) → exec (.tjSample tj) s = .next s ∧ exec (.pcieLinkStateChange link) s = .next s) ∧
    (s.mainPower = true → s.glb.released = true → ∃ u, exec (.tjSample tj) s = .next u ∧ u.tol.tj = tj ∧ u.tol.tjSeen = true ∧
      u.tol.tjMax = (if t.tjSeen = true ∧ tj.toInt ≤ t.tjMax.toInt then t.tjMax else tj) ∧
      u.tol.effective = Nat.max 0x20 (bits (s.reg Reg.tolBudget) 7 0 - (tj.toInt - 2000).toNat) ∧ u.tol.vddMv = t.vddMv ∧ u.csn = s.csn ∧ u.jobs = s.jobs) ∧
    (s.mainPower = true → s.glb.released = true → exec (.pcieLinkStateChange link) s = .next (({ s with tol := { t with pcie := link } } : State).recall)) ∧
    (s.glb.dev ≠ .ready → exec (.tolBudgetWrite w) s = .next s ∧ exec (.tolShareWrite w) s = .next s ∧ exec (.tolPdReqWrite w) s = .next s ∧
      exec (.csnCtlWrite w) s = .next s ∧ exec (.domainSwitchComplete d) s = .next s ∧ exec .avsRecalDue s = .next s) ∧
    (s.glb.dev = .ready → exec (.tolBudgetWrite w) s = .next (s.writeRw Reg.tolBudget w.toNat) ∧ exec .avsRecalDue s = .next (s.wantAct 9) ∧
      (bits w.toNat 31 24 + bits w.toNat 23 16 + bits w.toNat 15 8 + bits w.toNat 7 0 = 100 → exec (.tolShareWrite w) s = .next (s.setReg Reg.tolShare w.toNat)) ∧
      (bits w.toNat 31 24 + bits w.toNat 23 16 + bits w.toNat 15 8 + bits w.toNat 7 0 ≠ 100 → exec (.tolShareWrite w) s = .next s) ∧
      exec (.tolPdReqWrite w) s = .next (s.writeRw Reg.tolPdReq (if s.paired = true then w.toNat ||| 2 ^ 22 else w.toNat)) ∧
      (s.twinWaits = false → exec (.csnCtlWrite w) s = .next (s.setReg Reg.csnCtl (bitAt 31 (w.getLsbD 31)))) ∧
      (s.twinWaits = true → exec (.csnCtlWrite w) s = .next (s.mirror (.csnCtl (BitVec.ofNat 32 (bitAt 31 (w.getLsbD 31)))) [.csnCtl (BitVec.ofNat 32 (bitAt 31 (w.getLsbD 31)))])) ∧
      (s.pdOn d.val = s.pdWanted d.val → exec (.domainSwitchComplete d) s = .next s) ∧
      (s.pdOn d.val = true → s.pdWanted d.val = false →
        (s.pdIdle d.val = false → exec (.domainSwitchComplete d) s = .next s) ∧
        (s.pdIdle d.val = true → exec (.domainSwitchComplete d) s = .next ((s.pdLost d.val).switchPd (t.pd - 2 ^ d.val)))) ∧
      (s.pdOn d.val = false → s.pdWanted d.val = true →
        exec (.domainSwitchComplete d) s = .next (((s.switchPd (t.pd + 2 ^ d.val)).pdGained d.val).recall))) ∧
    ((s.mainPower = false ∨ s.glb.pll = false ∨ t.asking ≠ none) → exec (.avsSample slack low) s = .next s) ∧
    (s.mainPower = true → s.glb.pll = true → t.asking = none → s.glb.dev ≠ .ready → slack ≤ 120 →
      let u : State := { s with tol := { t with slack := slack, high := 0 } };
      (u.avsHeld = true → exec (.avsSample slack low) s = .next u) ∧
      (u.avsHeld = false → slack < 80 → t.vddMv < 850 → ∃ v, exec (.avsSample slack low) s = .next v ∧ v.tol.asking = some (Nat.min 850 (t.vddMv + 5)) ∧
        v.tol.vddMv = t.vddMv ∧ v.out = s.out ++ [.avsWrite (Nat.min 850 (t.vddMv + 5))]) ∧
      (u.avsHeld = false → 80 ≤ slack → exec (.avsSample slack low) s = .next u)) ∧
    (t.asking = none → exec .avsAck s = .next s ∧ exec .avsRetry s = .next s) ∧
    (∀ mv, t.asking = some mv → ∃ u, exec .avsAck s = .next u ∧ u.tol.asking = none ∧ u.tol.avsOk = true ∧ u.tol.vddMv = (if mv = 0 then t.vddMv else mv) ∧
      { u with tol := t, regs := s.regs } = s) ∧
    (∀ mv, t.asking = some mv → 3 ≤ t.attempts → exec .avsRetry s = .next { s with out := s.out ++ [if mv = 0 then .avsRead else .avsWrite mv] }) ∧
    (∀ l, (s.startedRuns 9 = false ∨ s.clocked = false ∨ t.avsOk = false ∨ t.asking ≠ none) → exec (.avsRecal l) s = .next s) ∧
    (∀ l, s.startedRuns 9 = true → s.clocked = true → t.avsOk = true → t.asking = none → recalSteps t.vddMv l = [] →
      exec (.avsRecal l) s = .next (({ s with tol := { t with slackTable := [] } } : State).endAct 9 0)) ∧
    (s.mainPower = true →
      exec .smbusDeviceState s = .next { s with out := s.out ++ [.smbus (leBytes 1 (s.glb.dev.code + 16 * s.lcs.shown.code))] } ∧
      exec .smbusTj s = .next { s with out := s.out ++ [.smbus (leBytes 2 t.tj.toNat)] } ∧
      exec .smbusTjMax s = .next { s with out := s.out ++ [.smbus (leBytes 2 t.tjMax.toNat)] } ∧
      exec .smbusStatusFlags s = .next { s with out := s.out ++ [.smbus (leBytes 1 s.smbusFlags)] } ∧
      exec .smbusVddMv s = .next { s with out := s.out ++ [.smbus (leBytes 2 t.vddMv)] } ∧
      exec .smbusBudget s = .next { s with out := s.out ++ [.smbus (leBytes 2 (t.effective + 256 * s.standingUnits))] } ∧
      exec .smbusIdentity s = .next { s with out := s.out ++ [.smbus (leBytes 4 0x6440B000 ++ s.unitId)] }) ∧
    (s.mainPower = false → exec .smbusDeviceState s = .next s ∧ exec .smbusTj s = .next s ∧ exec .smbusTjMax s = .next s ∧ exec .smbusStatusFlags s = .next s ∧ exec .smbusVddMv s = .next s ∧ exec .smbusBudget s = .next s ∧ exec .smbusIdentity s = .next s) ∧
    (∀ j o, (s.job j = none → exec (.hostReadCompletion j o) s = .next s) ∧
      (∀ x, s.job j = some x → (x.reading = none ∨ s.dmaOk x.vi = false) → exec (.hostReadCompletion j o) s = .next s) ∧
      (∀ x n b, s.job j = some x → x.reading = some n → s.dmaOk x.vi = true → exec (.hostReadCompletion j (.data b)) s = .next
        (((s.putJob j { x with input := x.input ++ b.take n, reading := none }).nextInput j).checkStaged j)))

/-- Power, main reset and the root PLL (R29, R607, R643, R656, R657, R666, R706, R708, R724, R725, R791, R792). MAIN_POWER_LOSS without main power
changes nothing; with it everything but OTP, the island and the boot flash takes its reset value, and without VBAT the island too. VBAT_APPLIED and
VBAT_LOSS with main power change the island's supply bits alone. A main reset sets its cause, keeps OTP (but for a pulse that it cuts), island, flash
images and waiting commands; GLB_RESET needs its key and READY. MAIN_RESET_RELEASE starts TIMESTAMP at 0. ROOT_PLL_LOCK starts the ROM once the reset
is released; PLL_LOCK_RESTORED sets the PLL alone. -/
def Obligations.PowerAndReset : Prop :=
  ∀ (s : State) (b smb1 smb0 : Bool) (w : Word),
    let live (t : State) : Prop := ∀ n, t.otp n = s.otp n
    (s.mainPower = false → exec .mainPowerLoss s = .next s ∧ exec (.mainResetRelease b smb1 smb0) s = .next s ∧ exec .rootPllLock s = .next s ∧
      exec .pllLockRestored s = .next s ∧ exec (.mainResetAssert true) s = .next s ∧ exec (.mainResetAssert false) s = .next (s.mainReset 1)) ∧
    (s.mainPower = true → s.glb.released = false → s.lcs.burn = none → s.island.vbat = true → s.xh.pending = none → ∃ t, exec .mainPowerLoss s = .next t ∧
      t.glb.dev = .islandOnly ∧ t.island = s.island ∧ live t ∧ t.flash = { s.flash with staging := none } ∧ t.jobs = [] ∧ t.csn.keys = [] ∧ t.vis = State.reset.vis) ∧
    (s.mainPower = true → s.glb.released = false → s.lcs.burn = none → s.island.vbat = false → ∃ t, exec .mainPowerLoss s = .next t ∧ t.glb.dev = .off ∧
      live t ∧ t.island = { Island.reset with vbat := false } ∧ t.flash = { s.flash with staging := none } ∧ t.jobs = [] ∧ t.csn.keys = []) ∧
    (s.island.vbat = true → exec .vbatApplied s = .next s) ∧ (s.island.vbat = false → exec .vbatLoss s = .next s) ∧
    (s.mainPower = true → (s.island.vbat = false → exec .vbatApplied s = .next { s with island := { s.island with vbat := true } }) ∧
      (s.island.vbat = true → exec .vbatLoss s = .next { s with island := { s.island with vbat := false, onVbat := false } })) ∧
    (s.mainPower = false → s.island.vbat = true → ∃ t, exec .vbatLoss s = .next t ∧ t.glb.dev = .off ∧ t.island = { Island.reset with vbat := false } ∧ live t) ∧
    (s.mainPower = false → s.island.vbat = false → ∃ t, exec .vbatApplied s = .next t ∧ t.glb.dev = .islandOnly ∧ t.island = Island.reset ∧ live t) ∧
    ((b = true ∧ s.island.vbat = true ∨ b = false ∧ s.mainPower = true) →
      exec (.vddIoSwitchover b) s = .next { s with island := { s.island with onVbat := b } }) ∧
    (¬(b = true ∧ s.island.vbat = true ∨ b = false ∧ s.mainPower = true) → exec (.vddIoSwitchover b) s = .next s) ∧
    (s.mainPower = true → s.glb.released = true → exec (.mainResetAssert b) s = .next (s.mainReset (if b then 2 else 1))) ∧
    (s.mainPower = true → s.glb.released = false →
      exec (.mainResetAssert b) s = .next { s with glb := { s.glb with cause := s.glb.cause ||| (if b then 2 else 1) } }) ∧
    (s.glb.dev = .ready → exec (.glbReset 0x54455352) s = .next (s.mainReset 4)) ∧
    ((w ≠ 0x54455352 ∨ s.glb.dev ≠ .ready) → exec (.glbReset w) s = .next s) ∧
    (∀ cause, let t := s.mainReset cause; t.glb.cause = cause ∧ t.glb.dev = .reset ∧ t.pending = s.pending ∧ t.island = s.island ∧ t.jobs = [] ∧ t.vis = State.reset.vis ∧
      t.cwy = State.reset.cwy ∧ t.flash.slotA = s.flash.slotA ∧ t.flash.slotB = s.flash.slotB ∧ (s.lcs.burn = none → live t) ∧
      (∀ n i, (s.otp n).getLsbD i = true → (t.otp n).getLsbD i = true)) ∧
    (s.mainPower = true → s.glb.released = true → exec (.mainResetRelease b smb1 smb0) s = .next s) ∧
    (s.mainPower = true → s.glb.released = false → ∃ t, exec (.mainResetRelease b smb1 smb0) s = .next t ∧ t.time = 0 ∧ t.glb.released = true ∧ t.glb.clkMode = b ∧
      t.tol.pd.testBit 19 = true ∧ t.glb.dev = s.glb.dev ∧ live t) ∧
    ((s.glb.released = false ∨ s.glb.pll = true ∨ (s.glb.dev ≠ .reset ∧ s.glb.dev ≠ .halted)) → exec .rootPllLock s = .next s) ∧
    (s.glb.released = true → s.glb.pll = false → s.glb.dev = .reset → ∃ t, exec .rootPllLock s = .next t ∧ t.glb.dev = .romBoot ∧ t.glb.pll = true ∧
      t.tol.asking = some 0 ∧ t.out = s.out ++ [.avsRead] ∧ live t ∧ t.csn.keys = s.csn.keys) ∧
    (s.mainPower = true → s.glb.released = true → s.glb.dev ≠ .reset → s.glb.dev ≠ .halted →
      exec .pllLockRestored s = .next { s with glb := { s.glb with pll := true } }) ∧
    ((s.glb.released = false ∨ s.glb.dev = .reset) → exec .pllLockRestored s = .next s)

/-- The start-up: ROM, firmware verification, POST (R603, R608, R610, R658, R728, R729, R730, R731, R732, R737). ROM_BOOT, FIRMWARE_VERIFIED and
POST_COMPLETE act only in their device state. The ROM decodes the life-cycle state, carries a deferred response out, votes the repair map, and for
BLANK, CANCELLED and an unexplained code ends in FALSEWORK with cause 1. FIRMWARE_VERIFIED enters the first slot of its order whose image verifies and
goes to POST with the measurements of both slots; without one it goes to FALSEWORK with cause 2. POST_COMPLETE without a failed test starts entropy,
tests the units and detectors and starts the Caisson, each while POST lasts; an unpaired device that is still in POST is then READY, and its patrols
run. A failed entropy test leaves POST for FALSEWORK with cause 6 and a FATAL report. -/
def Obligations.StartUp : Prop :=
  ∀ (s : State) (stuck : BitVec 3) (failed : List PostTest) (units : List (BitVec 16)) (stip : BitVec 8) (dets : List (Byte × Detector))
    (pages : List (Nat × BitVec 28)),
    ((s.glb.dev ≠ .romBoot ∨ s.lcs.burn.isSome = true) → exec (.romBoot stuck) s = .next s) ∧
    (∀ l, s.glb.dev = .romBoot → s.lcs.burn = none → s.decodeCode = .is l → s.island.deferred = none →
      exec (.romBoot stuck) s = .next ((s.enterLstate l).romGoesOn.settlePower)) ∧
    (s.glb.dev = .romBoot → s.lcs.burn = none → s.decodeCode = .unexplained → s.island.deferred = none →
      exec (.romBoot stuck) s = .next (s.enterUnexplained.romGoesOn.settlePower)) ∧
    (∀ t, s.decodeCode = .forward t → s.decodeState stuck = s.rollForward t stuck) ∧
    (s.fcl.mapRead = true → s.glb.dev = .romBoot → (s.lcs.explained = false ∨ s.lcs.lstate = .blank ∨ s.lcs.lstate = .cancelled) →
      s.romGoesOn = s.enterFalsework 1) ∧
    (s.fcl.mapRead = true → s.glb.dev = .romBoot → s.lcs.explained = true → s.lcs.lstate ≠ .blank → s.lcs.lstate ≠ .cancelled →
      (layoutOk s.flash.layout = false → s.romGoesOn = s.enterFalsework 2) ∧
      (layoutOk s.flash.layout = true → s.flash.trial = none → ∃ t, s.romGoesOn = t ∧ t.glb.dev = .fwVerify ∧ t.glb.slotB = s.flash.activeB ∧ t.glb.trial = false ∧
        t.csn.shelfBlocks = rd s.flash.layout 32 4 ∧ t.tol.pd.testBit 15 = true ∧ t.lcs = s.lcs)) ∧
    (s.glb.dev ≠ .fwVerify → exec .firmwareVerified s = .next s) ∧
    (s.glb.dev = .fwVerify → (∀ b, s.imageVerifies (s.slotOf b) = false) → exec .firmwareVerified s = .next
      ((({ s with glb := { s.glb with trial := false, slotB := s.flash.activeB } } : State).enterFalsework 2).settlePower)) ∧
    (∀ b, s.glb.dev = .fwVerify → s.bootOrder.head? = some b → s.imageVerifies (s.slotOf b) = true → ∃ t, exec .firmwareVerified s = .next t ∧
      t.glb.dev = .post ∧ t.glb.slotB = b ∧ t.glb.fallback = false ∧ t.glb.trial = s.glb.trial ∧ t.csn.fwMeas = fwMeas (s.slotOf b) ∧ t.lcs = s.lcs) ∧
    (s.glb.trial = false → s.bootOrder = [s.flash.activeB, !s.flash.activeB]) ∧
    (s.glb.dev ≠ .post → exec (.postComplete failed units stip dets pages) s = .next s) ∧
    (∀ w : State, s.glb.dev = .post →
      w = (((({ s with fcl := { s.fcl with checked := true } } : State).startEntropy.postStep (fun t => t.testUnits units stip pages)).postStep
        (fun t => t.xhTested dets)).postStep (fun t => t.startCaisson false)) →
      (w.glb.dev ≠ .post → exec (.postComplete [] units stip dets pages) s = .next w.settlePower) ∧
      (w.glb.dev = .post → w.paired = false → ∃ t, exec (.postComplete [] units stip dets pages) s = .next t ∧ t.glb.dev = .ready ∧
        t.glb.readyMs = Nat.min 65535 (w.time / 100000) ∧ (t.act 1).mstate = 1 ∧ (t.act 2).mstate = 1 ∧ (t.act 3).mstate = 1)) ∧
    (∀ u, s.glb.dev = .post → failed.contains .checkers = false → failed.contains .entropy = true →
      u = ((({ s with fcl := { s.fcl with checked := true } } : State).enterFalsework 6).reportAs (mkReport (src uEnt 3) 0x07 .fatal)) → u.glb.dev ≠ .post →
      exec (.postComplete failed units stip dets pages) s = .next u.settlePower)

/-- State after reset (R13, R34, R65, R470, R725, R742). At reset no command waits, the device is in RESET with no job, no key and no session, every
ring is disabled, TIMESTAMP is 0, no firmware function is disabled, the device is unpaired, and nothing is burned in OTP. The values that the spec
does not give are the model's (assumption log 2). -/
def Obligations.ResetState : Prop :=
  let s := State.reset
  s.pending = [] ∧ s.out = [] ∧ s.time = 0 ∧ s.glb.dev = .reset ∧ s.glb.released = false ∧ s.jobs = [] ∧ s.csn.keys = [] ∧ s.cwy.sessions = [] ∧
  s.spn.pair = .unpaired ∧ s.lcs.burn = none ∧ s.fcl.pending = [] ∧ s.fcl.fatal = false ∧
  (∀ a, s.otp a = 0) ∧ (∀ v k, (s.ring v k).enable = false)

/-- The OTP table has its canonical form at reset (R607, R725). The table of OTP bytes holds no byte twice, in rising order, and no byte that is not
burned; it has this form at reset. -/
def Obligations.OtpFormAtReset : Prop := OtpForm State.reset

/-- A burned OTP bit stays burned, and the OTP table keeps its form, over every step (R604, R607, R609, R613, R629, R690, R725). For every state whose
OTP table has its canonical form, and whatever command is at the front of the queue, a step leaves every OTP bit that is 1 at 1, in every address,
across resets, power losses, burns, roll-forward, retirements and vendor programming, and the table has its form again. -/
def Obligations.BurnedBitsStay : Prop :=
  ∀ (s t : State), OtpForm s → step s = .next t → OtpForm t ∧ ∀ a i, (s.otp a).getLsbD i = true → (t.otp a).getLsbD i = true
end

