-- ==== Sys2Proof/Laws/SMap.lean ====
section
/-! SUPPORT. Reading a table after a write to it, and the canonical form that every write keeps. -/

namespace Sys2Proof.Machine

theorem SMap.get_insertKey (d : Nat → α) (k i : Nat) (v : α) (m : SMap α) :
    SMap.get d i (insertKey k v m) = if k = i then v else SMap.get d i m := by
  induction m with
  | nil => simp [insertKey, SMap.get]
  | cons p r ih =>
    obtain ⟨a, x⟩ := p
    unfold insertKey
    split
    · simp only [SMap.get, ih]
      by_cases h : a = i
      · simp only [h, if_true]; rw [if_neg (by omega)]
      · simp [h]
    · simp [SMap.get]

theorem SMap.get_dropKey (d : Nat → α) (k i : Nat) (m : SMap α) :
    SMap.get d i (dropKey k m) = if k = i then d i else SMap.get d i m := by
  induction m with
  | nil => simp [dropKey, SMap.get]
  | cons p r ih =>
    obtain ⟨a, x⟩ := p
    unfold dropKey at ih ⊢
    by_cases h : a = k
    · subst h
      simp only [List.filter_cons, ne_eq, not_true_eq_false, decide_false, Bool.false_eq_true, if_false, ih, SMap.get]
      by_cases h2 : a = i <;> simp [h2]
    · simp only [List.filter_cons, ne_eq, h, not_false_eq_true, decide_true, if_true, SMap.get, ih]
      by_cases h2 : a = i
      · subst h2; rw [if_pos rfl, if_neg (fun e => h e.symm), if_pos rfl]
      · simp [h2]

theorem SMap.get_set [DecidableEq α] (d : Nat → α) (k i : Nat) (v : α) (m : SMap α) :
    SMap.get d i (SMap.set d k v m) = if k = i then v else SMap.get d i m := by
  unfold SMap.set
  by_cases h : v = d k
  · rw [if_pos h, SMap.get_dropKey]
    by_cases h2 : k = i
    · subst h2; simp [h]
    · simp [h2]
  · rw [if_neg h, SMap.get_insertKey, SMap.get_dropKey]
    by_cases h2 : k = i <;> simp [h2]

@[simp] theorem SMap.get_set_self [DecidableEq α] (d : Nat → α) (k : Nat) (v : α) (m : SMap α) : SMap.get d k (SMap.set d k v m) = v := by
  rw [SMap.get_set, if_pos rfl]

theorem SMap.get_set_ne [DecidableEq α] (d : Nat → α) {k i : Nat} (h : k ≠ i) (v : α) (m : SMap α) :
    SMap.get d i (SMap.set d k v m) = SMap.get d i m := by
  rw [SMap.get_set, if_neg h]

theorem KMap.get_insertKey (k i : Nat) (v : α) (m : KMap α) :
    KMap.get i (insertKey k v m) = if k = i then some v else KMap.get i m := by
  induction m with
  | nil => simp [insertKey, KMap.get]
  | cons p r ih =>
    obtain ⟨a, x⟩ := p
    unfold insertKey
    split
    · simp only [KMap.get, ih]
      by_cases h : a = i
      · simp only [h, if_true]; rw [if_neg (by omega)]
      · simp [h]
    · simp [KMap.get]

theorem KMap.get_del (k i : Nat) (m : KMap α) : KMap.get i (KMap.del k m) = if k = i then none else KMap.get i m := by
  unfold KMap.del
  induction m with
  | nil => simp [dropKey, KMap.get]
  | cons p r ih =>
    obtain ⟨a, x⟩ := p
    unfold dropKey at ih ⊢
    by_cases h : a = k
    · subst h
      simp only [List.filter_cons, ne_eq, not_true_eq_false, decide_false, Bool.false_eq_true, if_false, ih, KMap.get]
      by_cases h2 : a = i <;> simp [h2]
    · simp only [List.filter_cons, ne_eq, h, not_false_eq_true, decide_true, if_true, KMap.get, ih]
      by_cases h2 : a = i
      · subst h2; rw [if_pos rfl, if_neg (fun e => h e.symm), if_pos rfl]
      · simp [h2]

theorem KMap.get_put (k i : Nat) (v : α) (m : KMap α) : KMap.get i (KMap.put k v m) = if k = i then some v else KMap.get i m := by
  have h : KMap.get i (dropKey k m) = if k = i then none else KMap.get i m := KMap.get_del k i m
  unfold KMap.put
  rw [KMap.get_insertKey, h]
  by_cases h2 : k = i <;> simp [h2]

@[simp] theorem KMap.get_put_self (k : Nat) (v : α) (m : KMap α) : KMap.get k (KMap.put k v m) = some v := by
  rw [KMap.get_put, if_pos rfl]

@[simp] theorem KMap.get_del_self (k : Nat) (m : KMap α) : KMap.get k (KMap.del k m) = none := by
  rw [KMap.get_del, if_pos rfl]

theorem KMap.get_mod (k i : Nat) (f : α → α) (m : KMap α) :
    KMap.get i (KMap.mod k f m) = if k = i then (KMap.get i m).map f else KMap.get i m := by
  unfold KMap.mod
  by_cases h : k = i
  · subst h
    cases hg : KMap.get k m <;> simp [hg]
  · cases hg : KMap.get k m <;> simp [h, KMap.get_put]

@[simp] theorem KMap.get_mod_self (k : Nat) (f : α → α) (m : KMap α) : KMap.get k (KMap.mod k f m) = (KMap.get k m).map f := by
  rw [KMap.get_mod, if_pos rfl]

/-! ### The canonical form -/

theorem SMap.okFrom_le [DecidableEq α] (d : Nat → α) {a b : Nat} (h : a ≤ b) (m : SMap α) (hm : SMap.okFrom d b m = true) :
    SMap.okFrom d a m = true := by
  cases m with
  | nil => rfl
  | cons p r =>
    simp only [SMap.okFrom, Bool.and_eq_true, decide_eq_true_eq] at hm ⊢
    exact ⟨⟨Nat.le_trans h hm.1.1, hm.1.2⟩, hm.2⟩

theorem SMap.okFrom_dropKey [DecidableEq α] (d : Nat → α) (k : Nat) (m : SMap α) (lo : Nat) (hm : SMap.okFrom d lo m = true) :
    SMap.okFrom d lo (dropKey k m) = true := by
  induction m generalizing lo with
  | nil => rfl
  | cons p r ih =>
    simp only [SMap.okFrom, Bool.and_eq_true, decide_eq_true_eq] at hm
    obtain ⟨⟨h1, h2⟩, h3⟩ := hm
    unfold dropKey at ih ⊢
    rw [List.filter_cons]
    split
    · simp only [SMap.okFrom, Bool.and_eq_true, decide_eq_true_eq]
      exact ⟨⟨h1, h2⟩, ih _ h3⟩
    · exact SMap.okFrom_le d (by omega) _ (ih _ h3)

theorem SMap.okFrom_insertKey [DecidableEq α] (d : Nat → α) (k : Nat) (v : α) (hv : v ≠ d k) (m : SMap α) (lo : Nat) (hlo : lo ≤ k)
    (hk : ∀ p ∈ m, p.1 ≠ k) (hm : SMap.okFrom d lo m = true) : SMap.okFrom d lo (insertKey k v m) = true := by
  induction m generalizing lo with
  | nil => simp [insertKey, SMap.okFrom, hlo, hv]
  | cons p r ih =>
    simp only [SMap.okFrom, Bool.and_eq_true, decide_eq_true_eq] at hm
    obtain ⟨⟨h1, h2⟩, h3⟩ := hm
    have hne : p.1 ≠ k := hk p (List.mem_cons_self ..)
    unfold insertKey
    split
    · simp only [SMap.okFrom, Bool.and_eq_true, decide_eq_true_eq]
      exact ⟨⟨h1, h2⟩, ih _ (by omega) (fun q hq => hk q (List.mem_cons_of_mem _ hq)) h3⟩
    · simp only [SMap.okFrom, Bool.and_eq_true, decide_eq_true_eq]
      exact ⟨⟨hlo, hv⟩, ⟨by omega, h2⟩, h3⟩

/-- A write keeps the canonical form. -/
theorem SMap.wf_set [DecidableEq α] (d : Nat → α) (k : Nat) (v : α) (m : SMap α) (hm : SMap.wf d m = true) :
    SMap.wf d (SMap.set d k v m) = true := by
  unfold SMap.wf SMap.set at *
  split
  · exact SMap.okFrom_dropKey d k m 0 hm
  · refine SMap.okFrom_insertKey d k v ‹_› _ 0 (Nat.zero_le _) ?_ (SMap.okFrom_dropKey d k m 0 hm)
    intro p hp
    simpa [dropKey] using (List.mem_filter.mp hp).2

end Sys2Proof.Machine
end

