-- ==== Sys2Proof/Laws/State.lean ====
section
/-! SUPPORT. The fields of State after each basic update: one lemma per field that the update leaves, and reading back what it wrote. -/

namespace Sys2Proof.Machine

variable (s : State)

@[simp] theorem State.setVi_pending (v : Nat) (x : Vi) : (s.setVi v x).pending = s.pending := rfl
@[simp] theorem State.setVi_out (v : Nat) (x : Vi) : (s.setVi v x).out = s.out := rfl
@[simp] theorem State.setVi_time (v : Nat) (x : Vi) : (s.setVi v x).time = s.time := rfl
@[simp] theorem State.setVi_frees (v : Nat) (x : Vi) : (s.setVi v x).frees = s.frees := rfl
@[simp] theorem State.setVi_draws (v : Nat) (x : Vi) : (s.setVi v x).draws = s.draws := rfl
@[simp] theorem State.setVi_regs (v : Nat) (x : Vi) : (s.setVi v x).regs = s.regs := rfl
@[simp] theorem State.setVi_glb (v : Nat) (x : Vi) : (s.setVi v x).glb = s.glb := rfl
@[simp] theorem State.setVi_lcs (v : Nat) (x : Vi) : (s.setVi v x).lcs = s.lcs := rfl
@[simp] theorem State.setVi_rings (v : Nat) (x : Vi) : (s.setVi v x).rings = s.rings := rfl
@[simp] theorem State.setVi_jobs (v : Nat) (x : Vi) : (s.setVi v x).jobs = s.jobs := rfl
@[simp] theorem State.setVi_nextJob (v : Nat) (x : Vi) : (s.setVi v x).nextJob = s.nextJob := rfl
@[simp] theorem State.setVi_replies (v : Nat) (x : Vi) : (s.setVi v x).replies = s.replies := rfl
@[simp] theorem State.setVi_csn (v : Nat) (x : Vi) : (s.setVi v x).csn = s.csn := rfl
@[simp] theorem State.setVi_fn (v : Nat) (x : Vi) : (s.setVi v x).fn = s.fn := rfl
@[simp] theorem State.setVi_bur (v : Nat) (x : Vi) : (s.setVi v x).bur = s.bur := rfl
@[simp] theorem State.setVi_grv (v : Nat) (x : Vi) : (s.setVi v x).grv = s.grv := rfl
@[simp] theorem State.setVi_lne (v : Nat) (x : Vi) : (s.setVi v x).lne = s.lne := rfl
@[simp] theorem State.setVi_cwy (v : Nat) (x : Vi) : (s.setVi v x).cwy = s.cwy := rfl
@[simp] theorem State.setVi_lpt (v : Nat) (x : Vi) : (s.setVi v x).lpt = s.lpt := rfl
@[simp] theorem State.setVi_hif (v : Nat) (x : Vi) : (s.setVi v x).hif = s.hif := rfl
@[simp] theorem State.setVi_dge (v : Nat) (x : Vi) : (s.setVi v x).dge = s.dge := rfl
@[simp] theorem State.setVi_ent (v : Nat) (x : Vi) : (s.setVi v x).ent = s.ent := rfl
@[simp] theorem State.setVi_spn (v : Nat) (x : Vi) : (s.setVi v x).spn = s.spn := rfl
@[simp] theorem State.setVi_xh (v : Nat) (x : Vi) : (s.setVi v x).xh = s.xh := rfl
@[simp] theorem State.setVi_island (v : Nat) (x : Vi) : (s.setVi v x).island = s.island := rfl
@[simp] theorem State.setVi_fcl (v : Nat) (x : Vi) : (s.setVi v x).fcl = s.fcl := rfl
@[simp] theorem State.setVi_drf (v : Nat) (x : Vi) : (s.setVi v x).drf = s.drf := rfl
@[simp] theorem State.setVi_tol (v : Nat) (x : Vi) : (s.setVi v x).tol = s.tol := rfl
@[simp] theorem State.setVi_flash (v : Nat) (x : Vi) : (s.setVi v x).flash = s.flash := rfl
@[simp] theorem State.setVi_cus (v : Nat) (x : Vi) : (s.setVi v x).cus = s.cus := rfl
@[simp] theorem State.setVi_doe (v : Nat) (x : Vi) : (s.setVi v x).doe = s.doe := rfl

@[simp] theorem State.modVi_pending (v : Nat) (f : Vi → Vi) : (s.modVi v f).pending = s.pending := rfl
@[simp] theorem State.modVi_out (v : Nat) (f : Vi → Vi) : (s.modVi v f).out = s.out := rfl
@[simp] theorem State.modVi_time (v : Nat) (f : Vi → Vi) : (s.modVi v f).time = s.time := rfl
@[simp] theorem State.modVi_frees (v : Nat) (f : Vi → Vi) : (s.modVi v f).frees = s.frees := rfl
@[simp] theorem State.modVi_draws (v : Nat) (f : Vi → Vi) : (s.modVi v f).draws = s.draws := rfl
@[simp] theorem State.modVi_regs (v : Nat) (f : Vi → Vi) : (s.modVi v f).regs = s.regs := rfl
@[simp] theorem State.modVi_glb (v : Nat) (f : Vi → Vi) : (s.modVi v f).glb = s.glb := rfl
@[simp] theorem State.modVi_lcs (v : Nat) (f : Vi → Vi) : (s.modVi v f).lcs = s.lcs := rfl
@[simp] theorem State.modVi_rings (v : Nat) (f : Vi → Vi) : (s.modVi v f).rings = s.rings := rfl
@[simp] theorem State.modVi_jobs (v : Nat) (f : Vi → Vi) : (s.modVi v f).jobs = s.jobs := rfl
@[simp] theorem State.modVi_nextJob (v : Nat) (f : Vi → Vi) : (s.modVi v f).nextJob = s.nextJob := rfl
@[simp] theorem State.modVi_replies (v : Nat) (f : Vi → Vi) : (s.modVi v f).replies = s.replies := rfl
@[simp] theorem State.modVi_csn (v : Nat) (f : Vi → Vi) : (s.modVi v f).csn = s.csn := rfl
@[simp] theorem State.modVi_fn (v : Nat) (f : Vi → Vi) : (s.modVi v f).fn = s.fn := rfl
@[simp] theorem State.modVi_bur (v : Nat) (f : Vi → Vi) : (s.modVi v f).bur = s.bur := rfl
@[simp] theorem State.modVi_grv (v : Nat) (f : Vi → Vi) : (s.modVi v f).grv = s.grv := rfl
@[simp] theorem State.modVi_lne (v : Nat) (f : Vi → Vi) : (s.modVi v f).lne = s.lne := rfl
@[simp] theorem State.modVi_cwy (v : Nat) (f : Vi → Vi) : (s.modVi v f).cwy = s.cwy := rfl
@[simp] theorem State.modVi_lpt (v : Nat) (f : Vi → Vi) : (s.modVi v f).lpt = s.lpt := rfl
@[simp] theorem State.modVi_hif (v : Nat) (f : Vi → Vi) : (s.modVi v f).hif = s.hif := rfl
@[simp] theorem State.modVi_dge (v : Nat) (f : Vi → Vi) : (s.modVi v f).dge = s.dge := rfl
@[simp] theorem State.modVi_ent (v : Nat) (f : Vi → Vi) : (s.modVi v f).ent = s.ent := rfl
@[simp] theorem State.modVi_spn (v : Nat) (f : Vi → Vi) : (s.modVi v f).spn = s.spn := rfl
@[simp] theorem State.modVi_xh (v : Nat) (f : Vi → Vi) : (s.modVi v f).xh = s.xh := rfl
@[simp] theorem State.modVi_island (v : Nat) (f : Vi → Vi) : (s.modVi v f).island = s.island := rfl
@[simp] theorem State.modVi_fcl (v : Nat) (f : Vi → Vi) : (s.modVi v f).fcl = s.fcl := rfl
@[simp] theorem State.modVi_drf (v : Nat) (f : Vi → Vi) : (s.modVi v f).drf = s.drf := rfl
@[simp] theorem State.modVi_tol (v : Nat) (f : Vi → Vi) : (s.modVi v f).tol = s.tol := rfl
@[simp] theorem State.modVi_flash (v : Nat) (f : Vi → Vi) : (s.modVi v f).flash = s.flash := rfl
@[simp] theorem State.modVi_cus (v : Nat) (f : Vi → Vi) : (s.modVi v f).cus = s.cus := rfl
@[simp] theorem State.modVi_doe (v : Nat) (f : Vi → Vi) : (s.modVi v f).doe = s.doe := rfl

@[simp] theorem State.setRing_pending (v k : Nat) (r : Ring) : (s.setRing v k r).pending = s.pending := rfl
@[simp] theorem State.setRing_out (v k : Nat) (r : Ring) : (s.setRing v k r).out = s.out := rfl
@[simp] theorem State.setRing_time (v k : Nat) (r : Ring) : (s.setRing v k r).time = s.time := rfl
@[simp] theorem State.setRing_frees (v k : Nat) (r : Ring) : (s.setRing v k r).frees = s.frees := rfl
@[simp] theorem State.setRing_draws (v k : Nat) (r : Ring) : (s.setRing v k r).draws = s.draws := rfl
@[simp] theorem State.setRing_regs (v k : Nat) (r : Ring) : (s.setRing v k r).regs = s.regs := rfl
@[simp] theorem State.setRing_glb (v k : Nat) (r : Ring) : (s.setRing v k r).glb = s.glb := rfl
@[simp] theorem State.setRing_lcs (v k : Nat) (r : Ring) : (s.setRing v k r).lcs = s.lcs := rfl
@[simp] theorem State.setRing_vis (v k : Nat) (r : Ring) : (s.setRing v k r).vis = s.vis := rfl
@[simp] theorem State.setRing_jobs (v k : Nat) (r : Ring) : (s.setRing v k r).jobs = s.jobs := rfl
@[simp] theorem State.setRing_nextJob (v k : Nat) (r : Ring) : (s.setRing v k r).nextJob = s.nextJob := rfl
@[simp] theorem State.setRing_replies (v k : Nat) (r : Ring) : (s.setRing v k r).replies = s.replies := rfl
@[simp] theorem State.setRing_csn (v k : Nat) (r : Ring) : (s.setRing v k r).csn = s.csn := rfl
@[simp] theorem State.setRing_fn (v k : Nat) (r : Ring) : (s.setRing v k r).fn = s.fn := rfl
@[simp] theorem State.setRing_bur (v k : Nat) (r : Ring) : (s.setRing v k r).bur = s.bur := rfl
@[simp] theorem State.setRing_grv (v k : Nat) (r : Ring) : (s.setRing v k r).grv = s.grv := rfl
@[simp] theorem State.setRing_lne (v k : Nat) (r : Ring) : (s.setRing v k r).lne = s.lne := rfl
@[simp] theorem State.setRing_cwy (v k : Nat) (r : Ring) : (s.setRing v k r).cwy = s.cwy := rfl
@[simp] theorem State.setRing_lpt (v k : Nat) (r : Ring) : (s.setRing v k r).lpt = s.lpt := rfl
@[simp] theorem State.setRing_hif (v k : Nat) (r : Ring) : (s.setRing v k r).hif = s.hif := rfl
@[simp] theorem State.setRing_dge (v k : Nat) (r : Ring) : (s.setRing v k r).dge = s.dge := rfl
@[simp] theorem State.setRing_ent (v k : Nat) (r : Ring) : (s.setRing v k r).ent = s.ent := rfl
@[simp] theorem State.setRing_spn (v k : Nat) (r : Ring) : (s.setRing v k r).spn = s.spn := rfl
@[simp] theorem State.setRing_xh (v k : Nat) (r : Ring) : (s.setRing v k r).xh = s.xh := rfl
@[simp] theorem State.setRing_island (v k : Nat) (r : Ring) : (s.setRing v k r).island = s.island := rfl
@[simp] theorem State.setRing_fcl (v k : Nat) (r : Ring) : (s.setRing v k r).fcl = s.fcl := rfl
@[simp] theorem State.setRing_drf (v k : Nat) (r : Ring) : (s.setRing v k r).drf = s.drf := rfl
@[simp] theorem State.setRing_tol (v k : Nat) (r : Ring) : (s.setRing v k r).tol = s.tol := rfl
@[simp] theorem State.setRing_flash (v k : Nat) (r : Ring) : (s.setRing v k r).flash = s.flash := rfl
@[simp] theorem State.setRing_cus (v k : Nat) (r : Ring) : (s.setRing v k r).cus = s.cus := rfl
@[simp] theorem State.setRing_doe (v k : Nat) (r : Ring) : (s.setRing v k r).doe = s.doe := rfl

@[simp] theorem State.modRing_pending (v k : Nat) (f : Ring → Ring) : (s.modRing v k f).pending = s.pending := rfl
@[simp] theorem State.modRing_out (v k : Nat) (f : Ring → Ring) : (s.modRing v k f).out = s.out := rfl
@[simp] theorem State.modRing_time (v k : Nat) (f : Ring → Ring) : (s.modRing v k f).time = s.time := rfl
@[simp] theorem State.modRing_frees (v k : Nat) (f : Ring → Ring) : (s.modRing v k f).frees = s.frees := rfl
@[simp] theorem State.modRing_draws (v k : Nat) (f : Ring → Ring) : (s.modRing v k f).draws = s.draws := rfl
@[simp] theorem State.modRing_regs (v k : Nat) (f : Ring → Ring) : (s.modRing v k f).regs = s.regs := rfl
@[simp] theorem State.modRing_glb (v k : Nat) (f : Ring → Ring) : (s.modRing v k f).glb = s.glb := rfl
@[simp] theorem State.modRing_lcs (v k : Nat) (f : Ring → Ring) : (s.modRing v k f).lcs = s.lcs := rfl
@[simp] theorem State.modRing_vis (v k : Nat) (f : Ring → Ring) : (s.modRing v k f).vis = s.vis := rfl
@[simp] theorem State.modRing_jobs (v k : Nat) (f : Ring → Ring) : (s.modRing v k f).jobs = s.jobs := rfl
@[simp] theorem State.modRing_nextJob (v k : Nat) (f : Ring → Ring) : (s.modRing v k f).nextJob = s.nextJob := rfl
@[simp] theorem State.modRing_replies (v k : Nat) (f : Ring → Ring) : (s.modRing v k f).replies = s.replies := rfl
@[simp] theorem State.modRing_csn (v k : Nat) (f : Ring → Ring) : (s.modRing v k f).csn = s.csn := rfl
@[simp] theorem State.modRing_fn (v k : Nat) (f : Ring → Ring) : (s.modRing v k f).fn = s.fn := rfl
@[simp] theorem State.modRing_bur (v k : Nat) (f : Ring → Ring) : (s.modRing v k f).bur = s.bur := rfl
@[simp] theorem State.modRing_grv (v k : Nat) (f : Ring → Ring) : (s.modRing v k f).grv = s.grv := rfl
@[simp] theorem State.modRing_lne (v k : Nat) (f : Ring → Ring) : (s.modRing v k f).lne = s.lne := rfl
@[simp] theorem State.modRing_cwy (v k : Nat) (f : Ring → Ring) : (s.modRing v k f).cwy = s.cwy := rfl
@[simp] theorem State.modRing_lpt (v k : Nat) (f : Ring → Ring) : (s.modRing v k f).lpt = s.lpt := rfl
@[simp] theorem State.modRing_hif (v k : Nat) (f : Ring → Ring) : (s.modRing v k f).hif = s.hif := rfl
@[simp] theorem State.modRing_dge (v k : Nat) (f : Ring → Ring) : (s.modRing v k f).dge = s.dge := rfl
@[simp] theorem State.modRing_ent (v k : Nat) (f : Ring → Ring) : (s.modRing v k f).ent = s.ent := rfl
@[simp] theorem State.modRing_spn (v k : Nat) (f : Ring → Ring) : (s.modRing v k f).spn = s.spn := rfl
@[simp] theorem State.modRing_xh (v k : Nat) (f : Ring → Ring) : (s.modRing v k f).xh = s.xh := rfl
@[simp] theorem State.modRing_island (v k : Nat) (f : Ring → Ring) : (s.modRing v k f).island = s.island := rfl
@[simp] theorem State.modRing_fcl (v k : Nat) (f : Ring → Ring) : (s.modRing v k f).fcl = s.fcl := rfl
@[simp] theorem State.modRing_drf (v k : Nat) (f : Ring → Ring) : (s.modRing v k f).drf = s.drf := rfl
@[simp] theorem State.modRing_tol (v k : Nat) (f : Ring → Ring) : (s.modRing v k f).tol = s.tol := rfl
@[simp] theorem State.modRing_flash (v k : Nat) (f : Ring → Ring) : (s.modRing v k f).flash = s.flash := rfl
@[simp] theorem State.modRing_cus (v k : Nat) (f : Ring → Ring) : (s.modRing v k f).cus = s.cus := rfl
@[simp] theorem State.modRing_doe (v k : Nat) (f : Ring → Ring) : (s.modRing v k f).doe = s.doe := rfl

@[simp] theorem State.setPier_pending (p : Nat) (x : Pier) : (s.setPier p x).pending = s.pending := rfl
@[simp] theorem State.setPier_out (p : Nat) (x : Pier) : (s.setPier p x).out = s.out := rfl
@[simp] theorem State.setPier_time (p : Nat) (x : Pier) : (s.setPier p x).time = s.time := rfl
@[simp] theorem State.setPier_frees (p : Nat) (x : Pier) : (s.setPier p x).frees = s.frees := rfl
@[simp] theorem State.setPier_draws (p : Nat) (x : Pier) : (s.setPier p x).draws = s.draws := rfl
@[simp] theorem State.setPier_regs (p : Nat) (x : Pier) : (s.setPier p x).regs = s.regs := rfl
@[simp] theorem State.setPier_glb (p : Nat) (x : Pier) : (s.setPier p x).glb = s.glb := rfl
@[simp] theorem State.setPier_lcs (p : Nat) (x : Pier) : (s.setPier p x).lcs = s.lcs := rfl
@[simp] theorem State.setPier_vis (p : Nat) (x : Pier) : (s.setPier p x).vis = s.vis := rfl
@[simp] theorem State.setPier_rings (p : Nat) (x : Pier) : (s.setPier p x).rings = s.rings := rfl
@[simp] theorem State.setPier_jobs (p : Nat) (x : Pier) : (s.setPier p x).jobs = s.jobs := rfl
@[simp] theorem State.setPier_nextJob (p : Nat) (x : Pier) : (s.setPier p x).nextJob = s.nextJob := rfl
@[simp] theorem State.setPier_replies (p : Nat) (x : Pier) : (s.setPier p x).replies = s.replies := rfl
@[simp] theorem State.setPier_csn (p : Nat) (x : Pier) : (s.setPier p x).csn = s.csn := rfl
@[simp] theorem State.setPier_fn (p : Nat) (x : Pier) : (s.setPier p x).fn = s.fn := rfl
@[simp] theorem State.setPier_grv (p : Nat) (x : Pier) : (s.setPier p x).grv = s.grv := rfl
@[simp] theorem State.setPier_lne (p : Nat) (x : Pier) : (s.setPier p x).lne = s.lne := rfl
@[simp] theorem State.setPier_cwy (p : Nat) (x : Pier) : (s.setPier p x).cwy = s.cwy := rfl
@[simp] theorem State.setPier_lpt (p : Nat) (x : Pier) : (s.setPier p x).lpt = s.lpt := rfl
@[simp] theorem State.setPier_hif (p : Nat) (x : Pier) : (s.setPier p x).hif = s.hif := rfl
@[simp] theorem State.setPier_dge (p : Nat) (x : Pier) : (s.setPier p x).dge = s.dge := rfl
@[simp] theorem State.setPier_ent (p : Nat) (x : Pier) : (s.setPier p x).ent = s.ent := rfl
@[simp] theorem State.setPier_spn (p : Nat) (x : Pier) : (s.setPier p x).spn = s.spn := rfl
@[simp] theorem State.setPier_xh (p : Nat) (x : Pier) : (s.setPier p x).xh = s.xh := rfl
@[simp] theorem State.setPier_island (p : Nat) (x : Pier) : (s.setPier p x).island = s.island := rfl
@[simp] theorem State.setPier_fcl (p : Nat) (x : Pier) : (s.setPier p x).fcl = s.fcl := rfl
@[simp] theorem State.setPier_drf (p : Nat) (x : Pier) : (s.setPier p x).drf = s.drf := rfl
@[simp] theorem State.setPier_tol (p : Nat) (x : Pier) : (s.setPier p x).tol = s.tol := rfl
@[simp] theorem State.setPier_flash (p : Nat) (x : Pier) : (s.setPier p x).flash = s.flash := rfl
@[simp] theorem State.setPier_cus (p : Nat) (x : Pier) : (s.setPier p x).cus = s.cus := rfl
@[simp] theorem State.setPier_doe (p : Nat) (x : Pier) : (s.setPier p x).doe = s.doe := rfl

@[simp] theorem State.modPier_pending (p : Nat) (f : Pier → Pier) : (s.modPier p f).pending = s.pending := rfl
@[simp] theorem State.modPier_out (p : Nat) (f : Pier → Pier) : (s.modPier p f).out = s.out := rfl
@[simp] theorem State.modPier_time (p : Nat) (f : Pier → Pier) : (s.modPier p f).time = s.time := rfl
@[simp] theorem State.modPier_frees (p : Nat) (f : Pier → Pier) : (s.modPier p f).frees = s.frees := rfl
@[simp] theorem State.modPier_draws (p : Nat) (f : Pier → Pier) : (s.modPier p f).draws = s.draws := rfl
@[simp] theorem State.modPier_regs (p : Nat) (f : Pier → Pier) : (s.modPier p f).regs = s.regs := rfl
@[simp] theorem State.modPier_glb (p : Nat) (f : Pier → Pier) : (s.modPier p f).glb = s.glb := rfl
@[simp] theorem State.modPier_lcs (p : Nat) (f : Pier → Pier) : (s.modPier p f).lcs = s.lcs := rfl
@[simp] theorem State.modPier_vis (p : Nat) (f : Pier → Pier) : (s.modPier p f).vis = s.vis := rfl
@[simp] theorem State.modPier_rings (p : Nat) (f : Pier → Pier) : (s.modPier p f).rings = s.rings := rfl
@[simp] theorem State.modPier_jobs (p : Nat) (f : Pier → Pier) : (s.modPier p f).jobs = s.jobs := rfl
@[simp] theorem State.modPier_nextJob (p : Nat) (f : Pier → Pier) : (s.modPier p f).nextJob = s.nextJob := rfl
@[simp] theorem State.modPier_replies (p : Nat) (f : Pier → Pier) : (s.modPier p f).replies = s.replies := rfl
@[simp] theorem State.modPier_csn (p : Nat) (f : Pier → Pier) : (s.modPier p f).csn = s.csn := rfl
@[simp] theorem State.modPier_fn (p : Nat) (f : Pier → Pier) : (s.modPier p f).fn = s.fn := rfl
@[simp] theorem State.modPier_grv (p : Nat) (f : Pier → Pier) : (s.modPier p f).grv = s.grv := rfl
@[simp] theorem State.modPier_lne (p : Nat) (f : Pier → Pier) : (s.modPier p f).lne = s.lne := rfl
@[simp] theorem State.modPier_cwy (p : Nat) (f : Pier → Pier) : (s.modPier p f).cwy = s.cwy := rfl
@[simp] theorem State.modPier_lpt (p : Nat) (f : Pier → Pier) : (s.modPier p f).lpt = s.lpt := rfl
@[simp] theorem State.modPier_hif (p : Nat) (f : Pier → Pier) : (s.modPier p f).hif = s.hif := rfl
@[simp] theorem State.modPier_dge (p : Nat) (f : Pier → Pier) : (s.modPier p f).dge = s.dge := rfl
@[simp] theorem State.modPier_ent (p : Nat) (f : Pier → Pier) : (s.modPier p f).ent = s.ent := rfl
@[simp] theorem State.modPier_spn (p : Nat) (f : Pier → Pier) : (s.modPier p f).spn = s.spn := rfl
@[simp] theorem State.modPier_xh (p : Nat) (f : Pier → Pier) : (s.modPier p f).xh = s.xh := rfl
@[simp] theorem State.modPier_island (p : Nat) (f : Pier → Pier) : (s.modPier p f).island = s.island := rfl
@[simp] theorem State.modPier_fcl (p : Nat) (f : Pier → Pier) : (s.modPier p f).fcl = s.fcl := rfl
@[simp] theorem State.modPier_drf (p : Nat) (f : Pier → Pier) : (s.modPier p f).drf = s.drf := rfl
@[simp] theorem State.modPier_tol (p : Nat) (f : Pier → Pier) : (s.modPier p f).tol = s.tol := rfl
@[simp] theorem State.modPier_flash (p : Nat) (f : Pier → Pier) : (s.modPier p f).flash = s.flash := rfl
@[simp] theorem State.modPier_cus (p : Nat) (f : Pier → Pier) : (s.modPier p f).cus = s.cus := rfl
@[simp] theorem State.modPier_doe (p : Nat) (f : Pier → Pier) : (s.modPier p f).doe = s.doe := rfl

@[simp] theorem State.setBurin_pending (p b : Nat) (x : Burin) : (s.setBurin p b x).pending = s.pending := rfl
@[simp] theorem State.setBurin_out (p b : Nat) (x : Burin) : (s.setBurin p b x).out = s.out := rfl
@[simp] theorem State.setBurin_time (p b : Nat) (x : Burin) : (s.setBurin p b x).time = s.time := rfl
@[simp] theorem State.setBurin_frees (p b : Nat) (x : Burin) : (s.setBurin p b x).frees = s.frees := rfl
@[simp] theorem State.setBurin_draws (p b : Nat) (x : Burin) : (s.setBurin p b x).draws = s.draws := rfl
@[simp] theorem State.setBurin_regs (p b : Nat) (x : Burin) : (s.setBurin p b x).regs = s.regs := rfl
@[simp] theorem State.setBurin_glb (p b : Nat) (x : Burin) : (s.setBurin p b x).glb = s.glb := rfl
@[simp] theorem State.setBurin_lcs (p b : Nat) (x : Burin) : (s.setBurin p b x).lcs = s.lcs := rfl
@[simp] theorem State.setBurin_vis (p b : Nat) (x : Burin) : (s.setBurin p b x).vis = s.vis := rfl
@[simp] theorem State.setBurin_rings (p b : Nat) (x : Burin) : (s.setBurin p b x).rings = s.rings := rfl
@[simp] theorem State.setBurin_jobs (p b : Nat) (x : Burin) : (s.setBurin p b x).jobs = s.jobs := rfl
@[simp] theorem State.setBurin_nextJob (p b : Nat) (x : Burin) : (s.setBurin p b x).nextJob = s.nextJob := rfl
@[simp] theorem State.setBurin_replies (p b : Nat) (x : Burin) : (s.setBurin p b x).replies = s.replies := rfl
@[simp] theorem State.setBurin_csn (p b : Nat) (x : Burin) : (s.setBurin p b x).csn = s.csn := rfl
@[simp] theorem State.setBurin_fn (p b : Nat) (x : Burin) : (s.setBurin p b x).fn = s.fn := rfl
@[simp] theorem State.setBurin_grv (p b : Nat) (x : Burin) : (s.setBurin p b x).grv = s.grv := rfl
@[simp] theorem State.setBurin_lne (p b : Nat) (x : Burin) : (s.setBurin p b x).lne = s.lne := rfl
@[simp] theorem State.setBurin_cwy (p b : Nat) (x : Burin) : (s.setBurin p b x).cwy = s.cwy := rfl
@[simp] theorem State.setBurin_lpt (p b : Nat) (x : Burin) : (s.setBurin p b x).lpt = s.lpt := rfl
@[simp] theorem State.setBurin_hif (p b : Nat) (x : Burin) : (s.setBurin p b x).hif = s.hif := rfl
@[simp] theorem State.setBurin_dge (p b : Nat) (x : Burin) : (s.setBurin p b x).dge = s.dge := rfl
@[simp] theorem State.setBurin_ent (p b : Nat) (x : Burin) : (s.setBurin p b x).ent = s.ent := rfl
@[simp] theorem State.setBurin_spn (p b : Nat) (x : Burin) : (s.setBurin p b x).spn = s.spn := rfl
@[simp] theorem State.setBurin_xh (p b : Nat) (x : Burin) : (s.setBurin p b x).xh = s.xh := rfl
@[simp] theorem State.setBurin_island (p b : Nat) (x : Burin) : (s.setBurin p b x).island = s.island := rfl
@[simp] theorem State.setBurin_fcl (p b : Nat) (x : Burin) : (s.setBurin p b x).fcl = s.fcl := rfl
@[simp] theorem State.setBurin_drf (p b : Nat) (x : Burin) : (s.setBurin p b x).drf = s.drf := rfl
@[simp] theorem State.setBurin_tol (p b : Nat) (x : Burin) : (s.setBurin p b x).tol = s.tol := rfl
@[simp] theorem State.setBurin_flash (p b : Nat) (x : Burin) : (s.setBurin p b x).flash = s.flash := rfl
@[simp] theorem State.setBurin_cus (p b : Nat) (x : Burin) : (s.setBurin p b x).cus = s.cus := rfl
@[simp] theorem State.setBurin_doe (p b : Nat) (x : Burin) : (s.setBurin p b x).doe = s.doe := rfl

@[simp] theorem State.modBurin_pending (p b : Nat) (f : Burin → Burin) : (s.modBurin p b f).pending = s.pending := rfl
@[simp] theorem State.modBurin_out (p b : Nat) (f : Burin → Burin) : (s.modBurin p b f).out = s.out := rfl
@[simp] theorem State.modBurin_time (p b : Nat) (f : Burin → Burin) : (s.modBurin p b f).time = s.time := rfl
@[simp] theorem State.modBurin_frees (p b : Nat) (f : Burin → Burin) : (s.modBurin p b f).frees = s.frees := rfl
@[simp] theorem State.modBurin_draws (p b : Nat) (f : Burin → Burin) : (s.modBurin p b f).draws = s.draws := rfl
@[simp] theorem State.modBurin_regs (p b : Nat) (f : Burin → Burin) : (s.modBurin p b f).regs = s.regs := rfl
@[simp] theorem State.modBurin_glb (p b : Nat) (f : Burin → Burin) : (s.modBurin p b f).glb = s.glb := rfl
@[simp] theorem State.modBurin_lcs (p b : Nat) (f : Burin → Burin) : (s.modBurin p b f).lcs = s.lcs := rfl
@[simp] theorem State.modBurin_vis (p b : Nat) (f : Burin → Burin) : (s.modBurin p b f).vis = s.vis := rfl
@[simp] theorem State.modBurin_rings (p b : Nat) (f : Burin → Burin) : (s.modBurin p b f).rings = s.rings := rfl
@[simp] theorem State.modBurin_jobs (p b : Nat) (f : Burin → Burin) : (s.modBurin p b f).jobs = s.jobs := rfl
@[simp] theorem State.modBurin_nextJob (p b : Nat) (f : Burin → Burin) : (s.modBurin p b f).nextJob = s.nextJob := rfl
@[simp] theorem State.modBurin_replies (p b : Nat) (f : Burin → Burin) : (s.modBurin p b f).replies = s.replies := rfl
@[simp] theorem State.modBurin_csn (p b : Nat) (f : Burin → Burin) : (s.modBurin p b f).csn = s.csn := rfl
@[simp] theorem State.modBurin_fn (p b : Nat) (f : Burin → Burin) : (s.modBurin p b f).fn = s.fn := rfl
@[simp] theorem State.modBurin_grv (p b : Nat) (f : Burin → Burin) : (s.modBurin p b f).grv = s.grv := rfl
@[simp] theorem State.modBurin_lne (p b : Nat) (f : Burin → Burin) : (s.modBurin p b f).lne = s.lne := rfl
@[simp] theorem State.modBurin_cwy (p b : Nat) (f : Burin → Burin) : (s.modBurin p b f).cwy = s.cwy := rfl
@[simp] theorem State.modBurin_lpt (p b : Nat) (f : Burin → Burin) : (s.modBurin p b f).lpt = s.lpt := rfl
@[simp] theorem State.modBurin_hif (p b : Nat) (f : Burin → Burin) : (s.modBurin p b f).hif = s.hif := rfl
@[simp] theorem State.modBurin_dge (p b : Nat) (f : Burin → Burin) : (s.modBurin p b f).dge = s.dge := rfl
@[simp] theorem State.modBurin_ent (p b : Nat) (f : Burin → Burin) : (s.modBurin p b f).ent = s.ent := rfl
@[simp] theorem State.modBurin_spn (p b : Nat) (f : Burin → Burin) : (s.modBurin p b f).spn = s.spn := rfl
@[simp] theorem State.modBurin_xh (p b : Nat) (f : Burin → Burin) : (s.modBurin p b f).xh = s.xh := rfl
@[simp] theorem State.modBurin_island (p b : Nat) (f : Burin → Burin) : (s.modBurin p b f).island = s.island := rfl
@[simp] theorem State.modBurin_fcl (p b : Nat) (f : Burin → Burin) : (s.modBurin p b f).fcl = s.fcl := rfl
@[simp] theorem State.modBurin_drf (p b : Nat) (f : Burin → Burin) : (s.modBurin p b f).drf = s.drf := rfl
@[simp] theorem State.modBurin_tol (p b : Nat) (f : Burin → Burin) : (s.modBurin p b f).tol = s.tol := rfl
@[simp] theorem State.modBurin_flash (p b : Nat) (f : Burin → Burin) : (s.modBurin p b f).flash = s.flash := rfl
@[simp] theorem State.modBurin_cus (p b : Nat) (f : Burin → Burin) : (s.modBurin p b f).cus = s.cus := rfl
@[simp] theorem State.modBurin_doe (p b : Nat) (f : Burin → Burin) : (s.modBurin p b f).doe = s.doe := rfl

@[simp] theorem State.setCore_pending (c : Nat) (x : Core) : (s.setCore c x).pending = s.pending := rfl
@[simp] theorem State.setCore_out (c : Nat) (x : Core) : (s.setCore c x).out = s.out := rfl
@[simp] theorem State.setCore_time (c : Nat) (x : Core) : (s.setCore c x).time = s.time := rfl
@[simp] theorem State.setCore_frees (c : Nat) (x : Core) : (s.setCore c x).frees = s.frees := rfl
@[simp] theorem State.setCore_draws (c : Nat) (x : Core) : (s.setCore c x).draws = s.draws := rfl
@[simp] theorem State.setCore_regs (c : Nat) (x : Core) : (s.setCore c x).regs = s.regs := rfl
@[simp] theorem State.setCore_glb (c : Nat) (x : Core) : (s.setCore c x).glb = s.glb := rfl
@[simp] theorem State.setCore_lcs (c : Nat) (x : Core) : (s.setCore c x).lcs = s.lcs := rfl
@[simp] theorem State.setCore_vis (c : Nat) (x : Core) : (s.setCore c x).vis = s.vis := rfl
@[simp] theorem State.setCore_rings (c : Nat) (x : Core) : (s.setCore c x).rings = s.rings := rfl
@[simp] theorem State.setCore_jobs (c : Nat) (x : Core) : (s.setCore c x).jobs = s.jobs := rfl
@[simp] theorem State.setCore_nextJob (c : Nat) (x : Core) : (s.setCore c x).nextJob = s.nextJob := rfl
@[simp] theorem State.setCore_replies (c : Nat) (x : Core) : (s.setCore c x).replies = s.replies := rfl
@[simp] theorem State.setCore_csn (c : Nat) (x : Core) : (s.setCore c x).csn = s.csn := rfl
@[simp] theorem State.setCore_fn (c : Nat) (x : Core) : (s.setCore c x).fn = s.fn := rfl
@[simp] theorem State.setCore_bur (c : Nat) (x : Core) : (s.setCore c x).bur = s.bur := rfl
@[simp] theorem State.setCore_lne (c : Nat) (x : Core) : (s.setCore c x).lne = s.lne := rfl
@[simp] theorem State.setCore_cwy (c : Nat) (x : Core) : (s.setCore c x).cwy = s.cwy := rfl
@[simp] theorem State.setCore_lpt (c : Nat) (x : Core) : (s.setCore c x).lpt = s.lpt := rfl
@[simp] theorem State.setCore_hif (c : Nat) (x : Core) : (s.setCore c x).hif = s.hif := rfl
@[simp] theorem State.setCore_dge (c : Nat) (x : Core) : (s.setCore c x).dge = s.dge := rfl
@[simp] theorem State.setCore_ent (c : Nat) (x : Core) : (s.setCore c x).ent = s.ent := rfl
@[simp] theorem State.setCore_spn (c : Nat) (x : Core) : (s.setCore c x).spn = s.spn := rfl
@[simp] theorem State.setCore_xh (c : Nat) (x : Core) : (s.setCore c x).xh = s.xh := rfl
@[simp] theorem State.setCore_island (c : Nat) (x : Core) : (s.setCore c x).island = s.island := rfl
@[simp] theorem State.setCore_fcl (c : Nat) (x : Core) : (s.setCore c x).fcl = s.fcl := rfl
@[simp] theorem State.setCore_drf (c : Nat) (x : Core) : (s.setCore c x).drf = s.drf := rfl
@[simp] theorem State.setCore_tol (c : Nat) (x : Core) : (s.setCore c x).tol = s.tol := rfl
@[simp] theorem State.setCore_flash (c : Nat) (x : Core) : (s.setCore c x).flash = s.flash := rfl
@[simp] theorem State.setCore_cus (c : Nat) (x : Core) : (s.setCore c x).cus = s.cus := rfl
@[simp] theorem State.setCore_doe (c : Nat) (x : Core) : (s.setCore c x).doe = s.doe := rfl

@[simp] theorem State.modCore_pending (c : Nat) (f : Core → Core) : (s.modCore c f).pending = s.pending := rfl
@[simp] theorem State.modCore_out (c : Nat) (f : Core → Core) : (s.modCore c f).out = s.out := rfl
@[simp] theorem State.modCore_time (c : Nat) (f : Core → Core) : (s.modCore c f).time = s.time := rfl
@[simp] theorem State.modCore_frees (c : Nat) (f : Core → Core) : (s.modCore c f).frees = s.frees := rfl
@[simp] theorem State.modCore_draws (c : Nat) (f : Core → Core) : (s.modCore c f).draws = s.draws := rfl
@[simp] theorem State.modCore_regs (c : Nat) (f : Core → Core) : (s.modCore c f).regs = s.regs := rfl
@[simp] theorem State.modCore_glb (c : Nat) (f : Core → Core) : (s.modCore c f).glb = s.glb := rfl
@[simp] theorem State.modCore_lcs (c : Nat) (f : Core → Core) : (s.modCore c f).lcs = s.lcs := rfl
@[simp] theorem State.modCore_vis (c : Nat) (f : Core → Core) : (s.modCore c f).vis = s.vis := rfl
@[simp] theorem State.modCore_rings (c : Nat) (f : Core → Core) : (s.modCore c f).rings = s.rings := rfl
@[simp] theorem State.modCore_jobs (c : Nat) (f : Core → Core) : (s.modCore c f).jobs = s.jobs := rfl
@[simp] theorem State.modCore_nextJob (c : Nat) (f : Core → Core) : (s.modCore c f).nextJob = s.nextJob := rfl
@[simp] theorem State.modCore_replies (c : Nat) (f : Core → Core) : (s.modCore c f).replies = s.replies := rfl
@[simp] theorem State.modCore_csn (c : Nat) (f : Core → Core) : (s.modCore c f).csn = s.csn := rfl
@[simp] theorem State.modCore_fn (c : Nat) (f : Core → Core) : (s.modCore c f).fn = s.fn := rfl
@[simp] theorem State.modCore_bur (c : Nat) (f : Core → Core) : (s.modCore c f).bur = s.bur := rfl
@[simp] theorem State.modCore_lne (c : Nat) (f : Core → Core) : (s.modCore c f).lne = s.lne := rfl
@[simp] theorem State.modCore_cwy (c : Nat) (f : Core → Core) : (s.modCore c f).cwy = s.cwy := rfl
@[simp] theorem State.modCore_lpt (c : Nat) (f : Core → Core) : (s.modCore c f).lpt = s.lpt := rfl
@[simp] theorem State.modCore_hif (c : Nat) (f : Core → Core) : (s.modCore c f).hif = s.hif := rfl
@[simp] theorem State.modCore_dge (c : Nat) (f : Core → Core) : (s.modCore c f).dge = s.dge := rfl
@[simp] theorem State.modCore_ent (c : Nat) (f : Core → Core) : (s.modCore c f).ent = s.ent := rfl
@[simp] theorem State.modCore_spn (c : Nat) (f : Core → Core) : (s.modCore c f).spn = s.spn := rfl
@[simp] theorem State.modCore_xh (c : Nat) (f : Core → Core) : (s.modCore c f).xh = s.xh := rfl
@[simp] theorem State.modCore_island (c : Nat) (f : Core → Core) : (s.modCore c f).island = s.island := rfl
@[simp] theorem State.modCore_fcl (c : Nat) (f : Core → Core) : (s.modCore c f).fcl = s.fcl := rfl
@[simp] theorem State.modCore_drf (c : Nat) (f : Core → Core) : (s.modCore c f).drf = s.drf := rfl
@[simp] theorem State.modCore_tol (c : Nat) (f : Core → Core) : (s.modCore c f).tol = s.tol := rfl
@[simp] theorem State.modCore_flash (c : Nat) (f : Core → Core) : (s.modCore c f).flash = s.flash := rfl
@[simp] theorem State.modCore_cus (c : Nat) (f : Core → Core) : (s.modCore c f).cus = s.cus := rfl
@[simp] theorem State.modCore_doe (c : Nat) (f : Core → Core) : (s.modCore c f).doe = s.doe := rfl

@[simp] theorem State.setLane_pending (l : Nat) (x : Lane) : (s.setLane l x).pending = s.pending := rfl
@[simp] theorem State.setLane_out (l : Nat) (x : Lane) : (s.setLane l x).out = s.out := rfl
@[simp] theorem State.setLane_time (l : Nat) (x : Lane) : (s.setLane l x).time = s.time := rfl
@[simp] theorem State.setLane_frees (l : Nat) (x : Lane) : (s.setLane l x).frees = s.frees := rfl
@[simp] theorem State.setLane_draws (l : Nat) (x : Lane) : (s.setLane l x).draws = s.draws := rfl
@[simp] theorem State.setLane_regs (l : Nat) (x : Lane) : (s.setLane l x).regs = s.regs := rfl
@[simp] theorem State.setLane_glb (l : Nat) (x : Lane) : (s.setLane l x).glb = s.glb := rfl
@[simp] theorem State.setLane_lcs (l : Nat) (x : Lane) : (s.setLane l x).lcs = s.lcs := rfl
@[simp] theorem State.setLane_vis (l : Nat) (x : Lane) : (s.setLane l x).vis = s.vis := rfl
@[simp] theorem State.setLane_rings (l : Nat) (x : Lane) : (s.setLane l x).rings = s.rings := rfl
@[simp] theorem State.setLane_jobs (l : Nat) (x : Lane) : (s.setLane l x).jobs = s.jobs := rfl
@[simp] theorem State.setLane_nextJob (l : Nat) (x : Lane) : (s.setLane l x).nextJob = s.nextJob := rfl
@[simp] theorem State.setLane_replies (l : Nat) (x : Lane) : (s.setLane l x).replies = s.replies := rfl
@[simp] theorem State.setLane_csn (l : Nat) (x : Lane) : (s.setLane l x).csn = s.csn := rfl
@[simp] theorem State.setLane_fn (l : Nat) (x : Lane) : (s.setLane l x).fn = s.fn := rfl
@[simp] theorem State.setLane_bur (l : Nat) (x : Lane) : (s.setLane l x).bur = s.bur := rfl
@[simp] theorem State.setLane_grv (l : Nat) (x : Lane) : (s.setLane l x).grv = s.grv := rfl
@[simp] theorem State.setLane_cwy (l : Nat) (x : Lane) : (s.setLane l x).cwy = s.cwy := rfl
@[simp] theorem State.setLane_lpt (l : Nat) (x : Lane) : (s.setLane l x).lpt = s.lpt := rfl
@[simp] theorem State.setLane_hif (l : Nat) (x : Lane) : (s.setLane l x).hif = s.hif := rfl
@[simp] theorem State.setLane_dge (l : Nat) (x : Lane) : (s.setLane l x).dge = s.dge := rfl
@[simp] theorem State.setLane_ent (l : Nat) (x : Lane) : (s.setLane l x).ent = s.ent := rfl
@[simp] theorem State.setLane_spn (l : Nat) (x : Lane) : (s.setLane l x).spn = s.spn := rfl
@[simp] theorem State.setLane_xh (l : Nat) (x : Lane) : (s.setLane l x).xh = s.xh := rfl
@[simp] theorem State.setLane_island (l : Nat) (x : Lane) : (s.setLane l x).island = s.island := rfl
@[simp] theorem State.setLane_fcl (l : Nat) (x : Lane) : (s.setLane l x).fcl = s.fcl := rfl
@[simp] theorem State.setLane_drf (l : Nat) (x : Lane) : (s.setLane l x).drf = s.drf := rfl
@[simp] theorem State.setLane_tol (l : Nat) (x : Lane) : (s.setLane l x).tol = s.tol := rfl
@[simp] theorem State.setLane_flash (l : Nat) (x : Lane) : (s.setLane l x).flash = s.flash := rfl
@[simp] theorem State.setLane_cus (l : Nat) (x : Lane) : (s.setLane l x).cus = s.cus := rfl
@[simp] theorem State.setLane_doe (l : Nat) (x : Lane) : (s.setLane l x).doe = s.doe := rfl

@[simp] theorem State.modLane_pending (l : Nat) (f : Lane → Lane) : (s.modLane l f).pending = s.pending := rfl
@[simp] theorem State.modLane_out (l : Nat) (f : Lane → Lane) : (s.modLane l f).out = s.out := rfl
@[simp] theorem State.modLane_time (l : Nat) (f : Lane → Lane) : (s.modLane l f).time = s.time := rfl
@[simp] theorem State.modLane_frees (l : Nat) (f : Lane → Lane) : (s.modLane l f).frees = s.frees := rfl
@[simp] theorem State.modLane_draws (l : Nat) (f : Lane → Lane) : (s.modLane l f).draws = s.draws := rfl
@[simp] theorem State.modLane_regs (l : Nat) (f : Lane → Lane) : (s.modLane l f).regs = s.regs := rfl
@[simp] theorem State.modLane_glb (l : Nat) (f : Lane → Lane) : (s.modLane l f).glb = s.glb := rfl
@[simp] theorem State.modLane_lcs (l : Nat) (f : Lane → Lane) : (s.modLane l f).lcs = s.lcs := rfl
@[simp] theorem State.modLane_vis (l : Nat) (f : Lane → Lane) : (s.modLane l f).vis = s.vis := rfl
@[simp] theorem State.modLane_rings (l : Nat) (f : Lane → Lane) : (s.modLane l f).rings = s.rings := rfl
@[simp] theorem State.modLane_jobs (l : Nat) (f : Lane → Lane) : (s.modLane l f).jobs = s.jobs := rfl
@[simp] theorem State.modLane_nextJob (l : Nat) (f : Lane → Lane) : (s.modLane l f).nextJob = s.nextJob := rfl
@[simp] theorem State.modLane_replies (l : Nat) (f : Lane → Lane) : (s.modLane l f).replies = s.replies := rfl
@[simp] theorem State.modLane_csn (l : Nat) (f : Lane → Lane) : (s.modLane l f).csn = s.csn := rfl
@[simp] theorem State.modLane_fn (l : Nat) (f : Lane → Lane) : (s.modLane l f).fn = s.fn := rfl
@[simp] theorem State.modLane_bur (l : Nat) (f : Lane → Lane) : (s.modLane l f).bur = s.bur := rfl
@[simp] theorem State.modLane_grv (l : Nat) (f : Lane → Lane) : (s.modLane l f).grv = s.grv := rfl
@[simp] theorem State.modLane_cwy (l : Nat) (f : Lane → Lane) : (s.modLane l f).cwy = s.cwy := rfl
@[simp] theorem State.modLane_lpt (l : Nat) (f : Lane → Lane) : (s.modLane l f).lpt = s.lpt := rfl
@[simp] theorem State.modLane_hif (l : Nat) (f : Lane → Lane) : (s.modLane l f).hif = s.hif := rfl
@[simp] theorem State.modLane_dge (l : Nat) (f : Lane → Lane) : (s.modLane l f).dge = s.dge := rfl
@[simp] theorem State.modLane_ent (l : Nat) (f : Lane → Lane) : (s.modLane l f).ent = s.ent := rfl
@[simp] theorem State.modLane_spn (l : Nat) (f : Lane → Lane) : (s.modLane l f).spn = s.spn := rfl
@[simp] theorem State.modLane_xh (l : Nat) (f : Lane → Lane) : (s.modLane l f).xh = s.xh := rfl
@[simp] theorem State.modLane_island (l : Nat) (f : Lane → Lane) : (s.modLane l f).island = s.island := rfl
@[simp] theorem State.modLane_fcl (l : Nat) (f : Lane → Lane) : (s.modLane l f).fcl = s.fcl := rfl
@[simp] theorem State.modLane_drf (l : Nat) (f : Lane → Lane) : (s.modLane l f).drf = s.drf := rfl
@[simp] theorem State.modLane_tol (l : Nat) (f : Lane → Lane) : (s.modLane l f).tol = s.tol := rfl
@[simp] theorem State.modLane_flash (l : Nat) (f : Lane → Lane) : (s.modLane l f).flash = s.flash := rfl
@[simp] theorem State.modLane_cus (l : Nat) (f : Lane → Lane) : (s.modLane l f).cus = s.cus := rfl
@[simp] theorem State.modLane_doe (l : Nat) (f : Lane → Lane) : (s.modLane l f).doe = s.doe := rfl

@[simp] theorem State.putJob_pending (j : Nat) (x : Job) : (s.putJob j x).pending = s.pending := rfl
@[simp] theorem State.putJob_out (j : Nat) (x : Job) : (s.putJob j x).out = s.out := rfl
@[simp] theorem State.putJob_time (j : Nat) (x : Job) : (s.putJob j x).time = s.time := rfl
@[simp] theorem State.putJob_frees (j : Nat) (x : Job) : (s.putJob j x).frees = s.frees := rfl
@[simp] theorem State.putJob_draws (j : Nat) (x : Job) : (s.putJob j x).draws = s.draws := rfl
@[simp] theorem State.putJob_regs (j : Nat) (x : Job) : (s.putJob j x).regs = s.regs := rfl
@[simp] theorem State.putJob_glb (j : Nat) (x : Job) : (s.putJob j x).glb = s.glb := rfl
@[simp] theorem State.putJob_lcs (j : Nat) (x : Job) : (s.putJob j x).lcs = s.lcs := rfl
@[simp] theorem State.putJob_vis (j : Nat) (x : Job) : (s.putJob j x).vis = s.vis := rfl
@[simp] theorem State.putJob_rings (j : Nat) (x : Job) : (s.putJob j x).rings = s.rings := rfl
@[simp] theorem State.putJob_nextJob (j : Nat) (x : Job) : (s.putJob j x).nextJob = s.nextJob := rfl
@[simp] theorem State.putJob_replies (j : Nat) (x : Job) : (s.putJob j x).replies = s.replies := rfl
@[simp] theorem State.putJob_csn (j : Nat) (x : Job) : (s.putJob j x).csn = s.csn := rfl
@[simp] theorem State.putJob_fn (j : Nat) (x : Job) : (s.putJob j x).fn = s.fn := rfl
@[simp] theorem State.putJob_bur (j : Nat) (x : Job) : (s.putJob j x).bur = s.bur := rfl
@[simp] theorem State.putJob_grv (j : Nat) (x : Job) : (s.putJob j x).grv = s.grv := rfl
@[simp] theorem State.putJob_lne (j : Nat) (x : Job) : (s.putJob j x).lne = s.lne := rfl
@[simp] theorem State.putJob_cwy (j : Nat) (x : Job) : (s.putJob j x).cwy = s.cwy := rfl
@[simp] theorem State.putJob_lpt (j : Nat) (x : Job) : (s.putJob j x).lpt = s.lpt := rfl
@[simp] theorem State.putJob_hif (j : Nat) (x : Job) : (s.putJob j x).hif = s.hif := rfl
@[simp] theorem State.putJob_dge (j : Nat) (x : Job) : (s.putJob j x).dge = s.dge := rfl
@[simp] theorem State.putJob_ent (j : Nat) (x : Job) : (s.putJob j x).ent = s.ent := rfl
@[simp] theorem State.putJob_spn (j : Nat) (x : Job) : (s.putJob j x).spn = s.spn := rfl
@[simp] theorem State.putJob_xh (j : Nat) (x : Job) : (s.putJob j x).xh = s.xh := rfl
@[simp] theorem State.putJob_island (j : Nat) (x : Job) : (s.putJob j x).island = s.island := rfl
@[simp] theorem State.putJob_fcl (j : Nat) (x : Job) : (s.putJob j x).fcl = s.fcl := rfl
@[simp] theorem State.putJob_drf (j : Nat) (x : Job) : (s.putJob j x).drf = s.drf := rfl
@[simp] theorem State.putJob_tol (j : Nat) (x : Job) : (s.putJob j x).tol = s.tol := rfl
@[simp] theorem State.putJob_flash (j : Nat) (x : Job) : (s.putJob j x).flash = s.flash := rfl
@[simp] theorem State.putJob_cus (j : Nat) (x : Job) : (s.putJob j x).cus = s.cus := rfl
@[simp] theorem State.putJob_doe (j : Nat) (x : Job) : (s.putJob j x).doe = s.doe := rfl

@[simp] theorem State.modJob_pending (j : Nat) (f : Job → Job) : (s.modJob j f).pending = s.pending := rfl
@[simp] theorem State.modJob_out (j : Nat) (f : Job → Job) : (s.modJob j f).out = s.out := rfl
@[simp] theorem State.modJob_time (j : Nat) (f : Job → Job) : (s.modJob j f).time = s.time := rfl
@[simp] theorem State.modJob_frees (j : Nat) (f : Job → Job) : (s.modJob j f).frees = s.frees := rfl
@[simp] theorem State.modJob_draws (j : Nat) (f : Job → Job) : (s.modJob j f).draws = s.draws := rfl
@[simp] theorem State.modJob_regs (j : Nat) (f : Job → Job) : (s.modJob j f).regs = s.regs := rfl
@[simp] theorem State.modJob_glb (j : Nat) (f : Job → Job) : (s.modJob j f).glb = s.glb := rfl
@[simp] theorem State.modJob_lcs (j : Nat) (f : Job → Job) : (s.modJob j f).lcs = s.lcs := rfl
@[simp] theorem State.modJob_vis (j : Nat) (f : Job → Job) : (s.modJob j f).vis = s.vis := rfl
@[simp] theorem State.modJob_rings (j : Nat) (f : Job → Job) : (s.modJob j f).rings = s.rings := rfl
@[simp] theorem State.modJob_nextJob (j : Nat) (f : Job → Job) : (s.modJob j f).nextJob = s.nextJob := rfl
@[simp] theorem State.modJob_replies (j : Nat) (f : Job → Job) : (s.modJob j f).replies = s.replies := rfl
@[simp] theorem State.modJob_csn (j : Nat) (f : Job → Job) : (s.modJob j f).csn = s.csn := rfl
@[simp] theorem State.modJob_fn (j : Nat) (f : Job → Job) : (s.modJob j f).fn = s.fn := rfl
@[simp] theorem State.modJob_bur (j : Nat) (f : Job → Job) : (s.modJob j f).bur = s.bur := rfl
@[simp] theorem State.modJob_grv (j : Nat) (f : Job → Job) : (s.modJob j f).grv = s.grv := rfl
@[simp] theorem State.modJob_lne (j : Nat) (f : Job → Job) : (s.modJob j f).lne = s.lne := rfl
@[simp] theorem State.modJob_cwy (j : Nat) (f : Job → Job) : (s.modJob j f).cwy = s.cwy := rfl
@[simp] theorem State.modJob_lpt (j : Nat) (f : Job → Job) : (s.modJob j f).lpt = s.lpt := rfl
@[simp] theorem State.modJob_hif (j : Nat) (f : Job → Job) : (s.modJob j f).hif = s.hif := rfl
@[simp] theorem State.modJob_dge (j : Nat) (f : Job → Job) : (s.modJob j f).dge = s.dge := rfl
@[simp] theorem State.modJob_ent (j : Nat) (f : Job → Job) : (s.modJob j f).ent = s.ent := rfl
@[simp] theorem State.modJob_spn (j : Nat) (f : Job → Job) : (s.modJob j f).spn = s.spn := rfl
@[simp] theorem State.modJob_xh (j : Nat) (f : Job → Job) : (s.modJob j f).xh = s.xh := rfl
@[simp] theorem State.modJob_island (j : Nat) (f : Job → Job) : (s.modJob j f).island = s.island := rfl
@[simp] theorem State.modJob_fcl (j : Nat) (f : Job → Job) : (s.modJob j f).fcl = s.fcl := rfl
@[simp] theorem State.modJob_drf (j : Nat) (f : Job → Job) : (s.modJob j f).drf = s.drf := rfl
@[simp] theorem State.modJob_tol (j : Nat) (f : Job → Job) : (s.modJob j f).tol = s.tol := rfl
@[simp] theorem State.modJob_flash (j : Nat) (f : Job → Job) : (s.modJob j f).flash = s.flash := rfl
@[simp] theorem State.modJob_cus (j : Nat) (f : Job → Job) : (s.modJob j f).cus = s.cus := rfl
@[simp] theorem State.modJob_doe (j : Nat) (f : Job → Job) : (s.modJob j f).doe = s.doe := rfl

@[simp] theorem State.delJob_pending (j : Nat) : (s.delJob j).pending = s.pending := rfl
@[simp] theorem State.delJob_out (j : Nat) : (s.delJob j).out = s.out := rfl
@[simp] theorem State.delJob_time (j : Nat) : (s.delJob j).time = s.time := rfl
@[simp] theorem State.delJob_frees (j : Nat) : (s.delJob j).frees = s.frees := rfl
@[simp] theorem State.delJob_draws (j : Nat) : (s.delJob j).draws = s.draws := rfl
@[simp] theorem State.delJob_regs (j : Nat) : (s.delJob j).regs = s.regs := rfl
@[simp] theorem State.delJob_glb (j : Nat) : (s.delJob j).glb = s.glb := rfl
@[simp] theorem State.delJob_lcs (j : Nat) : (s.delJob j).lcs = s.lcs := rfl
@[simp] theorem State.delJob_vis (j : Nat) : (s.delJob j).vis = s.vis := rfl
@[simp] theorem State.delJob_rings (j : Nat) : (s.delJob j).rings = s.rings := rfl
@[simp] theorem State.delJob_nextJob (j : Nat) : (s.delJob j).nextJob = s.nextJob := rfl
@[simp] theorem State.delJob_replies (j : Nat) : (s.delJob j).replies = s.replies := rfl
@[simp] theorem State.delJob_csn (j : Nat) : (s.delJob j).csn = s.csn := rfl
@[simp] theorem State.delJob_fn (j : Nat) : (s.delJob j).fn = s.fn := rfl
@[simp] theorem State.delJob_bur (j : Nat) : (s.delJob j).bur = s.bur := rfl
@[simp] theorem State.delJob_grv (j : Nat) : (s.delJob j).grv = s.grv := rfl
@[simp] theorem State.delJob_lne (j : Nat) : (s.delJob j).lne = s.lne := rfl
@[simp] theorem State.delJob_cwy (j : Nat) : (s.delJob j).cwy = s.cwy := rfl
@[simp] theorem State.delJob_lpt (j : Nat) : (s.delJob j).lpt = s.lpt := rfl
@[simp] theorem State.delJob_hif (j : Nat) : (s.delJob j).hif = s.hif := rfl
@[simp] theorem State.delJob_dge (j : Nat) : (s.delJob j).dge = s.dge := rfl
@[simp] theorem State.delJob_ent (j : Nat) : (s.delJob j).ent = s.ent := rfl
@[simp] theorem State.delJob_spn (j : Nat) : (s.delJob j).spn = s.spn := rfl
@[simp] theorem State.delJob_xh (j : Nat) : (s.delJob j).xh = s.xh := rfl
@[simp] theorem State.delJob_island (j : Nat) : (s.delJob j).island = s.island := rfl
@[simp] theorem State.delJob_fcl (j : Nat) : (s.delJob j).fcl = s.fcl := rfl
@[simp] theorem State.delJob_drf (j : Nat) : (s.delJob j).drf = s.drf := rfl
@[simp] theorem State.delJob_tol (j : Nat) : (s.delJob j).tol = s.tol := rfl
@[simp] theorem State.delJob_flash (j : Nat) : (s.delJob j).flash = s.flash := rfl
@[simp] theorem State.delJob_cus (j : Nat) : (s.delJob j).cus = s.cus := rfl
@[simp] theorem State.delJob_doe (j : Nat) : (s.delJob j).doe = s.doe := rfl

@[simp] theorem State.addJob_pending (x : Job) : (s.addJob x).pending = s.pending := rfl
@[simp] theorem State.addJob_out (x : Job) : (s.addJob x).out = s.out := rfl
@[simp] theorem State.addJob_time (x : Job) : (s.addJob x).time = s.time := rfl
@[simp] theorem State.addJob_frees (x : Job) : (s.addJob x).frees = s.frees := rfl
@[simp] theorem State.addJob_draws (x : Job) : (s.addJob x).draws = s.draws := rfl
@[simp] theorem State.addJob_regs (x : Job) : (s.addJob x).regs = s.regs := rfl
@[simp] theorem State.addJob_glb (x : Job) : (s.addJob x).glb = s.glb := rfl
@[simp] theorem State.addJob_lcs (x : Job) : (s.addJob x).lcs = s.lcs := rfl
@[simp] theorem State.addJob_vis (x : Job) : (s.addJob x).vis = s.vis := rfl
@[simp] theorem State.addJob_rings (x : Job) : (s.addJob x).rings = s.rings := rfl
@[simp] theorem State.addJob_replies (x : Job) : (s.addJob x).replies = s.replies := rfl
@[simp] theorem State.addJob_csn (x : Job) : (s.addJob x).csn = s.csn := rfl
@[simp] theorem State.addJob_fn (x : Job) : (s.addJob x).fn = s.fn := rfl
@[simp] theorem State.addJob_bur (x : Job) : (s.addJob x).bur = s.bur := rfl
@[simp] theorem State.addJob_grv (x : Job) : (s.addJob x).grv = s.grv := rfl
@[simp] theorem State.addJob_lne (x : Job) : (s.addJob x).lne = s.lne := rfl
@[simp] theorem State.addJob_cwy (x : Job) : (s.addJob x).cwy = s.cwy := rfl
@[simp] theorem State.addJob_lpt (x : Job) : (s.addJob x).lpt = s.lpt := rfl
@[simp] theorem State.addJob_hif (x : Job) : (s.addJob x).hif = s.hif := rfl
@[simp] theorem State.addJob_dge (x : Job) : (s.addJob x).dge = s.dge := rfl
@[simp] theorem State.addJob_ent (x : Job) : (s.addJob x).ent = s.ent := rfl
@[simp] theorem State.addJob_spn (x : Job) : (s.addJob x).spn = s.spn := rfl
@[simp] theorem State.addJob_xh (x : Job) : (s.addJob x).xh = s.xh := rfl
@[simp] theorem State.addJob_island (x : Job) : (s.addJob x).island = s.island := rfl
@[simp] theorem State.addJob_fcl (x : Job) : (s.addJob x).fcl = s.fcl := rfl
@[simp] theorem State.addJob_drf (x : Job) : (s.addJob x).drf = s.drf := rfl
@[simp] theorem State.addJob_tol (x : Job) : (s.addJob x).tol = s.tol := rfl
@[simp] theorem State.addJob_flash (x : Job) : (s.addJob x).flash = s.flash := rfl
@[simp] theorem State.addJob_cus (x : Job) : (s.addJob x).cus = s.cus := rfl
@[simp] theorem State.addJob_doe (x : Job) : (s.addJob x).doe = s.doe := rfl

@[simp] theorem State.emit_pending (o : Out) : (s.emit o).pending = s.pending := rfl
@[simp] theorem State.emit_time (o : Out) : (s.emit o).time = s.time := rfl
@[simp] theorem State.emit_frees (o : Out) : (s.emit o).frees = s.frees := rfl
@[simp] theorem State.emit_draws (o : Out) : (s.emit o).draws = s.draws := rfl
@[simp] theorem State.emit_regs (o : Out) : (s.emit o).regs = s.regs := rfl
@[simp] theorem State.emit_glb (o : Out) : (s.emit o).glb = s.glb := rfl
@[simp] theorem State.emit_lcs (o : Out) : (s.emit o).lcs = s.lcs := rfl
@[simp] theorem State.emit_vis (o : Out) : (s.emit o).vis = s.vis := rfl
@[simp] theorem State.emit_rings (o : Out) : (s.emit o).rings = s.rings := rfl
@[simp] theorem State.emit_jobs (o : Out) : (s.emit o).jobs = s.jobs := rfl
@[simp] theorem State.emit_nextJob (o : Out) : (s.emit o).nextJob = s.nextJob := rfl
@[simp] theorem State.emit_replies (o : Out) : (s.emit o).replies = s.replies := rfl
@[simp] theorem State.emit_csn (o : Out) : (s.emit o).csn = s.csn := rfl
@[simp] theorem State.emit_fn (o : Out) : (s.emit o).fn = s.fn := rfl
@[simp] theorem State.emit_bur (o : Out) : (s.emit o).bur = s.bur := rfl
@[simp] theorem State.emit_grv (o : Out) : (s.emit o).grv = s.grv := rfl
@[simp] theorem State.emit_lne (o : Out) : (s.emit o).lne = s.lne := rfl
@[simp] theorem State.emit_cwy (o : Out) : (s.emit o).cwy = s.cwy := rfl
@[simp] theorem State.emit_lpt (o : Out) : (s.emit o).lpt = s.lpt := rfl
@[simp] theorem State.emit_hif (o : Out) : (s.emit o).hif = s.hif := rfl
@[simp] theorem State.emit_dge (o : Out) : (s.emit o).dge = s.dge := rfl
@[simp] theorem State.emit_ent (o : Out) : (s.emit o).ent = s.ent := rfl
@[simp] theorem State.emit_spn (o : Out) : (s.emit o).spn = s.spn := rfl
@[simp] theorem State.emit_xh (o : Out) : (s.emit o).xh = s.xh := rfl
@[simp] theorem State.emit_island (o : Out) : (s.emit o).island = s.island := rfl
@[simp] theorem State.emit_fcl (o : Out) : (s.emit o).fcl = s.fcl := rfl
@[simp] theorem State.emit_drf (o : Out) : (s.emit o).drf = s.drf := rfl
@[simp] theorem State.emit_tol (o : Out) : (s.emit o).tol = s.tol := rfl
@[simp] theorem State.emit_flash (o : Out) : (s.emit o).flash = s.flash := rfl
@[simp] theorem State.emit_cus (o : Out) : (s.emit o).cus = s.cus := rfl
@[simp] theorem State.emit_doe (o : Out) : (s.emit o).doe = s.doe := rfl

@[simp] theorem State.nextFree_pending : (s.nextFree).pending = s.pending := rfl
@[simp] theorem State.nextFree_out : (s.nextFree).out = s.out := rfl
@[simp] theorem State.nextFree_time : (s.nextFree).time = s.time := rfl
@[simp] theorem State.nextFree_draws : (s.nextFree).draws = s.draws := rfl
@[simp] theorem State.nextFree_regs : (s.nextFree).regs = s.regs := rfl
@[simp] theorem State.nextFree_glb : (s.nextFree).glb = s.glb := rfl
@[simp] theorem State.nextFree_lcs : (s.nextFree).lcs = s.lcs := rfl
@[simp] theorem State.nextFree_vis : (s.nextFree).vis = s.vis := rfl
@[simp] theorem State.nextFree_rings : (s.nextFree).rings = s.rings := rfl
@[simp] theorem State.nextFree_jobs : (s.nextFree).jobs = s.jobs := rfl
@[simp] theorem State.nextFree_nextJob : (s.nextFree).nextJob = s.nextJob := rfl
@[simp] theorem State.nextFree_replies : (s.nextFree).replies = s.replies := rfl
@[simp] theorem State.nextFree_csn : (s.nextFree).csn = s.csn := rfl
@[simp] theorem State.nextFree_fn : (s.nextFree).fn = s.fn := rfl
@[simp] theorem State.nextFree_bur : (s.nextFree).bur = s.bur := rfl
@[simp] theorem State.nextFree_grv : (s.nextFree).grv = s.grv := rfl
@[simp] theorem State.nextFree_lne : (s.nextFree).lne = s.lne := rfl
@[simp] theorem State.nextFree_cwy : (s.nextFree).cwy = s.cwy := rfl
@[simp] theorem State.nextFree_lpt : (s.nextFree).lpt = s.lpt := rfl
@[simp] theorem State.nextFree_hif : (s.nextFree).hif = s.hif := rfl
@[simp] theorem State.nextFree_dge : (s.nextFree).dge = s.dge := rfl
@[simp] theorem State.nextFree_ent : (s.nextFree).ent = s.ent := rfl
@[simp] theorem State.nextFree_spn : (s.nextFree).spn = s.spn := rfl
@[simp] theorem State.nextFree_xh : (s.nextFree).xh = s.xh := rfl
@[simp] theorem State.nextFree_island : (s.nextFree).island = s.island := rfl
@[simp] theorem State.nextFree_fcl : (s.nextFree).fcl = s.fcl := rfl
@[simp] theorem State.nextFree_drf : (s.nextFree).drf = s.drf := rfl
@[simp] theorem State.nextFree_tol : (s.nextFree).tol = s.tol := rfl
@[simp] theorem State.nextFree_flash : (s.nextFree).flash = s.flash := rfl
@[simp] theorem State.nextFree_cus : (s.nextFree).cus = s.cus := rfl
@[simp] theorem State.nextFree_doe : (s.nextFree).doe = s.doe := rfl

@[simp] theorem State.setOtp_pending (a : Nat) (b : Byte) : (s.setOtp a b).pending = s.pending := rfl
@[simp] theorem State.setOtp_out (a : Nat) (b : Byte) : (s.setOtp a b).out = s.out := rfl
@[simp] theorem State.setOtp_time (a : Nat) (b : Byte) : (s.setOtp a b).time = s.time := rfl
@[simp] theorem State.setOtp_frees (a : Nat) (b : Byte) : (s.setOtp a b).frees = s.frees := rfl
@[simp] theorem State.setOtp_draws (a : Nat) (b : Byte) : (s.setOtp a b).draws = s.draws := rfl
@[simp] theorem State.setOtp_regs (a : Nat) (b : Byte) : (s.setOtp a b).regs = s.regs := rfl
@[simp] theorem State.setOtp_glb (a : Nat) (b : Byte) : (s.setOtp a b).glb = s.glb := rfl
@[simp] theorem State.setOtp_vis (a : Nat) (b : Byte) : (s.setOtp a b).vis = s.vis := rfl
@[simp] theorem State.setOtp_rings (a : Nat) (b : Byte) : (s.setOtp a b).rings = s.rings := rfl
@[simp] theorem State.setOtp_jobs (a : Nat) (b : Byte) : (s.setOtp a b).jobs = s.jobs := rfl
@[simp] theorem State.setOtp_nextJob (a : Nat) (b : Byte) : (s.setOtp a b).nextJob = s.nextJob := rfl
@[simp] theorem State.setOtp_replies (a : Nat) (b : Byte) : (s.setOtp a b).replies = s.replies := rfl
@[simp] theorem State.setOtp_csn (a : Nat) (b : Byte) : (s.setOtp a b).csn = s.csn := rfl
@[simp] theorem State.setOtp_fn (a : Nat) (b : Byte) : (s.setOtp a b).fn = s.fn := rfl
@[simp] theorem State.setOtp_bur (a : Nat) (b : Byte) : (s.setOtp a b).bur = s.bur := rfl
@[simp] theorem State.setOtp_grv (a : Nat) (b : Byte) : (s.setOtp a b).grv = s.grv := rfl
@[simp] theorem State.setOtp_lne (a : Nat) (b : Byte) : (s.setOtp a b).lne = s.lne := rfl
@[simp] theorem State.setOtp_cwy (a : Nat) (b : Byte) : (s.setOtp a b).cwy = s.cwy := rfl
@[simp] theorem State.setOtp_lpt (a : Nat) (b : Byte) : (s.setOtp a b).lpt = s.lpt := rfl
@[simp] theorem State.setOtp_hif (a : Nat) (b : Byte) : (s.setOtp a b).hif = s.hif := rfl
@[simp] theorem State.setOtp_dge (a : Nat) (b : Byte) : (s.setOtp a b).dge = s.dge := rfl
@[simp] theorem State.setOtp_ent (a : Nat) (b : Byte) : (s.setOtp a b).ent = s.ent := rfl
@[simp] theorem State.setOtp_spn (a : Nat) (b : Byte) : (s.setOtp a b).spn = s.spn := rfl
@[simp] theorem State.setOtp_xh (a : Nat) (b : Byte) : (s.setOtp a b).xh = s.xh := rfl
@[simp] theorem State.setOtp_island (a : Nat) (b : Byte) : (s.setOtp a b).island = s.island := rfl
@[simp] theorem State.setOtp_fcl (a : Nat) (b : Byte) : (s.setOtp a b).fcl = s.fcl := rfl
@[simp] theorem State.setOtp_drf (a : Nat) (b : Byte) : (s.setOtp a b).drf = s.drf := rfl
@[simp] theorem State.setOtp_tol (a : Nat) (b : Byte) : (s.setOtp a b).tol = s.tol := rfl
@[simp] theorem State.setOtp_flash (a : Nat) (b : Byte) : (s.setOtp a b).flash = s.flash := rfl
@[simp] theorem State.setOtp_cus (a : Nat) (b : Byte) : (s.setOtp a b).cus = s.cus := rfl
@[simp] theorem State.setOtp_doe (a : Nat) (b : Byte) : (s.setOtp a b).doe = s.doe := rfl

@[simp] theorem State.setReg_pending (a n : Nat) : (s.setReg a n).pending = s.pending := rfl
@[simp] theorem State.setReg_out (a n : Nat) : (s.setReg a n).out = s.out := rfl
@[simp] theorem State.setReg_time (a n : Nat) : (s.setReg a n).time = s.time := rfl
@[simp] theorem State.setReg_frees (a n : Nat) : (s.setReg a n).frees = s.frees := rfl
@[simp] theorem State.setReg_draws (a n : Nat) : (s.setReg a n).draws = s.draws := rfl
@[simp] theorem State.setReg_glb (a n : Nat) : (s.setReg a n).glb = s.glb := rfl
@[simp] theorem State.setReg_lcs (a n : Nat) : (s.setReg a n).lcs = s.lcs := rfl
@[simp] theorem State.setReg_vis (a n : Nat) : (s.setReg a n).vis = s.vis := rfl
@[simp] theorem State.setReg_rings (a n : Nat) : (s.setReg a n).rings = s.rings := rfl
@[simp] theorem State.setReg_jobs (a n : Nat) : (s.setReg a n).jobs = s.jobs := rfl
@[simp] theorem State.setReg_nextJob (a n : Nat) : (s.setReg a n).nextJob = s.nextJob := rfl
@[simp] theorem State.setReg_replies (a n : Nat) : (s.setReg a n).replies = s.replies := rfl
@[simp] theorem State.setReg_csn (a n : Nat) : (s.setReg a n).csn = s.csn := rfl
@[simp] theorem State.setReg_fn (a n : Nat) : (s.setReg a n).fn = s.fn := rfl
@[simp] theorem State.setReg_bur (a n : Nat) : (s.setReg a n).bur = s.bur := rfl
@[simp] theorem State.setReg_grv (a n : Nat) : (s.setReg a n).grv = s.grv := rfl
@[simp] theorem State.setReg_lne (a n : Nat) : (s.setReg a n).lne = s.lne := rfl
@[simp] theorem State.setReg_cwy (a n : Nat) : (s.setReg a n).cwy = s.cwy := rfl
@[simp] theorem State.setReg_lpt (a n : Nat) : (s.setReg a n).lpt = s.lpt := rfl
@[simp] theorem State.setReg_hif (a n : Nat) : (s.setReg a n).hif = s.hif := rfl
@[simp] theorem State.setReg_dge (a n : Nat) : (s.setReg a n).dge = s.dge := rfl
@[simp] theorem State.setReg_ent (a n : Nat) : (s.setReg a n).ent = s.ent := rfl
@[simp] theorem State.setReg_spn (a n : Nat) : (s.setReg a n).spn = s.spn := rfl
@[simp] theorem State.setReg_xh (a n : Nat) : (s.setReg a n).xh = s.xh := rfl
@[simp] theorem State.setReg_island (a n : Nat) : (s.setReg a n).island = s.island := rfl
@[simp] theorem State.setReg_fcl (a n : Nat) : (s.setReg a n).fcl = s.fcl := rfl
@[simp] theorem State.setReg_drf (a n : Nat) : (s.setReg a n).drf = s.drf := rfl
@[simp] theorem State.setReg_tol (a n : Nat) : (s.setReg a n).tol = s.tol := rfl
@[simp] theorem State.setReg_flash (a n : Nat) : (s.setReg a n).flash = s.flash := rfl
@[simp] theorem State.setReg_cus (a n : Nat) : (s.setReg a n).cus = s.cus := rfl
@[simp] theorem State.setReg_doe (a n : Nat) : (s.setReg a n).doe = s.doe := rfl

@[simp] theorem State.bump_pending (a n : Nat) : (s.bump a n).pending = s.pending := rfl
@[simp] theorem State.bump_out (a n : Nat) : (s.bump a n).out = s.out := rfl
@[simp] theorem State.bump_time (a n : Nat) : (s.bump a n).time = s.time := rfl
@[simp] theorem State.bump_frees (a n : Nat) : (s.bump a n).frees = s.frees := rfl
@[simp] theorem State.bump_draws (a n : Nat) : (s.bump a n).draws = s.draws := rfl
@[simp] theorem State.bump_glb (a n : Nat) : (s.bump a n).glb = s.glb := rfl
@[simp] theorem State.bump_lcs (a n : Nat) : (s.bump a n).lcs = s.lcs := rfl
@[simp] theorem State.bump_vis (a n : Nat) : (s.bump a n).vis = s.vis := rfl
@[simp] theorem State.bump_rings (a n : Nat) : (s.bump a n).rings = s.rings := rfl
@[simp] theorem State.bump_jobs (a n : Nat) : (s.bump a n).jobs = s.jobs := rfl
@[simp] theorem State.bump_nextJob (a n : Nat) : (s.bump a n).nextJob = s.nextJob := rfl
@[simp] theorem State.bump_replies (a n : Nat) : (s.bump a n).replies = s.replies := rfl
@[simp] theorem State.bump_csn (a n : Nat) : (s.bump a n).csn = s.csn := rfl
@[simp] theorem State.bump_fn (a n : Nat) : (s.bump a n).fn = s.fn := rfl
@[simp] theorem State.bump_bur (a n : Nat) : (s.bump a n).bur = s.bur := rfl
@[simp] theorem State.bump_grv (a n : Nat) : (s.bump a n).grv = s.grv := rfl
@[simp] theorem State.bump_lne (a n : Nat) : (s.bump a n).lne = s.lne := rfl
@[simp] theorem State.bump_cwy (a n : Nat) : (s.bump a n).cwy = s.cwy := rfl
@[simp] theorem State.bump_lpt (a n : Nat) : (s.bump a n).lpt = s.lpt := rfl
@[simp] theorem State.bump_hif (a n : Nat) : (s.bump a n).hif = s.hif := rfl
@[simp] theorem State.bump_dge (a n : Nat) : (s.bump a n).dge = s.dge := rfl
@[simp] theorem State.bump_ent (a n : Nat) : (s.bump a n).ent = s.ent := rfl
@[simp] theorem State.bump_spn (a n : Nat) : (s.bump a n).spn = s.spn := rfl
@[simp] theorem State.bump_xh (a n : Nat) : (s.bump a n).xh = s.xh := rfl
@[simp] theorem State.bump_island (a n : Nat) : (s.bump a n).island = s.island := rfl
@[simp] theorem State.bump_fcl (a n : Nat) : (s.bump a n).fcl = s.fcl := rfl
@[simp] theorem State.bump_drf (a n : Nat) : (s.bump a n).drf = s.drf := rfl
@[simp] theorem State.bump_tol (a n : Nat) : (s.bump a n).tol = s.tol := rfl
@[simp] theorem State.bump_flash (a n : Nat) : (s.bump a n).flash = s.flash := rfl
@[simp] theorem State.bump_cus (a n : Nat) : (s.bump a n).cus = s.cus := rfl
@[simp] theorem State.bump_doe (a n : Nat) : (s.bump a n).doe = s.doe := rfl

@[simp] theorem State.setKey_pending (h : Nat) (k : KeyRec) : (s.setKey h k).pending = s.pending := rfl
@[simp] theorem State.setKey_out (h : Nat) (k : KeyRec) : (s.setKey h k).out = s.out := rfl
@[simp] theorem State.setKey_time (h : Nat) (k : KeyRec) : (s.setKey h k).time = s.time := rfl
@[simp] theorem State.setKey_frees (h : Nat) (k : KeyRec) : (s.setKey h k).frees = s.frees := rfl
@[simp] theorem State.setKey_draws (h : Nat) (k : KeyRec) : (s.setKey h k).draws = s.draws := rfl
@[simp] theorem State.setKey_regs (h : Nat) (k : KeyRec) : (s.setKey h k).regs = s.regs := rfl
@[simp] theorem State.setKey_glb (h : Nat) (k : KeyRec) : (s.setKey h k).glb = s.glb := rfl
@[simp] theorem State.setKey_lcs (h : Nat) (k : KeyRec) : (s.setKey h k).lcs = s.lcs := rfl
@[simp] theorem State.setKey_vis (h : Nat) (k : KeyRec) : (s.setKey h k).vis = s.vis := rfl
@[simp] theorem State.setKey_rings (h : Nat) (k : KeyRec) : (s.setKey h k).rings = s.rings := rfl
@[simp] theorem State.setKey_jobs (h : Nat) (k : KeyRec) : (s.setKey h k).jobs = s.jobs := rfl
@[simp] theorem State.setKey_nextJob (h : Nat) (k : KeyRec) : (s.setKey h k).nextJob = s.nextJob := rfl
@[simp] theorem State.setKey_replies (h : Nat) (k : KeyRec) : (s.setKey h k).replies = s.replies := rfl
@[simp] theorem State.setKey_fn (h : Nat) (k : KeyRec) : (s.setKey h k).fn = s.fn := rfl
@[simp] theorem State.setKey_bur (h : Nat) (k : KeyRec) : (s.setKey h k).bur = s.bur := rfl
@[simp] theorem State.setKey_grv (h : Nat) (k : KeyRec) : (s.setKey h k).grv = s.grv := rfl
@[simp] theorem State.setKey_lne (h : Nat) (k : KeyRec) : (s.setKey h k).lne = s.lne := rfl
@[simp] theorem State.setKey_cwy (h : Nat) (k : KeyRec) : (s.setKey h k).cwy = s.cwy := rfl
@[simp] theorem State.setKey_lpt (h : Nat) (k : KeyRec) : (s.setKey h k).lpt = s.lpt := rfl
@[simp] theorem State.setKey_hif (h : Nat) (k : KeyRec) : (s.setKey h k).hif = s.hif := rfl
@[simp] theorem State.setKey_dge (h : Nat) (k : KeyRec) : (s.setKey h k).dge = s.dge := rfl
@[simp] theorem State.setKey_ent (h : Nat) (k : KeyRec) : (s.setKey h k).ent = s.ent := rfl
@[simp] theorem State.setKey_spn (h : Nat) (k : KeyRec) : (s.setKey h k).spn = s.spn := rfl
@[simp] theorem State.setKey_xh (h : Nat) (k : KeyRec) : (s.setKey h k).xh = s.xh := rfl
@[simp] theorem State.setKey_island (h : Nat) (k : KeyRec) : (s.setKey h k).island = s.island := rfl
@[simp] theorem State.setKey_fcl (h : Nat) (k : KeyRec) : (s.setKey h k).fcl = s.fcl := rfl
@[simp] theorem State.setKey_drf (h : Nat) (k : KeyRec) : (s.setKey h k).drf = s.drf := rfl
@[simp] theorem State.setKey_tol (h : Nat) (k : KeyRec) : (s.setKey h k).tol = s.tol := rfl
@[simp] theorem State.setKey_flash (h : Nat) (k : KeyRec) : (s.setKey h k).flash = s.flash := rfl
@[simp] theorem State.setKey_cus (h : Nat) (k : KeyRec) : (s.setKey h k).cus = s.cus := rfl
@[simp] theorem State.setKey_doe (h : Nat) (k : KeyRec) : (s.setKey h k).doe = s.doe := rfl

@[simp] theorem State.modKey_pending (h : Nat) (f : KeyRec → KeyRec) : (s.modKey h f).pending = s.pending := rfl
@[simp] theorem State.modKey_out (h : Nat) (f : KeyRec → KeyRec) : (s.modKey h f).out = s.out := rfl
@[simp] theorem State.modKey_time (h : Nat) (f : KeyRec → KeyRec) : (s.modKey h f).time = s.time := rfl
@[simp] theorem State.modKey_frees (h : Nat) (f : KeyRec → KeyRec) : (s.modKey h f).frees = s.frees := rfl
@[simp] theorem State.modKey_draws (h : Nat) (f : KeyRec → KeyRec) : (s.modKey h f).draws = s.draws := rfl
@[simp] theorem State.modKey_regs (h : Nat) (f : KeyRec → KeyRec) : (s.modKey h f).regs = s.regs := rfl
@[simp] theorem State.modKey_glb (h : Nat) (f : KeyRec → KeyRec) : (s.modKey h f).glb = s.glb := rfl
@[simp] theorem State.modKey_lcs (h : Nat) (f : KeyRec → KeyRec) : (s.modKey h f).lcs = s.lcs := rfl
@[simp] theorem State.modKey_vis (h : Nat) (f : KeyRec → KeyRec) : (s.modKey h f).vis = s.vis := rfl
@[simp] theorem State.modKey_rings (h : Nat) (f : KeyRec → KeyRec) : (s.modKey h f).rings = s.rings := rfl
@[simp] theorem State.modKey_jobs (h : Nat) (f : KeyRec → KeyRec) : (s.modKey h f).jobs = s.jobs := rfl
@[simp] theorem State.modKey_nextJob (h : Nat) (f : KeyRec → KeyRec) : (s.modKey h f).nextJob = s.nextJob := rfl
@[simp] theorem State.modKey_replies (h : Nat) (f : KeyRec → KeyRec) : (s.modKey h f).replies = s.replies := rfl
@[simp] theorem State.modKey_fn (h : Nat) (f : KeyRec → KeyRec) : (s.modKey h f).fn = s.fn := rfl
@[simp] theorem State.modKey_bur (h : Nat) (f : KeyRec → KeyRec) : (s.modKey h f).bur = s.bur := rfl
@[simp] theorem State.modKey_grv (h : Nat) (f : KeyRec → KeyRec) : (s.modKey h f).grv = s.grv := rfl
@[simp] theorem State.modKey_lne (h : Nat) (f : KeyRec → KeyRec) : (s.modKey h f).lne = s.lne := rfl
@[simp] theorem State.modKey_cwy (h : Nat) (f : KeyRec → KeyRec) : (s.modKey h f).cwy = s.cwy := rfl
@[simp] theorem State.modKey_lpt (h : Nat) (f : KeyRec → KeyRec) : (s.modKey h f).lpt = s.lpt := rfl
@[simp] theorem State.modKey_hif (h : Nat) (f : KeyRec → KeyRec) : (s.modKey h f).hif = s.hif := rfl
@[simp] theorem State.modKey_dge (h : Nat) (f : KeyRec → KeyRec) : (s.modKey h f).dge = s.dge := rfl
@[simp] theorem State.modKey_ent (h : Nat) (f : KeyRec → KeyRec) : (s.modKey h f).ent = s.ent := rfl
@[simp] theorem State.modKey_spn (h : Nat) (f : KeyRec → KeyRec) : (s.modKey h f).spn = s.spn := rfl
@[simp] theorem State.modKey_xh (h : Nat) (f : KeyRec → KeyRec) : (s.modKey h f).xh = s.xh := rfl
@[simp] theorem State.modKey_island (h : Nat) (f : KeyRec → KeyRec) : (s.modKey h f).island = s.island := rfl
@[simp] theorem State.modKey_fcl (h : Nat) (f : KeyRec → KeyRec) : (s.modKey h f).fcl = s.fcl := rfl
@[simp] theorem State.modKey_drf (h : Nat) (f : KeyRec → KeyRec) : (s.modKey h f).drf = s.drf := rfl
@[simp] theorem State.modKey_tol (h : Nat) (f : KeyRec → KeyRec) : (s.modKey h f).tol = s.tol := rfl
@[simp] theorem State.modKey_flash (h : Nat) (f : KeyRec → KeyRec) : (s.modKey h f).flash = s.flash := rfl
@[simp] theorem State.modKey_cus (h : Nat) (f : KeyRec → KeyRec) : (s.modKey h f).cus = s.cus := rfl
@[simp] theorem State.modKey_doe (h : Nat) (f : KeyRec → KeyRec) : (s.modKey h f).doe = s.doe := rfl

@[simp] theorem State.setSession_pending (i : Nat) (x : Session) : (s.setSession i x).pending = s.pending := rfl
@[simp] theorem State.setSession_out (i : Nat) (x : Session) : (s.setSession i x).out = s.out := rfl
@[simp] theorem State.setSession_time (i : Nat) (x : Session) : (s.setSession i x).time = s.time := rfl
@[simp] theorem State.setSession_frees (i : Nat) (x : Session) : (s.setSession i x).frees = s.frees := rfl
@[simp] theorem State.setSession_draws (i : Nat) (x : Session) : (s.setSession i x).draws = s.draws := rfl
@[simp] theorem State.setSession_regs (i : Nat) (x : Session) : (s.setSession i x).regs = s.regs := rfl
@[simp] theorem State.setSession_glb (i : Nat) (x : Session) : (s.setSession i x).glb = s.glb := rfl
@[simp] theorem State.setSession_lcs (i : Nat) (x : Session) : (s.setSession i x).lcs = s.lcs := rfl
@[simp] theorem State.setSession_vis (i : Nat) (x : Session) : (s.setSession i x).vis = s.vis := rfl
@[simp] theorem State.setSession_rings (i : Nat) (x : Session) : (s.setSession i x).rings = s.rings := rfl
@[simp] theorem State.setSession_jobs (i : Nat) (x : Session) : (s.setSession i x).jobs = s.jobs := rfl
@[simp] theorem State.setSession_nextJob (i : Nat) (x : Session) : (s.setSession i x).nextJob = s.nextJob := rfl
@[simp] theorem State.setSession_replies (i : Nat) (x : Session) : (s.setSession i x).replies = s.replies := rfl
@[simp] theorem State.setSession_csn (i : Nat) (x : Session) : (s.setSession i x).csn = s.csn := rfl
@[simp] theorem State.setSession_fn (i : Nat) (x : Session) : (s.setSession i x).fn = s.fn := rfl
@[simp] theorem State.setSession_bur (i : Nat) (x : Session) : (s.setSession i x).bur = s.bur := rfl
@[simp] theorem State.setSession_grv (i : Nat) (x : Session) : (s.setSession i x).grv = s.grv := rfl
@[simp] theorem State.setSession_lne (i : Nat) (x : Session) : (s.setSession i x).lne = s.lne := rfl
@[simp] theorem State.setSession_lpt (i : Nat) (x : Session) : (s.setSession i x).lpt = s.lpt := rfl
@[simp] theorem State.setSession_hif (i : Nat) (x : Session) : (s.setSession i x).hif = s.hif := rfl
@[simp] theorem State.setSession_dge (i : Nat) (x : Session) : (s.setSession i x).dge = s.dge := rfl
@[simp] theorem State.setSession_ent (i : Nat) (x : Session) : (s.setSession i x).ent = s.ent := rfl
@[simp] theorem State.setSession_spn (i : Nat) (x : Session) : (s.setSession i x).spn = s.spn := rfl
@[simp] theorem State.setSession_xh (i : Nat) (x : Session) : (s.setSession i x).xh = s.xh := rfl
@[simp] theorem State.setSession_island (i : Nat) (x : Session) : (s.setSession i x).island = s.island := rfl
@[simp] theorem State.setSession_fcl (i : Nat) (x : Session) : (s.setSession i x).fcl = s.fcl := rfl
@[simp] theorem State.setSession_drf (i : Nat) (x : Session) : (s.setSession i x).drf = s.drf := rfl
@[simp] theorem State.setSession_tol (i : Nat) (x : Session) : (s.setSession i x).tol = s.tol := rfl
@[simp] theorem State.setSession_flash (i : Nat) (x : Session) : (s.setSession i x).flash = s.flash := rfl
@[simp] theorem State.setSession_cus (i : Nat) (x : Session) : (s.setSession i x).cus = s.cus := rfl
@[simp] theorem State.setSession_doe (i : Nat) (x : Session) : (s.setSession i x).doe = s.doe := rfl

@[simp] theorem State.modSession_pending (i : Nat) (f : Session → Session) : (s.modSession i f).pending = s.pending := rfl
@[simp] theorem State.modSession_out (i : Nat) (f : Session → Session) : (s.modSession i f).out = s.out := rfl
@[simp] theorem State.modSession_time (i : Nat) (f : Session → Session) : (s.modSession i f).time = s.time := rfl
@[simp] theorem State.modSession_frees (i : Nat) (f : Session → Session) : (s.modSession i f).frees = s.frees := rfl
@[simp] theorem State.modSession_draws (i : Nat) (f : Session → Session) : (s.modSession i f).draws = s.draws := rfl
@[simp] theorem State.modSession_regs (i : Nat) (f : Session → Session) : (s.modSession i f).regs = s.regs := rfl
@[simp] theorem State.modSession_glb (i : Nat) (f : Session → Session) : (s.modSession i f).glb = s.glb := rfl
@[simp] theorem State.modSession_lcs (i : Nat) (f : Session → Session) : (s.modSession i f).lcs = s.lcs := rfl
@[simp] theorem State.modSession_vis (i : Nat) (f : Session → Session) : (s.modSession i f).vis = s.vis := rfl
@[simp] theorem State.modSession_rings (i : Nat) (f : Session → Session) : (s.modSession i f).rings = s.rings := rfl
@[simp] theorem State.modSession_jobs (i : Nat) (f : Session → Session) : (s.modSession i f).jobs = s.jobs := rfl
@[simp] theorem State.modSession_nextJob (i : Nat) (f : Session → Session) : (s.modSession i f).nextJob = s.nextJob := rfl
@[simp] theorem State.modSession_replies (i : Nat) (f : Session → Session) : (s.modSession i f).replies = s.replies := rfl
@[simp] theorem State.modSession_csn (i : Nat) (f : Session → Session) : (s.modSession i f).csn = s.csn := rfl
@[simp] theorem State.modSession_fn (i : Nat) (f : Session → Session) : (s.modSession i f).fn = s.fn := rfl
@[simp] theorem State.modSession_bur (i : Nat) (f : Session → Session) : (s.modSession i f).bur = s.bur := rfl
@[simp] theorem State.modSession_grv (i : Nat) (f : Session → Session) : (s.modSession i f).grv = s.grv := rfl
@[simp] theorem State.modSession_lne (i : Nat) (f : Session → Session) : (s.modSession i f).lne = s.lne := rfl
@[simp] theorem State.modSession_lpt (i : Nat) (f : Session → Session) : (s.modSession i f).lpt = s.lpt := rfl
@[simp] theorem State.modSession_hif (i : Nat) (f : Session → Session) : (s.modSession i f).hif = s.hif := rfl
@[simp] theorem State.modSession_dge (i : Nat) (f : Session → Session) : (s.modSession i f).dge = s.dge := rfl
@[simp] theorem State.modSession_ent (i : Nat) (f : Session → Session) : (s.modSession i f).ent = s.ent := rfl
@[simp] theorem State.modSession_spn (i : Nat) (f : Session → Session) : (s.modSession i f).spn = s.spn := rfl
@[simp] theorem State.modSession_xh (i : Nat) (f : Session → Session) : (s.modSession i f).xh = s.xh := rfl
@[simp] theorem State.modSession_island (i : Nat) (f : Session → Session) : (s.modSession i f).island = s.island := rfl
@[simp] theorem State.modSession_fcl (i : Nat) (f : Session → Session) : (s.modSession i f).fcl = s.fcl := rfl
@[simp] theorem State.modSession_drf (i : Nat) (f : Session → Session) : (s.modSession i f).drf = s.drf := rfl
@[simp] theorem State.modSession_tol (i : Nat) (f : Session → Session) : (s.modSession i f).tol = s.tol := rfl
@[simp] theorem State.modSession_flash (i : Nat) (f : Session → Session) : (s.modSession i f).flash = s.flash := rfl
@[simp] theorem State.modSession_cus (i : Nat) (f : Session → Session) : (s.modSession i f).cus = s.cus := rfl
@[simp] theorem State.modSession_doe (i : Nat) (f : Session → Session) : (s.modSession i f).doe = s.doe := rfl

@[simp] theorem State.delSession_pending (i : Nat) : (s.delSession i).pending = s.pending := rfl
@[simp] theorem State.delSession_out (i : Nat) : (s.delSession i).out = s.out := rfl
@[simp] theorem State.delSession_time (i : Nat) : (s.delSession i).time = s.time := rfl
@[simp] theorem State.delSession_frees (i : Nat) : (s.delSession i).frees = s.frees := rfl
@[simp] theorem State.delSession_draws (i : Nat) : (s.delSession i).draws = s.draws := rfl
@[simp] theorem State.delSession_regs (i : Nat) : (s.delSession i).regs = s.regs := rfl
@[simp] theorem State.delSession_glb (i : Nat) : (s.delSession i).glb = s.glb := rfl
@[simp] theorem State.delSession_lcs (i : Nat) : (s.delSession i).lcs = s.lcs := rfl
@[simp] theorem State.delSession_vis (i : Nat) : (s.delSession i).vis = s.vis := rfl
@[simp] theorem State.delSession_rings (i : Nat) : (s.delSession i).rings = s.rings := rfl
@[simp] theorem State.delSession_jobs (i : Nat) : (s.delSession i).jobs = s.jobs := rfl
@[simp] theorem State.delSession_nextJob (i : Nat) : (s.delSession i).nextJob = s.nextJob := rfl
@[simp] theorem State.delSession_replies (i : Nat) : (s.delSession i).replies = s.replies := rfl
@[simp] theorem State.delSession_csn (i : Nat) : (s.delSession i).csn = s.csn := rfl
@[simp] theorem State.delSession_fn (i : Nat) : (s.delSession i).fn = s.fn := rfl
@[simp] theorem State.delSession_bur (i : Nat) : (s.delSession i).bur = s.bur := rfl
@[simp] theorem State.delSession_grv (i : Nat) : (s.delSession i).grv = s.grv := rfl
@[simp] theorem State.delSession_lne (i : Nat) : (s.delSession i).lne = s.lne := rfl
@[simp] theorem State.delSession_lpt (i : Nat) : (s.delSession i).lpt = s.lpt := rfl
@[simp] theorem State.delSession_hif (i : Nat) : (s.delSession i).hif = s.hif := rfl
@[simp] theorem State.delSession_dge (i : Nat) : (s.delSession i).dge = s.dge := rfl
@[simp] theorem State.delSession_ent (i : Nat) : (s.delSession i).ent = s.ent := rfl
@[simp] theorem State.delSession_spn (i : Nat) : (s.delSession i).spn = s.spn := rfl
@[simp] theorem State.delSession_xh (i : Nat) : (s.delSession i).xh = s.xh := rfl
@[simp] theorem State.delSession_island (i : Nat) : (s.delSession i).island = s.island := rfl
@[simp] theorem State.delSession_fcl (i : Nat) : (s.delSession i).fcl = s.fcl := rfl
@[simp] theorem State.delSession_drf (i : Nat) : (s.delSession i).drf = s.drf := rfl
@[simp] theorem State.delSession_tol (i : Nat) : (s.delSession i).tol = s.tol := rfl
@[simp] theorem State.delSession_flash (i : Nat) : (s.delSession i).flash = s.flash := rfl
@[simp] theorem State.delSession_cus (i : Nat) : (s.delSession i).cus = s.cus := rfl
@[simp] theorem State.delSession_doe (i : Nat) : (s.delSession i).doe = s.doe := rfl

@[simp] theorem State.setPort_pending (p : Nat) (x : Port) : (s.setPort p x).pending = s.pending := rfl
@[simp] theorem State.setPort_out (p : Nat) (x : Port) : (s.setPort p x).out = s.out := rfl
@[simp] theorem State.setPort_time (p : Nat) (x : Port) : (s.setPort p x).time = s.time := rfl
@[simp] theorem State.setPort_frees (p : Nat) (x : Port) : (s.setPort p x).frees = s.frees := rfl
@[simp] theorem State.setPort_draws (p : Nat) (x : Port) : (s.setPort p x).draws = s.draws := rfl
@[simp] theorem State.setPort_regs (p : Nat) (x : Port) : (s.setPort p x).regs = s.regs := rfl
@[simp] theorem State.setPort_glb (p : Nat) (x : Port) : (s.setPort p x).glb = s.glb := rfl
@[simp] theorem State.setPort_lcs (p : Nat) (x : Port) : (s.setPort p x).lcs = s.lcs := rfl
@[simp] theorem State.setPort_vis (p : Nat) (x : Port) : (s.setPort p x).vis = s.vis := rfl
@[simp] theorem State.setPort_rings (p : Nat) (x : Port) : (s.setPort p x).rings = s.rings := rfl
@[simp] theorem State.setPort_jobs (p : Nat) (x : Port) : (s.setPort p x).jobs = s.jobs := rfl
@[simp] theorem State.setPort_nextJob (p : Nat) (x : Port) : (s.setPort p x).nextJob = s.nextJob := rfl
@[simp] theorem State.setPort_replies (p : Nat) (x : Port) : (s.setPort p x).replies = s.replies := rfl
@[simp] theorem State.setPort_csn (p : Nat) (x : Port) : (s.setPort p x).csn = s.csn := rfl
@[simp] theorem State.setPort_fn (p : Nat) (x : Port) : (s.setPort p x).fn = s.fn := rfl
@[simp] theorem State.setPort_bur (p : Nat) (x : Port) : (s.setPort p x).bur = s.bur := rfl
@[simp] theorem State.setPort_grv (p : Nat) (x : Port) : (s.setPort p x).grv = s.grv := rfl
@[simp] theorem State.setPort_lne (p : Nat) (x : Port) : (s.setPort p x).lne = s.lne := rfl
@[simp] theorem State.setPort_cwy (p : Nat) (x : Port) : (s.setPort p x).cwy = s.cwy := rfl
@[simp] theorem State.setPort_hif (p : Nat) (x : Port) : (s.setPort p x).hif = s.hif := rfl
@[simp] theorem State.setPort_dge (p : Nat) (x : Port) : (s.setPort p x).dge = s.dge := rfl
@[simp] theorem State.setPort_ent (p : Nat) (x : Port) : (s.setPort p x).ent = s.ent := rfl
@[simp] theorem State.setPort_spn (p : Nat) (x : Port) : (s.setPort p x).spn = s.spn := rfl
@[simp] theorem State.setPort_xh (p : Nat) (x : Port) : (s.setPort p x).xh = s.xh := rfl
@[simp] theorem State.setPort_island (p : Nat) (x : Port) : (s.setPort p x).island = s.island := rfl
@[simp] theorem State.setPort_fcl (p : Nat) (x : Port) : (s.setPort p x).fcl = s.fcl := rfl
@[simp] theorem State.setPort_drf (p : Nat) (x : Port) : (s.setPort p x).drf = s.drf := rfl
@[simp] theorem State.setPort_tol (p : Nat) (x : Port) : (s.setPort p x).tol = s.tol := rfl
@[simp] theorem State.setPort_flash (p : Nat) (x : Port) : (s.setPort p x).flash = s.flash := rfl
@[simp] theorem State.setPort_cus (p : Nat) (x : Port) : (s.setPort p x).cus = s.cus := rfl
@[simp] theorem State.setPort_doe (p : Nat) (x : Port) : (s.setPort p x).doe = s.doe := rfl

@[simp] theorem State.modPort_pending (p : Nat) (f : Port → Port) : (s.modPort p f).pending = s.pending := rfl
@[simp] theorem State.modPort_out (p : Nat) (f : Port → Port) : (s.modPort p f).out = s.out := rfl
@[simp] theorem State.modPort_time (p : Nat) (f : Port → Port) : (s.modPort p f).time = s.time := rfl
@[simp] theorem State.modPort_frees (p : Nat) (f : Port → Port) : (s.modPort p f).frees = s.frees := rfl
@[simp] theorem State.modPort_draws (p : Nat) (f : Port → Port) : (s.modPort p f).draws = s.draws := rfl
@[simp] theorem State.modPort_regs (p : Nat) (f : Port → Port) : (s.modPort p f).regs = s.regs := rfl
@[simp] theorem State.modPort_glb (p : Nat) (f : Port → Port) : (s.modPort p f).glb = s.glb := rfl
@[simp] theorem State.modPort_lcs (p : Nat) (f : Port → Port) : (s.modPort p f).lcs = s.lcs := rfl
@[simp] theorem State.modPort_vis (p : Nat) (f : Port → Port) : (s.modPort p f).vis = s.vis := rfl
@[simp] theorem State.modPort_rings (p : Nat) (f : Port → Port) : (s.modPort p f).rings = s.rings := rfl
@[simp] theorem State.modPort_jobs (p : Nat) (f : Port → Port) : (s.modPort p f).jobs = s.jobs := rfl
@[simp] theorem State.modPort_nextJob (p : Nat) (f : Port → Port) : (s.modPort p f).nextJob = s.nextJob := rfl
@[simp] theorem State.modPort_replies (p : Nat) (f : Port → Port) : (s.modPort p f).replies = s.replies := rfl
@[simp] theorem State.modPort_csn (p : Nat) (f : Port → Port) : (s.modPort p f).csn = s.csn := rfl
@[simp] theorem State.modPort_fn (p : Nat) (f : Port → Port) : (s.modPort p f).fn = s.fn := rfl
@[simp] theorem State.modPort_bur (p : Nat) (f : Port → Port) : (s.modPort p f).bur = s.bur := rfl
@[simp] theorem State.modPort_grv (p : Nat) (f : Port → Port) : (s.modPort p f).grv = s.grv := rfl
@[simp] theorem State.modPort_lne (p : Nat) (f : Port → Port) : (s.modPort p f).lne = s.lne := rfl
@[simp] theorem State.modPort_cwy (p : Nat) (f : Port → Port) : (s.modPort p f).cwy = s.cwy := rfl
@[simp] theorem State.modPort_hif (p : Nat) (f : Port → Port) : (s.modPort p f).hif = s.hif := rfl
@[simp] theorem State.modPort_dge (p : Nat) (f : Port → Port) : (s.modPort p f).dge = s.dge := rfl
@[simp] theorem State.modPort_ent (p : Nat) (f : Port → Port) : (s.modPort p f).ent = s.ent := rfl
@[simp] theorem State.modPort_spn (p : Nat) (f : Port → Port) : (s.modPort p f).spn = s.spn := rfl
@[simp] theorem State.modPort_xh (p : Nat) (f : Port → Port) : (s.modPort p f).xh = s.xh := rfl
@[simp] theorem State.modPort_island (p : Nat) (f : Port → Port) : (s.modPort p f).island = s.island := rfl
@[simp] theorem State.modPort_fcl (p : Nat) (f : Port → Port) : (s.modPort p f).fcl = s.fcl := rfl
@[simp] theorem State.modPort_drf (p : Nat) (f : Port → Port) : (s.modPort p f).drf = s.drf := rfl
@[simp] theorem State.modPort_tol (p : Nat) (f : Port → Port) : (s.modPort p f).tol = s.tol := rfl
@[simp] theorem State.modPort_flash (p : Nat) (f : Port → Port) : (s.modPort p f).flash = s.flash := rfl
@[simp] theorem State.modPort_cus (p : Nat) (f : Port → Port) : (s.modPort p f).cus = s.cus := rfl
@[simp] theorem State.modPort_doe (p : Nat) (f : Port → Port) : (s.modPort p f).doe = s.doe := rfl

@[simp] theorem State.setDgeCtx_pending (c : Nat) (x : DgeCtx) : (s.setDgeCtx c x).pending = s.pending := rfl
@[simp] theorem State.setDgeCtx_out (c : Nat) (x : DgeCtx) : (s.setDgeCtx c x).out = s.out := rfl
@[simp] theorem State.setDgeCtx_time (c : Nat) (x : DgeCtx) : (s.setDgeCtx c x).time = s.time := rfl
@[simp] theorem State.setDgeCtx_frees (c : Nat) (x : DgeCtx) : (s.setDgeCtx c x).frees = s.frees := rfl
@[simp] theorem State.setDgeCtx_draws (c : Nat) (x : DgeCtx) : (s.setDgeCtx c x).draws = s.draws := rfl
@[simp] theorem State.setDgeCtx_regs (c : Nat) (x : DgeCtx) : (s.setDgeCtx c x).regs = s.regs := rfl
@[simp] theorem State.setDgeCtx_glb (c : Nat) (x : DgeCtx) : (s.setDgeCtx c x).glb = s.glb := rfl
@[simp] theorem State.setDgeCtx_lcs (c : Nat) (x : DgeCtx) : (s.setDgeCtx c x).lcs = s.lcs := rfl
@[simp] theorem State.setDgeCtx_vis (c : Nat) (x : DgeCtx) : (s.setDgeCtx c x).vis = s.vis := rfl
@[simp] theorem State.setDgeCtx_rings (c : Nat) (x : DgeCtx) : (s.setDgeCtx c x).rings = s.rings := rfl
@[simp] theorem State.setDgeCtx_jobs (c : Nat) (x : DgeCtx) : (s.setDgeCtx c x).jobs = s.jobs := rfl
@[simp] theorem State.setDgeCtx_nextJob (c : Nat) (x : DgeCtx) : (s.setDgeCtx c x).nextJob = s.nextJob := rfl
@[simp] theorem State.setDgeCtx_replies (c : Nat) (x : DgeCtx) : (s.setDgeCtx c x).replies = s.replies := rfl
@[simp] theorem State.setDgeCtx_csn (c : Nat) (x : DgeCtx) : (s.setDgeCtx c x).csn = s.csn := rfl
@[simp] theorem State.setDgeCtx_fn (c : Nat) (x : DgeCtx) : (s.setDgeCtx c x).fn = s.fn := rfl
@[simp] theorem State.setDgeCtx_bur (c : Nat) (x : DgeCtx) : (s.setDgeCtx c x).bur = s.bur := rfl
@[simp] theorem State.setDgeCtx_grv (c : Nat) (x : DgeCtx) : (s.setDgeCtx c x).grv = s.grv := rfl
@[simp] theorem State.setDgeCtx_lne (c : Nat) (x : DgeCtx) : (s.setDgeCtx c x).lne = s.lne := rfl
@[simp] theorem State.setDgeCtx_cwy (c : Nat) (x : DgeCtx) : (s.setDgeCtx c x).cwy = s.cwy := rfl
@[simp] theorem State.setDgeCtx_lpt (c : Nat) (x : DgeCtx) : (s.setDgeCtx c x).lpt = s.lpt := rfl
@[simp] theorem State.setDgeCtx_hif (c : Nat) (x : DgeCtx) : (s.setDgeCtx c x).hif = s.hif := rfl
@[simp] theorem State.setDgeCtx_ent (c : Nat) (x : DgeCtx) : (s.setDgeCtx c x).ent = s.ent := rfl
@[simp] theorem State.setDgeCtx_spn (c : Nat) (x : DgeCtx) : (s.setDgeCtx c x).spn = s.spn := rfl
@[simp] theorem State.setDgeCtx_xh (c : Nat) (x : DgeCtx) : (s.setDgeCtx c x).xh = s.xh := rfl
@[simp] theorem State.setDgeCtx_island (c : Nat) (x : DgeCtx) : (s.setDgeCtx c x).island = s.island := rfl
@[simp] theorem State.setDgeCtx_fcl (c : Nat) (x : DgeCtx) : (s.setDgeCtx c x).fcl = s.fcl := rfl
@[simp] theorem State.setDgeCtx_drf (c : Nat) (x : DgeCtx) : (s.setDgeCtx c x).drf = s.drf := rfl
@[simp] theorem State.setDgeCtx_tol (c : Nat) (x : DgeCtx) : (s.setDgeCtx c x).tol = s.tol := rfl
@[simp] theorem State.setDgeCtx_flash (c : Nat) (x : DgeCtx) : (s.setDgeCtx c x).flash = s.flash := rfl
@[simp] theorem State.setDgeCtx_cus (c : Nat) (x : DgeCtx) : (s.setDgeCtx c x).cus = s.cus := rfl
@[simp] theorem State.setDgeCtx_doe (c : Nat) (x : DgeCtx) : (s.setDgeCtx c x).doe = s.doe := rfl

@[simp] theorem State.setAct_pending (a : Nat) (x : Activity) : (s.setAct a x).pending = s.pending := rfl
@[simp] theorem State.setAct_out (a : Nat) (x : Activity) : (s.setAct a x).out = s.out := rfl
@[simp] theorem State.setAct_time (a : Nat) (x : Activity) : (s.setAct a x).time = s.time := rfl
@[simp] theorem State.setAct_frees (a : Nat) (x : Activity) : (s.setAct a x).frees = s.frees := rfl
@[simp] theorem State.setAct_draws (a : Nat) (x : Activity) : (s.setAct a x).draws = s.draws := rfl
@[simp] theorem State.setAct_regs (a : Nat) (x : Activity) : (s.setAct a x).regs = s.regs := rfl
@[simp] theorem State.setAct_glb (a : Nat) (x : Activity) : (s.setAct a x).glb = s.glb := rfl
@[simp] theorem State.setAct_lcs (a : Nat) (x : Activity) : (s.setAct a x).lcs = s.lcs := rfl
@[simp] theorem State.setAct_vis (a : Nat) (x : Activity) : (s.setAct a x).vis = s.vis := rfl
@[simp] theorem State.setAct_rings (a : Nat) (x : Activity) : (s.setAct a x).rings = s.rings := rfl
@[simp] theorem State.setAct_jobs (a : Nat) (x : Activity) : (s.setAct a x).jobs = s.jobs := rfl
@[simp] theorem State.setAct_nextJob (a : Nat) (x : Activity) : (s.setAct a x).nextJob = s.nextJob := rfl
@[simp] theorem State.setAct_replies (a : Nat) (x : Activity) : (s.setAct a x).replies = s.replies := rfl
@[simp] theorem State.setAct_csn (a : Nat) (x : Activity) : (s.setAct a x).csn = s.csn := rfl
@[simp] theorem State.setAct_fn (a : Nat) (x : Activity) : (s.setAct a x).fn = s.fn := rfl
@[simp] theorem State.setAct_bur (a : Nat) (x : Activity) : (s.setAct a x).bur = s.bur := rfl
@[simp] theorem State.setAct_grv (a : Nat) (x : Activity) : (s.setAct a x).grv = s.grv := rfl
@[simp] theorem State.setAct_lne (a : Nat) (x : Activity) : (s.setAct a x).lne = s.lne := rfl
@[simp] theorem State.setAct_cwy (a : Nat) (x : Activity) : (s.setAct a x).cwy = s.cwy := rfl
@[simp] theorem State.setAct_lpt (a : Nat) (x : Activity) : (s.setAct a x).lpt = s.lpt := rfl
@[simp] theorem State.setAct_hif (a : Nat) (x : Activity) : (s.setAct a x).hif = s.hif := rfl
@[simp] theorem State.setAct_dge (a : Nat) (x : Activity) : (s.setAct a x).dge = s.dge := rfl
@[simp] theorem State.setAct_ent (a : Nat) (x : Activity) : (s.setAct a x).ent = s.ent := rfl
@[simp] theorem State.setAct_spn (a : Nat) (x : Activity) : (s.setAct a x).spn = s.spn := rfl
@[simp] theorem State.setAct_xh (a : Nat) (x : Activity) : (s.setAct a x).xh = s.xh := rfl
@[simp] theorem State.setAct_island (a : Nat) (x : Activity) : (s.setAct a x).island = s.island := rfl
@[simp] theorem State.setAct_drf (a : Nat) (x : Activity) : (s.setAct a x).drf = s.drf := rfl
@[simp] theorem State.setAct_tol (a : Nat) (x : Activity) : (s.setAct a x).tol = s.tol := rfl
@[simp] theorem State.setAct_flash (a : Nat) (x : Activity) : (s.setAct a x).flash = s.flash := rfl
@[simp] theorem State.setAct_cus (a : Nat) (x : Activity) : (s.setAct a x).cus = s.cus := rfl
@[simp] theorem State.setAct_doe (a : Nat) (x : Activity) : (s.setAct a x).doe = s.doe := rfl

/-! ### Reading back -/

@[simp] theorem State.vi_setVi (v w : Nat) (x : Vi) : (s.setVi v x).vi w = if v = w then x else s.vi w := SMap.get_set ..
@[simp] theorem State.vi_modVi (v w : Nat) (f : Vi → Vi) : (s.modVi v f).vi w = if v = w then f (s.vi v) else s.vi w := SMap.get_set ..
@[simp] theorem State.ring_setRing_self (v k : Nat) (r : Ring) : (s.setRing v k r).ring v k = r := SMap.get_set_self ..
@[simp] theorem State.ring_modRing_self (v k : Nat) (f : Ring → Ring) : (s.modRing v k f).ring v k = f (s.ring v k) := SMap.get_set_self ..

/-- Another ring keeps what it holds: rings have places below 64 in their VI. -/
theorem State.ring_setRing_ne {v k w l : Nat} (hk : k < 64) (hl : l < 64) (h : v ≠ w ∨ k ≠ l) (r : Ring) :
    (s.setRing v k r).ring w l = s.ring w l := SMap.get_set_ne _ (by omega) ..

@[simp] theorem State.pier_setPier (p q : Nat) (x : Pier) : (s.setPier p x).pier q = if p = q then x else s.pier q := SMap.get_set ..
@[simp] theorem State.pier_modPier (p q : Nat) (f : Pier → Pier) : (s.modPier p f).pier q = if p = q then f (s.pier p) else s.pier q :=
  SMap.get_set ..
@[simp] theorem State.burin_setBurin_self (p b : Nat) (x : Burin) : (s.setBurin p b x).burin p b = x := by
  simp [State.burin, State.setBurin]
@[simp] theorem State.burin_modBurin_self (p b : Nat) (f : Burin → Burin) : (s.modBurin p b f).burin p b = f (s.burin p b) := by
  simp [State.modBurin]
@[simp] theorem State.core_setCore (c d : Nat) (x : Core) : (s.setCore c x).core d = if c = d then x else s.core d := SMap.get_set ..
@[simp] theorem State.lane_setLane (l m : Nat) (x : Lane) : (s.setLane l x).lane m = if l = m then x else s.lane m := SMap.get_set ..
@[simp] theorem State.job_putJob (j k : Nat) (x : Job) : (s.putJob j x).job k = if j = k then some x else s.job k := KMap.get_put ..
@[simp] theorem State.job_modJob (j k : Nat) (f : Job → Job) : (s.modJob j f).job k = if j = k then (s.job k).map f else s.job k :=
  KMap.get_mod ..
@[simp] theorem State.job_delJob (j k : Nat) : (s.delJob j).job k = if j = k then none else s.job k := KMap.get_del ..
@[simp] theorem State.otp_setOtp (a c : Nat) (b : Byte) : (s.setOtp a b).otp c = if a = c then b else s.otp c := SMap.get_set ..
theorem State.reg_setReg (a c n : Nat) : (s.setReg a n).reg c = if a = c then n % 2 ^ 32 else s.reg c := by
  unfold State.reg State.setReg
  rw [SMap.get_set]
  split <;> simp
@[simp] theorem State.session_setSession (i k : Nat) (x : Session) : (s.setSession i x).session k = if i = k then some x else s.session k :=
  KMap.get_put ..
@[simp] theorem State.port_setPort (p q : Nat) (x : Port) : (s.setPort p x).port q = if p = q then x else s.port q := SMap.get_set ..
@[simp] theorem State.dgeCtx_setDgeCtx (c d : Nat) (x : DgeCtx) : (s.setDgeCtx c x).dgeCtx d = if c = d then x else s.dgeCtx d :=
  SMap.get_set ..
@[simp] theorem State.act_setAct (a c : Nat) (x : Activity) : (s.setAct a x).act c = if a = c then x else s.act c := SMap.get_set ..

end Sys2Proof.Machine
end

