-- ==== Sys2Proof/Laws/Engines.lean ====
section
/-! SUPPORT. What leaving the engines, deciding and settling can change: everything but the places of jobs in the engines stays. -/

namespace Sys2Proof.Machine

/-- A state with the places of jobs in the engines blotted out: jobs, burins, cores, lanes, the lanes' look-aside queue, tokens. -/
def State.beside (s : State) : State :=
  { s with jobs := [], bur := Bur.reset, grv := Grv.reset, lne := Lne.reset, cwy := { s.cwy with lookaside := [] }, tol := Tol.reset }

theorem State.foldl_keeps {β γ : Type} (P : State → γ) (f : State → β → State) (h : ∀ t b, P (f t b) = P t) (l : List β) (s : State) :
    P (l.foldl f s) = P s := by
  induction l generalizing s with
  | nil => rfl
  | cons a r ih => rw [List.foldl_cons, ih, h]

theorem State.beside_idleBurin (s : State) (p b : Nat) : (s.idleBurin p b).beside = s.beside := rfl

theorem State.beside_freeBurin (s : State) (j : Nat) : (s.freeBurin j).beside = s.beside := by
  unfold State.freeBurin; split <;> rfl

theorem State.beside_freeCore (s : State) (j : Nat) : (s.freeCore j).beside = s.beside := by
  unfold State.freeCore; split
  · rfl
  · dsimp only; split <;> rfl

theorem State.beside_freeLane (s : State) (j : Nat) : (s.freeLane j).beside = s.beside := rfl

theorem State.beside_unpark (s : State) (j : Nat) : (s.unpark j).beside = s.beside := rfl

theorem State.beside_delJob (s : State) (j : Nat) : (s.delJob j).beside = s.beside := rfl

theorem State.beside_dropVerifiers (s : State) (j : Nat) : (s.dropVerifiers j).beside = s.beside :=
  State.foldl_keeps State.beside _ (fun t p => by rw [State.beside_delJob, State.beside_freeBurin]) _ s

/-- Leaving the engines changes nothing beside them. -/
theorem State.beside_leaveEngines (s : State) (j : Nat) : (s.leaveEngines j).beside = s.beside := by
  unfold State.leaveEngines
  rw [State.beside_dropVerifiers, State.beside_unpark, State.beside_freeLane, State.beside_freeCore, State.beside_freeBurin]

theorem State.leaveEngines_of {γ : Type} (P : State → γ) (h : ∀ t : State, P t.beside = P t) (s : State) (j : Nat) :
    P (s.leaveEngines j) = P s := by
  rw [← h, State.beside_leaveEngines, h]

@[simp] theorem State.leaveEngines_pending (s : State) (j : Nat) : (s.leaveEngines j).pending = s.pending := State.leaveEngines_of _ (fun _ => rfl) s j
@[simp] theorem State.leaveEngines_out (s : State) (j : Nat) : (s.leaveEngines j).out = s.out := State.leaveEngines_of _ (fun _ => rfl) s j
@[simp] theorem State.leaveEngines_time (s : State) (j : Nat) : (s.leaveEngines j).time = s.time := State.leaveEngines_of _ (fun _ => rfl) s j
@[simp] theorem State.leaveEngines_regs (s : State) (j : Nat) : (s.leaveEngines j).regs = s.regs := State.leaveEngines_of _ (fun _ => rfl) s j
@[simp] theorem State.leaveEngines_glb (s : State) (j : Nat) : (s.leaveEngines j).glb = s.glb := State.leaveEngines_of _ (fun _ => rfl) s j
@[simp] theorem State.leaveEngines_lcs (s : State) (j : Nat) : (s.leaveEngines j).lcs = s.lcs := State.leaveEngines_of _ (fun _ => rfl) s j
@[simp] theorem State.leaveEngines_vis (s : State) (j : Nat) : (s.leaveEngines j).vis = s.vis := State.leaveEngines_of _ (fun _ => rfl) s j
@[simp] theorem State.leaveEngines_rings (s : State) (j : Nat) : (s.leaveEngines j).rings = s.rings := State.leaveEngines_of _ (fun _ => rfl) s j
@[simp] theorem State.leaveEngines_replies (s : State) (j : Nat) : (s.leaveEngines j).replies = s.replies := State.leaveEngines_of _ (fun _ => rfl) s j
@[simp] theorem State.leaveEngines_csn (s : State) (j : Nat) : (s.leaveEngines j).csn = s.csn := State.leaveEngines_of _ (fun _ => rfl) s j
@[simp] theorem State.leaveEngines_fn (s : State) (j : Nat) : (s.leaveEngines j).fn = s.fn := State.leaveEngines_of _ (fun _ => rfl) s j
@[simp] theorem State.leaveEngines_spn (s : State) (j : Nat) : (s.leaveEngines j).spn = s.spn := State.leaveEngines_of _ (fun _ => rfl) s j
@[simp] theorem State.leaveEngines_ent (s : State) (j : Nat) : (s.leaveEngines j).ent = s.ent := State.leaveEngines_of _ (fun _ => rfl) s j
@[simp] theorem State.leaveEngines_fcl (s : State) (j : Nat) : (s.leaveEngines j).fcl = s.fcl := State.leaveEngines_of _ (fun _ => rfl) s j

/-- A drain that nothing waits for settles at once. -/
theorem State.settleDrains_quiet (s : State) (hd : s.spn.draining = []) (hw : ∀ p ∈ s.jobs, p.2.stage ≠ .waiting) : s.settleDrains = s := by
  have h0 : s.drainHandovers = s := by unfold State.drainHandovers; rw [hd]; rfl
  unfold State.settleDrains
  rw [h0]
  have key : ∀ j x, s.job j = some x → x.stage ≠ .waiting := by
    intro j x hj
    have : ∀ l : KMap Job, KMap.get j l = some x → (∀ p ∈ l, p.2.stage ≠ .waiting) → x.stage ≠ .waiting := by
      intro l
      induction l with
      | nil => intro h; cases h
      | cons p r ih =>
        obtain ⟨i, a⟩ := p
        intro h hp
        unfold KMap.get at h
        split at h
        · cases h; exact hp _ (List.mem_cons_self ..)
        · exact ih h (fun q hq => hp q (List.mem_cons_of_mem _ hq))
    exact this s.jobs hj hw
  suffices h : ∀ l : List (Nat × Job), l.foldl (fun (t : State) p =>
      match t.job p.1 with
      | none => t
      | some x =>
        if x.stage = .waiting ∧ (x.needs.head? = some .drain ∨ x.needs.head? = some .earlier) ∧ t.drained p.1 x then
          t.popNeed p.1 (x.needs.headD .drain)
        else t) s = s from h s.jobs
  intro l
  induction l with
  | nil => rfl
  | cons p r ih =>
    rw [List.foldl_cons]
    cases hj : s.job p.1 with
    | none => exact ih
    | some x =>
      dsimp only
      rw [if_neg (fun h => key _ _ hj h.1)]
      exact ih

end Sys2Proof.Machine
end

