-- ==== Sys2Proof/Laws/Exec.lean ====
section
/-! SUPPORT. The meaning that each command calls. -/

namespace Sys2Proof.Machine

section Exec

set_option Elab.async false

variable (s : State)

theorem exec_sessionPolicySet (job : Nat) : exec (.sessionPolicySet job) s = execSessionPolicySet job s := rfl
theorem exec_sessionInstall (job : Nat) : exec (.sessionInstall job) s = execSessionInstall job s := rfl
theorem exec_sessionRekey (job : Nat) : exec (.sessionRekey job) s = execSessionRekey job s := rfl
theorem exec_sessionRemove (job : Nat) : exec (.sessionRemove job) s = execSessionRemove job s := rfl
theorem exec_sessionQuery (job : Nat) : exec (.sessionQuery job) s = execSessionQuery job s := rfl
theorem exec_flowRuleSet (job : Nat) : exec (.flowRuleSet job) s = execFlowRuleSet job s := rfl
theorem exec_kemKeygen (job : Nat) (sound : Bool) (core : Bool) : exec (.kemKeygen job sound core) s = execKemKeygen job sound core s := rfl
theorem exec_kemEncaps (job : Nat) (sound : Bool) : exec (.kemEncaps job sound) s = execKemEncaps job sound s := rfl
theorem exec_kemDecaps (job : Nat) (sound : Bool) : exec (.kemDecaps job sound) s = execKemDecaps job sound s := rfl
theorem exec_matrixPin (job : Nat) : exec (.matrixPin job) s = execMatrixPin job s := rfl
theorem exec_kexDerive (job : Nat) (sound : Bool) : exec (.kexDerive job sound) s = execKexDerive job sound s := rfl
theorem exec_sigKeygen (job : Nat) (sound : Bool) : exec (.sigKeygen job sound) s = execSigKeygen job sound s := rfl
theorem exec_sigSign (job : Nat) (sound : Bool) : exec (.sigSign job sound) s = execSigSign job sound s := rfl
theorem exec_sigSignPrehash (job : Nat) (sound : Bool) : exec (.sigSignPrehash job sound) s = execSigSignPrehash job sound s := rfl
theorem exec_sigVerify (job : Nat) (sound : Bool) : exec (.sigVerify job sound) s = execSigVerify job sound s := rfl
theorem exec_hbsLeaseQuery (job : Nat) : exec (.hbsLeaseQuery job) s = execHbsLeaseQuery job s := rfl
theorem exec_hash (job : Nat) : exec (.hash job) s = execHash job s := rfl
theorem exec_mac (job : Nat) : exec (.mac job) s = execMac job s := rfl
theorem exec_kdf (job : Nat) : exec (.kdf job) s = execKdf job s := rfl
theorem exec_aeadSeal (job : Nat) : exec (.aeadSeal job) s = execAeadSeal job s := rfl
theorem exec_aeadOpen (job : Nat) : exec (.aeadOpen job) s = execAeadOpen job s := rfl
theorem exec_recordSeal (job : Nat) : exec (.recordSeal job) s = execRecordSeal job s := rfl
theorem exec_recordOpen (job : Nat) : exec (.recordOpen job) s = execRecordOpen job s := rfl
theorem exec_batch (job : Nat) (inputs : List Bytes) : exec (.batch job inputs) s = execBatch job inputs s := rfl
theorem exec_keyGenerate (job : Nat) : exec (.keyGenerate job) s = execKeyGenerate job s := rfl
theorem exec_keyImport (job : Nat) (sound : Bool) : exec (.keyImport job sound) s = execKeyImport job sound s := rfl
theorem exec_keyExportWrapped (job : Nat) (agree : Bool) : exec (.keyExportWrapped job agree) s = execKeyExportWrapped job agree s := rfl
theorem exec_keyReplaceStage (job : Nat) (sound : Bool) : exec (.keyReplaceStage job sound) s = execKeyReplaceStage job sound s := rfl
theorem exec_keyReplaceCommit (job : Nat) : exec (.keyReplaceCommit job) s = execKeyReplaceCommit job s := rfl
theorem exec_keyDestroy (job : Nat) : exec (.keyDestroy job) s = execKeyDestroy job s := rfl
theorem exec_keyAttr (job : Nat) : exec (.keyAttr job) s = execKeyAttr job s := rfl
theorem exec_keyDerive (job : Nat) : exec (.keyDerive job) s = execKeyDerive job s := rfl
theorem exec_impressionDevice (job : Nat) (sound : Bool) : exec (.impressionDevice job sound) s = execImpressionDevice job sound s := rfl
theorem exec_impressionKey (job : Nat) (sound : Bool) : exec (.impressionKey job sound) s = execImpressionKey job sound s := rfl
theorem exec_impressionChain (job : Nat) : exec (.impressionChain job) s = execImpressionChain job s := rfl
theorem exec_maintStart (job : Nat) : exec (.maintStart job) s = execMaintStart job s := rfl
theorem exec_maintStatus (job : Nat) : exec (.maintStatus job) s = execMaintStatus job s := rfl
theorem exec_maintStop (job : Nat) : exec (.maintStop job) s = execMaintStop job s := rfl
theorem exec_repairQuery (job : Nat) : exec (.repairQuery job) s = execRepairQuery job s := rfl
theorem exec_selftestRun (job : Nat) (failed : BitVec 8) (kat : BitVec 16) : exec (.selftestRun job failed kat) s = execSelftestRun job failed kat s := rfl
theorem exec_lcsQuery (job : Nat) : exec (.lcsQuery job) s = execLcsQuery job s := rfl
theorem exec_lcsRequest (job : Nat) (agree : Bool) : exec (.lcsRequest job agree) s = execLcsRequest job agree s := rfl
theorem exec_lcsChallenge (job : Nat) : exec (.lcsChallenge job) s = execLcsChallenge job s := rfl
theorem exec_lcsPermit (job : Nat) (agree : Bool) : exec (.lcsPermit job agree) s = execLcsPermit job agree s := rfl
theorem exec_cardStatus (job : Nat) : exec (.cardStatus job) s = execCardStatus job s := rfl
theorem exec_archiveScan (job : Nat) : exec (.archiveScan job) s = execArchiveScan job s := rfl
theorem exec_archiveRestore (job : Nat) : exec (.archiveRestore job) s = execArchiveRestore job s := rfl
theorem exec_officerLogin (job : Nat) (present : BitVec 8) : exec (.officerLogin job present) s = execOfficerLogin job present s := rfl
theorem exec_officerLogout (job : Nat) : exec (.officerLogout job) s = execOfficerLogout job s := rfl
theorem exec_quorumSet (job : Nat) : exec (.quorumSet job) s = execQuorumSet job s := rfl
theorem exec_twinPair (job : Nat) : exec (.twinPair job) s = execTwinPair job s := rfl
theorem exec_twinStatus (job : Nat) : exec (.twinStatus job) s = execTwinStatus job s := rfl
theorem exec_twinRoleSet (job : Nat) : exec (.twinRoleSet job) s = execTwinRoleSet job s := rfl
theorem exec_twinTakeover (job : Nat) : exec (.twinTakeover job) s = execTwinTakeover job s := rfl
theorem exec_twinUnpair (job : Nat) : exec (.twinUnpair job) s = execTwinUnpair job s := rfl
theorem exec_viQuotaSet (job : Nat) : exec (.viQuotaSet job) s = execViQuotaSet job s := rfl
theorem exec_viReset (job : Nat) : exec (.viReset job) s = execViReset job s := rfl
theorem exec_viFreeze (job : Nat) : exec (.viFreeze job) s = execViFreeze job s := rfl
theorem exec_viSave (job : Nat) : exec (.viSave job) s = execViSave job s := rfl
theorem exec_viRestore (job : Nat) (sound : Bool) : exec (.viRestore job sound) s = execViRestore job sound s := rfl
theorem exec_viThaw (job : Nat) : exec (.viThaw job) s = execViThaw job s := rfl
theorem exec_functionSet (job : Nat) : exec (.functionSet job) s = execFunctionSet job s := rfl
theorem exec_viQuery (job : Nat) : exec (.viQuery job) s = execViQuery job s := rfl
theorem exec_ucodeLoad (job : Nat) (sound : Bool) : exec (.ucodeLoad job sound) s = execUcodeLoad job sound s := rfl
theorem exec_ucodeInvoke (job : Nat) : exec (.ucodeInvoke job) s = execUcodeInvoke job s := rfl
theorem exec_ucodeQuery (job : Nat) : exec (.ucodeQuery job) s = execUcodeQuery job s := rfl
theorem exec_nop (job : Nat) : exec (.nop job) s = execNop job s := rfl
theorem exec_echo (job : Nat) : exec (.echo job) s = execEcho job s := rfl
theorem exec_abort (job : Nat) : exec (.abort job) s = execAbort job s := rfl
theorem exec_getInfo (job : Nat) : exec (.getInfo job) s = execGetInfo job s := rfl
theorem exec_fwStage (job : Nat) : exec (.fwStage job) s = execFwStage job s := rfl
theorem exec_descriptorFetch (vi : Fin 256) (ring : Fin 16) (entries : List Bytes) (readError : Bool) : exec (.descriptorFetch vi ring entries readError) s = execDescriptorFetch vi ring entries readError s := rfl
theorem exec_jobDispatch (job : Nat) : exec (.jobDispatch job) s = execJobDispatch job s := rfl
theorem exec_completionRequest (job : Nat) : exec (.completionRequest job) s = execCompletionRequest job s := rfl
theorem exec_replyWrite (vi : Fin 256) (ring : Fin 16) : exec (.replyWrite vi ring) s = execReplyWrite vi ring s := rfl
theorem exec_interruptTimer (vi : Fin 256) (ring : RingId) : exec (.interruptTimer vi ring) s = execInterruptTimer vi ring s := rfl
theorem exec_sqDoorbell (vi : Fin 256) (n : Fin 16) (index : BitVec 16) : exec (.sqDoorbell vi n index) s = execSqDoorbell vi n index s := rfl
theorem exec_cqDoorbell (vi : Fin 256) (n : Fin 16) (index : BitVec 16) : exec (.cqDoorbell vi n index) s = execCqDoorbell vi n index s := rfl
theorem exec_rxDoorbell (vi : Fin 256) (n : Fin 16) (index : BitVec 16) : exec (.rxDoorbell vi n index) s = execRxDoorbell vi n index s := rfl
theorem exec_txDoorbell (vi : Fin 256) (n : Fin 16) (index : BitVec 16) : exec (.txDoorbell vi n index) s = execTxDoorbell vi n index s := rfl
theorem exec_evDoorbell (vi : Fin 256) (index : BitVec 16) : exec (.evDoorbell vi index) s = execEvDoorbell vi index s := rfl
theorem exec_xqDoorbell (index : BitVec 16) : exec (.xqDoorbell index) s = execXqDoorbell index s := rfl
theorem exec_ringEnable (vi : Fin 256) (ring : RingId) (value : Word) : exec (.ringEnable vi ring value) s = execRingEnable vi ring value s := rfl
theorem exec_ringDisable (vi : Fin 256) (ring : RingId) (value : Word) : exec (.ringDisable vi ring value) s = execRingDisable vi ring value s := rfl
theorem exec_viIntStatusClear (vi : Fin 256) (value : Word) : exec (.viIntStatusClear vi value) s = execViIntStatusClear vi value s := rfl
theorem exec_viIntEnableWrite (vi : Fin 256) (value : Word) : exec (.viIntEnableWrite vi value) s = execViIntEnableWrite vi value s := rfl
theorem exec_rcRead (acc : RegAccess) : exec (.rcRead acc) s = execRcRead acc s := rfl
theorem exec_registerWrite (acc : RegAccess) (value : Word) : exec (.registerWrite acc value) s = execRegisterWrite acc value s := rfl
theorem exec_burinPick (pier : Fin 8) (burin : Fin 9) : exec (.burinPick pier burin) s = execBurinPick pier burin s := rfl
theorem exec_tokenGrant (kind : PhaseKind) : exec (.tokenGrant kind) s = execTokenGrant kind s := rfl
theorem exec_microwordIssue (pier : Fin 8) (burin : Fin 9) : exec (.microwordIssue pier burin) s = execMicrowordIssue pier burin s := rfl
theorem exec_commit (pier : Fin 8) (burin : Fin 9) : exec (.commit pier burin) s = execCommit pier burin s := rfl
theorem exec_end_ (pier : Fin 8) (burin : Fin 9) : exec (.end_ pier burin) s = execEnd pier burin s := rfl
theorem exec_yield_ (pier : Fin 8) (burin : Fin 9) : exec (.yield_ pier burin) s = execYield pier burin s := rfl
theorem exec_maskRefresh (pier : Fin 8) (burin : Fin 9) : exec (.maskRefresh pier burin) s = execMaskRefresh pier burin s := rfl
theorem exec_setLc (pier : Fin 8) (burin : Fin 9) : exec (.setLc pier burin) s = execSetLc pier burin s := rfl
theorem exec_baseLoad (pier : Fin 8) (burin : Fin 9) : exec (.baseLoad pier burin) s = execBaseLoad pier burin s := rfl
theorem exec_wait (pier : Fin 8) (burin : Fin 9) : exec (.wait pier burin) s = execWait pier burin s := rfl
theorem exec_yieldHoldPreemption (pier : Fin 8) (burin : Fin 9) : exec (.yieldHoldPreemption pier burin) s = execYieldHoldPreemption pier burin s := rfl
theorem exec_parkBufferRoom (pier : Fin 8) : exec (.parkBufferRoom pier) s = execParkBufferRoom pier s := rfl
theorem exec_counterproofVerdict (job : Nat) (valid : Bool) : exec (.counterproofVerdict job valid) s = execCounterproofVerdict job valid s := rfl
theorem exec_stippleReseed (pier : Fin 8) : exec (.stippleReseed pier) s = execStippleReseed pier s := rfl
theorem exec_stippleFailure (pier : Fin 8) : exec (.stippleFailure pier) s = execStippleFailure pier s := rfl
theorem exec_burinSpareReady (pier : Fin 8) (burin : Fin 9) (passed : Bool) : exec (.burinSpareReady pier burin passed) s = execBurinSpareReady pier burin passed s := rfl
theorem exec_leaseSubtreeBuilt (handle : Word) : exec (.leaseSubtreeBuilt handle) s = execLeaseSubtreeBuilt handle s := rfl
theorem exec_hbsLeaseGrant (handle : Word) (programmed : Bool) : exec (.hbsLeaseGrant handle programmed) s = execHbsLeaseGrant handle programmed s := rfl
theorem exec_leaseLogErase (block : Nat) (good : Bool) : exec (.leaseLogErase block good) s = execLeaseLogErase block good s := rfl
theorem exec_graverSlotLoad (core : Fin 18) : exec (.graverSlotLoad core) s = execGraverSlotLoad core s := rfl
theorem exec_graverYieldPoint (core : Fin 18) (ran : Nat) : exec (.graverYieldPoint core ran) s = execGraverYieldPoint core ran s := rfl
theorem exec_graverSpareReady (core : Fin 18) (passed : Bool) : exec (.graverSpareReady core passed) s = execGraverSpareReady core passed s := rfl
theorem exec_publicKeyRegeneration (handle : Word) (good : Bool) : exec (.publicKeyRegeneration handle good) s = execPublicKeyRegeneration handle good s := rfl
theorem exec_frameReceive (port : Fin 2) (link : Fin 4) (frame : Bytes) (fec : FecReport) : exec (.frameReceive port link frame fec) s = execFrameReceive port link frame fec s := rfl
theorem exec_frameTransmit (port : Fin 2) (link : Fin 4) : exec (.frameTransmit port link) s = execFrameTransmit port link s := rfl
theorem exec_linkUp (port : Fin 2) (link : Fin 4) : exec (.linkUp port link) s = execLinkUp port link s := rfl
theorem exec_linkDown (port : Fin 2) (link : Fin 4) : exec (.linkDown port link) s = execLinkDown port link s := rfl
theorem exec_lptPortCtlWrite (port : Fin 2) (value : Word) : exec (.lptPortCtlWrite port value) s = execLptPortCtlWrite port value s := rfl
theorem exec_lptTxeqWrite (port : Fin 2) (lane : Fin 4) (value : Word) : exec (.lptTxeqWrite port lane value) s = execLptTxeqWrite port lane value s := rfl
theorem exec_localAddressWrite (port : Fin 2) (entry : Fin 16) (value : Word) : exec (.localAddressWrite port entry value) s = execLocalAddressWrite port entry value s := rfl
theorem exec_excLimitInterval : exec .excLimitInterval s = execExcLimitInterval s := by rw [exec]
theorem exec_exceptionDelivery : exec .exceptionDelivery s = execExceptionDelivery s := by rw [exec]
theorem exec_handshakeIntake : exec .handshakeIntake s = execHandshakeIntake s := by rw [exec]
theorem exec_cookieKeyRotation : exec .cookieKeyRotation s = execCookieKeyRotation s := by rw [exec]
theorem exec_sessionPending (hs : Nat) (suite : BitVec 16) : exec (.sessionPending hs suite) s = execSessionPending hs suite s := rfl
theorem exec_sessionEstablished (session : BitVec 24) : exec (.sessionEstablished session) s = execSessionEstablished session s := rfl
theorem exec_handshakeFailed (session : BitVec 24) (alert : Byte) : exec (.handshakeFailed session alert) s = execHandshakeFailed session alert s := rfl
theorem exec_cwySlotIssue : exec .cwySlotIssue s = execCwySlotIssue s := by rw [exec]
theorem exec_dtlsRecordReceive : exec .dtlsRecordReceive s = execDtlsRecordReceive s := by rw [exec]
theorem exec_espPacketReceive : exec .espPacketReceive s = execEspPacketReceive s := by rw [exec]
theorem exec_laneTakeJob (lane : Fin 8) : exec (.laneTakeJob lane) s = execLaneTakeJob lane s := rfl
theorem exec_laneJobComplete (lane : Fin 8) (checksAgree : Bool) : exec (.laneJobComplete lane checksAgree) s = execLaneJobComplete lane checksAgree s := rfl
theorem exec_dtlsRecordVerdict (session : BitVec 24) : exec (.dtlsRecordVerdict session) s = execDtlsRecordVerdict session s := rfl
theorem exec_espPacketVerdict (session : BitVec 24) : exec (.espPacketVerdict session) s = execEspPacketVerdict session s := rfl
theorem exec_heldRecordRelease (session : BitVec 24) : exec (.heldRecordRelease session) s = execHeldRecordRelease session s := rfl
theorem exec_peerKeyupdate (session : BitVec 24) : exec (.peerKeyupdate session) s = execPeerKeyupdate session s := rfl
theorem exec_peerKeyupdateAck (session : BitVec 24) : exec (.peerKeyupdateAck session) s = execPeerKeyupdateAck session s := rfl
theorem exec_keyupdateTimeout (session : BitVec 24) : exec (.keyupdateTimeout session) s = execKeyupdateTimeout session s := rfl
theorem exec_epoch2HoldExpiry (session : BitVec 24) : exec (.epoch2HoldExpiry session) s = execEpoch2HoldExpiry session s := rfl
theorem exec_sessionTimeLimit (session : BitVec 24) : exec (.sessionTimeLimit session) s = execSessionTimeLimit session s := rfl
theorem exec_checkpointDue (session : BitVec 24) : exec (.checkpointDue session) s = execCheckpointDue session s := rfl
theorem exec_transmitEntryFetch (vi : Fin 256) (ring : Fin 16) (entry : Option Bytes) (message : ReadOutcome) : exec (.transmitEntryFetch vi ring entry message) s = execTransmitEntryFetch vi ring entry message s := rfl
theorem exec_sendLeaseGrant (session : BitVec 24) : exec (.sendLeaseGrant session) s = execSendLeaseGrant session s := rfl
theorem exec_keyCounterLeaseWrite (handle : Word) (programmed : Bool) : exec (.keyCounterLeaseWrite handle programmed) s = execKeyCounterLeaseWrite handle programmed s := rfl
theorem exec_laneSpareReady (lane : Fin 8) (passed : Bool) : exec (.laneSpareReady lane passed) s = execLaneSpareReady lane passed s := rfl
theorem exec_laneIdleTokenRelease (lane : Fin 8) : exec (.laneIdleTokenRelease lane) s = execLaneIdleTokenRelease lane s := rfl
theorem exec_draftTokenRelease (pair : Fin 10) : exec (.draftTokenRelease pair) s = execDraftTokenRelease pair s := rfl
theorem exec_shelfRecordWrite (job : Nat) (programmed : Bool) : exec (.shelfRecordWrite job programmed) s = execShelfRecordWrite job programmed s := rfl
theorem exec_overflowKeyFetch (handle : Word) (intact : Bool) : exec (.overflowKeyFetch handle intact) s = execOverflowKeyFetch handle intact s := rfl
theorem exec_derivationJob (handle : Word) : exec (.derivationJob handle) s = execDerivationJob handle s := rfl
theorem exec_keyZeroise (handle : Word) : exec (.keyZeroise handle) s = execKeyZeroise handle s := rfl
theorem exec_storeRewrite (pier : Fin 8) (good : Bool) : exec (.storeRewrite pier good) s = execStoreRewrite pier good s := rfl
theorem exec_dgeClaim (vi : Fin 256) (ctx : Fin 8) : exec (.dgeClaim vi ctx) s = execDgeClaim vi ctx s := rfl
theorem exec_dgeRelease (vi : Fin 256) (ctx : Fin 8) : exec (.dgeRelease vi ctx) s = execDgeRelease vi ctx s := rfl
theorem exec_dgeInit (vi : Fin 256) (ctx : Fin 8) : exec (.dgeInit vi ctx) s = execDgeInit vi ctx s := rfl
theorem exec_dgeDataWrite (vi : Fin 256) (ctx : Fin 8) (value : Word) (poisoned : Bool) : exec (.dgeDataWrite vi ctx value poisoned) s = execDgeDataWrite vi ctx value poisoned s := rfl
theorem exec_dgeFinal (vi : Fin 256) (ctx : Fin 8) : exec (.dgeFinal vi ctx) s = execDgeFinal vi ctx s := rfl
theorem exec_dgeSqueeze (vi : Fin 256) (ctx : Fin 8) : exec (.dgeSqueeze vi ctx) s = execDgeSqueeze vi ctx s := rfl
theorem exec_dgeSave (vi : Fin 256) (ctx : Fin 8) : exec (.dgeSave vi ctx) s = execDgeSave vi ctx s := rfl
theorem exec_dgeRestore (vi : Fin 256) (ctx : Fin 8) : exec (.dgeRestore vi ctx) s = execDgeRestore vi ctx s := rfl
theorem exec_dgeAbandon (vi : Fin 256) (ctx : Fin 8) : exec (.dgeAbandon vi ctx) s = execDgeAbandon vi ctx s := rfl
theorem exec_dgeOperationComplete (ctx : Fin 8) (saved : ReadOutcome) : exec (.dgeOperationComplete ctx saved) s = execDgeOperationComplete ctx saved s := rfl
theorem exec_dgeZeroiseComplete (ctx : Fin 8) : exec (.dgeZeroiseComplete ctx) s = execDgeZeroiseComplete ctx s := rfl
theorem exec_dgeReclaim (value : Word) : exec (.dgeReclaim value) s = execDgeReclaim value s := rfl
theorem exec_entHealthFailure (sourceB : Bool) (adaptive : Bool) : exec (.entHealthFailure sourceB adaptive) s = execEntHealthFailure sourceB adaptive s := rfl
theorem exec_entRetest (sourceB : Bool) (passed : Bool) : exec (.entRetest sourceB passed) s = execEntRetest sourceB passed s := rfl
theorem exec_entBlockConditioned : exec .entBlockConditioned s = execEntBlockConditioned s := by rw [exec]
theorem exec_drbgReseed : exec .drbgReseed s = execDrbgReseed s := by rw [exec]
theorem exec_drbgRequest : exec .drbgRequest s = execDrbgRequest s := by rw [exec]
theorem exec_entRawCtlWrite (value : Word) : exec (.entRawCtlWrite value) s = execEntRawCtlWrite value s := rfl
theorem exec_flrVf (vi : Fin 256) : exec (.flrVf vi) s = execFlrVf vi s := rfl
theorem exec_flrPf : exec .flrPf s = execFlrPf s := by rw [exec]
theorem exec_vfEnableSet (numVfs : Nat) : exec (.vfEnableSet numVfs) s = execVfEnableSet numVfs s := rfl
theorem exec_vfEnableClear (numVfs : Nat) : exec (.vfEnableClear numVfs) s = execVfEnableClear numVfs s := rfl
theorem exec_busMasterEnableChange (vi : Fin 256) (on : Bool) : exec (.busMasterEnableChange vi on) s = execBusMasterEnableChange vi on s := rfl
theorem exec_viResetComplete (vi : Fin 256) : exec (.viResetComplete vi) s = execViResetComplete vi s := rfl
theorem exec_viScrubComplete (vi : Fin 256) : exec (.viScrubComplete vi) s = execViScrubComplete vi s := rfl
theorem exec_getVersion (request : Bytes) : exec (.getVersion request) s = execGetVersion request s := rfl
theorem exec_getCapabilities (request : Bytes) : exec (.getCapabilities request) s = execGetCapabilities request s := rfl
theorem exec_negotiateAlgorithms (request : Bytes) : exec (.negotiateAlgorithms request) s = execNegotiateAlgorithms request s := rfl
theorem exec_getDigests (request : Bytes) : exec (.getDigests request) s = execGetDigests request s := rfl
theorem exec_getCertificate (request : Bytes) : exec (.getCertificate request) s = execGetCertificate request s := rfl
theorem exec_challenge (request : Bytes) : exec (.challenge request) s = execChallenge request s := rfl
theorem exec_getMeasurements (request : Bytes) : exec (.getMeasurements request) s = execGetMeasurements request s := rfl
theorem exec_keyExchange (request : Bytes) : exec (.keyExchange request) s = execKeyExchange request s := rfl
theorem exec_finish (session : Nat) (request : Bytes) : exec (.finish session request) s = execFinish session request s := rfl
theorem exec_heartbeat (session : Nat) : exec (.heartbeat session) s = execHeartbeat session s := rfl
theorem exec_keyUpdate (session : Nat) (request : Bytes) : exec (.keyUpdate session request) s = execKeyUpdate session request s := rfl
theorem exec_endSession (session : Nat) : exec (.endSession session) s = execEndSession session s := rfl
theorem exec_ideKmQuery (session : Nat) (port : Nat) : exec (.ideKmQuery session port) s = execIdeKmQuery session port s := rfl
theorem exec_keyProg (session : Nat) (stream : Fin 5) (keySet : Bool) (tx : Bool) (sub : Fin 3) (key : Bytes) : exec (.keyProg session stream keySet tx sub key) s = execKeyProg session stream keySet tx sub key s := rfl
theorem exec_kSetGo (session : Nat) (stream : Fin 5) (keySet : Bool) (tx : Bool) (sub : Fin 3) : exec (.kSetGo session stream keySet tx sub) s = execKSetGo session stream keySet tx sub s := rfl
theorem exec_kSetStop (session : Nat) (stream : Fin 5) (keySet : Bool) (tx : Bool) (sub : Fin 3) : exec (.kSetStop session stream keySet tx sub) s = execKSetStop session stream keySet tx sub s := rfl
theorem exec_getTdispVersion (session : Nat) (vi : Fin 256) : exec (.getTdispVersion session vi) s = execGetTdispVersion session vi s := rfl
theorem exec_getTdispCapabilities (session : Nat) (vi : Fin 256) : exec (.getTdispCapabilities session vi) s = execGetTdispCapabilities session vi s := rfl
theorem exec_lockInterfaceRequest (session : Nat) (vi : Fin 256) (stream : Fin 5) : exec (.lockInterfaceRequest session vi stream) s = execLockInterfaceRequest session vi stream s := rfl
theorem exec_getDeviceInterfaceReport (session : Nat) (vi : Fin 256) (off len : Nat) : exec (.getDeviceInterfaceReport session vi off len) s = execGetDeviceInterfaceReport session vi off len s := rfl
theorem exec_getDeviceInterfaceState (session : Nat) (vi : Fin 256) : exec (.getDeviceInterfaceState session vi) s = execGetDeviceInterfaceState session vi s := rfl
theorem exec_startInterfaceRequest (session : Nat) (vi : Fin 256) (nonce : Bytes) : exec (.startInterfaceRequest session vi nonce) s = execStartInterfaceRequest session vi nonce s := rfl
theorem exec_stopInterfaceRequest (session : Nat) (vi : Fin 256) : exec (.stopInterfaceRequest session vi) s = execStopInterfaceRequest session vi s := rfl
theorem exec_spanFrameReceive (frame : Bytes) : exec (.spanFrameReceive frame) s = execSpanFrameReceive frame s := rfl
theorem exec_spanHello (frame : Bytes) : exec (.spanHello frame) s = execSpanHello frame s := rfl
theorem exec_spanRetransmitTimeout : exec .spanRetransmitTimeout s = execSpanRetransmitTimeout s := by rw [exec]
theorem exec_spanIdleTimer : exec .spanIdleTimer s = execSpanIdleTimer s := by rw [exec]
theorem exec_spanLinkSilence : exec .spanLinkSilence s = execSpanLinkSilence s := by rw [exec]
theorem exec_spanLaneFailure (lane : Fin 5) : exec (.spanLaneFailure lane) s = execSpanLaneFailure lane s := rfl
theorem exec_heartbeatWordSend : exec .heartbeatWordSend s = execHeartbeatWordSend s := by rw [exec]
theorem exec_heartbeatWordReceive (word : Bytes) : exec (.heartbeatWordReceive word) s = execHeartbeatWordReceive word s := rfl
theorem exec_heartbeatSilence : exec .heartbeatSilence s = execHeartbeatSilence s := by rw [exec]
theorem exec_rejoinTimeout : exec .rejoinTimeout s = execRejoinTimeout s := by rw [exec]
theorem exec_pairFrame (frame : Bytes) : exec (.pairFrame frame) s = execPairFrame frame s := rfl
theorem exec_pairRefusal : exec .pairRefusal s = execPairRefusal s := by rw [exec]
theorem exec_mirrorMessageReceive (id : Nat) (items : List MirrorItem) : exec (.mirrorMessageReceive id items) s = execMirrorMessageReceive id items s := rfl
theorem exec_mirrorAckReceive (id : Nat) : exec (.mirrorAckReceive id) s = execMirrorAckReceive id s := rfl
theorem exec_mirrorWaitTimeout (id : Nat) : exec (.mirrorWaitTimeout id) s = execMirrorWaitTimeout id s := rfl
theorem exec_syncComplete : exec .syncComplete s = execSyncComplete s := by rw [exec]
theorem exec_otpByteBurn (readBack : Byte) (second : Byte) : exec (.otpByteBurn readBack second) s = execOtpByteBurn readBack second s := rfl
theorem exec_challengeExpiry : exec .challengeExpiry s = execChallengeExpiry s := by rw [exec]
theorem exec_restrikeHalfExpiry : exec .restrikeHalfExpiry s = execRestrikeHalfExpiry s := by rw [exec]
theorem exec_lcsDrainTimeout : exec .lcsDrainTimeout s = execLcsDrainTimeout s := by rw [exec]
theorem exec_lcsReqConfirm (value : Word) (agree : Bool) : exec (.lcsReqConfirm value agree) s = execLcsReqConfirm value agree s := rfl
theorem exec_extest : exec .extest s = execExtest s := by rw [exec]
theorem exec_idcode : exec .idcode s = execIdcode s := by rw [exec]
theorem exec_samplePreload : exec .samplePreload s = execSamplePreload s := by rw [exec]
theorem exec_vendorScan (code : Byte) (reg : Nat) (value : Option Word) : exec (.vendorScan code reg value) s = execVendorScan code reg value s := rfl
theorem exec_vendorOtpProgramming (addr : Nat) (value : Byte) : exec (.vendorOtpProgramming addr value) s = execVendorOtpProgramming addr value s := rfl
theorem exec_bypass : exec .bypass s = execBypass s := by rw [exec]
theorem exec_xhSourceEvent (source : Byte) (det : Detector) : exec (.xhSourceEvent source det) s = execXhSourceEvent source det s := rfl
theorem exec_xhSecondDecision (agree : Bool) : exec (.xhSecondDecision agree) s = execXhSecondDecision agree s := rfl
theorem exec_xhDecisionTimeout : exec .xhDecisionTimeout s = execXhDecisionTimeout s := by rw [exec]
theorem exec_xhTableCompare : exec .xhTableCompare s = execXhTableCompare s := by rw [exec]
theorem exec_meshChange (matching : BitVec 8) : exec (.meshChange matching) s = execMeshChange matching s := rfl
theorem exec_loopWord (matching : BitVec 4) : exec (.loopWord matching) s = execLoopWord matching s := rfl
theorem exec_islandMeasurement (temp : Int) (vbatMv : Nat) (clockOk : Bool) : exec (.islandMeasurement temp vbatMv clockOk) s = execIslandMeasurement temp vbatMv clockOk s := rfl
theorem exec_islandSecondDecision (agree : Bool) : exec (.islandSecondDecision agree) s = execIslandSecondDecision agree s := rfl
theorem exec_islandSelftest (failed : List Byte) : exec (.islandSelftest failed) s = execIslandSelftest failed s := rfl
theorem exec_xhResume (value : Word) : exec (.xhResume value) s = execXhResume value s := rfl
theorem exec_xhInject (value : Word) : exec (.xhInject value) s = execXhInject value s := rfl
theorem exec_xhSrcCfgWrite (source : Byte) (value : Word) : exec (.xhSrcCfgWrite source value) s = execXhSrcCfgWrite source value s := rfl
theorem exec_xhWarnClear : exec .xhWarnClear s = execXhWarnClear s := by rw [exec]
theorem exec_xhLock : exec .xhLock s = execXhLock s := by rw [exec]
theorem exec_xhiRtcSecWrite (value : Word) : exec (.xhiRtcSecWrite value) s = execXhiRtcSecWrite value s := rfl
theorem exec_xhiLoopCtlWrite (value : Word) : exec (.xhiLoopCtlWrite value) s = execXhiLoopCtlWrite value s := rfl
theorem exec_faultReport (source : BitVec 16) (cause : Byte) (spot : FaultSpot) (job : Option Nat) : exec (.faultReport source cause spot job) s = execFaultReport source cause spot job s := rfl
theorem exec_draftingSpareTakeover (pair : Fin 10) (passed : Bool) : exec (.draftingSpareTakeover pair passed) s = execDraftingSpareTakeover pair passed s := rfl
theorem exec_escalationTimeout : exec .escalationTimeout s = execEscalationTimeout s := by rw [exec]
theorem exec_fclAck (value : Word) : exec (.fclAck value) s = execFclAck value s := rfl
theorem exec_fclStickyClear (map : Fin 3) (value : Word) : exec (.fclStickyClear map value) s = execFclStickyClear map value s := rfl
theorem exec_fclInjectReport (value : Word) : exec (.fclInjectReport value) s = execFclInjectReport value s := rfl
theorem exec_fclInjectWriteCheck (value : Word) : exec (.fclInjectWriteCheck value) s = execFclInjectWriteCheck value s := rfl
theorem exec_fclInjectReadCheck (value : Word) : exec (.fclInjectReadCheck value) s = execFclInjectReadCheck value s := rfl
theorem exec_scrubSram (found : List RowError) : exec (.scrubSram found) s = execScrubSram found s := rfl
theorem exec_scrubHbm (found : List LineError) : exec (.scrubHbm found) s = execScrubHbm found s := rfl
theorem exec_healthSweep (failed : List (BitVec 16)) : exec (.healthSweep failed) s = execHealthSweep failed s := rfl
theorem exec_repairCommit (burned : Bool) : exec (.repairCommit burned) s = execRepairCommit burned s := rfl
theorem exec_caissonCompact : exec .caissonCompact s = execCaissonCompact s := by rw [exec]
theorem exec_xhSelftest (failed : List (Byte × Detector)) : exec (.xhSelftest failed) s = execXhSelftest failed s := rfl
theorem exec_archiveExport : exec .archiveExport s = execArchiveExport s := by rw [exec]
theorem exec_avsRecal (slacks : List Nat) : exec (.avsRecal slacks) s = execAvsRecal slacks s := rfl
theorem exec_avsRecalDue : exec .avsRecalDue s = execAvsRecalDue s := by rw [exec]
theorem exec_tjSample (tj : BitVec 16) : exec (.tjSample tj) s = execTjSample tj s := rfl
theorem exec_avsSample (slack : Nat) (low : List (BitVec 16)) : exec (.avsSample slack low) s = execAvsSample slack low s := rfl
theorem exec_avsAck : exec .avsAck s = execAvsAck s := by rw [exec]
theorem exec_avsRetry : exec .avsRetry s = execAvsRetry s := by rw [exec]
theorem exec_tolBudgetWrite (value : Word) : exec (.tolBudgetWrite value) s = execTolBudgetWrite value s := rfl
theorem exec_tolShareWrite (value : Word) : exec (.tolShareWrite value) s = execTolShareWrite value s := rfl
theorem exec_tolPdReqWrite (value : Word) : exec (.tolPdReqWrite value) s = execTolPdReqWrite value s := rfl
theorem exec_csnCtlWrite (value : Word) : exec (.csnCtlWrite value) s = execCsnCtlWrite value s := rfl
theorem exec_domainSwitchComplete (domain : Fin 30) : exec (.domainSwitchComplete domain) s = execDomainSwitchComplete domain s := rfl
theorem exec_rootPllLock : exec .rootPllLock s = execRootPllLock s := by rw [exec]
theorem exec_pllLockRestored : exec .pllLockRestored s = execPllLockRestored s := by rw [exec]
theorem exec_mainResetAssert (perst : Bool) : exec (.mainResetAssert perst) s = execMainResetAssert perst s := rfl
theorem exec_glbReset (value : Word) : exec (.glbReset value) s = execGlbReset value s := rfl
theorem exec_mainResetRelease (clkMode smb1 smb0 : Bool) : exec (.mainResetRelease clkMode smb1 smb0) s = execMainResetRelease clkMode smb1 smb0 s := rfl
theorem exec_romBoot (stuck : BitVec 3) : exec (.romBoot stuck) s = execRomBoot stuck s := rfl
theorem exec_firmwareVerified : exec .firmwareVerified s = execFirmwareVerified s := by rw [exec]
theorem exec_postComplete (failed : List PostTest) (units : List (BitVec 16)) (stipple : BitVec 8) (detectors : List (Byte × Detector)) (pages : List (Nat × BitVec 28)) : exec (.postComplete failed units stipple detectors pages) s = execPostComplete failed units stipple detectors pages s := rfl
theorem exec_mainPowerLoss : exec .mainPowerLoss s = execMainPowerLoss s := by rw [exec]
theorem exec_vbatApplied : exec .vbatApplied s = execVbatApplied s := by rw [exec]
theorem exec_vbatLoss : exec .vbatLoss s = execVbatLoss s := by rw [exec]
theorem exec_vddIoSwitchover (onVbat : Bool) : exec (.vddIoSwitchover onVbat) s = execVddIoSwitchover onVbat s := rfl
theorem exec_sdCardInsertion (sdsc initOk : Bool) (speed : Fin 8) (width4 : Bool) (lbas : Nat) : exec (.sdCardInsertion sdsc initOk speed width4 lbas) s = execSdCardInsertion sdsc initOk speed width4 lbas s := rfl
theorem exec_sdCardRemoval : exec .sdCardRemoval s = execSdCardRemoval s := by rw [exec]
theorem exec_sdBusyTimeout : exec .sdBusyTimeout s = execSdBusyTimeout s := by rw [exec]
theorem exec_officerCardRemoval (slot : Fin 8) : exec (.officerCardRemoval slot) s = execOfficerCardRemoval slot s := rfl
theorem exec_officerLoginExpiry (officer : Fin 8) : exec (.officerLoginExpiry officer) s = execOfficerLoginExpiry officer s := rfl
theorem exec_drainTimeout : exec .drainTimeout s = execDrainTimeout s := by rw [exec]
theorem exec_leaseWaitTimeout (job : Nat) : exec (.leaseWaitTimeout job) s = execLeaseWaitTimeout job s := rfl
theorem exec_viFreezeTimeout (vi : Fin 256) : exec (.viFreezeTimeout vi) s = execViFreezeTimeout vi s := rfl
theorem exec_ucodeLoadTimeout (job : Nat) : exec (.ucodeLoadTimeout job) s = execUcodeLoadTimeout job s := rfl
theorem exec_twinPairTimeout : exec .twinPairTimeout s = execTwinPairTimeout s := by rw [exec]
theorem exec_smbusDeviceState : exec .smbusDeviceState s = execSmbusDeviceState s := by rw [exec]
theorem exec_smbusTj : exec .smbusTj s = execSmbusTj s := by rw [exec]
theorem exec_smbusTjMax : exec .smbusTjMax s = execSmbusTjMax s := by rw [exec]
theorem exec_smbusStatusFlags : exec .smbusStatusFlags s = execSmbusStatusFlags s := by rw [exec]
theorem exec_smbusVddMv : exec .smbusVddMv s = execSmbusVddMv s := by rw [exec]
theorem exec_smbusBudget : exec .smbusBudget s = execSmbusBudget s := by rw [exec]
theorem exec_smbusIdentity : exec .smbusIdentity s = execSmbusIdentity s := by rw [exec]
theorem exec_hostReadCompletion (job : Nat) (outcome : ReadOutcome) : exec (.hostReadCompletion job outcome) s = execHostReadCompletion job outcome s := rfl
theorem exec_pcieLinkStateChange (link : PcieLink) : exec (.pcieLinkStateChange link) s = execPcieLinkStateChange link s := rfl
theorem exec_vfBarWrite (vi : Fin 256) : exec (.vfBarWrite vi) s = execVfBarWrite vi s := rfl
theorem exec_sdTransferEnd (ended : XferEnd) (data : Bytes) : exec (.sdTransferEnd ended data) s = execSdTransferEnd ended data s := rfl
theorem exec_sdResponseTimeout : exec .sdResponseTimeout s = execSdResponseTimeout s := by rw [exec]
theorem exec_t1BlockReceive (block : Bytes) : exec (.t1BlockReceive block) s = execT1BlockReceive block s := rfl
theorem exec_t1BlockTimeout : exec .t1BlockTimeout s = execT1BlockTimeout s := by rw [exec]
theorem exec_shelfBlockErase (block : Nat) : exec (.shelfBlockErase block) s = execShelfBlockErase block s := rfl
theorem exec_fwSlotBlockWrite (good : Bool) : exec (.fwSlotBlockWrite good) s = execFwSlotBlockWrite good s := rfl

end Exec

end Sys2Proof.Machine
end

