-- ==== Sys2Proof/Laws/Jobs.lean ====
section
/-! SUPPORT. A job that may start, and what running it, its computed result and its wait for random bits change (R67, R193, R278, R510). -/

namespace Sys2Proof.Machine

/-- A job that may start stands in the job table with its opcode, runs, and has its input. -/
theorem State.startable_some {s : State} {j op : Nat} {x : Job} (h : s.startable j op = some x) :
    s.job j = some x ∧ dOp x.desc = op ∧ x.stage = .running ∧ x.inputDone = true := by
  revert h
  unfold State.startable
  cases hy : s.job j with
  | none => intro h; cases h
  | some y =>
    dsimp only
    intro h
    split at h <;> split at h
    all_goals first | (cases h; rename_i hc; exact ⟨rfl, hc.2.2.1, hc.2.2.2.1, hc.2.2.2.2.1⟩) | cases h

theorem State.runJob_of {s : State} {j op : Nat} {x : Job} (f : State → Job → State × Result × List Need) (h : s.startable j op = some x) :
    s.runJob j op f = (f s x).1.finishJob j (f s x).2.1 (f s x).2.2 := by
  unfold State.runJob; rw [h]

theorem State.runEngine_of {s : State} {j op : Nat} {x : Job} (f : State → Job → State × Result) (h : s.startable j op = some x) :
    s.runEngine j op f = (f s x).1.computed j (f s x).2 := by
  unfold State.runEngine; rw [h]

theorem State.runBurin_good {s : State} {j op : Nat} {x : Job} (f : State → Job → State × Result) (h : s.startable j op = some x)
    (k : statusOk (f s x).2.status = true) : s.runBurin j op f = (f s x).1.burinComputed j (f s x).2 := by
  unfold State.runBurin; rw [h]; simp [k]

theorem State.runBurin_fails {s : State} {j op : Nat} {x : Job} (f : State → Job → State × Result) (h : s.startable j op = some x)
    (k : statusOk (f s x).2.status = false) : s.runBurin j op f = (f s x).1.finishJob j (f s x).2 [] := by
  unfold State.runBurin; rw [h]; simp [k]

theorem State.runGraver_sound {s : State} {j op : Nat} {x : Job} (f : State → Job → State × Result × List Need) (h : s.startable j op = some x) :
    s.runGraver j op true f = (f s x).1.finishJob j (f s x).2.1 (f s x).2.2 := by
  unfold State.runGraver; rw [h]; rfl

theorem State.runGraver_unsound {s : State} {j op : Nat} {x : Job} (f : State → Job → State × Result × List Need) (h : s.startable j op = some x) :
    s.runGraver j op false f = s.invariantFails j := by
  unfold State.runGraver; rw [h]; rfl

theorem State.runAction_of {s : State} {j op : Nat} {x : Job} (f : State → Job → State × Result × List Need) (h : s.startable j op = some x)
    (ha : x.abortBy = none) : s.runAction j op f = ((f s x).1.finishJob j (f s x).2.1 (f s x).2.2).settleDrains := by
  unfold State.runAction; rw [h]; dsimp only; rw [ha]; dsimp only; rw [State.runJob_of f h]

theorem State.runAction_aborted {s : State} {j op st : Nat} {x : Job} (f : State → Job → State × Result × List Need)
    (h : s.startable j op = some x) (ha : x.abortBy = some st) : s.runAction j op f = s.abandon j st := by
  unfold State.runAction; rw [h]; dsimp only; rw [ha]

/-- Leaving a Graver core moves no job. -/
@[simp] theorem State.freeCore_jobs (s : State) (j : Nat) : (s.freeCore j).jobs = s.jobs := by
  unfold State.freeCore; split
  · rfl
  · dsimp only; split <;> rfl

/-- A computed result stands in its job, and nothing but the job and its core changes. -/
theorem State.computed_job {s : State} {j : Nat} {x : Job} (r : Result) (h : s.job j = some x) : ∃ y, (s.computed j r).job j = some y ∧
    y.stage = .computed ∧ y.result = r ∧ y.desc = x.desc ∧ y.key = x.key ∧ y.vi = x.vi ∧ y.origin = x.origin := by
  unfold State.computed State.modJob State.job
  rw [State.freeCore_jobs]
  simp only [KMap.get_mod_self]
  have : KMap.get j s.jobs = some x := h
  rw [this]
  exact ⟨_, rfl, rfl, rfl, rfl, rfl, rfl, rfl⟩

/-- A result that needs no counterproof is not parked (R193). -/
theorem State.burinComputed_plain {s : State} {j : Nat} {x : Job} (r : Result) (h : s.job j = some x) (hn : needsCounterproof x.desc = false) :
    s.burinComputed j r = s.computed j r := by
  obtain ⟨y, hy, -, -, hd, -⟩ := State.computed_job r h
  unfold State.burinComputed
  dsimp only
  split
  · rename_i z p b hz hb
    rw [hy] at hz; cases hz
    rw [hd, hn]; simp
  · rfl

/-- Waiting for random bits changes the entropy source's queue and its count alone. -/
theorem State.noteWait_frame (s : State) (j op : Nat) : { s.noteWait j op with ent := s.ent, regs := s.regs } = s := by
  unfold State.noteWait
  split
  · split <;> rfl
  · rfl

end Sys2Proof.Machine
end

