-- ==== Sys2Proof/Laws/Rings.lean ====
section
/-! SUPPORT. What an interrupt message, a status bit, a ring error and a job's outputs can change (R71, R83, R85, R86, R518). -/

namespace Sys2Proof.Machine

/-- A message goes out, or its vector is left pending. -/
theorem State.sendMsix_cases (s : State) (v vec : Nat) :
    (s.dmaOk v = true ∧ (s.vi v).masked vec = false ∧ s.sendMsix v vec = s.emit (.msix v (s.via v) vec)) ∨
      (¬(s.dmaOk v = true ∧ (s.vi v).masked vec = false) ∧ s.sendMsix v vec = s.modVi v (fun x => { x with pba := insertNat vec x.pba })) := by
  unfold State.sendMsix
  by_cases h : s.dmaOk v = true ∧ (s.vi v).masked vec = false
  · exact .inl ⟨h.1, h.2, by simp [h.1, h.2]⟩
  · exact .inr ⟨h, by rw [if_neg (by simpa using h)]⟩

/-- Raising a status bit changes the VI and the outputs alone. -/
theorem State.raiseStatus_frame (s : State) (v b : Nat) : { s.raiseStatus v b with vis := s.vis, out := s.out } = s := by
  unfold State.raiseStatus State.sendMsix
  dsimp only
  split
  · split <;> rfl
  · rfl

@[simp] theorem State.raiseStatus_rings (s : State) (v b : Nat) : (s.raiseStatus v b).rings = s.rings := by
  have h := congrArg State.rings (s.raiseStatus_frame v b); exact h

theorem State.raiseStatus_ne (s : State) (v b w : Nat) (h : w ≠ v) : (s.raiseStatus v b).vi w = s.vi w := by
  have hh : ¬ v = w := fun e => h e.symm
  unfold State.raiseStatus State.sendMsix
  dsimp only
  split
  · split
    · show (s.setVi v _).vi w = _; simp [hh]
    · simp [hh]
  · simp [hh]

theorem State.raiseStatus_self (s : State) (v b : Nat) :
    ((s.raiseStatus v b).vi v).intStatus = (s.vi v).intStatus ||| BitVec.ofNat 4 (2 ^ b) ∧
      ((s.raiseStatus v b).vi v).ringErr = (s.vi v).ringErr := by
  unfold State.raiseStatus State.sendMsix
  dsimp only
  split
  · split
    · show ((s.setVi v _).vi v).intStatus = _ ∧ ((s.setVi v _).vi v).ringErr = _; simp
    · simp
  · simp

/-- The capture of a ring error (R86): RING_ERR stands after it, the first error is kept, and nothing but the VI and the outputs changes. -/
theorem State.ringError_spec (s : State) (v c k r x : Nat) (hx : x < 65536) :
    (s.ringError v c k r x).rings = s.rings ∧ ((s.ringError v c k r x).vi v).intStatus.getLsbD 0 = true ∧
      ((s.ringError v c k r x).vi v).ringErr = (if (s.vi v).intStatus.getLsbD 0 then (s.vi v).ringErr
        else BitVec.ofNat 32 (c * 2 ^ 24 + k * 2 ^ 20 + r * 2 ^ 16 + x)) ∧
      { s.ringError v c k r x with vis := s.vis, out := s.out } = s ∧ ∀ w, w ≠ v → (s.ringError v c k r x).vi w = s.vi w := by
  unfold State.ringError
  split
  · rename_i h; simp [h]
  · rename_i h
    have hs := (s.modVi v (fun y => { y with ringErr := BitVec.ofNat 32 (c * 2 ^ 24 + k * 2 ^ 20 + r * 2 ^ 16 + x % 65536) })).raiseStatus_self v 0
    refine ⟨?_, ?_, ?_, ?_, ?_⟩
    · rw [State.raiseStatus_rings]; rfl
    · dsimp only; rw [hs.1]; simp
    · dsimp only; rw [hs.2]; simp
      rw [Nat.mod_eq_of_lt hx]
    · have := (s.modVi v (fun y => { y with ringErr := BitVec.ofNat 32 (c * 2 ^ 24 + k * 2 ^ 20 + r * 2 ^ 16 + x % 65536) })).raiseStatus_frame v 0
      exact congrArg (fun t : State => { t with vis := s.vis, out := s.out }) this
    · intro w hw; rw [State.raiseStatus_ne _ _ _ _ hw]; simp [Ne.symm hw]

/-- Outputs go out in order, empty ones left out (R71). -/
theorem State.writeOutputs_eq (s : State) (v : Nat) (l : List (Nat × Bytes)) : s.writeOutputs v l =
    { s with out := s.out ++ (l.filter (fun o => !o.2.isEmpty)).map (fun o => Out.dma v (s.via v) o.1 o.2) } := by
  unfold State.writeOutputs
  induction l generalizing s with
  | nil => simp
  | cons a r ih =>
    rw [List.foldl_cons]
    by_cases h : a.2.isEmpty
    · simp only [h, if_true]; rw [ih]; simp [h]
    · simp only [h, Bool.false_eq_true, if_false]; rw [ih]
      simp only [List.filter_cons, h, Bool.not_false, if_true, List.map_cons]
      simp only [State.emit, List.append_assoc, List.singleton_append]
      rfl

end Sys2Proof.Machine
end

