-- ==== Sys2Proof/WellFormed.lean ====
section
/-! DEFINITION. Which commands the interfaces can carry: lengths, ranges and choices that the operand types do not fix. The machine gives
every command a meaning, well formed or not. -/

namespace Sys2Proof

/-- VI 0 is the PF's; the exception ring is its alone (R33). -/
def RingId.ofVi (r : RingId) (v : Fin 256) : Bool := decide (r ≠ .xq) || decide (v = 0)

/-- An access of 1 to 4 bytes inside its space (R29, R31). -/
def RegAccess.wellFormed (a : RegAccess) : Bool :=
  decide (1 ≤ a.size) && decide (a.size ≤ 4) &&
    (match a.space with
     | .bar0 => decide (a.fn = 0) && decide (a.off + a.size ≤ 0x4000000)
     | .window v => decide (a.fn = v) && decide (a.off + a.size ≤ 0x10000))

/-- Bytes of a host read that completes whole. -/
def ReadOutcome.lengthIs (o : ReadOutcome) (n : Nat) : Bool :=
  match o with
  | .data b => decide (b.length = n)
  | _ => true

/-- The command is one that its interface can carry: descriptors of 64 B, at most 8 a fetch (R51, R57); transmit entries of 32 B (R76); a
_CTL write under the row that its ENABLE chooses (R43, R45); rings and functions that exist (R33, R515); registers inside their space; records,
words, keys and nonces of their fixed lengths (R499, R568, R761); source IDs of the side that reports (R637); the codes of the vendor scan
and the addresses of OTP (R605, R627). -/
def Instr.wellFormed : Instr → Bool
  | .descriptorFetch _ _ entries readError =>
    entries.all (fun e => decide (e.length = 64)) && decide (entries.length ≤ 8) && (!entries.isEmpty || readError)
  | .transmitEntryFetch _ _ entry _ => entry.all (fun e => decide (e.length = 32))
  | .interruptTimer v r => r.ofVi v
  | .ringEnable v r w => r.ofVi v && w.getLsbD 31
  | .ringDisable v r w => r.ofVi v && !(w.getLsbD 31)
  | .rcRead a => a.wellFormed
  | .registerWrite a _ => a.wellFormed
  | .dgeOperationComplete _ o => o.lengthIs 512
  | .flrVf v => decide (v ≠ 0)
  | .vfBarWrite v => decide (v ≠ 0)
  | .vfEnableSet n => decide (1 ≤ n) && decide (n ≤ 255)
  | .vfEnableClear n => decide (n ≤ 255)
  | .keyProg _ _ _ _ _ key => decide (key.length ≤ 64)
  | .startInterfaceRequest _ _ nonce => decide (nonce.length = 32)
  | .heartbeatWordReceive w => decide (w.length = 8)
  | .vendorScan code _ _ => decide (0x10 ≤ code.toNat) && decide (code.toNat ≤ 0x7F)
  | .vendorOtpProgramming a _ => decide (a < 4096)
  | .xhSourceEvent source _ => decide (source.toNat < 0x40)
  | .sdTransferEnd _ data => decide (data.length = 0) || decide (data.length = 4096)
  | .t1BlockReceive b => decide (b.length ≤ 259)
  | .avsSample slack _ => decide (slack ≤ 1000)
  | _ => true

end Sys2Proof
end

