-- ==== Sys2Proof/Tests/Slice0.lean ====
section
/-! SUPPORT. Tests of the model: ill-formed commands that WellFormed refuses. -/

namespace Sys2Proof.Tests

open Sys2Proof

set_option Elab.async false

theorem test_wf_fetch_length : Instr.wellFormed (.descriptorFetch 0 0 [[0]] false) = false := by decide
theorem test_wf_fetch_empty : Instr.wellFormed (.descriptorFetch 0 0 [] false) = false := by decide
theorem test_wf_transmit_length : Instr.wellFormed (.transmitEntryFetch 0 0 (some [0]) .error) = false := by decide
theorem test_wf_timer_ring : Instr.wellFormed (.interruptTimer 1 .xq) = false := by decide
theorem test_wf_enable : Instr.wellFormed (.ringEnable 0 .ev 0) = false := by decide
theorem test_wf_disable : Instr.wellFormed (.ringDisable 0 .ev 0x80000000) = false := by decide
theorem test_wf_read_size : Instr.wellFormed (.rcRead { fn := 0, space := .bar0, off := 0, size := 8, tbit := false }) = false := by decide
theorem test_wf_write_space : Instr.wellFormed (.registerWrite { fn := 2, space := .window 3, off := 0, size := 4, tbit := false } 0) = false := by decide
theorem test_wf_saved_state : Instr.wellFormed (.dgeOperationComplete 0 (.data [])) = false := by decide
theorem test_wf_flr : Instr.wellFormed (.flrVf 0) = false := by decide
theorem test_wf_bar : Instr.wellFormed (.vfBarWrite 0) = false := by decide
theorem test_wf_vfs : Instr.wellFormed (.vfEnableSet 256) = false := by decide
theorem test_wf_vfs_off : Instr.wellFormed (.vfEnableClear 256) = false := by decide
theorem test_wf_ide_key : Instr.wellFormed (.keyProg 0 0 false false 0 (List.replicate 65 0)) = false := by decide
theorem test_wf_nonce : Instr.wellFormed (.startInterfaceRequest 0 0 []) = false := by decide
theorem test_wf_heartbeat : Instr.wellFormed (.heartbeatWordReceive []) = false := by decide
theorem test_wf_scan : Instr.wellFormed (.vendorScan 0x80 0 none) = false := by decide
theorem test_wf_otp : Instr.wellFormed (.vendorOtpProgramming 4096 0) = false := by decide
theorem test_wf_source : Instr.wellFormed (.xhSourceEvent 0x40 .a) = false := by decide
theorem test_wf_card : Instr.wellFormed (.sdTransferEnd .ok [0]) = false := by decide
theorem test_wf_block : Instr.wellFormed (.t1BlockReceive (List.replicate 260 0)) = false := by
  show decide ((List.replicate 260 (0 : Byte)).length ≤ 259) = false; rw [List.length_replicate]; rfl
theorem test_wf_slack : Instr.wellFormed (.avsSample 1001 []) = false := by decide

/-! ### Concrete states that the tests start from -/

open Sys2Proof.Machine

/-- A running ring of 64 entries, two of them handed over and two not yet returned. -/
def ringW : Ring := { Ring.reset with enable := true, log2Size := 6, log2Data := 16, tail := 2, writeIdx := 3, head := 1 }

/-- VI `v` running, its function a bus master. -/
def viW (v : Nat) : Vi :=
  { Vi.reset v with state := .running, bme := true, quota := { Quota.reset 0 with sessions := 64, stateful := 4, pkMib := 4, shelfKib := 64 } }

/-- A device in READY with VIs 0 and 1, every domain on, entropy and the Caisson ready, PCIe up, and the first rings of VI 0 enabled. -/
def rdy : State := { State.reset with
  glb := { Glb.reset with dev := .ready, released := true, pll := true, numVfs := 255 }
  vis := [(0, viW 0), (1, viW 1)]
  rings := [(0, ringW), (16, ringW), (32, ringW), (48, ringW), (49, ringW)]
  tol := { Tol.reset with pd := 2 ^ 30 - 1 - 2 ^ 28 - 2 ^ 29, avsOk := true, pcie := .l0 16 64 }
  lcs := { Lcs.reset with lstate := .edition, shown := .edition }
  csn := { Csn.reset with ready := true }
  ent := { Ent.reset with ready := true, drbgOk := true } }

/-- A descriptor of CLASS 0xFF and tag 7: opcode, PARAM0 to PARAM2, key, lengths, FLAGS. -/
def descW (op : Nat) (p0 : Nat := 0) (p1 : Nat := 0) (p2 : Nat := 0) (key : Nat := noKey) (lenIn : Nat := 0) (outMax : Nat := 0) (flags : Nat := 0) : Bytes :=
  leBytes 2 op ++ leBytes 1 flags ++ [0xFF, 0, 0, 0, 0] ++ leBytes 4 7 ++ leBytes 4 lenIn ++ leBytes 4 outMax ++ leBytes 4 key ++ leBytes 8 0x1000 ++
    leBytes 8 0x2000 ++ leBytes 8 p0 ++ leBytes 8 p1 ++ leBytes 4 p2 ++ zeros 4

/-- A descriptor with its check word. -/
def checked (b : Bytes) : Bytes := b.take 60 ++ leBytes 4 (crc32c (b.take 60))

/-- Fetched from ring 0 of VI 0; running in its engine with its input; with its result and ready for its decision. -/
def fetchedW (b : Bytes) : Job := newJob 0 0 .host b 0
def runW (b : Bytes) (input : Bytes := []) (key : Option KeyRec := none) : Job :=
  { fetchedW b with stage := .running, inputDone := true, input := input, key := key,
                    burinPart := if (engineOf b).burins then .running else .none, graverPart := if (engineOf b).gravers then .running else .none }
def readyW (b : Bytes) (r : Result := Result.empty) : Job := { runW b with stage := .ready, burinPart := .none, graverPart := .none, result := r }

/-- The device with one job, number 0, which the first burin, core and lane hold. -/
def holdW (x : Job) (s : State := rdy) : State := { s with
  jobs := [(0, x)], nextJob := 1
  bur := { s.bur with piers := [(0, { Pier.reset with onDuty := 0xFF, burins := [(0, { Burin.reset with state := .run, job := some 0 })] })] }
  grv := { s.grv with onDuty := 0xFFFF, cores := [(0, { Core.reset with state := .run, computing := some 0, slots := [{ job := 0, yields := 0, since := 0 }] })] }
  lne := { s.lne with onDuty := 0x7F, lanes := [(0, { Lane.reset with state := .run, work := [{ isRec := false, id := 0, vi := 0, cls := 0, cost := 1, queuedAt := 0 }] })] } }

/-- The device with one job that no engine holds. -/
def withJob (x : Job) (s : State := rdy) : State := { s with jobs := [(0, x)], nextJob := 1 }

/-- A private key at a handle of VI 0, approved, with every use, by algorithm; a public key; a value. -/
def keyW (alg : Nat) (attr : Nat := 0) (value : Bytes := []) (pub : Bytes := []) (priv : Bool := true) : KeyRec :=
  newKey alg 0 (BitVec.ofNat 32 attr) 0 value pub priv

/-- The device with one key, at handle 0x100 of VI 0. -/
def withKey (k : KeyRec) (s : State := rdy) : State := { s with csn := { s.csn with keys := [(0x100, k)] } }

/-- The job's engine runs it with its input complete. -/
abbrev runsW (x : Job) (s : State := rdy) : Prop := (holdW x s).startable 0 (dOp x.desc) = some x

/-- An established session 5 of VI 0: kind 1 DTLS, 2 ESP. -/
def sessW (kind : Nat) : Session :=
  { state := 2, kind := kind, vi := 0, port := 0, ipv6 := false, esn := false, tunnel := false, ownCid := false, outbound := false, dropPending := false,
    altValid := false, alg := 0x0901, maxPlaintext := 16384,
    rx := { epoch := 3, top := 0, window := 0, slot := { key := zeros 16, iv := zeros 12, snKey := zeros 16 }, spi := 7, cidCheck := 0, ring := 0, credit := 0, creditUsed := 0,
            ckptCount := 0, ckptDue := 0 }
    alt := { id := 0, slot := KeySlot.empty, floor := 0 }
    tx := { epoch := 3, seq := 0, leaseEnd := 1048576, slot := { key := zeros 16, iv := zeros 12, snKey := zeros 16 }, spi := 8, peerCid := [], kuWait := false, kuHost := false,
            leaseReq := false, leaseAck := false, kuTries := 0, rekeyLeft := 1000, kuJob := none, stalled := false }
    pend := KeySlot.empty
    path := { peerAddr := zeros 16, localAddr := zeros 16, peerPort := 4433, localPort := 4433, vlan := 0, peerMac := zeros 6 }
    estS := 0, hardAtS := 0, hardLeft := 2 ^ 40, rekeyReload := 1000
    counts := { rxRecords := 0, rxBytes := 0, drops := 0, tagFails := 0, txRecords := 0, txBytes := 0 }
    held := [], inbox := [], twinWait := false }
def withSess (y : Session) (s : State := rdy) : State := { s with cwy := { s.cwy with sessions := [(5, y)] } }

/-- An image without body and with signatures of zeros, for the owner's states. -/
def imageW : Bytes := leBytes 4 0x57464C4E ++ leBytes 2 1 ++ zeros 2 ++ leBytes 4 0x6440B000 ++ zeros 36 ++ stdOut .hash 0x0A02 [[0], [], []] 48 ++ zeros 160 ++ zeros 4723

/-- The device with pier 0 and job 0, which burin 0 of it computes. -/
def pierW (y : Pier) (x : Job) (s : State := rdy) : State := { withJob x s with bur := { s.bur with piers := [(0, y)] } }
def burW (b : Burin) (x : Job) : State := pierW { Pier.reset with onDuty := 0xFF, burins := [(0, { b with job := some 0 })] } x

/-- The device paired, in a state of the pair. -/
def pairW (p : PairState) (s : State := rdy) : State := { s with spn := { s.spn with pair := p } }

/-- The image is signed where the standard's signature check, uninterpreted here, passes. -/
theorem test_image_signed (s : State) (hk : s.lcs.lstate ≠ .trial)
    (h : Config.stdCheck .flashImage 0 [imageW.take 256, (imageW.drop 256).take 4627, (imageW.drop 256).drop 4627] = true) : s.imageSigned imageW = true := by
  have h1 : rd imageW 0 4 = 0x57464C4E ∧ rd imageW 4 2 = 1 ∧ rd imageW 8 4 = 0x6440B000 ∧ rd imageW 24 4 = 0 ∧ rd imageW 20 4 = 0 := ⟨rfl, rfl, rfl, rfl, rfl⟩
  have h2 : (imageW.drop 256).length = 4723 := by decide +kernel
  have h3 : slice imageW 48 48 = stdOut .hash 0x0A02 [[0], [], (imageW.take 256).drop 256] 48 := rfl
  simp only [State.imageSigned, fwBody, State.imageKey, h1, h2, ← h3, h, hk, Nat.add_zero, if_false, decide_true, Bool.and_self]

/-! ### Hypotheses of the statements that concrete states meet -/

/-- Entries from the fetch index, and from the head, to an index. -/
def aheadW (r : Ring) (i : Nat) : Nat := (i + 2 ^ r.log2Size.toNat - r.fetchIdx % 2 ^ r.log2Size.toNat) % 2 ^ r.log2Size.toNat
def backW (r : Ring) (i : Nat) : Nat := (i + 2 ^ r.log2Size.toNat - r.head % 2 ^ r.log2Size.toNat) % 2 ^ r.log2Size.toNat

theorem test_hyp_StepRunsFrontCommand :
    ({ rdy with pending := [.excLimitInterval] } : State).pending = .excLimitInterval :: [] ∧ rdy.pending = [] := by decide +kernel

theorem test_hyp_Doorbells :
    let r := ringW
    rdy.reaches 0 = true ∧ rdy.ring 0 (RingId.cmd 0).key = r ∧ rdy.ring 0 (RingId.tx 0).key = r ∧ rdy.ring 0 (RingId.rx 0).key = r ∧
      rdy.ring 0 RingId.ev.key = r ∧ rdy.ring 0 RingId.xq.key = r ∧
    -- taken: an index of 63 by the host, one that returns every entry of the device's rings
    r.enable = true ∧ 63 < 2 ^ r.log2Size.toNat ∧ aheadW r r.tail ≤ aheadW r 63 ∧ backW r 3 ≤ backW r r.writeIdx ∧
    -- refused with CAUSE 1, 2, 2 and 3
    2 ^ r.log2Size.toNat ≤ 64 ∧ aheadW r 1 < aheadW r r.tail ∧ backW r r.writeIdx < backW r 4 ∧ (rdy.ring 0 (RingId.cmd 1).key).enable = false ∧
    rdy.reaches 2 = false := by decide +kernel

theorem test_hyp_RingQuotaBoundsEnable :
    (rdy.vi 1).quota.cmdRings = 16 ∧ (rdy.vi 2).quota.rxRings = 0 ∧ (rdy.vi 1).quota.txRings = 16 ∧ (rdy.ring 1 (RingId.cmd 15).key).enable = false ∧
    (rdy.ring 2 (RingId.rx 0).key).enable = false ∧ (rdy.ring 1 (RingId.tx 15).key).enable = false := by decide +kernel

/-- A word of RING_ENABLE: ENABLE, LOG2_DATA, LOG2_SIZE, WEIGHT, vector. -/
def ctlW (data size weight vector : Nat) : Word := BitVec.ofNat 32 (2 ^ 31 + data * 2 ^ 25 + size * 2 ^ 20 + weight * 2 ^ 16 + vector)

theorem test_hyp_RingControl :
    rdy.reaches 1 = true ∧ (rdy.ring 1 (RingId.rx 0).key).enable = false ∧ (rdy.ring 1 (RingId.cmd 1).key).enable = false ∧
    (rdy.ring 1 (RingId.tx 15).key).enable = false ∧
    -- each condition passes at its bounds
    (∀ z ∈ [6, 12], 6 ≤ bits (ctlW 0 z 1 31).toNat 24 20 ∧ bits (ctlW 0 z 1 31).toNat 24 20 ≤ 12) ∧
    (∀ d ∈ [16, 28], 16 ≤ bits (ctlW d 16 0 31).toNat 29 25 ∧ bits (ctlW d 16 0 31).toNat 29 25 ≤ 28) ∧ bits (ctlW 0 6 1 31).toNat 19 16 ≠ 0 ∧
    bits (ctlW 0 6 1 31).toNat 10 0 ≤ 31 ∧ (ctlW 0 6 1 31).getLsbD 31 = true ∧ rdy.ringQuota 1 (.cmd 1) = true ∧
    -- and fails next to them, in the order of the causes 4, 5, 8, 6, 7
    (bits (ctlW 0 5 1 0).toNat 24 20 < 6 ∧ 12 < bits (ctlW 0 13 1 0).toNat 24 20) ∧ (bits (ctlW 15 6 0 0).toNat 29 25 < 16 ∧ 28 < bits (ctlW 29 6 0 0).toNat 29 25) ∧
    bits (ctlW 0 6 0 0).toNat 19 16 = 0 ∧ 31 < bits (ctlW 0 6 1 32).toNat 10 0 ∧ ({ rdy with vis := [(1, { viW 1 with quota := Quota.reset 1 })] } : State).ringQuota 1 (.cmd 0) = false ∧
    -- an enabled ring, disabled and rewritten
    (rdy.ring 0 (RingId.cmd 0).key).enable = true ∧ (0 : Word).getLsbD 31 = false := by decide +kernel

theorem test_hyp_InterruptCommands :
    let r := { ringW with modTimer := 1, unsignalled := 1 }
    let s : State := { rdy with rings := [(0, r)] }
    ((s.ring 0 (RingId.cmd 0).key).modTimer ≠ 0 ∧ (s.ring 0 (RingId.cmd 0).key).unsignalled ≠ 0) ∧ s.reaches 0 = true ∧
    -- the message goes out, or its vector is masked as after reset
    (({ s with vis := [(0, { viW 0 with msix := [(3, 0)] })] } : State).dmaOk 0 = true ∧ ({ viW 0 with msix := [(3, 0)] } : Vi).masked 0 = false) ∧
    ¬(s.dmaOk 0 = true ∧ (s.vi 0).masked (s.vi 0).intVector.toNat = false) := by decide +kernel

theorem test_hyp_DescriptorFetch :
    let good := checked (descW 0x0F00)
    rdy.fetching = true ∧ rdy.fetchable 0 0 = 2 ∧ ((rdy.fetchTurn 0 0 1).isSome = true ∧ (rdy.fetchTurn 0 0 2).isSome = true) ∧
    (good.length = 64 ∧ rdy.checkFetch 0 good = none) ∧
    ((descW 0x0F00).length = 64 ∧ (rdy.checkFetch 0 (descW 0x0F00)).isSome = true) ∧ (rdy.vi 0).intStatus.getLsbD 0 = false := by decide +kernel

/-- A state in READY whose only job waits for its dispatch. -/
def dispatchW (s : State) (x : Job) : Prop :=
  s.job 0 = some x ∧ x.stage = .fetched ∧ isAbort x.desc = false ∧ s.dmaOk x.vi = true ∧ s.inOrder 0 x = true ∧ s.fetching = true

theorem test_hyp_JobDispatch :
    let no := fetchedW (descW 0x0501 0x0901 (key := 0x100) (lenIn := 16) (outMax := 64))
    let sl := fetchedW (descW 0x0501 0x0901 (key := 0x100) (lenIn := 20) (outMax := 64))
    let k := withKey (keyW 0x0901 (2 ^ 7) (zeros 16))
    let nop := fetchedW (descW 0x0F00)
    (dispatchW (withJob no) no ∧ ((withJob no).checkDispatch 0 (withJob no).strict no.desc).isSome = true) ∧
    (dispatchW (withJob sl k) sl ∧ (withJob sl k).checkDispatch 0 (withJob sl k).strict sl.desc = none ∧ (withJob sl k).leaseCovers sl.desc = true ∧
      sl.engine = .lane ∧ dOp sl.desc ≠ 0x0302) ∧
    (dispatchW (withJob nop) nop ∧ (withJob nop).checkDispatch 0 (withJob nop).strict nop.desc = none ∧ (withJob nop).leaseCovers nop.desc = true ∧
      nop.engine = .hif ∧ dLenIn nop.desc = 0 ∧ dOp nop.desc ≠ 0x0302 ∧ dOp nop.desc ≠ 0x0501) := by
  unfold dispatchW; decide +kernel

theorem test_hyp_CommitArbiter :
    let x := readyW (descW 0x0F00)
    let old := { x with gen := 1 }
    let fail := readyW (descW 0x0F00) (failWith St.badParam 0x28)
    (∀ y ∈ [x, old, fail], (withJob y).job 0 = some y ∧ y.stage = .ready ∧ y.origin = .host ∧ (withJob y).spn.draining = [] ∧ dOp y.desc ≠ 0x0B01 ∧
      (∀ p ∈ (withJob y).jobs, p.1 ≠ 0 → p.2.targets = [] ∧ p.2.stage ≠ .waiting ∧ p.2.origin ≠ .counterproof 0)) ∧
    x.gen = ((withJob x).vi x.vi).gen ∧ old.gen ≠ ((withJob old).vi old.vi).gen ∧ statusOk fail.result.status = false ∧
    statusOk x.result.status = true := by decide +kernel

theorem test_hyp_ReplyWrite :
    let r := mkReply rdy 0 (readyW (descW 0x0F00)) 0 0 0 0 [] none
    let s : State := { rdy with replies := [r] }
    let full : State := { s with rings := [(0, { ringW with head := 4 })] }
    (s.nextReply 0 0 = some r ∧ s.replying = true ∧ s.dmaOk 0 = true ∧ (s.ring 0 0).full = false ∧ r.after = none ∧ s.spn.draining = [] ∧
      ∀ p ∈ s.jobs, p.2.stage ≠ .waiting) ∧
    (full.nextReply 0 0 = some r ∧ (full.ring 0 0).full = true) := by decide +kernel

theorem test_hyp_RegisterAccess :
    let bar (off size : Nat) : RegAccess := { fn := 0, space := .bar0, off := off, size := size, tbit := false }
    let win (v : Fin 256) (off : Nat) : RegAccess := { fn := v, space := .window v, off := off, size := 4, tbit := false }
    let locked : State := { rdy with vis := [(0, viW 0), (1, { viW 1 with tdi := .locked }), (2, { viW 2 with tdi := .error })] }
    -- the first counter of a window, and the last one of the Caisson
    (rdy.pcieUp = true ∧ ∀ a ∈ [bar 0x400040 4, bar 0x800110 4], a.size = 4 ∧ a.off % 4 = 0 ∧ a.off < 0x4000000 ∧
      (rcCounter (a.off / 0x100000) (a.off % 0x100000) = true ∨ a.off = 0x400040) ∧ rdy.winReadable (a.off / 0x100000) = true ∧
      rdy.winPowered (a.off / 0x100000) (a.off % 0x100000) = true) ∧
    ((locked.vi 1).state ≠ .detached ∧ (locked.vi 1).tdi = .locked ∧ (locked.vi 0).tdi = .unlocked ∧
      ringAt (win 1 0x31C).off = some (.rx 0) ∧ (win 1 0x31C).off % 32 = 0x1C ∧ (RingId.rx 0).kind ≠ 0 ∧ ringAt (win 0 0x73C).off = some .xq ∧ RingId.xq.kind ≠ 0) ∧
    ((bar 0 8).size ≠ 4 ∧ (bar 2 4).off % 4 ≠ 0) ∧
    (∀ o ∈ [Reg.burCtl, Reg.burStarve, Reg.burYieldHold, Reg.grvCtl, Reg.cwyCtl, Reg.cwyArb, Reg.entCtl, Reg.fclCtl, Reg.fclEscTimeout, Reg.fclScrubCtl,
      Reg.fclSweepCtl, Reg.spnCtl, Reg.cusCtl, Reg.clsCtl], (bar o 4).off % 4 = 0 ∧ (bar o 4).off < 0x4000000 ∧ rdy.glb.dev = .ready ∧
        rdy.winPowered (o / 0x100000) (o % 0x100000) = true ∧ (rwReg o).isSome = true) ∧
    ((win 1 0x100).off = 0x100 + 32 * (0 : Fin 16).val ∧ (win 1 0x2E0).off = 0x100 + 32 * (15 : Fin 16).val ∧ (win 1 0x3008).off = 0x3008 ∧
      (locked.vi 2).state ≠ .detached ∧ (locked.vi 2).tdi = .error ∧ locked.pcieUp = true) := by decide +kernel

theorem test_hyp_EngineEndsJob :
    let x := runW (descW 0x0F00)
    (holdW x).job 0 = some x ∧ x.origin = .host ∧ x.abortBy = none ∧ statusOk (failWith St.badParam 0).status = false ∧
    (statusOk (okWith 0 [1]).status = true ∧ (okWith 0 [1]).newKeys = [] ∧ (okWith 0 [1]).effects = [] ∧ x.usesOnce = false ∧ x.usesOnce2 = false) ∧
    Need.shelf ≠ .twin ∧ ({ x with abortBy := some St.aborted } : Job).abortBy = some St.aborted ∧
    (holdW { x with abortBy := some St.aborted }).job 0 = some { x with abortBy := some St.aborted } := by decide +kernel

theorem test_hyp_EffectsAtCommit :
    rd [1] 0 1 ≠ 0 ∧ rd [0] 0 1 = 0 ∧ rdy.twinLost = false ∧
    ({ rdy with vis := [(1, { viW 1 with tdi := .run })] } : State).vi 1 = { viW 1 with tdi := .run } ∧
    (viW 1).quota.handles ≠ (Quota.reset 1).handles := by decide +kernel

/-- A policy of one cipher, group and scheme for the server key at handle 0x100; an SA record of AES-256-GCM; a flow rule of policy 0. -/
def policyIn : Bytes := leBytes 4 1 ++ leBytes 4 1 ++ leBytes 4 1 ++ leBytes 4 1 ++ leBytes 4 0x100 ++ leBytes 2 256 ++ zeros 42
def saIn : Bytes := [1, 0, 0, 0] ++ leBytes 4 9 ++ leBytes 2 0x0901 ++ zeros 86
def ruleIn : Bytes := [1, 4, 1, 32] ++ zeros 22 ++ [0xFF, 0xFF] ++ zeros 36

theorem test_hyp_SessionOpcodes :
    let sign := withKey (keyW 0x0201 1)
    let tk := keyW 0x0901 (2 ^ 11) (zeros 36)
    let pol := runW (descW 0x0101 15) policyIn
    let bad := runW (descW 0x0101) (zeros 64)
    (runsW pol sign ∧ (holdW pol sign).policyDefect 0 policyIn = none) ∧ (runsW bad ∧ (holdW bad).policyDefect 0 (zeros 64) = some St.badEncoding) ∧
    (runsW (runW (descW 0x0102 (key := 0x100)) saIn (some tk)) (withKey tk) ∧
      (withKey tk).saDefect 0 saIn tk.alg = none ∧ (withKey tk).freeIndex 0 = some 0) ∧
    (runsW (runW (descW 0x0102 (key := 0x100)) (zeros 96) (some tk)) (withKey tk) ∧ (withKey tk).saDefect 0 (zeros 96) tk.alg = some 0) ∧
    -- rekeying: ESP, DTLS, none
    (let x := runW (descW 0x0103 5 9 (key := 0x100)) [] (some tk)
     let s := withSess (sessW 2) (withKey tk)
     runsW x s ∧ (holdW x s).rekeyHeld 0 = false ∧ (holdW x s).session 5 = some (sessW 2) ∧ (sessW 2).vi = x.vi ∧ (sessW 2).kind = 2 ∧ (sessW 2).state = 2 ∧
      tk.alg = (sessW 2).alg ∧ (holdW x s).spiFree 5 (sessW 2) (dP1 x.desc) = true) ∧
    (let x := runW (descW 0x0103 5)
     let s := withSess (sessW 1)
     runsW x s ∧ (holdW x s).rekeyHeld 0 = false ∧ (holdW x s).session 5 = some (sessW 1) ∧ (sessW 1).kind = 1 ∧ dKey x.desc = noKey ∧ dP1 x.desc = 0 ∧
      ((((holdW x s).startKeyUpdate 5 (some 0)).sweepRekey).session 5).isSome = true) ∧
    (let x := runW (descW 0x0103 5)
     let s := withSess { sessW 1 with vi := 1 }
     runsW x s ∧ (holdW x s).rekeyHeld 0 = false ∧ (holdW x s).session 5 = some { sessW 1 with vi := 1 } ∧ ({ sessW 1 with vi := 1 } : Session).vi ≠ x.vi ∧
      (holdW x).session 5 = none) ∧
    (runsW (runW (descW 0x0104 5)) (withSess (sessW 1)) ∧ (dP0 (runW (descW 0x0104 5)).desc).testBit 32 = false ∧ (sessW 2).kind ≠ 1) ∧ runsW (runW (descW 0x0104 5)) ∧
    runsW (runW (descW 0x0105 5)) (withSess (sessW 2)) ∧ runsW (runW (descW 0x0105 5)) ∧
    (let s : State := { rdy with vis := [(0, { viW 0 with policies := [(0, policyIn)] })] }
     runsW (runW (descW 0x0106 0xFFF) ruleIn) s ∧ s.badRule ruleIn = false ∧ runsW (runW (descW 0x0106) [2]) ∧ rdy.badRule [2] = true) := by decide +kernel

/-- A check of a standard, uninterpreted here (assumption log 1), passes or gives a defect: one of two hypotheses holds. -/
theorem test_defect_or_none (d : Option Nat) : d = none ∨ ∃ st, d = some st := by cases d <;> simp

theorem test_hyp_KemOpcodes :
    let mk := keyW 0x0101 (2 ^ 2 + 2 ^ 3) (zeros 64) (zeros 800)
    let hy := keyW 0x0801 (2 ^ 2 + 2 ^ 3) (zeros 96) (zeros 1216)
    let full : State := { rdy with bur := { Bur.reset with piers := [(0, { Pier.reset with
      matrix := (List.range 48).map (fun i => { handle := 0x200 + i, kgen := 1, pinned := true, filled := true, used := 0 }) })] } }
    let pin := runW (descW 0x0204 (2 ^ 8 + 1) (key := 0x100)) [] (some mk)
    let off := runW (descW 0x0204 (2 ^ 8) (key := 0x100)) [] (some mk)
    let no (s : State) (x : Job) := (onesOf 8 (bits (dP0 x.desc) 15 8)).filter (fun p => !(s.mayPin (dKey x.desc) p))
    let inl (pk : Bytes) := runW (descW 0x0202 0x0101) pk
    runsW (runW (descW 0x0201 0x0103)) ∧ (runW (descW 0x0201 0x0103)).engine = .burin ∧ dOnce (descW 0x0201 0x0103) = false ∧ Alg.isMce 0x0605 = true ∧
    runsW (runW (descW 0x0201 0x0605)) ∧ runsW (runW (descW 0x0201 0x0803)) ∧ (runW (descW 0x0201 0x0803)).engine = .both ∧
    (runsW (runW (descW 0x0201 0x0711)) ∧ (runW (descW 0x0201 0x0711)).engine = .graver ∧ Alg.isMce 0x0711 = false) ∧
    (runsW (runW (descW 0x0202 0x0101 (key := 0x100)) [] (some mk)) (withKey mk) ∧ Alg.isHybrid 0x0101 = false ∧ dKey (descW 0x0202 0x0101 (key := 0x100)) ≠ noKey) ∧
    (runsW (inl (zeros 800)) ∧ dKey (inl (zeros 800)).desc = noKey ∧ encapsDefect 0x0101 (inl (zeros 800)).encapsKey = none) ∧
    (runsW (inl (List.replicate 800 255)) ∧ encapsDefect 0x0101 (inl (List.replicate 800 255)).encapsKey = some St.inputInvalid ∧ statusOk St.inputInvalid = false) ∧
    (runsW (runW (descW 0x0202 0x0801 (key := 0x100)) [] (some hy)) (withKey hy) ∧ Alg.isHybrid 0x0801 = true) ∧
    (runsW (runW (descW 0x0203 0x0101 (key := 0x100)) (zeros 768) (some mk)) (withKey mk)) ∧
    (runsW (runW (descW 0x0203 0x0801 (key := 0x100)) (zeros 1120) (some hy)) (withKey hy)) ∧
    (runsW pin (withKey mk) ∧ (dP0 pin.desc).testBit 0 = true ∧ no (holdW pin (withKey mk)) pin = []) ∧ (runsW off (withKey mk) ∧ (dP0 off.desc).testBit 0 = false) ∧
    (pin.engine = .caisson ∧ ({ withKey mk full with jobs := [(0, pin)] } : State).startable 0 0x0204 = some pin ∧ no full pin ≠ []) ∧
    (let k := keyW 0x0701 (2 ^ 4) (zeros 32)
     runsW (runW (descW 0x0205 0x0701 (key := 0x100)) (zeros 32) (some k)) (withKey k) ∧
     runsW (runW (descW 0x0205 0x0701 (key := 0x100)) (List.replicate 32 255) (some k)) (withKey k) ∧
     kexDefect 0x0701 (zeros 32) (List.replicate 32 255) = some St.inputInvalid ∧ (peerDefect 0x0701 (List.replicate 32 255)).isSome = true) := by decide +kernel

theorem test_hyp_KemOpcodes_checked (a : Nat) (v peer : Bytes) (e : Bytes) :
    (kexDefect a v peer = none ∨ ∃ st, kexDefect a v peer = some st) ∧ (secretDefect a e peer = none ∨ secretDefect a e peer = some St.inputInvalid) := by
  refine ⟨test_defect_or_none _, ?_⟩
  unfold secretDefect; split <;> split <;> simp

theorem test_hyp_SignatureOpcodes :
    let ed := keyW 0x0721 1 (zeros 32) (zeros 32)
    let ml := keyW 0x0203 1 (zeros 32) (zeros 2592)
    let lms : KeyRec := { keyW 0x0401 1 (zeros 64) (zeros 60) with stateful := some (newStateful 0x10405 32) }
    let sgn (op alg : Nat) (k : KeyRec) := runW (descW op alg (key := 0x100)) [] (some k)
    runsW (runW (descW 0x0301 0x0721)) ∧ (runW (descW 0x0301 0x0721)).engine = .graver ∧
    runsW (runW (descW 0x0301 0x0203)) ∧ (runW (descW 0x0301 0x0203)).engine = .burin ∧
    (∀ op ∈ [0x0302, 0x0304], runsW (sgn op 0x0711 (keyW 0x0711 1)) (withKey (keyW 0x0711 1)) ∧ (sgn op 0x0711 (keyW 0x0711 1)).engine = .graver ∧
      (holdW (sgn op 0x0711 (keyW 0x0711 1)) (withKey (keyW 0x0711 1))).leaseOf 0x100 = none ∧
      runsW (sgn op 0x0203 ml) (withKey ml) ∧ (sgn op 0x0203 ml).engine = .burin ∧ (holdW (sgn op 0x0203 ml) (withKey ml)).leaseOf 0x100 = none ∧
      Alg.isMlDsa (dAlg (sgn op 0x0203 ml).desc) = true) ∧
    (runsW (sgn 0x0302 0x0401 lms) (withKey lms) ∧ (sgn 0x0302 0x0401 lms).engine = .burin ∧
      (holdW (sgn 0x0302 0x0401 lms) (withKey lms)).leaseOf 0x100 = some (newStateful 0x10405 32)) ∧
    (runsW (runW (descW 0x0303 0x0721 (key := 0x100)) (zeros 64) (some ed)) (withKey ed) ∧ dKey (descW 0x0303 0x0721 (key := 0x100)) ≠ noKey ∧
      (runW (descW 0x0303 0x0721)).engine = .graver) ∧
    (let x := runW (descW 0x0303 0x0711) (zeros 129)
     runsW x ∧ dKey x.desc = noKey ∧ publicDefect 0x0711 0 (verifyParts x.desc x.input none).1 = some St.notOnCurve ∧ statusOk St.notOnCurve = false) ∧
    (runsW (runW (descW 0x0305 (key := 0x100)) [] (some lms)) (withKey lms) ∧ (withKey lms).leaseOf 0x100 = some (newStateful 0x10405 32)) := by decide +kernel

theorem test_hyp_HashMacKdf :
    let k := keyW 0x0A01 (2 ^ 5 + 2 ^ 6) (zeros 32)
    let st := streamKey 0x0A01 [1]
    let h (mode : Nat) := runW (descW 0x0401 (0x0A01 + mode * 2 ^ 16) (key := if mode < 2 then noKey else 0x100)) (zeros 4)
    let m (verify : Nat) := runW (descW 0x0402 (0x0A01 + verify * 2 ^ 16) 16 (key := 0x100)) (zeros 20) (some k)
    let spec (n : Nat) (attr : Nat) : Bytes := leBytes 4 n ++ leBytes 4 attr
    let kdf (i : Bytes) := runW (descW 0x0403 (0x0A01 + 2 * 2 ^ 16) noKey 1 (key := 0x100)) i (some k)
    let bad (x : Job) := ((List.range (dP2 x.desc)).map (kdfSpec x.input)).any (specBad x.desc x.key (x.input.drop (8 * dP2 x.desc)))
    let owned (x : Job) := ((List.range (dP2 x.desc)).map (kdfSpec x.input)).any (fun p => (Alg.aOwner p.2 && (decide (x.vi ≠ 0) || !(x.quorum.testBit 13))) || Alg.aAnchor p.2)
    (rdy.unitLeft = true ∧ runsW (h 0) ∧ bits (dP0 (h 0).desc) 17 16 = 0 ∧ runsW (h 1) ∧ bits (dP0 (h 1).desc) 17 16 = 1 ∧
      runsW (h 2) (withKey st) ∧ bits (dP0 (h 2).desc) 17 16 = 2 ∧ KMap.get (dKey (h 2).desc) (withKey st).csn.keys = some st ∧
      runsW (h 3) (withKey st) ∧ bits (dP0 (h 3).desc) 17 16 = 3) ∧
    (runsW (m 0) (withKey k) ∧ (dP0 (m 0).desc).testBit 16 = false ∧ runsW (m 1) (withKey k) ∧ (dP0 (m 1).desc).testBit 16 = true) ∧
    ({ rdy with dge := { Dge.reset with retired := 15 } } : State).unitLeft = false ∧
    (∀ n ∈ [16, 64], runsW (kdf (spec n (2 ^ 16 + 2 ^ 6))) (withKey k) ∧ bad (kdf (spec n (2 ^ 16 + 2 ^ 6))) = false ∧ owned (kdf (spec n (2 ^ 16 + 2 ^ 6))) = false) ∧
    (∀ n ∈ [15, 65], runsW (kdf (spec n (2 ^ 16 + 2 ^ 6))) (withKey k) ∧ bad (kdf (spec n (2 ^ 16 + 2 ^ 6))) = true) ∧
    (runsW (kdf (spec 16 (2 ^ 25 + 2 ^ 16 + 2 ^ 6))) (withKey k) ∧ bad (kdf (spec 16 (2 ^ 25 + 2 ^ 16 + 2 ^ 6))) = false ∧
      owned (kdf (spec 16 (2 ^ 25 + 2 ^ 16 + 2 ^ 6))) = true) := by decide +kernel

/-- Jobs in their lane with an AEAD key, and a traffic key, at handle 0x100. -/
def aeadW : KeyRec := keyW 0x0901 (2 ^ 7 + 2 ^ 8) (zeros 16)
def trafficW : KeyRec := keyW 0x0901 (2 ^ 11) (zeros 16)
def laneJob (op : Nat) (p0 p1 : Nat) (i : Bytes) (k : KeyRec) : Job := runW (descW op p0 p1 (key := 0x100)) i (some k)

/-- The tag check of a standard answers one of the two verdicts, each with its clause. -/
theorem test_hyp_AeadOpenChecksTag :
    runsW (laneJob 0x0502 0x0901 0 (zeros 28) aeadW) (withKey aeadW) ∧
    ∀ a k n aad body, tagOk a k n 0 aad body = true ∨ tagOk a k n 0 aad body = false :=
  ⟨by decide +kernel, fun a k n aad body => by cases tagOk a k n 0 aad body <;> simp⟩

theorem test_hyp_LaneJobs :
    let s := withKey trafficW
    let ok : Bytes := [23, 3, 3, 0, 17] ++ zeros 17
    (∀ own ∈ [0, 2 ^ 16], runsW (laneJob 0x0501 (0x0901 + own) 0 (zeros 12) aeadW) (withKey aeadW)) ∧
    (∀ p ∈ [1, 2], runsW (laneJob 0x0503 p 0 (zeros 8) trafficW) s ∧ bits (dP0 (laneJob 0x0503 p 0 (zeros 8) trafficW).desc) 7 0 = p) ∧
    (runsW (laneJob 0x0504 1 0 ok trafficW) s ∧ ok.take 3 = [23, 3, 3] ∧ 17 ≤ (ok.drop 5).length ∧ rdBe ok 3 2 = (ok.drop 5).length) ∧
    (runsW (laneJob 0x0504 1 0 (ok.take 21) trafficW) s ∧ ((ok.take 21).drop 5).length < 17) ∧
    (runsW (laneJob 0x0504 2 0 (zeros 8) trafficW) s ∧ rd (zeros 8) 0 1 / 32 ≠ 1) ∧
    (let x := runW (descW 0x0505) []
     runsW x ∧ (holdW x).batchCovered 0 = true ∧ (holdW x).unitLeft = true) ∧
    (let k := { keyW 0x0901 (2 ^ 30 + 2 ^ 7) (zeros 16) with counter := 5, counterLease := 5 }
     let x := runW (descW 0x0505) (descW 0x0501 (0x0901 + 2 ^ 16) (key := 0x100))
     runsW x (withKey k) ∧ (holdW x (withKey k)).batchCovered 0 = false) := by decide +kernel

/-- The device with context 1 of the DGE in a given state. -/
def dgeW (x : DgeCtx) : State := { rdy with dge := { Dge.reset with ctxs := [(1, x)] } }
def ctxW (st : DgeStage) : DgeCtx := { DgeCtx.reset with owner := some 0, stage := st, alg := 0x0A01, runAlg := 0x0A01 }

theorem test_hyp_DgeClaims :
    (rdy.dgeLive 0 = true ∧ rdy.dgeLive 1 = true ∧ (rdy.dgeCtx 1).owner = none ∧ rdy.dgeHeld 0 < (rdy.vi 0).quota.dgeCtx) ∧
    (let s : State := { rdy with vis := [(0, { viW 0 with quota := { (viW 0).quota with dgeCtx := 0 } })] }
     s.dgeLive 0 = true ∧ (s.dgeCtx 1).owner = none ∧ (s.vi 0).quota.dgeCtx ≤ s.dgeHeld 0) ∧
    ((dgeW (ctxW .idle)).dgeCtx 1 = ctxW .idle ∧ (ctxW .idle).owner = some 0 ∧ (0 : Nat) ≠ 1) ∧
    ((dgeW (ctxW .absorb)).dgeNow 1 = ctxW .absorb ∧ (ctxW .absorb).releasing = false) ∧
    (((dgeW { ctxW .idle with releasing := true }).dgeNow 1).releasing = true ∧ ((dgeW { ctxW .idle with releasing := true }).dgeCtx 1).owner = some 0) ∧
    ((1 : Word).getLsbD 0 = true ∧ (1 : Word).getLsbD 7 = false) := by decide +kernel

theorem test_hyp_DgeCommands :
    let ok (x : DgeCtx) : Prop := (dgeW x).dgeLive 0 = true ∧ (dgeW x).dgeNow 1 = x ∧ x.owner = some 0 ∧ x.releasing = false
    let busy : DgeCtx := { ctxW .absorb with buf := List.replicate 64 0, op := .block 100 }
    let done : DgeCtx := { ctxW .done with runAlg := 0x0A07, stream := zeros 65 }
    ok (ctxW .idle) ∧ (ctxW .idle).setupOk = true ∧ (ctxW .idle).key = noKey ∧ (ok { ctxW .idle with alg := 0 } ∧ ({ ctxW .idle with alg := 0 } : DgeCtx).setupOk = false) ∧
    ok (ctxW .done) ∧ (ctxW .done).setupOk = true ∧ (ctxW .done).op = .none ∧
    ok (ctxW .absorb) ∧ (ctxW .absorb).closed = false ∧ (ctxW .absorb).buf.length < 64 ∧ (ctxW .absorb).buf = [] ∧
    (ok busy ∧ busy.closed = false ∧ 64 ≤ busy.buf.length) ∧
    (ok done ∧ xof done.runAlg = true ∧ done.pos + 64 < done.stream.length ∧ ok { done with stream := zeros 64 } ∧ (zeros 64).length ≤ 0 + 64) ∧
    (let f : DgeCtx := { ctxW .absorb with op := .final, closed := true, total := 4, words := 1 }
     ok f ∧ ((dgeW f).dgeCtx 1).releasing = false ∧ f.lost = false ∧ f.words = (f.total + 3) / 4 + f.custWords ∧ f.runSoft = false ∧
      ok { f with words := 2 } ∧ (2 : Nat) ≠ (4 + 3) / 4 + f.custWords) := by decide +kernel

/-- The change of the attribute word `k` to `a` only narrows. -/
def onlyW (k a : BitVec 32) : Bool := decide ((∀ i : Nat, i < 16 → a.getLsbD i = true → k.getLsbD i = true) ∧ Alg.aExport a ≤ Alg.aExport k ∧
  (a.getLsbD 31 = true → k.getLsbD 31 = true) ∧ (∀ i : Nat, i < 31 → (16 ≤ i → (i < 28 ∨ i = 30) → a.getLsbD i = k.getLsbD i)))

theorem test_hyp_KeyAttrNarrows :
    let k := keyW 0x0901 (2 ^ 31 + 2 ^ 7 + 2 ^ 8) (zeros 16)
    let x (write attr : Nat) := runW (descW 0x0607 write attr (key := 0x100)) [] (some k)
    KMap.get 0x100 (withKey k).csn.keys = some k ∧
    (∀ a ∈ [2 ^ 31 + 2 ^ 7 + 2 ^ 8, 2 ^ 7, 0], runsW (x 1 a) (withKey k) ∧ (dP0 (x 1 a).desc).testBit 0 = true ∧ onlyW k.attr (dAttr (x 1 a).desc) = true) ∧
    (∀ a ∈ [2 ^ 31 + 2 ^ 9, 2 ^ 28 + 2 ^ 7, 2 ^ 30], runsW (x 1 a) (withKey k) ∧ onlyW k.attr (dAttr (x 1 a).desc) = false) ∧
    (runsW (x 0 0) (withKey k) ∧ (dP0 (x 0 0).desc).testBit 0 = false) := by decide +kernel

/-- A record that wraps a 32-byte MAC key under `wk`. -/
def wrappedW (wk : Bytes) : Bytes := wrapKw wk 1 0x0A01 (BitVec.ofNat 32 (2 ^ 6)) 1 (zeros 16) (zeros 32)

/-- It unwraps where the standard's integrity check, uninterpreted here, passes. -/
theorem test_unwrap_some (h : Config.stdCheck .unwrap 0 [zeros 32, (wrappedW (zeros 32)).take 48, (wrappedW (zeros 32)).drop 48] = true) :
    unwrap 1 1 (zeros 32) (wrappedW (zeros 32)) = some ⟨0x0A01, BitVec.ofNat 32 (2 ^ 6), 1,
      stdOut .keyUnwrap 0 [zeros 32, (wrappedW (zeros 32)).take 48, (wrappedW (zeros 32)).drop 48] 32⟩ := by
  unfold unwrap
  have h1 : slice ((wrappedW (zeros 32)).take 48) 32 8 = kcvOf (zeros 32) := rfl
  have h2 : rd ((wrappedW (zeros 32)).take 48) 6 2 = 0x0A01 := rfl
  have h3 : rd ((wrappedW (zeros 32)).take 48) 8 4 = 2 ^ 6 := rfl
  have h4 : rd ((wrappedW (zeros 32)).take 48) 40 4 = 32 := rfl
  have h5 : rd ((wrappedW (zeros 32)).take 48) 0 4 = 0x52574B53 ∧ rd ((wrappedW (zeros 32)).take 48) 4 1 = 1 ∧ rd ((wrappedW (zeros 32)).take 48) 5 1 = 1 ∧
      rd ((wrappedW (zeros 32)).take 48) 12 4 = 1 := ⟨rfl, rfl, rfl, rfl⟩
  simp only [h1, h2, h3, h4, h5, h, (by decide : ¬(1 : Nat) = 2), if_false]
  exact if_pos (by decide +kernel)

theorem test_hyp_KeyOpcodes :
    let wr := keyW 0x0904 (2 ^ 9 + 2 ^ 10) (zeros 32)
    let owner := keyW 0x0904 (2 ^ 25 + 2 ^ 9) (zeros 32)
    let k3 := keyW 0x0901 (3 * 2 ^ 28 + 2 ^ 7) (zeros 16)
    let staged : KeyRec := { keyW 0x0A01 (2 ^ 6) (zeros 32) with staged := some { stateful := none, value := zeros 32, pub := [], kgen := 2, attr := BitVec.ofNat 32 (2 ^ 6) } }
    let imp (f : Nat) (a attr : Nat) (i : Bytes) := runW (descW 0x0602 (a + f * 2 ^ 16) attr (key := 0x100)) i (some wr)
    let exp (f : Nat) (w : Option KeyRec) : Job := { runW (descW 0x0603 (f * 2 ^ 16) 0x101 (key := 0x100)) [] (some k3) with key2 := w }
    runsW (runW (descW 0x0601 0x0A01 (2 ^ 6) 32)) ∧ runsW (runW (descW 0x0601 0x0901 (2 ^ 7))) ∧
    runsW (runW (descW 0x0608 0 (2 ^ 16 + 2 ^ 6) 32 (key := 0x100)) [0] (some (keyW 0x0A01 (2 ^ 5) (zeros 32)))) (withKey (keyW 0x0A01 (2 ^ 5) (zeros 32))) ∧
    (runsW (imp 1 0x0A01 0 (zeros 144)) (withKey wr) ∧ bits (dP0 (imp 1 0x0A01 0 []).desc) 23 16 ≠ 3 ∧ unwrap 1 1 (imp 1 0x0A01 0 []).keyValue (zeros 144) = none) ∧
    ((imp 1 0x0A01 (2 ^ 6) []).keyValue = zeros 32 ∧ wider (dAttr (imp 1 0x0A01 (2 ^ 6) []).desc) (BitVec.ofNat 32 (2 ^ 6)) = false ∧
      wider (dAttr (imp 1 0x0A01 (2 ^ 7) []).desc) (BitVec.ofNat 32 (2 ^ 6)) = true ∧ dAlg (imp 1 0x0A02 (2 ^ 6) []).desc ≠ 0x0A01) ∧
    (let x := imp 3 0x0101 (2 ^ 3) (zeros 800)
     runsW x (withKey wr) ∧ bits (dP0 x.desc) 23 16 = 3 ∧ badRsaLen x = false ∧ isMigImport x.desc = false ∧ isAnchorImport x.desc = false ∧
      publicDefect 0x0101 0 x.input = none ∧ runsW { x with input := List.replicate 800 255 } (withKey wr) ∧
      publicDefect 0x0101 0 (List.replicate 800 255) = some St.inputInvalid) ∧
    (runsW (exp 3 none) (withKey k3) ∧ exportOk k3 3 0x101 none = true ∧ runsW (exp 1 (some owner)) (withKey k3) ∧ exportOk k3 1 0x101 (some owner) = true ∧
      runsW (exp 1 (some wr)) (withKey k3) ∧ exportOk k3 1 0x101 (some wr) = false) ∧
    (runsW (runW (descW 0x0604 0 (key := 0x100)) [] (some staged)) (withKey staged) ∧ bits (dP0 (descW 0x0604 0 (key := 0x100))) 23 16 = 0 ∧
      KMap.get 0x100 (withKey staged).csn.keys = some staged) ∧
    (∀ n ∈ [2, 3], runsW (runW (descW 0x0605 n (key := 0x100)) [] (some staged)) (withKey staged) ∧ bits (dP0 (descW 0x0605 n (key := 0x100))) 31 0 = n ∧
      staged.staged.map (·.kgen) = some 2) ∧
    (∀ only ∈ [0, 1], runsW (runW (descW 0x0606 only (key := 0x100)) [] (some staged)) (withKey staged)) := by decide +kernel

/-- The record of `test_unwrap_some` as the input of a job that the Caisson runs. -/
theorem test_hyp_KeyOpcodes_import :
    let wr := keyW 0x0904 (2 ^ 9 + 2 ^ 10) (zeros 32)
    let x (attr : Nat) := runW (descW 0x0602 (0x0A01 + 2 ^ 16) attr (key := 0x100)) (wrappedW (zeros 32)) (some wr)
    (holdW (x (2 ^ 6)) (withKey wr)).startable 0 0x0602 = some (x (2 ^ 6)) ∧ (holdW (x (2 ^ 7)) (withKey wr)).startable 0 0x0602 = some (x (2 ^ 7)) := ⟨rfl, rfl⟩

theorem test_hyp_CaissonEvents :
    let w : Job := { readyW (descW 0x0601 0x0A01 (2 ^ 30 + 2 ^ 6) 32) with stage := .waiting, needs := [.shelf] }
    let z : Job := { readyW (descW 0x0606 (key := 0x100)) with stage := .waiting, needs := [.zeroise] }
    let k := keyW 0x0711 1 (zeros 32)
    let away : KeyRec := { k with resident := false }
    let raw : KeyRec := { k with derived := false }
    let lease (n : Nat) : KeyRec := { keyW 0x0901 (2 ^ 30 + 2 ^ 7) (zeros 16) with counterLease := 16384 + n, counter := n }
    let r : ShelfRec := { rtype := 1, epoch := rdy.shelfEpoch, version := 1, handle := 0x100, kgen := 1, key := none, body := [], pub := 0, block := 3 }
    ((withJob w).job 0 = some w ∧ w.stage = .waiting ∧ w.needs.head? = some .shelf) ∧
    ((rdy.job 0).any (fun x => decide (x.stage = .waiting ∧ x.needs.head? = some Need.shelf)) = false ∧
      r ∈ ({ rdy with csn := { rdy.csn with shelf := [r] } } : State).csn.shelf ∧ r.block = 3 ∧ r.pub ≠ 9 ∧ r.epoch = rdy.shelfEpoch) ∧
    (withJob z).jobs.find? (fun p => decide (dOp p.2.desc = 0x0606) && decide (dKey p.2.desc = (0x100 : Word).toNat) && decide (p.2.needs.head? = some .zeroise)) = some (0, z) ∧
    (rdy.serving = true ∧ rdy.clocked = true ∧ KMap.get (0x100 : Word).toNat (withKey away).csn.keys = some away ∧ away.resident = false) ∧
    (KMap.get 0x100 (withKey raw).csn.keys = some raw ∧ raw.resident = true ∧ raw.derived = false ∧ k.derived = true) ∧
    (∀ n ∈ [0, 5], (withKey (lease n)).mirrors (lease n).attr = false ∧ Alg.aPersistent (lease n).attr = true ∧ (lease n).counterLease ≤ (lease n).leasedCount + 16384 ∧
      (withKey (lease n)).spn.waits = []) ∧
    ((({ rdy with bur := { Bur.reset with piers := [(7, { Pier.reset with damaged := true })] } } : State).pier 7).damaged = true) := by decide +kernel

/-- A slot of which `n` blocks are left to write. -/
def stageW (n : Nat) : State :=
  { withJob { readyW (descW 0x0F04) with stage := .waiting } with flash := { Flash.reset with staging := some (0, true, [1], n, false) } }

theorem test_hyp_HostOpcodes :
    let ab (tag : Nat) := fetchedW (descW 0x0F02 (tag * 2 ^ 32))
    let two (tag : Nat) : State := { rdy with jobs := [(0, ab tag), (1, fetchedW (descW 0x0F00))], nextJob := 2 }
    (∀ op ∈ [0x0F00, 0x0F01, 0x0F03], runsW (runW (descW op))) ∧
    (∀ t ∈ [7, 8], (two t).job 0 = some (ab t) ∧ isAbort (ab t).desc = true ∧ (ab t).stage = .fetched ∧ (two t).fetching = true ∧
      (two t).checkDispatch 0 (two t).strict (ab t).desc = none) ∧ (two 7).abortTargets 0 (ab 7) = [1] ∧ (two 8).abortTargets 0 (ab 8) = [] := by decide +kernel

theorem test_hyp_HostOpcodes_refused :
    (let x := fetchedW (descW 0x0F02 (key := 0x100))
     (withJob x).job 0 = some x ∧ ((withJob x).checkDispatch 0 (withJob x).strict x.desc).isSome = true) ∧
    (runsW (runW (descW 0x0F04) [0]) ∧ (runW (descW 0x0F04) [0]).abortBy = none ∧ rdy.stageDefect [0] = some (St.inputInvalid, 1)) ∧
    (∀ n ∈ [1, 2], (stageW n).flash.staging.map (fun x => (x.1, x.2.2.2.1)) = some (0, n) ∧ ((stageW n).job 0).map (·.stage) = some .waiting) := by decide +kernel

theorem test_hyp_HostOpcodes_stage
    (h : Config.stdCheck .flashImage 0 [imageW.take 256, (imageW.drop 256).take 4627, (imageW.drop 256).drop 4627] = true) :
    (holdW (runW (descW 0x0F04) imageW)).stageDefect imageW = none ∧
    (holdW (runW (descW 0x0F04) imageW)).startable 0 0x0F04 = some (runW (descW 0x0F04) imageW) := by
  have hs := test_image_signed (holdW (runW (descW 0x0F04) imageW)) (by decide +kernel) h
  have hc : (holdW (runW (descW 0x0F04) imageW)).conflictWith 8 = none := by decide +kernel
  refine ⟨?_, rfl⟩
  simp only [State.stageDefect, hs, hc]
  decide +kernel

theorem test_hyp_Impressions :
    let k := keyW 0x0711 1 (zeros 32) (zeros 65)
    (∀ op ∈ [0x0701, 0x0702], runsW (runW (descW op (key := if op = 0x0701 then noKey else 0x100)) (zeros 32) (if op = 0x0701 then none else some k)) (withKey k) ∧
      (runW (descW op)).graverPart ≠ .finished) ∧
    (runsW (runW (descW 0x0703)) ∧ rdy.chainOwn = false) := by decide +kernel

/-- A chain whose leaf carries the identity keys, where the standard's check, uninterpreted here, answers so. -/
theorem test_hyp_Impressions_chain (b : Bool) (h : checkStd .certChain 0 1 [[1], [], []] = b) :
    ({ rdy with csn := { rdy.csn with chain := some [1], keys := [(1, keyW 0x0203), (2, keyW 0x0712)] } } : State).chainOwn = b := h

/-- An export that reads its first unit. -/
def exportW : CardOp :=
  { use := .export_, todo := [.read 0], tries := 0, got := [], commit := none, moved := [], key := [], adopt := false, slots := [], shares := [], total := 1 }

theorem test_hyp_MaintenanceOpcodes :
    let act (a : Nat) (x : Activity) : State := { rdy with fcl := { rdy.fcl with acts := [(a, x)] } }
    let on : Activity := { Activity.reset with mstate := 1, started := true, run := 1 }
    let card := { act 7 on with cus := { rdy.cus with op := some exportW } }
    let x (op p0 : Nat) := runW (descW op p0)
    (runsW (x 0x0801 1) ∧ (x 0x0801 1).abortBy = none ∧ rdy.startDefect 1 0 = none ∧ runsW (x 0x0801 9) ∧ rdy.startDefect 9 0 = none) ∧
    (runsW (x 0x0801 4) (act 1 on) ∧ (act 1 on).startDefect 4 0 = some (St.maintConflict, 1)) ∧
    (∀ a ∈ [0, 1, 9], runsW (x 0x0802 a) ∧ bits (dP0 (x 0x0802 a).desc) 7 0 = a) ∧
    (runsW (x 0x0803 1) ∧ (rdy.act 1).mstate ≠ 1 ∧ (rdy.act 1).mstate ≠ 2) ∧ (runsW (x 0x0803 1) (act 1 on) ∧ ((act 1 on).act 1).mstate = 1) ∧
    (runsW (x 0x0803 7) card ∧ (card.act 7).mstate = 1 ∧ card.cardOp.isSome = true) ∧ runsW (x 0x0804 0) ∧
    (runsW (x 0x0805 0x17) ∧ rdy.glb.dev ≠ .falsework ∧ (bits (dP0 (x 0x0805 0x17).desc) 4 0).testBit 3 = false) ∧
    (runsW (x 0x0805 8) (act 4 on) ∧ (bits (dP0 (x 0x0805 8).desc) 4 0).testBit 3 = true ∧ (act 4 on).conflictWith 6 = some 4) := by decide +kernel

/-- A permit of a kind, with the challenge of 32 zeros, for a device whose codes are all zero. -/
def permitW (kind : Nat) : Bytes := leBytes 4 0x544D5250 ++ leBytes 2 1 ++ leBytes 1 kind ++ zeros 25 ++ restrikeCode (zeros 5) ++ zeros 43 ++ zeros 4723
def proofW : State := { rdy with lcs := { rdy.lcs with lstate := .proof, shown := .proof, challenge := some (zeros 32) } }

theorem test_hyp_LifeCycleOpcodes :
    let x (op p0 : Nat) (i : Bytes := []) := runW (descW op p0) i
    let burn : State := { proofW with lcs := { proofW.lcs with burn := some { target := .edition, code := zeros 5, asker := .testPort, steps := [], draining := false } } }
    let blank : State := { proofW with lcs := { proofW.lcs with lstate := .blank } }
    runsW (x 0x0901 0) ∧ (∀ op ∈ [0x0902, 0x0903, 0x0904], runsW (x op 0) burn ∧ burn.lcs.burn.isSome = true) ∧
    (runsW (x 0x0902 0) proofW ∧ proofW.lcs.burn = none ∧ proofW.planBurn (leBytes 5 0) = none) ∧
    (runsW (x 0x0902 0xFF00000000) proofW ∧ ((proofW.planBurn (leBytes 5 0xFF00000000)).map (·.1)) = some .cancelled) ∧
    (let t : State := { proofW with lcs := { proofW.lcs with lstate := .trial, shown := .trial } }
     runsW (x 0x0902 0xFFFF) t ∧ (t.planBurn (leBytes 5 0xFFFF)).map (·.1) = some .proof) ∧
    (runsW (x 0x0903 0) proofW ∧ proofW.lcs.lstate = .proof) ∧ (runsW (x 0x0903 0) blank ∧ blank.lcs.lstate ≠ .restrike) ∧
    (runsW (x 0x0904 1 (zeros 80)) proofW ∧
      ({ proofW with lcs := { proofW.lcs with challenge := none } } : State).permitFails (zeros 80) 1 (some (zeros 32)) false = some (St.badEncoding, 0)) ∧
    proofW.lcs.half = 0 := by decide +kernel

/-- A permit passes every check where its signatures, uninterpreted here, verify. -/
theorem test_hyp_LifeCycleOpcodes_permit (h : proofW.permitSigned (permitW 1) 1 = true) :
    proofW.permitFails (permitW 1) 1 proofW.lcs.challenge false = none ∧
    (holdW (runW (descW 0x0904 1) (permitW 1)) proofW).startable 0 0x0904 = some (runW (descW 0x0904 1) (permitW 1)) := by
  refine ⟨?_, rfl⟩
  simp only [State.permitFails, h]
  decide +kernel

/-- A ready card, of 65,536 blocks and with the archive of an owner. -/
def cusW (op : Option CardOp := none) (s : State := rdy) : State :=
  { s with cus := { s.cus with present := true, ready := true, valid := true, lbas := 65536, op := op, ruling := some (zeros 80 ++ kcvOf [1]) } }

/-- The owner archive key, of one byte. -/
def archW (s : State) : State := { s with csn := { s.csn with keys := [(6, keyW 0x0303 0 [1])] } }

theorem test_hyp_CustodyOpcodes_card :
    let x (op : Nat) := runW (descW op)
    let q (m : Nat) : Job := { x 0x0A03 with quorum := m }
    let held := cusW (some (CardOp.start .auto [.read 0]))
    runsW (x 0x0A01) ∧ (x 0x0A02).abortBy = none ∧ (q 2048).abortBy = none ∧
    (∀ s ∈ [rdy, held, cusW], runsW (x 0x0A02) s ∧ (holdW (x 0x0A02) s).holdsCard 0 = false ∧ (holdW (q 0) s).holdsCard 0 = false ∧
      runsW (q 0) s ∧ (q 0).quorum.testBit 11 = false ∧ runsW (q 2048) s ∧ (q 2048).quorum.testBit 11 = true ∧ ([5, 6, 7] : List Nat).find? s.startedRuns = none) ∧
    held.cardOp.isSome = true ∧ (rdy.cardOp = none ∧ rdy.cus.ready = false) ∧ (cusW.cardOp = none ∧ cusW.cus.ready = true ∧ cusW.cus.valid = true) ∧
    ({ cusW with cus := { cusW.cus with valid := false } } : State).cus.valid = false := by decide +kernel

theorem test_hyp_CustodyOpcodes_restore : (archW cusW).archiveKey = some [1] ∧ kcvOf [1] = slice ((archW cusW).cus.ruling.getD []) 80 8 := by
  have h : (kcvOf [1]).length = 8 := by simp only [kcvOf, kmac256, stdOut, List.length_map, List.length_range]
  refine ⟨rfl, ?_⟩
  change _ = ((zeros 80 ++ kcvOf [1]).drop 80).take 8
  rw [List.drop_left' (by decide +kernel), List.take_of_length_le (Nat.le_of_eq h)]

theorem test_hyp_CustodyOpcodes_officers :
    let x (op : Nat) := runW (descW op)
    let seen (n : Nat) (s : State) : State := { s with cus := { s.cus with ocd := n } }
    let trial : State := { rdy with lcs := { rdy.lcs with lstate := .trial } }
    (∀ s ∈ [rdy, trial, { rdy with lcs := { rdy.lcs with lstate := .proof } }], runsW (x 0x0A04) s ∧ s.exchange = none ∧ s.pdOn 26 = true) ∧
    (trial.lcs.lstate ≠ .proof ∧ trial.lcs.lstate ≠ .edition) ∧ (seen 0 rdy).loginSlot = none ∧ (seen 255 rdy).loginSlot = some 0 ∧ runsW (x 0x0A05) := by
  decide +kernel

/-- A policy record of one officer. -/
def policyW : Bytes := [1, 0, 1, 0] ++ zeros 4 ++ List.replicate 6 1 ++ zeros 18 ++ zeros 4771

theorem test_hyp_CustodyOpcodes_policy :
    let x (i : Bytes) (q : Nat) : Job := { runW (descW 0x0A06) i with quorum := q }
    rdy.ent.noEntropy = false ∧ (runsW (x (zeros 4803) 0) ∧ policyForm (zeros 4803) = false) ∧
    (runsW (x policyW 0) ∧ policyForm policyW = true ∧ rdy.policySigned policyW = false) ∧ (x policyW 0).quorum.testBit 12 = false ∧ rdy.lcs.lstate ≠ .proof ∧
    (runsW (x policyW 4096) ∧ (x policyW 4096).quorum.testBit 12 = true) :=
  ⟨by decide +kernel, ⟨rfl, by decide +kernel⟩, ⟨rfl, by decide +kernel, by decide +kernel⟩, by decide +kernel, by decide +kernel, rfl, by decide +kernel⟩

/-- A policy is signed where the standard's signature checks, uninterpreted here, pass under the owner's keys. -/
def ownedW (l : LState) (s : State := rdy) : State :=
  { s with csn := { s.csn with keys := [(4, keyW 0x0405), (5, keyW 0x0712)] }, lcs := { s.lcs with lstate := l, shown := l } }

theorem test_hyp_CustodyOpcodes_signed (l : LState)
    (h : Config.stdCheck .quorumPolicy 0 [policyW.take 80, slice policyW 80 4627, slice policyW 4707 96, [], []] = true) : (ownedW l).policySigned policyW = true := by
  have h1 : rd policyW 2 1 = 1 := by decide +kernel
  have h2 : KMap.get 4 (ownedW l).csn.keys = some (keyW 0x0405) ∧ KMap.get 5 (ownedW l).csn.keys = some (keyW 0x0712) ∧ (ownedW l).csn.policy = none := ⟨rfl, rfl, rfl⟩
  have h3 : (keyW 0x0405).pub = [] ∧ (keyW 0x0712).pub = [] := ⟨rfl, rfl⟩
  simp only [State.policySigned, h1, h2, h3, Nat.mul_one, h, Bool.and_self]

theorem test_hyp_CustodyOpcodes_policy_states :
    let x (q : Nat) : Job := { runW (descW 0x0A06) policyW with quorum := q }
    (runsW (x 0) (ownedW LState.proof) ∧ (ownedW LState.proof).csn.policy = none ∧ (ownedW LState.proof).lcs.lstate = .proof) ∧
    runsW (x 0) (ownedW LState.edition) ∧ runsW (x 4096) (ownedW LState.edition) ∧ (ownedW LState.edition).lcs.lstate ≠ .proof ∧
    (runsW (x 4096) (ownedW LState.trial) ∧ LState.trial ≠ .edition) :=
  ⟨⟨rfl, rfl, rfl⟩, rfl, rfl, by decide +kernel, rfl, by decide +kernel⟩

/-- An exchange with the card of slot 0, in which a login waits for the answer to reset. -/
def exchW (job : Nat) : Exch :=
  { slot := 0, job := job, login := true, step := .atr false false, classB := false, ns := false, nr := false, ifsc := 32, queue := [], apdu := [], last := [], rx := [],
    tries := 0, resync := false, resynced := false, select := [], cert := [], challenge := [], secret := [] }

theorem test_hyp_CustodyEvents :
    let o (l : List SdXfer) := CardOp.start .auto l
    let y := runW (descW 0x0A04)
    let act : State := { rdy with fcl := { rdy.fcl with acts := [(7, { Activity.reset with mstate := 1, started := true, run := 1 })] } }
    let e : State := { withJob y with cus := { rdy.cus with exch := some (exchW 0) } }
    (rdy.custodyOn = true ∧ rdy.cus.present = false ∧ (cusW none).cus.present = true) ∧
    (∀ l ∈ [[SdXfer.read 0], [SdXfer.write 0 []]], (cusW (some (o l))).cardOp = some (o l) ∧ (cusW (some (o l))).opAbort (o l) = none ∧ (o l).todo ≠ []) ∧
    (e.exchange = some (exchW 0, y) ∧ y.abortBy = none) ∧
    (act.startedRuns 7 = true ∧ act.custodyOn = true ∧ act.cardOp = none ∧ act.cus.ready = false) ∧
    ((cusW none act).startedRuns 7 = true ∧ (cusW none act).cardOp = none ∧ (cusW none act).cus.ready = true ∧ (cusW none act).archiveKey = none) ∧
    rdy.startedRuns 7 = false := by decide +kernel

theorem test_hyp_CustodyEvents_export :
    let act : State := { rdy with fcl := { rdy.fcl with acts := [(7, { Activity.reset with mstate := 1, started := true, run := 1 })] } }
    let s := archW (cusW none act)
    s.startedRuns 7 = true ∧ s.custodyOn = true ∧ s.cardOp = none ∧ s.cus.ready = true ∧ s.archiveKey = some [1] ∧ unitCount (s.snapshot [1] 0) ≤ s.freeUnits := by decide +kernel

theorem test_hyp_TwinOpcodes :
    let x (op : Nat) (p0 : Nat := 0) (q : Nat := 0) : Job := { runW (descW op p0) with quorum := q }
    let prim : State := { pairW .inStep with vis := [(0, { viW 0 with primary := true }), (1, { viW 1 with primary := false })] }
    runsW (x 0x0B02) ∧ (∀ op ∈ [0x0B01, 0x0B02, 0x0B03, 0x0B04, 0x0B05], (x op).abortBy = none) ∧
    (runsW (x 0x0B03) ∧ rdy.spn.pair ≠ .inStep) ∧ (runsW (x 0x0B03 0x100) prim ∧ prim.spn.pair = .inStep ∧ ((dP0 (x 0x0B03 0x100).desc).testBit 8) = true) ∧
    (runsW (x 0x0B03 0) prim ∧ (!(dP0 (x 0x0B03 0).desc).testBit 8 && (prim.vi 0).primary) = true) ∧
    (∀ v ∈ [0, 1, 0xFF], (runsW (x 0x0B04 v) (pairW .peerLost) ∧ runsW (x 0x0B04 v) (pairW .linkDown) ∧ bits (dP0 (x 0x0B04 v).desc) 7 0 = v)) ∧
    (pairW .linkDown).spn.claim = none ∧ (runsW (x 0x0B04 1) prim ∧ (prim.vi 1).primary = false) := by decide +kernel

theorem test_hyp_TwinOpcodes_pair :
    let x (op : Nat) (p0 : Nat := 0) (q : Nat := 0) : Job := { runW (descW op p0) (zeros 64) with quorum := q }
    let proof : State := { rdy with lcs := { rdy.lcs with lstate := .proof } }
    (runsW (x 0x0B05) ∧ rdy.spn.pair = .unpaired) ∧
    (∀ q ∈ [0, 512], runsW (x 0x0B05 0 q) (pairW .peerLost) ∧ runsW (x 0x0B05 0 q) (pairW .inStep) ∧ (x 0x0B05 0 q).quorum.testBit 9 = decide (q = 512)) ∧
    (runsW (x 0x0B01) proof ∧ proof.lcs.lstate ≠ .edition ∧ proof.spn.early = []) ∧
    (∀ q ∈ [0, 256], runsW (x 0x0B01 0 q) ∧ (x 0x0B01 0 q).quorum.testBit 8 = decide (q = 256)) ∧
    (rdy.lcs.lstate = .edition ∧ rdy.glb.dev = .ready ∧ rdy.spn.pair = .unpaired ∧ rdy.spn.pairing = none ∧ rdy.spn.early = []) := by decide +kernel

theorem test_hyp_TwinOpcodes_defect (b : Bool) : (holdW (runW (descW 0x0B01) (zeros 64))).pairDefect (zeros 64) b = some (St.badEncoding, 1) := by
  have h : rd (pairParts (zeros 64)).2 6 1 ≠ 1 := by decide +kernel
  simp only [State.pairDefect, ne_eq, h, not_false_eq_true, or_true, if_true]

theorem test_hyp_TwinOpcodes_events :
    let p : Pairing := { job := 0, source := false, initiator := true, peerId := zeros 16, peerKeys := [], step := 0, transcript := [], secret := [] }
    let y : Job := { readyW (descW 0x0B01) with stage := .waiting, needs := [Need.pair] }
    let s : State := { withJob y with spn := { rdy.spn with pairing := some p } }
    let f := clearFrame tPair ([0x0F] ++ zeros 5)
    s.spn.pairing = some p ∧ (s.job p.job).any (fun y => decide (y.stage = .waiting ∧ y.needs.head? = some Need.pair)) = true ∧ rdy.spn.pairing = none ∧
    (rdy.spanOn = true ∧ rdy.spn.dead = false ∧ frameWhole (f.take 57) = false ∧ frameWhole (f.drop 1) = false) ∧
    (frameWhole f = true ∧ frameOf f [tPair] = true ∧ 6 ≤ rd f 4 2 ∧ rd (slice f 32 (rd f 4 2)) 0 1 = 0x0F) := by decide +kernel

/-- The device with VI 1 changed. -/
def vi1W (x : Vi) (s : State := rdy) : State := { s with vis := [(0, viW 0), (1, x)] }

/-- Some piers and lanes on duty. -/
def unitsW (piers : List Nat) (lanes : Nat) (s : State := rdy) : State :=
  { s with bur := { s.bur with piers := piers.map (fun p => (p, { Pier.reset with onDuty := 0xFF })) }, lne := { s.lne with onDuty := lanes } }

theorem test_hyp_ViOpcodes :
    let x (op : Nat) (p0 : Nat := 1) (i : Bytes := []) : Job := runW (descW op p0) i
    (∀ op ∈ [0x0C01, 0x0C02, 0x0C03, 0x0C04, 0x0C05, 0x0C06, 0x0C07, 0x0C08], (x op).abortBy = none ∧ targetVi (x op).desc = 1) ∧
    (runsW (x 0x0C01 1 (zeros 64)) ∧ (holdW (x 0x0C01 1 (zeros 64))).quotaBad 1 (zeros 64) = some 0) ∧
    (runsW (x 0x0C01 1 (Quota.reset 1).bytes) ∧ (holdW (x 0x0C01 1 (Quota.reset 1).bytes)).quotaBad 1 (Quota.reset 1).bytes = none) ∧
    runsW (x 0x0C08) ∧ runsW (x 0x0C02) ∧ (∀ op ∈ [0x0C03, 0x0C04, 0x0C05, 0x0C06], ∀ y ∈ [viW 1, { viW 1 with freezing := true }, { viW 1 with state := .frozen },
      { viW 1 with tdi := .locked }, { viW 1 with tdi := .run }, { viW 1 with state := .frozen, tdi := .run }], runsW (x op) (vi1W y) ∧ (vi1W y).vi 1 = y) ∧
    (viW 1).state = .running ∧ (viW 1).freezing = false ∧ (viW 1).tdi = .unlocked ∧ (viW 1).lockedDown = false ∧ { viW 1 with tdi := .run }.lockedDown = true ∧
    rdy.viEmpty 1 = true := by decide +kernel

theorem test_hyp_ViOpcodes_save :
    let x (n : Nat) : Job := runW (descW 0x0C04 1 (key := 0x100) (outMax := n)) [] (some (keyW 0x0103))
    let s := vi1W { viW 1 with state := .frozen }
    (∀ n ∈ [0, 0xFFFFFFFF], runsW (x n) s ∧ (x n).key = some (keyW 0x0103) ∧ dOutMax (x n).desc = n) ∧ (s.vi 1).tdi = .unlocked ∧ s.paired = false ∧
    (let n := (s.blob 1 (keyW 0x0103)).1.length + (s.blob 1 (keyW 0x0103)).2.length; 0 < n ∧ n ≤ 0xFFFFFFFF) := by decide +kernel

theorem test_hyp_ViOpcodes_function :
    let x (kind unit on : Nat) : Job := runW (descW 0x0C07 (1 + kind * 256 + unit * 65536 + on * 2 ^ 32))
    let up (kind unit on : Nat) (s : State) : Prop := ((withJob (x kind unit on) s).startable 0 0x0C07 = some (x kind unit on) ∧
      bits (dP0 (x kind unit on).desc) 15 8 = kind ∧ bits (dP0 (x kind unit on).desc) 31 16 = unit ∧ (dP0 (x kind unit on).desc).testBit 32 = decide (on = 1))
    (up 1 0 1 rdy ∧ up 1 0 0 rdy) ∧ (up 2 0 0 (unitsW [0, 1] 0x7F) ∧ ((unitsW [0, 1] 0x7F).piersOn.filter (fun p => decide (p ≠ 0))).length = 1) ∧
    (up 2 0 0 (unitsW [0, 1, 2] 0x7F) ∧ ((unitsW [0, 1, 2] 0x7F).piersOn.filter (fun p => decide (p ≠ 0))).length = 2) ∧
    (up 3 0 0 (unitsW [0] 1) ∧ (unitsW [0] 1).laneUp 0 = true ∧ (unitsW [0] 1).lanesOnDuty = 1) ∧
    (up 3 0 0 (unitsW [0] 3) ∧ (unitsW [0] 3).lanesOnDuty = 2) := by decide +kernel

theorem test_hyp_ViEvents :
    let s (x : Vi) := vi1W x
    let drain (kind : Nat) : Job := { readyW (descW 0x0C07 (kind * 256)) with stage := .waiting, needs := [Need.drain] }
    let find (s : State) := s.jobs.find? (fun p => decide (dOp p.2.desc = 0x0C07) && decide (p.2.stage = .waiting) && decide (p.2.needs.head? = some Need.drain))
    (rdy.pcieUp = true ∧ (1 : Fin 256) ≠ 0 ∧ 1 ≤ rdy.glb.numVfs ∧ 255 ≤ rdy.glb.numVfs ∧ State.reset.pcieUp = false ∧ State.reset.glb.numVfs < 1) ∧
    ((s (viW 1)).vi 1).bme = true ∧ ((s { viW 1 with resetPending := true }).vi 1).resetPending = true ∧
    (s { viW 1 with resetPending := true }).spn.waits.any (fun p => decide (p.2 = .viReset 1)) = false ∧
    ((s { viW 1 with scrubPending := true }).vi 1).scrubPending = true ∧ ((s { viW 1 with scrubPending := true }).vi 1).resetPending = false ∧
    (∀ t ∈ [Tdi.locked, Tdi.run, Tdi.unlocked], ((s { viW 1 with tdi := t }).vi 1).tdi = t) ∧
    (∀ b ∈ [false, true], ((s { viW 1 with freezing := b }).vi 1).freezing = b) ∧
    find rdy = none ∧ find (withJob (drain 2)) = some (0, drain 2) ∧ bits (dP0 (drain 2).desc) 15 8 ≠ 3 := by decide +kernel

/-- Burin 0 of pier 0 issues the words of a vendor routine for `x`. -/
def issuesW (st : BurinState) (x : Job) : Bool :=
  let s := burW { Burin.reset with state := st } x
  decide (s.issuing 0 0 = some (0, x)) && decide ((s.burin 0 0).micro = none) && decide ((s.burin 0 0).state = st)

def cutW (x : Job) : Job := { x with abortBy := some St.aborted }
def doneW : Job := { runW (descW 0x0303) with stage := .computed }

theorem test_hyp_BurinRoutine :
    let x := runW (descW 0x0303)
    let stall := pierW { Pier.reset with burins := [(0, { Burin.reset with state := .run, job := some 0 })], stippleStall := true } x
    rdy.issuing 0 0 = none ∧ rdy.issuing 7 8 = none ∧ State.reset.clocked = false ∧
    ([x, doneW, cutW doneW, cutW x].all (fun x => issuesW .run x && issuesW .postCommit x)) = true ∧
    x.masked = false ∧ x.abortBy = none ∧ x.mayCommit = false ∧ doneW.mayCommit = true ∧ (cutW doneW).mayCommit = true ∧
    (stall.issuing 0 0 = some (0, x) ∧ (stall.pier 0).stippleStall = true) := by decide +kernel

theorem test_hyp_BurinRoutine_pick :
    let x := runW (descW 0x0303)
    let idle := pierW { Pier.reset with onDuty := 1, burins := [(0, { Burin.reset with state := .idle })] } x
    let run := burW { Burin.reset with state := .run } x
    (idle.clocked = true ∧ (idle.burin 0 0).state = .idle ∧ (idle.pier 0).onDuty.testBit 0 = true) ∧ run.recalledFrom 0 (burinUnit 0 0) = false ∧
    (run.pier 0).stippleStall = false := by decide +kernel

/-- Header and body of a customer image: one entry, six microwords (SET_LC0, BASE_LOAD, WAIT, COMMIT, END, one that writes a row back), a base, `hash` of the body. -/
def microBodyW : Bytes :=
  leBytes 2 0x3100 ++ [1, 0] ++ leBytes 2 1 ++ leBytes 2 1 ++ leBytes 2 1 ++ leBytes 2 0 ++ leBytes 2 32 ++ leBytes 2 32 ++
    leBytes 4 (3 * 2 ^ 30 + 5 * 2 ^ 20 + 0x10) ++ leBytes 4 (3 * 2 ^ 30 + 0x20) ++ leBytes 4 (3 * 2 ^ 30 + 0x30) ++ leBytes 4 (3 * 2 ^ 30 + 1) ++ leBytes 4 (3 * 2 ^ 30 + 2) ++
    leBytes 4 (0x380 * 2 ^ 20) ++ leBytes 32 (2 ^ 127) ++ zeros 4
def microW (hash : Bytes) : Bytes :=
  leBytes 4 0x4D495A50 ++ leBytes 2 1 ++ zeros 2 ++ leBytes 4 0x6440B000 ++ zeros 4 ++ leBytes 2 1 ++ leBytes 2 6 ++ leBytes 2 1 ++ [1, 0] ++ leBytes 4 76 ++ zeros 20 ++
    hash ++ zeros 160 ++ microBodyW

/-- A customer routine at word `pc`, with the row that word 5 writes tagged or not. -/
def atW (pc : Nat) (tags : List Nat := []) : Micro :=
  { image := microW (zeros 48), entry := 0, pc := 0x3100 + pc, rep := 0, cycle := 0, bases := [{ row := 0, stride := 0, region := 0 }], lcs := [0, 0, 0, 0], mem := [],
    tags := tags, landing := [], params := zeros 32, busy := [], committed := false }

theorem test_hyp_CustomerWords :
    let x := runW (descW 0x0D02)
    let ok (m : Micro) (w : Nat) : Prop := let s := burW { Burin.reset with state := .run, micro := some m } x
      s.issuing 0 0 = some (0, x) ∧ (s.burin 0 0).micro = some m ∧ plateWord m.image m.pc = some w
    let at_ (k imm nano : Nat) : Prop := ok (atW k) (3 * 2 ^ 30 + nano * 2 ^ 20 + imm) ∧ wSeq (3 * 2 ^ 30 + nano * 2 ^ 20 + imm) = 3 ∧ wImm (3 * 2 ^ 30 + nano * 2 ^ 20 + imm) = imm
    let w := 0x380 * 2 ^ 20
    let n := etchWord (atW 5).image (wNano w)
    at_ 0 0x10 5 ∧ at_ 1 0x20 0 ∧ at_ 2 0x30 0 ∧ at_ 3 1 0 ∧ at_ 4 2 0 ∧ ok (atW 5) w ∧ ok (atW 5 [0]) w ∧ wSeq w ≠ 3 ∧ stippleWords n = 0 ∧
    (atW 5).land.tagFault n (wA w) (wB w) = false ∧ (atW 5 [0]).land.tagFault n (wA w) (wB w) = true := by decide +kernel

theorem test_hyp_CustomerWords_abort :
    let x : Job := { runW (descW 0x0D02) with abortBy := some St.aborted }
    let s := burW { Burin.reset with state := .run, micro := some (atW 3) } x
    s.issuing 0 0 = some (0, x) ∧ (s.burin 0 0).micro = some (atW 3) ∧ plateWord (atW 3).image (atW 3).pc = some (3 * 2 ^ 30 + 1) ∧
    (s.burin 0 0).state ≠ .postCommit := by decide +kernel

theorem test_hyp_BurinEvents :
    let x (c : Nat) : Job := { runW (descW 0x0301) with cls := c }
    let hold : Burin := { Burin.reset with state := .yieldHold, job := some 0 }
    let park : Burin := { Burin.reset with state := .parking, job := some 0 }
    let wait : Job := { fetchedW (descW 0x0301) with cls := 0, burinPart := .queued, pier := some 0 }
    let two (x : Job) : State := { burW hold x with jobs := [(0, x), (1, wait)] }
    let p := burW park (x 1)
    (((two (x 1)).burin 0 0).state = .yieldHold ∧ ((two (x 1)).burin 0 0).job = some 0 ∧ (two (x 1)).job 0 = some (x 1) ∧ (x 1).preempted = false ∧ (x 1).committed = false ∧
      (two (x 1)).reg Reg.burYieldHold ≠ 0 ∧ ((two (x 1)).pierQueue 0).any (fun q => decide (q.2.cls < (x 1).cls)) = true) ∧
    (let y := { x 1 with preempted := true }; (two y).job 0 = some y ∧ ((two y).burin 0 0).state = .yieldHold ∧ ((two y).burin 0 0).job = some 0) ∧
    (rdy.burin 0 0).state ≠ .yieldHold ∧ (rdy.clocked = true ∧ ∀ i < 9, (rdy.burin 0 i).state ≠ .parking) ∧
    (p.clocked = true ∧ (∀ k < 9, k ≠ 0 → (p.burin 0 k).state ≠ .parking) ∧ (p.burin 0 0).state = .parking ∧ (p.burin 0 0).job = some 0 ∧
      ∀ k < 9, k ≠ 0 → ((p.tryPark 0 0 0).burin 0 k).state ≠ .parking) := by decide +kernel

theorem test_hyp_BurinEvents_units :
    let x : Job := { runW (descW 0x0301) with burinPart := .finished, stage := .computed }
    let proof : Job := { newJob 0 0 (.counterproof 0) (descW 0x0301) 0 with inputDone := true, stage := .running }
    let g : Pier := { Pier.reset with onDuty := 0xFF, burins := [(0, { Burin.reset with state := .run, job := some 1 })] }
    let s : State := { pierW g x with jobs := [(0, x), (1, proof)], nextJob := 2 }
    let g (t : BurinState) : Pier := { Pier.reset with spare := 1, seedReady := true, stippleOk := true, burins := [(0, { Burin.reset with state := t })] }
    let st (t : BurinState) : State := { pierW (g t) x with tol := { rdy.tol with grants := [(0, 0)] } }
    (s.clocked = true ∧ s.proofOf 0 = some (1, 0, 0) ∧ s.job 0 = some x) ∧ (rdy.pier 0).seedReady = false ∧ (rdy.pier 0).stippleOk = false ∧
    (((st .idle).pier 0).seedReady = true ∧ ((st .idle).pier 0).stippleOk = true) ∧
    (((st .selftest).burin 0 0).state = .selftest ∧ (st .selftest).hasToken 0 (burinUnit 0 0) = true ∧ ((st .idle).burin 0 0).state ≠ .selftest) := by decide +kernel

/-- The policy admits customer microcode of every SVN. -/
def openW (x : Job) : State := holdW x { rdy with csn := { rdy.csn with policy := some (zeros 3 ++ [1] ++ zeros 28) } }

theorem test_hyp_UcodeOpcodes :
    let x (op : Nat) (p0 : Nat := 1) (i : Bytes := []) := runW (descW op p0) i
    (runsW (x 0x0D01 1 (zeros 256)) ∧ (holdW (x 0x0D01)).ucodeAllowed (zeros 256) = false ∧ imageFault (zeros 256) = 3) ∧
    ((openW (x 0x0D01 1 (zeros 256))).startable 0 0x0D01 = some (x 0x0D01 1 (zeros 256)) ∧ (openW (x 0x0D01)).ucodeAllowed (zeros 256) = true) ∧
    (let s := holdW (x 0x0D02 0)
     let g : Pier := { Pier.reset with onDuty := 1, image := some (microW (zeros 48)), burins := [(0, { Burin.reset with state := .run, job := some 0 })] }
     let t : State := { s with bur := { s.bur with piers := [(0, g)] } }
     t.startable 0 0x0D02 = some (x 0x0D02 0) ∧ t.burinOf 0 = some (0, 0) ∧ (t.burin 0 0).micro = none ∧ (t.pier 0).image = some (microW (zeros 48))) ∧
    runsW (x 0x0D03) ∧
    (let y : Job := { x 0x0D01 with stage := .waiting }; (withJob y).job 0 = some y ∧ dOp y.desc = 0x0D01 ∧ y.stage = .waiting) ∧ rdy.job 0 = none := by decide +kernel

/-- An image whose hash is its body's has no fault where its signatures, uninterpreted here, verify, and DETAIL 1 where they do not. -/
def soundW : Bytes := microW (stdOut .hash 0x0A02 [[0], [], microBodyW] 48) ++ zeros 4723

theorem test_hyp_UcodeOpcodes_image (b : Bool) (h : Config.stdCheck .imageSignature 1 [soundW.take 256, (soundW.drop 332).take 4627, (soundW.drop 332).drop 4627] = b) :
    imageFault soundW = (if b then 0 else 1) ∧ (openW (runW (descW 0x0D01 1) soundW)).startable 0 0x0D01 = some (runW (descW 0x0D01 1) soundW) ∧
    (openW (runW (descW 0x0D01 1) soundW)).ucodeAllowed soundW = true ∧ (holdW (runW (descW 0x0D01 1) soundW)).ucodeAllowed soundW = false := by
  have h1 : headerOk soundW = true := by decide +kernel
  have h2 : imBodyLen soundW = 76 := by decide +kernel
  have h0 : (soundW.take 332).drop 256 = microBodyW := by decide +kernel
  have h3 : slice soundW 48 48 = stdOut .hash 0x0A02 [[0], [], microBodyW] 48 := rfl
  have h4 : staticOk (soundW.take 332) = true := by decide +kernel
  have h5 : pathsOk (soundW.take 332) = 0 := by decide +kernel
  have h6 : (soundW.take 332).take 256 = soundW.take 256 := by rw [List.take_take]; rfl
  refine ⟨?_, rfl, by decide +kernel, by decide +kernel⟩
  simp only [imageFault, h1, h2, Nat.reduceAdd, h0, ← h3, h6, h, h4, h5]
  cases b <;> simp

/-- Burin 0 of pier 0 waits for a phase token with job 0, while others hold some, with an empty pool. -/
def askW (x : Job) (held : List (Nat × Nat) := []) : State :=
  let g : Pier := { Pier.reset with onDuty := 0xFF, burins := [(0, { Burin.reset with state := .tokenWait, job := some 0 })] }
  { pierW g x with tol := { rdy.tol with grants := held, effective := 0 } }

theorem test_hyp_PhaseTokens :
    let x := runW (descW 0x0301)
    let room (s : State) : Option Bool := (s.nextAsk .burin).map (fun p => s.roomFor 0 p.1.cls)
    let lane (st : LaneState) : State := { rdy with lne := { rdy.lne with lanes := [(0, { Lane.reset with state := st })] } }
    (¬((State.reset.glb.dev = .ready ∨ State.reset.glb.dev = .post ∨ State.reset.glb.dev = .falsework) ∧ (PhaseKind.burin = .draft ∨ State.reset.glb.pll = true))) ∧
    (rdy.glb.dev = .ready ∧ rdy.glb.pll = true) ∧ rdy.nextAsk .burin = none ∧ room (askW x) = some true ∧ room (askW x [(0, 1)]) = some false ∧
    (∀ p ∈ (askW x).jobs, p.2.inputDone = true) ∧
    (((lane .idle).lane 0).state = .idle ∧ ((lane .idle).lane 0).work = [] ∧ ((lane .run).lane 0).state ≠ .idle) ∧
    (rdy.draftWork = false ∧ (withJob (fetchedW (descW 0x0F00))).draftWork = true ∧ (withJob (fetchedW (descW 0x0F00))).recalledFrom 3 9 = false) := by decide +kernel

/-- Job `g` waits for the Graver, core 0 with its jobs in their slots. -/
def coreW (c : Core) (l : List Job) (s : State := rdy) : State :=
  { s with jobs := (List.range l.length).zip l, nextJob := l.length, grv := { s.grv with onDuty := 1, spare := 1, cores := [(0, c)] } }
def slotW (j yields : Nat) : Slot := { job := j, yields := yields, since := 0 }

theorem test_hyp_GraverCommands :
    let q : Job := { fetchedW (descW 0x0401) with stage := .queued, graverPart := .dispatch }
    let s := coreW { Core.reset with state := .idle } [q]
    let empty := coreW { Core.reset with state := .idle } []
    State.reset.clocked = false ∧ (s.clocked = true ∧ s.fillGraver.chosenCore = some 0 ∧ s.fillGraver.ent.noEntropy = false ∧ (s.fillGraver.nextGraver.map (·.1)) = some 0) ∧
    (empty.clocked = true ∧ empty.fillGraver.nextGraver = none) ∧ rdy.fillGraver.chosenCore ≠ some 0 := by decide +kernel

theorem test_hyp_GraverCommands_yield :
    let x (c : Nat) : Job := { runW (descW 0x0401) with cls := c }
    let cut (x : Job) : Job := { x with abortBy := some St.aborted }
    let core (st : CoreState) (l : List Slot) : Core := { Core.reset with state := st, slots := l, computing := some 0 }
    let one := coreW (core .run [slotW 0 64]) [x 1]
    let two := coreW (core .run [slotW 0 63, slotW 1 0]) [x 1, x 0]
    let test : State := { coreW (core .selftest []) [] with tol := { rdy.tol with grants := [(2, 0)] } }
    (rdy.core 0).state ≠ .run ∧ (one.clocked = true ∧ (one.core 0).state = .run ∧ (one.core 0).computing = some 0 ∧ one.job 0 = some (x 1) ∧ (x 1).abortBy = none ∧
      (∀ q ∈ (one.core 0).slots, q.job = 0) ∧ one.recalledFrom 2 0 = false) ∧
    ((coreW (core .run [slotW 0 0]) [cut (x 1)]).job 0 = some (cut (x 1)) ∧ ((coreW (core .run [slotW 0 0]) [cut (x 1)]).core 0).computing = some 0) ∧
    (two.clocked = true ∧ (two.core 0).state = .run ∧ (two.core 0).computing = some 0 ∧ two.job 0 = some (x 1) ∧ (∀ q ∈ (two.core 0).slots, q.job = 0 → q.yields < 64) ∧
      two.switchTo (two.core 0) 0 0 = some 1 ∧ (two.switchCore 0 0 1).recalledFrom 2 0 = false) ∧
    ((test.core 0).state = .selftest ∧ test.hasToken 2 0 = true) := by decide +kernel

theorem test_hyp_GraverCommands_public :
    let k (there : Bool) : KeyRec := { keyW 0x0601 0 [1] with publicPresent := there }
    let s := pierW { Pier.reset with onDuty := 1 } (runW (descW 0)) (withKey (k false))
    s.clocked = true ∧ KMap.get 0x100 s.csn.keys = some (k false) ∧ Alg.isMce (k false).alg = true ∧ (k false).isPrivate = true ∧ (k false).publicPresent = false ∧
    (k false).destroying = false ∧ (k false).badValue = false ∧ s.piersOn ≠ [] ∧ KMap.get 0x100 (withKey (k true)).csn.keys = some (k true) := by decide +kernel

/-- A stateful key of 1,024 signatures. -/
def statefulW (f : Stateful → Stateful := id) : KeyRec := { keyW 0x0401 with stateful := some (f (newStateful 0 1024)) }

theorem test_hyp_StatefulLeases :
    let asked := statefulW (fun t => { t with requested := true, reqEnd := 64 })
    let done := statefulW (fun t => { t with requested := true, programmed := true })
    let worn : State := { withKey asked with csn := { (withKey asked).csn with leaseLog := LeaseBlock.reset :: List.replicate 15 { LeaseBlock.reset with retired := true } } }
    let log : State := { rdy with csn := { rdy.csn with leaseLog := [{ LeaseBlock.reset with blockSeq := some 1, erases := 99999 }, { LeaseBlock.reset with blockSeq := some 2 }] } }
    (∀ k ∈ [asked, done, statefulW], KMap.get 0x100 (withKey k).csn.keys = some k) ∧ (rdy.clocked = true ∧ State.reset.clocked = false ∧ rdy.serving = true) ∧
    (asked.stateful.map (fun t => (t.requested, t.programmed)) = some (true, false) ∧ done.stateful.map (fun t => t.programmed) = some true ∧
      statefulW.stateful.map (fun t => t.requested) = some false) ∧
    (KMap.get 0x100 worn.csn.keys = some asked ∧ worn.logUsable < 2) ∧ (2 ≤ (withKey asked).logUsable ∧ (withKey asked).mirrors asked.attr = false) ∧
    (log.csn.leaseLog[0]?.map (fun b => (b.retired, b.blockSeq)) = some (false, some 1) ∧ (activeBlock log.csn.leaseLog).any (fun p => decide (p.1 = 0)) = false ∧
      log.blockStale 0 = true) ∧ rdy.csn.leaseLog[15]?.map (·.blockSeq) = some none := by decide +kernel

theorem test_hyp_StatefulLeases_wait :
    let x : Job := { fetchedW (descW 0x0302 (key := 0x100)) with stage := .queued }
    let s (f : Stateful → Stateful) := withJob x (withKey (statefulW f))
    (∀ e ∈ [0, 1], (s (fun t => { t with leaseEnd := e })).job 0 = some x ∧ dOp x.desc = 0x0302 ∧ x.stage = .queued ∧
      (s (fun t => { t with leaseEnd := e })).leaseOf (dKey x.desc) = some { newStateful 0 1024 with leaseEnd := e }) ∧
    (newStateful 0 1024).next = 0 ∧ (newStateful 0 1024).requested = false := by decide +kernel

/-- Port 0 in mode 4 with its links in a phase and a queue on link 0. -/
def portW (ph : Nat) (q : List Bytes := []) (s : State := rdy) : State :=
  (s.setReg (Reg.portCtl 0) (2 ^ 31 + 4 * 2 ^ 28 + 0xE4)).modPort 0 (fun x => { x with phases := [ph, ph, ph, ph], txq := [q, [], [], []] })

/-- A frame of type `typ` to `dst`, with its FCS. -/
def frameW (dst : Bytes) (typ n : Nat) : Bytes := let b := dst ++ zeros 6 ++ beBytes 2 typ ++ zeros n; b ++ leBytes 4 (fcs32 b)

/-- An FEC report without errors, or with an uncorrectable block. -/
def fecW (bad : Bool) : FecReport := { corrected := 0, lane := 0, symbols := 0, uncorrectable := bad }

theorem test_hyp_PortCommands_receive :
    let s := portW 4
    let mc := List.replicate 6 (0xFF : Byte)
    let ok (f : Bytes) : Bool := decide (64 ≤ f.length) && decide (f.length ≤ bits (s.reg (Reg.portMaxFrame 0)) 13 0)
    let fcs (f : Bytes) : Bool := decide (f.drop (f.length - 4) = leBytes 4 (fcs32 (f.take (f.length - 4))))
    rdy.linkWorks 0 0 = false ∧ s.linkWorks 0 0 = true ∧ s.linkWorks 0 3 = true ∧ (fecW true).uncorrectable = true ∧
    ((fecW false).corrected = 0 ∧ (fecW false).symbols = 0 ∧ (fecW false).uncorrectable = false) ∧
    (frameW mc 0x800 45).length = 63 ∧ bits (s.reg (Reg.portMaxFrame 0)) 13 0 < (zeros 16384).length ∧
    (ok (zeros 64) = true ∧ fcs (zeros 64) = false) ∧ (ok (frameW mc 0x8808 46) = true ∧ fcs (frameW mc 0x8808 46) = true ∧ rdBe (frameW mc 0x8808 46) 12 2 = 0x8808) ∧
    (ok (frameW (octets [2, 0, 0, 0, 0, 1]) 0x800 46) = true ∧ fcs (frameW (octets [2, 0, 0, 0, 0, 1]) 0x800 46) = true ∧
      s.addressed 0 (octets [2, 0, 0, 0, 0, 1]) = false) ∧
    (ok (frameW mc 0x800 46) = true ∧ fcs (frameW mc 0x800 46) = true ∧ rdBe (frameW mc 0x800 46) 12 2 = 0x800 ∧ s.addressed 0 mc = true) := by decide +kernel

theorem test_hyp_PortCommands :
    let old := (portW 1).reg (Reg.portCtl 0)
    ((portW 4).linkWorks 0 0 = true ∧ ((portW 4).port 0).txq.getD 0 [] = []) ∧ ((portW 4 [[1]]).linkWorks 0 0 = true ∧ ((portW 4 [[1]]).port 0).txq.getD 0 [] = [[1]]) ∧
    (∀ ph ∈ [1, 3], (portW ph).pdOn 20 = true ∧ (portW ph).glb.pll = true ∧ (portW ph).portOn 0 = true ∧ 0 < modeLinks ((portW ph).portMode 0) ∧
      rxMapOk ((portW ph).reg (Reg.portCtl 0)) = true ∧ ((portW ph).port 0).phases.getD 0 0 = ph) ∧
    rdy.portOn 0 = false ∧ ((portW 4).port 0).phases.getD 3 0 = 4 ∧ ((portW 1).port 0).phases.getD 0 0 ≠ 4 ∧
    ((portW 1).clocked = true ∧ (portW 1).pdOn 20 = true ∧ (portW 1).pdOn 21 = true ∧ old.testBit 31 = true ∧ (0xFFFFFFFF : Word).getLsbD 31 = true) ∧
    tapsOk 63 = true ∧ tapsOk (63 * 64 + 1) = false ∧ State.reset.clocked = false := by decide +kernel

theorem test_hyp_ExceptionsAndAddresses :
    let e : ExcItem := { frame := [1], vi := 0, port := 0, reason := 5 }
    let s : State := { rdy with lpt := { rdy.lpt with exc := [e] } }
    let off : State := { s with rings := [] }
    (State.reset.clocked = false ∧ rdy.lpt.exc = []) ∧ (s.clocked = true ∧ s.lpt.exc = [e] ∧ (s.ring 0 49).enable = true) ∧
    (off.lpt.exc = [e] ∧ off.clocked = true ∧ (off.ring 0 49).enable = false) ∧
    (((portW 4).port 0).phases.getD 0 0 = 4 ∧ ((portW 4).port 0).phases.length = 4 ∧ ((portW 4).port 0).txq.length = 4) := by decide +kernel

/-- A ClientHello with TLS_AES_128_GCM_SHA256, a share of ML-KEM-512, ML-DSA-44 and a cookie of `n` zeros, in its frame. -/
def helloW (n : Nat) : Bytes :=
  let ext := extBytes 51 (beBytes 2 5 ++ beBytes 2 0x0201 ++ beBytes 2 1 ++ [0]) ++ extBytes 13 (beBytes 2 2 ++ beBytes 2 0x0904) ++ extBytes 44 (beBytes 2 n ++ zeros n)
  plainRecord 22 (zeros 8) (hsMessage 1 0 (zeros 36 ++ beBytes 2 2 ++ beBytes 2 0x1301 ++ [1, 0] ++ beBytes 2 ext.length ++ ext))
def datagramW (b : Bytes) : Bytes :=
  zeros 6 ++ octets [2, 0, 0, 0, 0, 9] ++ beBytes 2 0x0800 ++ ipv4Header 0 0 64 0 17 (octets [10, 0, 0, 1]) (octets [10, 0, 0, 2]) (8 + b.length) ++
    beBytes 2 5000 ++ beBytes 2 4433 ++ beBytes 2 (8 + b.length) ++ zeros 2 ++ b
def ipW (b : Bytes) : Ip :=
  { v6 := false, src := padTo 16 (octets [10, 0, 0, 1]), dst := padTo 16 (octets [10, 0, 0, 2]), proto := 17, total := 28 + b.length,
    body := beBytes 2 5000 ++ beBytes 2 4433 ++ beBytes 2 (8 + b.length) ++ zeros 2 ++ b }
def pathW : Path :=
  { peerAddr := padTo 16 (octets [10, 0, 0, 1]), localAddr := padTo 16 (octets [10, 0, 0, 2]), peerPort := 5000, localPort := 4433, vlan := 0xFFFF,
    peerMac := octets [2, 0, 0, 0, 0, 9] }

/-- A policy with that suite, group and the server key of handle 0x100. -/
def hsPolicyW : Bytes := zeros 4 ++ leBytes 4 1 ++ leBytes 4 8 ++ zeros 4 ++ leBytes 4 0x100 ++ zeros 44

/-- A frame that waits for the handshake firmware, rule 0 and policy 0. -/
def intakeW (f : Bytes) : Intake := { port := 0, vi := 0, rule := 0, old := none, frame := f }
def hsW (f : Bytes) (x : Vi := viW 0) : State :=
  { withKey (keyW 0x0201) with lpt := { rdy.lpt with intake := [intakeW f] }, vis := [(0, { x with policies := [(0, hsPolicyW)] })], cwy := { rdy.cwy with rules := [(0, zeros 32)] } }

theorem test_hyp_Handshakes_intake :
    let s := hsW (datagramW [1])
    State.reset.serving = false ∧ rdy.lpt.intake = [] ∧ (s.serving = true ∧ s.lpt.intake = [intakeW (datagramW [1])] ∧ s.standby 0 = false ∧ s.viFrozen 0 = false ∧
      (s.vi 0).state = .running) ∧
    (let t := hsW (datagramW [1]) { viW 0 with primary := false }; ({ t with spn := { t.spn with pair := .inStep } } : State).standby 0 = true) ∧
    ((hsW [] { viW 0 with freezing := true }).viFrozen 0 = true ∧ (hsW [] { viW 0 with freezing := true }).standby 0 = false) ∧
    (∀ b ∈ [[1], helloW 0, helloW 64], (parseEth (datagramW b)).parse = .ip (ipW b) ∧ (ipW b).payload = b ∧ pathOf (parseEth (datagramW b)) (ipW b) = pathW) ∧
    (KMap.get 0 s.cwy.rules = some (zeros 32) ∧ KMap.get (rd (zeros 32) 6 1) (s.vi 0).policies = some hsPolicyW ∧ s.key (rd hsPolicyW 16 4) = some (keyW 0x0201)) ∧
    parseHello [1] = none ∧
    ((parseHello (helloW 0)).map (fun c => (hsW []).cookieOk pathW c.cookie) = some false) ∧
    ((parseHello (helloW 64)).map (fun c => (c.cookie, (chosenShare hsPolicyW c).isSome, (chosenSuite hsPolicyW c).isSome, c.schemes.contains (serverScheme (keyW 0x0201).alg))) =
      some (zeros 64, true, true, true)) := by decide +kernel

/-- A cookie is valid where its MAC, uninterpreted here, is the one that it holds. -/
theorem test_hyp_Handshakes_cookie (h : cookieMac (hsW []).cookieKey pathW (zeros 32) = zeros 32) : (hsW []).cookieOk pathW (zeros 64) = true := by
  have h1 : (zeros 64 : Bytes).length = 64 ∧ (zeros 64 : Bytes).drop 32 = zeros 32 ∧ (zeros 64 : Bytes).take 32 = zeros 32 := by decide +kernel
  simp only [State.cookieOk, h1, h, decide_true, Bool.true_or, Bool.and_self]

/-- A handshake of the firmware. -/
def shakeW (i : Option Nat) (signed : Bool) : Handshake :=
  { vi := 0, port := 0, policy := hsPolicyW, path := pathW, ipv6 := false, session := i, replaces := none, peerCid := none, share := (0x0102, [0]), psk := false, signed := signed }
def shakingW (y : Handshake) (s : State := rdy) : State := { s with cwy := { s.cwy with hs := [(0, y)] } }

theorem test_hyp_Handshakes_state :
    let full : State := { shakingW (shakeW none true) with vis := [(0, { viW 0 with quota := Quota.reset 0 })] }
    let key8 : State := { rdy with csn := { rdy.csn with keys := [(8, keyW 0x0A01)] } }
    (∀ y ∈ [shakeW (some 5) true, shakeW none false, shakeW none true], (shakingW y).serving = true ∧ KMap.get 0 (shakingW y).cwy.hs = some y) ∧
    (policySuites hsPolicyW).contains 0x1301 = true ∧ (policySuites hsPolicyW).contains 0x1302 = false ∧ (shakingW (shakeW none true)).freeIndex 0 = some 0 ∧
    (KMap.get 0 full.cwy.hs = some (shakeW none true) ∧ full.freeIndex 0 = none) ∧ (key8.serving = true ∧ KMap.get 8 key8.csn.keys = some (keyW 0x0A01)) ∧
    rdy.session 5 = none ∧ rdy.hsOf 5 = none ∧ KMap.get 0 rdy.cwy.hs = none ∧ KMap.get 8 rdy.csn.keys = none := by decide +kernel

/-- PENDING entry 5 with its handshake; a client Finished verifies or not as the standard's check, uninterpreted here, says. -/
def pendW (inbox : List (Nat × Nat × Bytes)) : Session := { sessW 1 with state := 1, inbox := inbox }

theorem test_hyp_Handshakes_pending :
    let s (y : Session) (p : PairState) := pairW p (shakingW (shakeW (some 5) true) (withSess y))
    (∀ y ∈ [pendW [], pendW [(2, 22, [20])], sessW 1, { pendW [(2, 22, [20])] with twinWait := true }], (s y .unpaired).serving = true ∧ (s y .unpaired).session 5 = some y ∧
      (s y .unpaired).hsOf 5 = some (0, shakeW (some 5) true)) ∧ finishedOk (pendW []) = false ∧ (sessW 1).state = 2 ∧
    (s (pendW []) .unpaired).entryWaits = false ∧ (s (pendW []) .inStep).entryWaits = true ∧
    (s (pendW [(2, 22, [20])]) .inStep).session 5 = some (pendW [(2, 22, [20])]) ∧ (s (pendW [(2, 22, [20])]) .inStep).hsOf 5 = some (0, shakeW (some 5) true) := by decide +kernel

theorem test_hyp_Handshakes_finished (b : Bool) (h : Config.stdCheck .finished 0x0901 [[20]] = b) : finishedOk (pendW [(2, 22, [20])]) = b := h

/-- A record of session 5 in the pipeline. -/
def recW (kind stage : Nat) (data : Bytes) : Rec :=
  { session := 5, vi := 0, kind := kind, port := 0, datagram := 0, first := true, last := true, data := data, path := pathW, alt := false, recnum := 0,
    slot := KeySlot.empty, slotId := 0, stamp := 0, stage := stage, restarts := 0 }
def recsW (r : Rec) (y : Session) : State := let s := withSess y; { s with cwy := { s.cwy with recs := [(0, r)], nextRec := 1 } }

theorem test_hyp_RecordPath_slots :
    let hold (p : Nat) : State := rdy.modPort p (fun x => { x with hold := [{ session := 5, datagram := none, taken := 0, frame := [] }] })
    let x := fetchedW (descW 0x0501)
    let look : State := { withJob x with cwy := { rdy.cwy with lookaside := [0] } }
    State.reset.clocked = false ∧ (rdy.slotWork 0 = false ∧ rdy.slotWork 1 = false ∧ rdy.slotWork 4 = false) ∧
    (∀ p ∈ [0, 1], (hold p).clocked = true ∧ (hold p).slotWork p = true ∧ (hold p).slotWork (1 - p) = false ∧ (hold p).slotWork 4 = false) ∧
    (look.clocked = true ∧ look.slotWork 0 = false ∧ look.slotWork 1 = false ∧ look.nextLookaside = some (0, x) ∧ dOp x.desc ≠ 0x0505) := by decide +kernel

theorem test_hyp_RecordPath_receive :
    let short : Bytes := [0x20, 0] ++ zeros 17
    let esp : Bytes := beBytes 4 7 ++ beBytes 4 1 ++ zeros 26
    let x := sessW 1
    let y := { sessW 2 with rx := { (sessW 2).rx with top := 2000 } }
    (∀ k ∈ [1, 2], (recsW (recW k 0 []) (sessW k)).clocked = true ∧ (recsW (recW k 0 []) (sessW k)).nextRec k = some (0, recW k 0 [])) ∧
    ((recsW (recW 1 0 []) { x with state := 3 }).session 5 = some { x with state := 3 }) ∧ ((recsW (recW 1 0 []) x).session 5 = some x ∧ x.state = 2 ∧ parseDtls [] = none) ∧
    ((parseDtls short).map (fun h => (decide (h.cid = x.cid 5), decide (h.hdrLen + h.len ≤ short.length), decide (17 ≤ h.len), decide (h.len ≤ x.maxPlaintext + 272))) =
      some (true, true, true, true) ∧ x.slotFor (rd short 0 1 % 4) = none) ∧
    ((recsW (recW 2 0 (zeros 33)) (sessW 2)).session 5 = some (sessW 2) ∧ (zeros 33).length < 34) ∧
    ((recsW (recW 2 0 esp) y).session 5 = some y ∧ y.state = 2 ∧ 34 ≤ esp.length ∧ rdBe esp 0 4 = y.rx.spi ∧ y.esn = false ∧ rdBe esp 4 4 = 1 ∧ y.rx.admits 1 = false) := by
  decide +kernel

theorem test_hyp_RecordPath_verdicts :
    let q : HeldRec := { port := 0, recnum := 0, content := 23, stamp := 0, data := [1], path := pathW }
    let y := { sessW 1 with held := [q] }
    (∀ k ∈ [1, 2], ∀ st ∈ [3, 4], (recsW (recW k st []) (sessW k)).decidedRec 5 k = some (0, recW k st [], sessW k)) ∧ (rdy.decidedRec 5 1 = none ∧ rdy.decidedRec 5 2 = none) ∧
    ((withSess (sessW 1)).session 5 = some (sessW 1) ∧ (sessW 1).held = []) ∧
    ((withSess y).session 5 = some y ∧ y.held = [q] ∧ (withSess y).clocked = true ∧ y.state = 2 ∧ ((withSess y).ring y.vi (16 + y.rx.ring)).enable = true) := by decide +kernel

theorem test_hyp_RecordPath_lanes :
    let w (isRec : Bool) : LaneWork := { isRec := isRec, id := 0, vi := 0, cls := 0, cost := 1, queuedAt := 0 }
    let x : Job := { runW (descW 0x0501) with stage := .computed }
    let s (queue work : List LaneWork) : State :=
      { recsW (recW 1 2 []) (sessW 1) with jobs := [(0, x)], lne := { rdy.lne with onDuty := 1, lanes := [(0, { Lane.reset with state := .run, work := work })], queue := queue } }
    (rdy.chosenLane ≠ some 0 ∧ rdy.nextLaneWork = none) ∧
    ((s [w true] []).clocked = true ∧ (s [w true] []).chosenLane = some 0 ∧ (s [w true] []).nextLaneWork.map (fun p => p.1.isRec) = some true ∧ ((s [w true] []).lane 0).state = .run) ∧
    ((s [] [w true]).clocked = true ∧ ((s [] [w true]).lane 0).work = [w true] ∧ (s [] [w true]).rxRec 0 = some (recW 1 2 [])) ∧
    (((s [] [w false]).lane 0).work = [w false] ∧ (s [] [w false]).job 0 = some x ∧ x.abortBy = none ∧ x.stage = .computed) ∧ (rdy.lane 0).state ≠ .run := by decide +kernel

/-- Session 5 as given, at second 1,000. -/
def lateW (y : Session) : State := { withSess y with time := 100000000000 }

theorem test_hyp_SessionTimersAndTransmit_keyUpdates :
    let k : Session := { sessW 1 with inbox := [(0, 22, [24])] }
    let alt : Session := { k with altValid := true, alt := { id := 4, slot := KeySlot.empty, floor := 0 } }
    let top : Session := { k with rx := { k.rx with epoch := 65535 } }
    let ack : Session := { sessW 1 with inbox := [(0, 26, [])], tx := { (sessW 1).tx with kuWait := true } }
    let wait (n : Nat) : Session := { sessW 1 with tx := { (sessW 1).tx with kuWait := true, kuTries := n } }
    rdy.session 5 = none ∧ (∀ y ∈ [k, alt, top, ack, sessW 1, wait 0, wait 15], (withSess y).session 5 = some y ∧ (withSess y).clocked = true) ∧ rd [24] 0 1 = 24 ∧
    k.state = 2 ∧ (alt.altValid = true ∧ alt.alt.id = alt.rx.epoch + 1) ∧ top.rx.epoch = 65535 ∧ top.altValid = false ∧ k.rx.epoch < 65535 ∧ rdy.entryWaits = false ∧
    ack.tx.kuWait = true ∧ (sessW 1).inbox = [] ∧ (sessW 1).tx.kuWait = false ∧ rdy.timersRun 0 = true ∧ bits (rdy.reg Reg.cwyCtl) 23 20 ≤ (wait 15).tx.kuTries ∧
    (wait 0).tx.kuTries < bits (rdy.reg Reg.cwyCtl) 23 20 ∧ rdy.spn.waits = [] := by decide +kernel

theorem test_hyp_SessionTimersAndTransmit_limits :
    let alt : Session := { sessW 1 with altValid := true, alt := { id := 2, slot := KeySlot.empty, floor := 0 } }
    let hard (n : Nat) : Session := { sessW 1 with hardAtS := n }
    let ckpt : Session := { sessW 1 with rx := { (sessW 1).rx with ckptCount := 1 } }
    let lease : Session := { sessW 1 with tx := { (sessW 1).tx with leaseReq := true } }
    (∀ y ∈ [alt, hard 1000, hard 1001, hard 0, ckpt, sessW 1, lease], (lateW y).session 5 = some y ∧ (lateW y).timersRun y.vi = true) ∧
    (alt.kind = 1 ∧ alt.state = 2 ∧ alt.estS + bits ((lateW alt).reg Reg.cwyCtl) 31 24 ≤ (lateW alt).second) ∧ (sessW 1).altValid = false ∧
    (lateW (hard 1000)).second = 1000 ∧ ckpt.rx.ckptCount ≠ 0 ∧ (sessW 1).rx.ckptCount = 0 ∧ (sessW 1).tx.leaseReq = false ∧
    (lease.tx.leaseReq = true ∧ (lateW lease).paired = false ∧ ((lateW lease).grantSend lease).isSome = true) := by decide +kernel

/-- A transmit entry of session 5 for 16 B of application data. -/
def txW : Bytes := let b := octets [1, 0, 23, 0] ++ leBytes 4 5 ++ leBytes 8 0x1000 ++ leBytes 4 16 ++ leBytes 4 0 ++ zeros 4; b ++ leBytes 4 (crc32c b)

theorem test_hyp_SessionTimersAndTransmit_entries :
    let full : Session := { sessW 1 with tx := { (sessW 1).tx with seq := 1048576 } }
    let lane (st : LaneState) : State := { rdy with lne := { rdy.lne with spare := 1, lanes := [(0, { Lane.reset with state := st })] }, tol := { rdy.tol with grants := [(1, 0)] } }
    (State.reset.clocked = false ∧ (rdy.ring 0 33).enable = false) ∧
    (rdy.clocked = true ∧ (rdy.ring 0 32).enable = true ∧ (rdy.ring 0 32).dist (rdy.ring 0 32).fetchIdx (rdy.ring 0 32).tail ≠ 0 ∧ rdy.viFetches 0 = true) ∧
    rdy.txRefused 0 (padTo 32 []) = some St.descCheck ∧
    (∀ y ∈ [full, sessW 1], (withSess y).txRefused 0 (padTo 32 txW) = none ∧ (withSess y).session (rd (padTo 32 txW) 4 4) = some y) ∧
    full.tx.leaseEnd ≤ full.tx.seq ∧ (sessW 1).tx.seq < (sessW 1).tx.leaseEnd ∧ ((withSess (sessW 1)).takeSlots (2 + (sessW 1).port) 1).isSome = true ∧
    (((lane .idle).lane 0).state ≠ .selftest ∧ ((lane .selftest).lane 0).state = .selftest ∧ (lane .selftest).hasToken 1 0 = true) := by decide +kernel

def entW (e : Ent) : State := { rdy with ent := { e with ready := true, drbgOk := true } }

theorem test_hyp_EntropyCommands :
    let raw (l : LState) (d : DevState) : State := { rdy with lcs := { rdy.lcs with lstate := l, shown := l }, glb := { rdy.glb with dev := d } }
    State.reset.ent.ready = false ∧ (rdy.ent.ready = true ∧ rdy.ent.stateOf true = 0 ∧ rdy.fcl.pending.length < 31) ∧
    (∀ n ∈ [1, 2], ∀ b, (entW { Ent.reset with aState := n, bState := n, noEntropy := true }).ent.stateOf b = n) ∧
    (∀ n ∈ [0, 3], (entW { Ent.reset with reserve := n }).ent.reserve < 4 ∧ (entW { Ent.reset with reserve := n }).ent.noEntropy = false) ∧
    4 ≤ (entW { Ent.reset with reserve := 4 }).ent.reserve ∧ (rdy.ent.drbgOk = true ∧ rdy.ent.waiting = [] ∧ State.reset.ent.drbgOk = false) ∧
    nextRequest (entW { Ent.reset with waiting := [(3, .stipple 1), (1, .stipple 0)] }).ent.waiting = some (1, .stipple 0) ∧
    (rdy.rawAllowed = false ∧ (raw .trial .halted).glb.dev ≠ .ready) ∧ ((raw .trial .ready).rawAllowed = true ∧ (raw .trial .ready).glb.dev = .ready) := by decide +kernel

/-- The SPDM responder after some phase, with DEV_ID_ECDSA and a chain or without. -/
def doeW (p : SpdmPhase) (l : KMap SpdmSession := []) (v : Nat := 0x12) : State :=
  { rdy with doe := { Doe.reset with phase := p, version := v, sessions := l }, csn := { rdy.csn with keys := [(2, keyW 0x0712)], chain := some [1] } }
def spdmW (isOpen : Bool) : SpdmSession := { id := 1, isOpen := isOpen, secret := [], record := [], reqGen := 0, rspGen := 0, reqSeq := 0, rspSeq := 0 }
def reqW (v code a b n : Nat) : Bytes := octets [v, code, a, b] ++ zeros (n - 4)

theorem test_hyp_SpdmRequests_phases :
    let caps := octets [0x12, 0xE1] ++ zeros 18
    let alg := octets [0x12, 0xE3] ++ zeros 6 ++ leBytes 4 128 ++ leBytes 4 2 ++ zeros 16
    State.reset.glb.dev ≠ .ready ∧ rdy.glb.dev = .ready ∧ (rd (reqW 0x10 0x84 0 0 4) 1 1 = 0x84 ∧ rd (reqW 0x10 0x84 0 0 4) 0 1 = 0x10) ∧
    (rd caps 1 1 = 0xE1 ∧ rd caps 0 1 = 0x12 ∧ 20 ≤ caps.length ∧ (doeW .none).doe.phase ≠ .version ∧ (doeW .version).doe.phase = .version) ∧
    (rd alg 1 1 = 0xE3 ∧ (doeW .capabilities).doe.phase = .capabilities ∧ rd alg 0 1 = (doeW .capabilities).doe.version ∧ 32 ≤ alg.length ∧
      (rd alg 8 4).testBit 7 = true ∧ (rd alg 12 4).testBit 1 = true) ∧
    (∀ e ∈ [(0x81, 4), (0x82, 8), (0x83, 36), (0xE0, 4), (0xE4, 138)], ∀ v ∈ [0x10, 0x12], ∀ n ∈ [e.2 - 1, e.2], 2 < n → rd ((reqW v e.1 0 0 e.2).take n) 1 1 = e.1 ∧
      rd ((reqW v e.1 0 0 e.2).take n) 0 1 = v ∧ ((reqW v e.1 0 0 e.2).take n).length = n) ∧ (doeW .none).doe.phase ≠ .negotiated ∧ (doeW .none).doe.version = 0x12 := by
  decide +kernel

theorem test_hyp_SpdmRequests :
    let s := doeW .negotiated
    let bare : State := { s with csn := { s.csn with keys := [] } }
    let full := doeW .negotiated [(0, spdmW true), (1, spdmW false)]
    (s.glb.dev = .ready ∧ s.doe.phase = .negotiated ∧ s.doe.version = 0x12 ∧ s.doe.version ≠ 0x10) ∧
    (let r := octets [0x12, 0x82, 0, 0] ++ leBytes 2 51 ++ leBytes 2 1024; bits (rd r 2 1) 3 0 = 0 ∧ 8 ≤ r.length ∧ rd r 4 2 < s.spdmChain.length) ∧
    (∀ k ∈ [0, 1, 0xFF], (s.summaryHash k).isSome = true) ∧ (bare.canSign = false ∧ bare.doe.phase = .negotiated ∧ s.canSign = true ∧ s.ent.drbgOk = true) ∧
    (let r := reqW 0x12 0x83 0 0 36; rd r 1 1 = 0x83 ∧ 36 ≤ r.length ∧ rd r 2 1 = 0 ∧ rd r 3 1 = 0) ∧
    (let r := reqW 0x12 0xE0 0 0xFF 4; rd r 1 1 = 0xE0 ∧ 4 ≤ r.length ∧ rd r 2 1 = 0 ∧ rd r 3 1 = 0xFF) ∧
    (let r := reqW 0x12 0xE0 1 0 37; 37 ≤ r.length ∧ rd r 2 1 = 1 ∧ rd r 3 1 = 0 ∧ rd r 36 1 = 0) ∧
    (let r := reqW 0x12 0xE4 0 0 138; rd r 1 1 = 0xE4 ∧ 138 ≤ r.length ∧ rd r 3 1 = 0) ∧
    (full.doe.freeSession = none ∧ full.doe.phase = .negotiated ∧ s.doe.freeSession = some 0) ∧ KMap.get 0 s.doe.sessions = none ∧
    (KMap.get 0 full.doe.sessions = some (spdmW true) ∧ KMap.get 1 full.doe.sessions = some (spdmW false)) ∧
    (full.doe.wellMade 0xE9 4 (reqW 0x12 0xE9 1 0 4) = true ∧ rd (reqW 0x12 0xE9 1 0 4) 2 1 = 1) ∧ full.doe.wellMade 0xE5 52 (reqW 0x12 0xE5 0 0 52) = true := by decide +kernel

/-- The requester's point has no defect where the standard's check, uninterpreted here, passes. -/
theorem test_hyp_SpdmRequests_point (h : checkStd .pointOnCurve 0x0712 0 [4 :: slice (reqW 0x12 0xE4 0 0 138) 40 96] = true) :
    pointDefect 0x0712 (4 :: slice (reqW 0x12 0xE4 0 0 138) 40 96) = none := by
  have h1 : rd (4 :: slice (reqW 0x12 0xE4 0 0 138) 40 96 : Bytes) 0 1 = 4 := by decide +kernel
  have h2 : ¬(fieldPrime 0x0712 ≤ rdBe (4 :: slice (reqW 0x12 0xE4 0 0 138) 40 96 : Bytes) 1 (((4 :: slice (reqW 0x12 0xE4 0 0 138) 40 96 : Bytes).length - 1) / 2) ∨
    fieldPrime 0x0712 ≤ rdBe (4 :: slice (reqW 0x12 0xE4 0 0 138) 40 96 : Bytes) (1 + ((4 :: slice (reqW 0x12 0xE4 0 0 138) 40 96 : Bytes).length - 1) / 2)
      (((4 :: slice (reqW 0x12 0xE4 0 0 138) 40 96 : Bytes).length - 1) / 2)) := by decide +kernel
  simp only [pointDefect, h1, h2, h, ne_eq, not_true_eq_false, if_false, Bool.not_true, Bool.false_eq_true]

/-- Open session 0, VI 1 in a TDI state, the keys of stream 0 in use or not. -/
def tdiW (t : Tdi) (going : List Nat) (nonces : KMap Bytes := []) : State :=
  { rdy with vis := [(0, viW 0), (1, { viW 1 with tdi := t })]
             doe := { Doe.reset with version := 0x12, phase := .negotiated, sessions := [(0, spdmW true)], going := going, keys := [(0, zeros 40)], nonces := nonces } }

theorem test_hyp_IdeAndTdisp :
    State.reset.glb.dev ≠ .ready ∧ (rdy.glb.dev = .ready ∧ KMap.get 0 rdy.doe.sessions = none) ∧ KMap.get 1 (doeW .negotiated [(1, spdmW false)]).doe.sessions = some (spdmW false) ∧
    ((tdiW .unlocked []).glb.dev = .ready ∧ KMap.get 0 (tdiW .unlocked []).doe.sessions = some (spdmW true) ∧ (spdmW true).isOpen = true) ∧
    ((zeros 40).length = 40 ∧ (tdiW .unlocked []).doe.going.contains (idePlace 0 false 0 false) = false ∧ (zeros 39).length ≠ 40 ∧
      (tdiW .unlocked [0]).doe.going.contains (idePlace 0 false 0 false) = true ∧ KMap.get (idePlace 0 false 0 false) (tdiW .unlocked []).doe.keys = some (zeros 40)) ∧
    (1 ≤ (tdiW .unlocked []).glb.numVfs ∧ State.reset.glb.numVfs < 1) ∧ (∀ t ∈ [Tdi.unlocked, .locked, .run, .error], ((tdiW t []).vi 1).tdi = t) ∧
    0 < ((tdiW .locked []).interfaceReport 1).length ∧ (tdiW .unlocked []).doe.streamSet 0 = false ∧
    ((tdiW .unlocked (List.range 12)).doe.streamSet 0 = true ∧ (tdiW .unlocked (List.range 12)).ent.drbgOk = true) ∧
    (KMap.get 1 (tdiW .locked [] [(1, [7])]).doe.nonces = some [7] ∧ KMap.get 1 (tdiW .locked [] [(1, [7])]).doe.nonces ≠ some [8]) := by decide +kernel

/-- The device paired, in a state, with both link nonces and the span key of handle 7. -/
def linkW (p : PairState) (alive : Bool := false) : State :=
  { rdy with spn := { rdy.spn with pair := p, ourNonce := some (zeros 32), peerNonce := some (zeros 32), hbAlive := alive, link := true }
             csn := { rdy.csn with keys := [(7, keyW 0x0A09 0 (zeros 32))] } }

/-- A protected frame without payload and with a tag of zeros. -/
def dataW (typ seq : Nat) : Bytes := withCrc (spanHead typ 0 0 seq 0 ++ zeros 16)

theorem test_hyp_SpanLink :
    let dead : State := { rdy with spn := { rdy.spn with badLanes := 31 } }
    let hello := clearFrame tHello (zeros 32)
    let full : State := { linkW .inStep with spn := { (linkW .inStep).spn with sent := List.replicate 16384 { typ := 1, seq := 0, chan := 0, payload := [], bytes := [] } } }
    let lost (n : Nat) : State := { rdy with spn := { rdy.spn with badLanes := n } }
    State.reset.spanOn = false ∧ dead.spn.dead = true ∧ (rdy.spanOn = true ∧ rdy.spn.dead = false ∧ rdy.paired = false ∧ rdy.aligned = false) ∧
    (∀ f ∈ [[], hello.drop 1], frameWhole f = false) ∧ (∀ f ∈ [hello, dataW tIdle 0, dataW tData 0, dataW tNak 9], frameWhole f = true) ∧
    frameOf hello [tIdle, tData, tNak] = false ∧ (∀ f ∈ [dataW tIdle 0, dataW tData 0, dataW tNak 9], frameOf f [tIdle, tData, tNak] = true ∧ frameOf f [tHello] = false) ∧
    ((linkW .inStep).spanOn = true ∧ (linkW .inStep).spn.dead = false ∧ (linkW .inStep).aligned = true) ∧
    rd (dataW tData 0) 8 8 = (linkW .inStep).spn.rxSeq ∧ rd (dataW tNak 9) 8 8 ≠ (linkW .inStep).spn.rxSeq ∧
    (frameOf hello [tHello] = true ∧ rd hello 4 2 = 32 ∧ rd (clearFrame tHello (zeros 31)) 4 2 ≠ 32 ∧ frameWhole (clearFrame tHello (zeros 31)) = true) ∧
    (linkW .inStep).spn.sent.length < spanWindow ∧ (full.aligned = true ∧ spanWindow ≤ full.spn.sent.length) ∧
    (∀ p ∈ [PairState.syncing, .inStep], ∀ a ∈ [false, true], (linkW p a).spanOn = true ∧ (linkW p a).paired = true ∧ (linkW p a).spn.pair = p ∧ (linkW p a).spn.hbAlive = a) ∧
    ((lost 16).spanOn = true ∧ (lost 16).spn.badLanes.testBit 4 = true ∧ (lost 16).spn.badLanes.testBit 3 = false) := by decide +kernel

/-- A tag check of the standard, uninterpreted here, answers one of the two verdicts, each with its clause. -/
theorem test_hyp_SpanLink_tag (f : Bytes) : (linkW .inStep).spanTagOk f = true ∨ (linkW .inStep).spanTagOk f = false := by
  cases (linkW .inStep).spanTagOk f <;> simp

theorem test_hyp_TwinMessages :
    let s := linkW .inStep
    let y : Job := { readyW (descW 0x0B03) with stage := .ready }
    let wait (m : MirrorWait) : State := { s with jobs := [(0, y)], spn := { s.spn with waits := [(7, m)] } }
    let claim : State := { s with spn := { s.spn with fence := true, claim := some 0 } }
    let ends : State := { linkW .syncing with spn := { (linkW .syncing).spn with settled := true } }
    State.reset.spanOn = false ∧ (s.spanOn = true ∧ s.paired = true ∧ (KMap.get 7 s.csn.keys).isSome = true ∧ s.spn.hbCounter ≠ 2 ^ 32 - 1) ∧
    ({ s with spn := { s.spn with hbCounter := 2 ^ 32 - 1 } } : State).spn.hbCounter = 2 ^ 32 - 1 ∧ (s.hbValid [] = none ∧ s.hbValid (zeros 8) = none) ∧
    (claim.spn.fence = true ∧ claim.spn.claim.isSome = true ∧ claim.spanOn = true ∧ claim.paired = true) ∧ (s.spn.fence = false ∧ s.spn.pair = .inStep) ∧
    ((linkW .starting).spanOn = true ∧ (linkW .starting).spn.pair = .starting) ∧ rdy.aligned = false ∧ s.aligned = true ∧
    (([MirrorItem.unpair] : List MirrorItem).contains .unpair = true ∧ ([] : List MirrorItem).contains .unpair = false ∧
      (([] : List MirrorItem).foldl State.takeItem (linkW .linkDown)).settleSync.spn.pair ≠ .inStep ∧ (([] : List MirrorItem).foldl State.takeItem s).settleSync.spn.pair = .inStep) ∧
    KMap.get 7 s.spn.waits = none ∧ (KMap.get 7 (wait (.job 0)).spn.waits = some (.job 0) ∧ (wait (.job 0)).clocked = true ∧ (wait (.job 0)).job 0 = some y ∧ y.stage ≠ .waiting) ∧
    (ends.spanOn = true ∧ ends.spn.pair = .syncing ∧ ends.spn.settled = true ∧ ends.spn.link = true) := by decide +kernel

/-- A word under the key of R569 that is tried first is valid. -/
theorem test_hyp_TwinMessages_word : (linkW .inStep).hbValid (hbWord ((linkW .inStep).hbKey 0 0) (hbHead 6 false 5)) = some (0, 0) := by
  let w := hbWord ((linkW .inStep).hbKey 0 0) (hbHead 6 false 5)
  have h1 : w.length = 8 ∧ rd w 0 1 / 16 = 0xB := by decide +kernel
  have h2 : w.take 5 = hbHead 6 false 5 := rfl
  have h3 : (linkW .inStep).spn.hbTries = (0, 0) :: (0, 1) :: (List.range 15).map (fun i => (1 + i, 0)) := by decide +kernel
  have h4 : (linkW .inStep).spn.hbCount = none := rfl
  change (linkW .inStep).hbValid w = _
  simp only [State.hbValid, h1, h2, h3, h4, ne_eq, not_true_eq_false, or_self, if_false]
  have h5 : decide (hbWord ((linkW .inStep).hbKey 0 0) (hbHead 6 false 5) = w) = true := decide_eq_true rfl
  simp only [List.find?_cons, h5, Bool.or_true, Bool.and_self]

/-- A BLANK or TRIAL device with its target, and a burn under way or not. -/
def burnW (l : LState) (b : Option Burn) (target : Bytes := [0, 0, 0, 0, 0xFF]) : State :=
  { rdy with lcs := { rdy.lcs with lstate := l, shown := l, burn := b, reqTarget := target, debugOpen := true } }

theorem test_hyp_LifeCycleEvents :
    let b (drain : Bool) : Burn := { target := .edition, code := zeros 5, asker := .testPort, steps := [.byte 0x60 1], draining := drain }
    let busy : State := { burnW .proof (some (b true)) with jobs := [(0, fetchedW (descW 0x0F00))] }
    let up (s : State) : Bool := decide (s.testOpen = true ∧ s.glb.dev ≠ .off ∧ s.glb.dev ≠ .islandOnly ∧ s.glb.dev ≠ .reset ∧ s.glb.dev ≠ .romBoot)
    rdy.lcs.burn = none ∧ (busy.lcs.burn = some (b true) ∧ busy.drainedJobs ≠ []) ∧
    (∀ d ∈ [true, false], (burnW .proof (some (b d))).lcs.burn = some (b d) ∧ (burnW .proof (some (b d))).drainedJobs = [] ∧ (b d).steps = [.byte 0x60 1]) ∧
    rdy.testOpen = false ∧ (up (burnW .blank (some (b false))) = true ∧ (burnW .blank (some (b false))).lcs.burn.isSome = true) ∧
    (up (burnW .blank none) = true ∧ (burnW .blank none).lcs.burn = none ∧ rd (burnW .blank none).lcs.reqTarget 0 4 = 0) ∧
    (burnW .trial none (zeros 5)).planBurn (zeros 5) = none ∧ (up (burnW .trial none (zeros 5)) = true) ∧
    ((burnW .blank none).planBurn [0, 0, 0, 0, 0xFF]).map (·.1) = some .cancelled := by decide +kernel

theorem test_hyp_LifeCycleEvents_testPort :
    State.reset.testPortUp = false ∧ (∀ l ∈ [LState.blank, .trial, .proof, .edition, .restrike, .cancelled], (burnW l none).testPortUp = true ∧ (burnW l none).lcs.shown = l) ∧
    rdy.scanOpen = false ∧ ((burnW .proof none).scanOpen = true ∧ (0x10 : Byte).toNat = 0x10 ∧ (0x7F : Byte).toNat = 0x7F) ∧
    ((burnW .proof none).winPowered 0 0 = true ∧ (burnW .proof none).winPowered 4 0x80000 = true ∧ ({ burnW .proof none with tol := Tol.reset } : State).winPowered 2 0 = false) ∧
    (burnW .trial none).testOpen = true := by decide +kernel

def devW (d : DevState) (l : LState := .edition) : State :=
  { rdy with glb := { rdy.glb with dev := d }, lcs := { rdy.lcs with lstate := l, shown := l }, island := { rdy.island with vbat := true } }
def hitW : XhHit := { source := 1, detA := true, detB := false, injected := false }

theorem test_hyp_CrosshatchEvents :
    let dark : State := { devW .off with island := { Island.reset with vbat := false } }
    let split : State := { rdy with xh := { rdy.xh with pending := some { hits := [hitW], resp := 4 }, cfgA := [(1, 0)] } }
    let armed (l : List XhHit) : State := { devW .off with island := { Island.reset with pendingErase := l } }
    let loop : State := { rdy with island := { rdy.island with loopEn := 8 } }
    xhSource 0 = none ∧ (rdy.monitors 1 = true ∧ (devW .off).monitors 1 = false ∧ onIsland 1 = false ∧ onIsland 0x3D = false ∧ onIsland 0x40 = true ∧ onIsland 0x47 = true) ∧
    dark.islandUp = false ∧ (∀ i ∈ [1, 8, 0x10, 0x19, 0x38, 0x40, 0x47], (xhSource i).isSome = true) ∧
    (loop.island.loopEn.testBit (0x43 - 0x40) = true ∧ loop.mainPower = true ∧ rdy.island.loopEn = 0 ∧ 0x44 ≤ (0x47 : Byte).toNat) ∧
    (rdy.xh.pending = none ∧ split.xh.pending = some { hits := [hitW], resp := 4 }) ∧
    (rdy.mainPower = true ∧ (devW .off).mainPower = false ∧ rdy.xh.cfgA = rdy.xh.cfgB ∧ split.mainPower = true ∧ split.xh.cfgA ≠ split.xh.cfgB) ∧
    ((devW .off).islandUp = true ∧ (devW .off).island.pendingErase = [] ∧ (armed [hitW]).islandUp = true ∧ (armed [hitW]).island.pendingErase = [hitW]) := by decide +kernel

theorem test_hyp_CrosshatchWrites :
    let halt (x : Xh) : State := { devW .halted with xh := { x with halted := true }, island := { (devW .halted).island with deferred := some { sev := 2, source := 1, rtcSec := 0, rtcSub := 0, ran := false } } }
    let old := rdy.xhCfg 1
    let weaker (w : Nat) : Bool := decide ((cfgLaid old w).2.2 < bits old 2 0 ∨ bits old 15 8 < (cfgLaid old w).1 ∨ bits old 31 16 < (cfgLaid old w).2.1)
    let busy : State := { rdy with xh := { rdy.xh with srcs := [(1, { XhSrc.reset with count := 1 })] } }
    (State.reset.glb.dev ≠ .ready ∧ State.reset.glb.dev ≠ .halted) ∧ rdy.glb.dev = .ready ∧ (devW .halted).glb.dev = .halted ∧ (devW .halted).mayResume = false ∧
    (halt Xh.reset).mayResume = true ∧ (halt Xh.reset).resume.island.deferred.map (·.sev) = some 2 ∧
    (onIsland (bits (0x40 : Word).toNat 7 0) = true ∧ (xhSource (bits (0x40 : Word).toNat 7 0)).isSome = true ∧ onIsland (bits (0x101 : Word).toNat 7 0) = false) ∧
    (xhSource 1 = some (1, 1, 4, false) ∧ xhSource 0x3E = some (1, 1, 2, true) ∧ rdy.xh.locked = false) ∧
    ({ rdy with xh := { rdy.xh with locked := true } } : State).xh.locked = true ∧
    (weaker 3 = true ∧ weaker 5 = false ∧ rdy.lcs.shown ≠ .blank ∧ rdy.lcs.shown ≠ .trial ∧ rdy.lcs.shown ≠ .proof) ∧ (rdy.xhQuiet = true ∧ busy.xhQuiet = false) ∧
    (rdy.lcs.shown = .edition ∧ (devW .ready .proof).lcs.shown ≠ .edition ∧ (devW .ready .proof).lcs.shown ≠ .restrike) := by decide +kernel

def entryW (seq : Nat) : LogEntry :=
  { seq := seq, source := 0x100, cause := 5, cls := .contained, injected := false, acked := false, escalated := false, hostAck := false, stamp := 0, addr := 0, syndrome := 0, vi := 0, tag := 0 }
def fclW (f : Fcl → Fcl) (d : DevState := .ready) : State := { rdy with fcl := f rdy.fcl, glb := { rdy.glb with dev := d } }

theorem test_hyp_FaultCommands :
    let two := fclW (fun x => { x with pending := [entryW 3, entryW 4] })
    let inj (target : Nat) : State := rdy.setReg Reg.fclInjTarget target
    let place (t : Nat) : Nat × Bool := (unitOf (bits ((inj t).reg Reg.fclInjTarget) 15 0), instOk (unitOf (bits ((inj t).reg Reg.fclInjTarget) 15 0)) (bits ((inj t).reg Reg.fclInjTarget) 15 0 % 256))
    (KMap.get 0xFF00 rdy.fcl.armed = none ∧ rdy.reports (0xFF00 / 256) (0xFF00 % 256) = false) ∧ (rdy.fcl.pending = [] ∧ two.fcl.pending = [entryW 3, entryW 4]) ∧
    State.reset.glb.dev ≠ .ready ∧ two.glb.dev = .ready ∧ (∀ e ∈ two.fcl.pending, e.seq ≠ (5 : Word).toNat) ∧ (entryW 4 ∈ two.fcl.pending ∧ (entryW 4).seq = (4 : Word).toNat) ∧
    (∀ m ∈ [0, 1, 2, 3, 15], injMode (BitVec.ofNat 32 (m * 2 ^ 28 + 0x1F00)) = m) ∧ (place 0x1001).1 = uXh ∧ (place 0x148 = (uBurin, false) ∧ place 0x147 = (uBurin, true) ∧ uBurin ≠ uXh) ∧
    (rdy.drf.testing.testBit 9 = false ∧ ({ rdy with drf := { Drf.reset with testing := 512 } } : State).drf.testing.testBit 9 = true) := by decide +kernel

/-- A maintenance activity that runs, started or on patrol. -/
def actW (a : Nat) (started : Bool) (f : Fcl → Fcl := id) (d : DevState := .ready) : State :=
  fclW (fun x => f { x with acts := [(a, { Activity.reset with mstate := 1, started := started, run := 1 })] }) d

theorem test_hyp_MaintenanceEvents :
    let commit := actW 4 true (fun x => { x with uncommitted := [1] })
    let last := actW 4 true (fun x => { x with uncommitted := [0xFFFFFFFF] })
    (∀ a ∈ [1, 2, 3], rdy.actRuns a = false ∧ ∀ b ∈ [true, false], (actW a b).actRuns a = true ∧ (actW a b).fcl.armed = [] ∧ ((actW a b).act a).started = b) ∧
    State.reset.glb.dev ≠ .ready ∧ (rdy.glb.dev = .ready ∧ rdy.fcl.targeted = [] ∧ (actW 3 false).fcl.targeted = [] ∧ (actW 3 false).glb.dev = .ready) ∧
    (∀ a ∈ [4, 5, 6], rdy.startedRuns a = false ∧ (actW a true).startedRuns a = true ∧ (actW a true).glb.dev = .ready) ∧ (actW 4 true).nextCommit = none ∧
    (∀ s ∈ [commit, last], s.startedRuns 4 = true ∧ s.glb.dev = .ready) ∧ commit.nextCommit = some 1 ∧ last.nextCommit = some 0xFFFFFFFF ∧ commit.freeSlots.head? = some 0 ∧
    ((actW 6 true id .falsework).glb.dev = .falsework ∧ ((actW 6 true).act 6).job = none) := by decide +kernel

/-- No slot of the repair map is free where a copy of each holds a word. -/
theorem test_hyp_MaintenanceEvents_full : ({ actW 4 true (fun x => { x with uncommitted := [1] }) with
    lcs := { rdy.lcs with otp := (List.range 128).map (fun k => (slotAt 0 k, 1)) } } : State).freeSlots = [] := by decide +kernel

def tolW (f : Tol → Tol) (d : DevState := .ready) : State := { rdy with tol := f rdy.tol, glb := { rdy.glb with dev := d } }

theorem test_hyp_TollhouseAndPorts :
    let sum (w : Word) : Nat := bits w.toNat 31 24 + bits w.toNat 23 16 + bits w.toNat 15 8 + bits w.toNat 7 0
    let busy := pierW { Pier.reset with burins := [(0, { Burin.reset with job := some 0 })] } (runW (descW 0x0301))
    let off := tolW (fun x => { x with pd := 0 })
    (State.reset.mainPower = true ∧ State.reset.glb.released = false) ∧ (rdy.mainPower = true ∧ rdy.glb.released = true ∧ rdy.glb.dev = .ready ∧ State.reset.glb.dev ≠ .ready) ∧
    ({ rdy with glb := { rdy.glb with dev := .off } } : State).mainPower = false ∧
    (sum 0x19191919 = 100 ∧ sum 0x19191918 = 99 ∧ sum 0x1919191A = 101) ∧ (rdy.twinWaits = false ∧ (pairW .inStep).twinWaits = true ∧ (pairW .inStep).glb.dev = .ready) ∧
    rdy.pdOn 0 = rdy.pdWanted 0 ∧ (rdy.pdOn 3 = true ∧ rdy.pdWanted 3 = false ∧ rdy.pdIdle 3 = true) ∧ (busy.pdOn 3 = true ∧ busy.pdWanted 3 = false ∧ busy.pdIdle 3 = false) ∧
    (off.pdOn 20 = false ∧ off.pdWanted 20 = true ∧ off.glb.dev = .ready) ∧ State.reset.glb.pll = false := by decide +kernel

theorem test_hyp_TollhouseAndPorts_supply :
    let ask (o : Option Nat) (n : Nat) := tolW (fun x => { x with asking := o, attempts := n })
    let post := tolW id .post
    let held := tolW (fun x => { x with avsOk := false }) .post
    let recal : State := actW 9 true
    let x : Job := { runW (descW 0x0301) with reading := some 32, stage := .fetched, inputDone := false }
    (post.mainPower = true ∧ post.glb.pll = true ∧ post.tol.asking = none ∧ post.glb.dev ≠ .ready ∧ post.tol.vddMv < 850) ∧
    (∀ n ∈ [0, 79, 80, 120], n ≤ 120 ∧ ({ held with tol := { held.tol with slack := n, high := 0 } } : State).avsHeld = true ∧
      ({ post with tol := { post.tol with slack := n, high := 0 } } : State).avsHeld = false) ∧
    (∀ o ∈ [some 0, some 805], (ask o 3).tol.asking = o ∧ 3 ≤ (ask o 3).tol.attempts) ∧ rdy.startedRuns 9 = false ∧
    (recal.startedRuns 9 = true ∧ recal.clocked = true ∧ recal.tol.avsOk = true ∧ recal.tol.asking = none ∧ recalSteps recal.tol.vddMv [] = []) ∧
    (rdy.job 0 = none ∧ (withJob (runW (descW 0x0301))).job 0 = some (runW (descW 0x0301)) ∧ (runW (descW 0x0301)).reading = none) ∧
    ((withJob x).job 0 = some x ∧ x.reading = some 32 ∧ (withJob x).dmaOk x.vi = true) := by decide +kernel

def supplyW (dev : DevState) (released pll vbat : Bool) : State :=
  { rdy with glb := { rdy.glb with dev := dev, released := released, pll := pll }, island := { rdy.island with vbat := vbat } }

theorem test_hyp_PowerAndReset :
    let waits (b : Bool) := supplyW .reset false false b
    (∀ b ∈ [true, false], (supplyW .off false false b).mainPower = false ∧ (supplyW .off false false b).island.vbat = b ∧
      (waits b).mainPower = true ∧ (waits b).glb.released = false ∧ (waits b).lcs.burn = none ∧ (waits b).island.vbat = b ∧ (waits b).xh.pending = none) ∧
    (rdy.mainPower = true ∧ rdy.glb.released = true ∧ rdy.glb.dev = .ready ∧ rdy.lcs.burn = none ∧ (waits true).glb.dev ≠ .ready ∧ (0x54455353 : Word) ≠ 0x54455352) ∧
    (let s := supplyW .reset true false true; s.glb.released = true ∧ s.glb.pll = false ∧ s.glb.dev = .reset) ∧ rdy.glb.pll = true ∧
    (rdy.glb.dev ≠ .reset ∧ rdy.glb.dev ≠ .halted) := by decide +kernel

/-- The device at an early point of start-up, its OTP bytes listed. -/
def startW (d : DevState) (otp : SMap Byte := []) (l : LState := .edition) : State :=
  { State.reset with glb := { rdy.glb with dev := d }, lcs := { Lcs.reset with otp := otp, lstate := l, shown := l, explained := true },
                     fcl := { Fcl.reset with mapRead := true }, tol := { rdy.tol with pd := 2 ^ 28 - 1 } }

/-- OTP after the steps of a burn that were done. -/
def burntW (l : List BurnStep) : SMap Byte :=
  l.foldl (fun m x => match x with | .byte a v => SMap.set (fun _ => (0 : Byte)) a v m | _ => m) []

theorem test_hyp_StartUp_rom :
    let b : Burn := { target := .edition, code := zeros 5, asker := .testPort, steps := [], draining := false }
    let burning : State := { startW .romBoot with lcs := { (startW .romBoot).lcs with burn := some b } }
    let intent := startW .romBoot (burntW ((startW .romBoot).intentSteps [0xFF, 0, 0, 0, 0]))
    let badFlash : State := { startW .romBoot with flash := { Flash.reset with layout := zeros 256 } }
    State.reset.glb.dev ≠ .romBoot ∧ burning.lcs.burn.isSome = true ∧
    ((startW .romBoot).glb.dev = .romBoot ∧ (startW .romBoot).lcs.burn = none ∧ (startW .romBoot).decodeCode = .is .blank ∧ (startW .romBoot).island.deferred = none) ∧
    (startW .romBoot [(stateAt 0 4, 1)]).decodeCode = .unexplained ∧ intent.decodeCode = .forward [0xFF, 0, 0, 0, 0] ∧
    (∀ l ∈ [LState.blank, .cancelled, .edition], (startW .romBoot [] l).fcl.mapRead = true ∧ (startW .romBoot [] l).lcs.lstate = l ∧ (startW .romBoot [] l).lcs.explained = true) ∧
    layoutOk badFlash.flash.layout = false ∧ (layoutOk (startW .romBoot).flash.layout = true ∧ (startW .romBoot).flash.trial = none) := by decide +kernel

theorem test_hyp_StartUp_firmware :
    (startW .fwVerify).glb.dev = .fwVerify ∧ (∀ b, (startW .fwVerify).imageVerifies ((startW .fwVerify).slotOf b) = false) ∧ State.reset.glb.dev ≠ .fwVerify ∧
    (startW .fwVerify).bootOrder.head? = some false ∧ (startW .fwVerify).glb.trial = false ∧ State.reset.glb.dev ≠ .post := by decide +kernel

/-- The first slot's image verifies where the standard's check, uninterpreted here, passes. -/
theorem test_hyp_StartUp_image (h : Config.stdCheck .flashImage 0 [imageW.take 256, (imageW.drop 256).take 4627, (imageW.drop 256).drop 4627] = true) :
    let s : State := { startW .fwVerify with flash := { Flash.reset with slotA := imageW } }
    s.glb.dev = .fwVerify ∧ s.bootOrder.head? = some false ∧ s.imageVerifies (s.slotOf false) = true := by
  intro s
  refine ⟨rfl, by decide +kernel, ?_⟩
  have h1 : s.imageSigned imageW = true := test_image_signed s (by decide +kernel) h
  have h2 : decide (s.svnFloor ≤ rd imageW 12 4) = true := by decide +kernel
  change (s.imageSigned imageW && decide (s.svnFloor ≤ rd imageW 12 4)) = true
  rw [h1, h2]; rfl

/-- The device after the tests of POST that pass. -/
def postedW (s : State) : State :=
  ((({ s with fcl := { s.fcl with checked := true } } : State).startEntropy.postStep (fun t => t.testUnits [] 0 [])).postStep (fun t => t.xhTested [])).postStep
    (fun t => t.startCaisson false)

theorem test_hyp_StartUp_post :
    let u := ((({ startW .post with fcl := { (startW .post).fcl with checked := true } } : State).enterFalsework 6).reportAs (mkReport (src uEnt 3) 0x07 .fatal))
    (∀ l ∈ [LState.edition, .trial], (startW .post [] l).glb.dev = .post) ∧ (postedW (startW .post [] .trial)).glb.dev = .post ∧
    (postedW (startW .post [] .trial)).paired = false ∧ (postedW (startW .post)).glb.dev ≠ .post ∧ u.glb.dev ≠ .post ∧
    ([PostTest.entropy] : List PostTest).contains .entropy = true ∧ ([PostTest.entropy] : List PostTest).contains .checkers = false := by decide +kernel

/-- A device with one burned OTP byte. -/
def burnedW : State := { rdy with lcs := { rdy.lcs with otp := [(0x60, 1)] } }

theorem test_hyp_BurnedBitsStay : OtpForm burnedW ∧ ∃ t, step burnedW = .next t := ⟨(by decide +kernel : SMap.wf otpDef burnedW.lcs.otp = true), _, rfl⟩

/-! ### Worked examples and figures of the spec -/

/-- The state after a command. -/
def after (c : Instr) (s : State) : State := match exec c s with | .next t => t | _ => s

/-- The key of R231: an LMS key of H15 and W4 has a 60 B public key and 2,672 B signatures; XMSS-SHA2_10_256 2,500 B, XMSS^MT SHA2_20/2_256 4,963 B (R233). -/
theorem test_stateful_sizes : Alg.pkLen 0x0401 0 0x00010307 = 60 ∧ Alg.sigLen 0x0401 0 0x00010307 = 2672 ∧ Alg.sigLen 0x0402 0 1 = 2500 ∧ Alg.sigLen 0x0403 0 1 = 4963 := by
  decide +kernel

/-- The verification before R121: LEN_IN 4,040 B passes, 4,041 B is LENGTH_MISMATCH with DETAIL 0xFC8. -/
theorem test_verify_length :
    let d (n : Nat) := descW 0x0303 0x08000201 0 300 (lenIn := n)
    rdy.checkDispatch 0 rdy.strict (d 4040) = none ∧ rdy.checkDispatch 0 rdy.strict (d 4041) = some (0x0102, 0xFC8, 0) := by decide +kernel

/-- RECORD_OPEN with a 13 B unified header and length 0x044C implies 1,113 B (R62). -/
theorem test_record_implied : implied (descW 0x0504 2 8) none (octets [0x3C] ++ zeros 10 ++ octets [4, 0x4C] ++ zeros 51) = .is 1113 := by decide +kernel

/-- The encapsulation to Classic McEliece 6960119 with an inline key passes check 10 at 1,047,319 B in and 202 B out. -/
theorem test_mceliece_encaps_lengths :
    let d (out : Nat) := descW 0x0202 0x0604 0x10040 0 (lenIn := 1047319) (outMax := out)
    rdy.checkDispatch 0 rdy.strict (d 202) = none ∧ (rdy.checkDispatch 0 rdy.strict (d 201)).isSome = true := by decide +kernel

/-- The node in the heat wave (R716): standing charges of 28.0 W, 40 W effective at 130.0 °C under 60 W, shares of 24, 2, 6 and 3 tokens with 0, 0.72, 0 and 0.03 W left. -/
theorem test_heat_wave :
    let on (p : Nat) (s : State) : State := s.setReg (Reg.portCtl p) (2 ^ 31 + 4 * 2 ^ 28 + 0xE4)
    let s := on 0 (on 1 { rdy with tol := { rdy.tol with effective := 160 } })
    rdy.budgetAt 2080 = 160 ∧ s.standing = 28000 ∧ s.poolMw = 12000 ∧ (List.range 4).map s.shareOf = [(24, 0), (2, 72000), (6, 0), (3, 3000)] := by decide +kernel

/-- TJ_SAMPLE at 130.0 °C. -/
theorem test_tj_sample : (after (.tjSample 2080) rdy).tol.effective = 160 ∧ (after (.tjSample 2080) rdy).tol.tjMax = 2080 := by decide +kernel

/-- The custody card: after SB_SEQ 41, NEXT_LBA 2,456 and HIGH_SEQ 300 the next unit goes to LBA 2,456 as SEQ 301 of snapshot 42 (R753). -/
theorem test_card_write_point :
    let sb : Bytes := zeros 8 ++ leBytes 8 41 ++ zeros 76 ++ leBytes 4 2064 ++ leBytes 4 48 ++ leBytes 4 2456 ++ leBytes 8 300
    ({ rdy with cus := { rdy.cus with lbas := 62500000, ruling := some sb } } : State).writePoint = (2456, 301, 42) := by decide +kernel

/-- A cancellation from EDITION leaves 0xFF_00FF_FFFF (R603). -/
theorem test_cancel_code : ({ rdy with lcs := { rdy.lcs with code := octets [0xFF, 0xFF, 0xFF, 0, 0], explained := true } } : State).cancelCode = leBytes 5 0xFF00FFFFFF := by
  decide +kernel

/-- An FLR of VF 17 counts VI_GEN from 0x0041 to 0x0042 (R535). -/
theorem test_flr_generation :
    let t := after (.flrVf 17) { rdy with vis := [(17, { viW 17 with gen := 0x41 })] }
    (t.vi 17).gen = 0x42 ∧ (t.vi 17).state = .resetting := by decide +kernel

/-- The peer's KeyUpdate in epoch 3 installs epoch 4 as the alternate slot (R415). -/
theorem test_peer_keyupdate :
    ((after (.peerKeyupdate 5) (withSess { sessW 1 with inbox := [(41211, 22, [24, 0, 0, 1, 0, 0, 0, 0, 0, 0, 0, 1, 0])] })).session 5).map (fun x => (x.rx.epoch, x.altValid, x.alt.id)) =
      some (3, true, 4) := by decide +kernel

/-- IDCODE answers 0x1644092F (R628). -/
theorem test_idcode : (after .idcode rdy).out = [.testPort (octets [0x2F, 0x09, 0x44, 0x16])] := by decide +kernel

/-- A single altered check bit is corrected, two are not (R680). -/
theorem test_syndromes : (List.range 5).map (fun i => syndromeCause (maskSyndrome (2 ^ i))) = [1, 1, 1, 1, 1] ∧ syndromeCause (maskSyndrome 3) = 2 ∧ syndromeCause (maskSyndrome 0) = 0 := by
  decide +kernel

/-- TOL_SHARE of 25 % each is taken, of 99 % in all is not (R717). -/
theorem test_share_sum :
    (after (.tolShareWrite 0x19191919) rdy).reg Reg.tolShare = 0x19191919 ∧ (after (.tolShareWrite 0x19191918) rdy).reg Reg.tolShare = rdy.reg Reg.tolShare := by decide +kernel

/-- GLB_RESET takes its key alone, and sets cause 4 (R725). -/
theorem test_glb_reset : (after (.glbReset 0x54455352) rdy).glb.dev = .reset ∧ (after (.glbReset 0x54455352) rdy).glb.cause = 4 ∧ (after (.glbReset 0) rdy).glb.dev = .ready := by decide +kernel

/-- A failed health test takes the source out of service; the third failure disables it (R505). -/
theorem test_health_failures :
    let one := after (.entHealthFailure false false) rdy
    one.ent.aState = 1 ∧ one.ent.aFails = 1 ∧ (after (.entHealthFailure false true) (entW { Ent.reset with aFails := 2 })).ent.aState = 2 := by decide +kernel

/-- A frame of 63 B and one with a wrong FCS count in their own counters (R365). -/
theorem test_frame_errors :
    let rx (f : Bytes) := after (.frameReceive 0 0 f (fecW false)) (portW 4)
    (rx (zeros 63)).reg (Reg.linkCtr 0 0 4) = 1 ∧ (rx (zeros 64)).reg (Reg.linkCtr 0 0 0xC) = 1 := by decide +kernel

/-- The command at the front of the queue runs, and an empty queue lets the clock go on (assumption log 15). -/
theorem test_step_front :
    (match step { rdy with pending := [.tjSample 100, .idcode] } with | .next t => decide (t.pending = [.idcode] ∧ t.tol.tj = 100) | _ => false) = true ∧
    (match step rdy with | .next t => decide (t.pending = []) | _ => false) = true := by decide +kernel

end Sys2Proof.Tests
end

section
/-! What an idle tick changes (R13, R638, R655), the state after reset (R725), and the statements of a step and of reset. -/

namespace Sys2Proof.Machine

/-! ### The idle tick -/

/-- The state after the island's part of an idle tick. -/
def State.islandTicked (s : State) : State := if s.islandUp then { s with island := s.island.tick } else s

theorem State.islandTicked_frame (s : State) : { s.islandTicked with island := s.island } = s := by
  unfold State.islandTicked
  split <;> rfl

/-- Main power and the release of reset are not the island's, so its tick does not decide whether TIMESTAMP counts. -/
theorem State.idle_eq (s : State) :
    s.idle = if s.ticks then ({ s.islandTicked with time := s.time + 1 } : State).settleSplits else s.islandTicked := by
  have hticks : s.islandTicked.ticks = s.ticks := (congrArg State.ticks s.islandTicked_frame :)
  have htime : s.islandTicked.time = s.time := (congrArg State.time s.islandTicked_frame :)
  rw [← hticks, ← htime]
  rfl

/-- Settling the reports of single detectors touches the Crosshatch and the count XH_SPLIT alone. -/
theorem State.settleSplits_frame (s : State) : { s.settleSplits with xh := s.xh, regs := s.regs } = s := by
  unfold State.settleSplits
  dsimp only
  split <;> rfl

/-- An idle tick touches nothing but TIMESTAMP, the island, the Crosshatch and the count XH_SPLIT. -/
theorem State.idle_frame (s : State) :
    { s.idle with time := s.time, island := s.island, xh := s.xh, regs := s.regs } = s := by
  have hisland : { s.islandTicked with time := s.time, island := s.island, xh := s.xh, regs := s.regs } = s :=
    congrArg (fun t : State => { t with time := s.time, xh := s.xh, regs := s.regs }) s.islandTicked_frame
  rw [State.idle_eq]
  split
  case isTrue =>
    have hsettle := State.settleSplits_frame { s.islandTicked with time := s.time + 1 }
    exact (congrArg (fun t : State => { t with time := s.time, island := s.island, xh := s.xh, regs := s.regs }) hsettle).trans hisland
  case isFalse => exact hisland

theorem State.idle_time (s : State) : s.idle.time = if s.mainPower ∧ s.glb.released then s.time + 1 else s.time := by
  have hticks : s.ticks = true ↔ s.mainPower ∧ s.glb.released := Bool.and_eq_true_iff
  rw [State.idle_eq]
  simp only [← hticks]
  split
  case isTrue => exact (congrArg State.time (State.settleSplits_frame { s.islandTicked with time := s.time + 1 }) :)
  case isFalse => exact (congrArg State.time s.islandTicked_frame :)

@[simp] theorem State.idle_pending (s : State) : s.idle.pending = s.pending := (congrArg State.pending s.idle_frame :)
@[simp] theorem State.idle_vis (s : State) : s.idle.vis = s.vis := (congrArg State.vis s.idle_frame :)
@[simp] theorem State.idle_rings (s : State) : s.idle.rings = s.rings := (congrArg State.rings s.idle_frame :)
@[simp] theorem State.idle_jobs (s : State) : s.idle.jobs = s.jobs := (congrArg State.jobs s.idle_frame :)
@[simp] theorem State.idle_replies (s : State) : s.idle.replies = s.replies := (congrArg State.replies s.idle_frame :)
@[simp] theorem State.idle_csn (s : State) : s.idle.csn = s.csn := (congrArg State.csn s.idle_frame :)
@[simp] theorem State.idle_lcs (s : State) : s.idle.lcs = s.lcs := (congrArg State.lcs s.idle_frame :)
@[simp] theorem State.idle_out (s : State) : s.idle.out = s.out := (congrArg State.out s.idle_frame :)

/-! ### A step, by the front of the queue -/

theorem step_of_pending_cons {s : State} {c : Instr} {rest : List Instr} (h : s.pending = c :: rest) :
    step s = exec c { s with pending := rest } := by
  unfold step
  rw [h]

theorem step_of_pending_nil {s : State} (h : s.pending = []) : step s = .next s.idle := by
  unfold step
  rw [h]

/-- Settles O1: the two cases of the queue, and the frame of an idle tick. -/
theorem stepRunsFrontCommand : Obligations.StepRunsFrontCommand :=
  ⟨fun _ _ _ => step_of_pending_cons,
    fun s h => ⟨s.idle, step_of_pending_nil h, s.idle_pending.trans h, s.idle_time, s.idle_vis, s.idle_rings, s.idle_jobs,
      s.idle_replies, s.idle_csn, s.idle_lcs, s.idle_out⟩⟩

/-! ### The state after reset -/

/-- The OTP table lists nothing at reset, so every byte reads unburned. -/
@[simp] theorem State.reset_otp (a : Nat) : State.reset.otp a = 0 := rfl

/-- The table of rings lists nothing at reset, so every ring stands at its own reset values. -/
@[simp] theorem State.reset_ring (v k : Nat) : State.reset.ring v k = Ring.reset := rfl

/-- Settles O58: the fields of the reset state as written there, and the two tables read back empty. -/
theorem resetState : Obligations.ResetState := by
  unfold Obligations.ResetState
  have hotp : ∀ a, State.reset.otp a = 0 := State.reset_otp
  have hrings : ∀ v k, (State.reset.ring v k).enable = false := fun v k => congrArg Ring.enable (State.reset_ring v k)
  exact ⟨rfl, rfl, rfl, rfl, rfl, rfl, rfl, rfl, rfl, rfl, rfl, rfl, hotp, hrings⟩

end Sys2Proof.Machine
end

section
/-! The exception path, the local address table and a link that falls (R28, R46, R75, R76, R82, R365, R375, R381). -/

namespace Sys2Proof.Machine

/-! ### What writing to a device-written ring can change -/

/-- A state with the host's view of a ring blotted out: VIs, rings and outputs. -/
def State.besideRings (s : State) : State := { s with vis := [], rings := [], out := [] }

@[simp] theorem State.besideRings_emit (s : State) (o : Out) : (s.emit o).besideRings = s.besideRings := rfl
@[simp] theorem State.besideRings_modVi (s : State) (v : Nat) (f : Vi → Vi) : (s.modVi v f).besideRings = s.besideRings := rfl
@[simp] theorem State.besideRings_setRing (s : State) (v k : Nat) (r : Ring) : (s.setRing v k r).besideRings = s.besideRings := rfl
@[simp] theorem State.besideRings_modRing (s : State) (v k : Nat) (f : Ring → Ring) : (s.modRing v k f).besideRings = s.besideRings := rfl
@[simp] theorem State.besideRings_ringLoss (s : State) (v k : Nat) : (s.ringLoss v k).besideRings = s.besideRings := rfl

/-- A message that is sent goes to the outputs; one left pending stays in its VI. -/
@[simp] theorem State.besideRings_sendMsix (s : State) (v vec : Nat) : (s.sendMsix v vec).besideRings = s.besideRings := by
  obtain ⟨-, -, h⟩ | ⟨-, h⟩ := s.sendMsix_cases v vec
  · rw [h, State.besideRings_emit]
  · rw [h, State.besideRings_modVi]

@[simp] theorem State.besideRings_countEntry (s : State) (v k : Nat) (notify : Bool) :
    (s.countEntry v k notify).besideRings = s.besideRings := by
  unfold State.countEntry
  dsimp only
  split
  case isTrue => rw [State.besideRings_sendMsix, State.besideRings_setRing]
  case isFalse => rw [State.besideRings_setRing]

/-- Writing an entry touches the ring, the VI of its interrupt and the outputs alone (R50, R83). -/
@[simp] theorem State.besideRings_writeEntry (s : State) (v k : Nat) (base : BitVec 64) (phAt : Nat) (e : Bytes) (notify : Bool) :
    (s.writeEntry v k base phAt e notify).besideRings = s.besideRings := by
  unfold State.writeEntry
  dsimp only
  rw [State.besideRings_countEntry, State.besideRings_setRing, State.besideRings_emit]

/-- So does data that finds room (R75, R76). -/
theorem State.besideRings_writeData {s t : State} {v k : Nat} {data : Bytes} {entry : Nat → Bytes}
    (h : s.writeData v k data entry = some t) : t.besideRings = s.besideRings := by
  unfold State.writeData at h
  dsimp only at h
  split at h
  case h_1 => cases h
  case h_2 off _ =>
    rw [← Option.some.inj h, State.besideRings_writeEntry, State.besideRings_modRing]
    split
    case isTrue => rfl
    case isFalse => rw [State.besideRings_emit]

/-! ### EXCEPTION_DELIVERY (R28, R46, R82) -/

/-- The oldest waiting frame goes to the exception ring of VI 0, or is dropped and counted against it. -/
def State.deliverException (s : State) (x : ExcItem) : State :=
  if !((s.ring 0 49).enable) then s.ringLoss 0 49
  else (s.writeData 0 49 x.frame (fun off => rxEntry x.reason false x.port 0 x.vi 0 off x.frame.length s.time)).getD (s.ringLoss 0 49)

theorem State.besideRings_deliverException (s : State) (x : ExcItem) : (s.deliverException x).besideRings = s.besideRings := by
  unfold State.deliverException
  split
  case isTrue => rw [State.besideRings_ringLoss]
  case isFalse =>
    cases h : s.writeData 0 49 x.frame (fun off => rxEntry x.reason false x.port 0 x.vi 0 off x.frame.length s.time) with
    | none => exact s.besideRings_ringLoss 0 49
    | some t => exact State.besideRings_writeData h

theorem exec_exceptionDelivery_idle {s : State} (h : s.clocked = false ∨ s.lpt.exc = []) : exec .exceptionDelivery s = .next s := by
  rw [exec_exceptionDelivery]
  unfold execExceptionDelivery
  obtain h | h := h <;> simp [h]

theorem exec_exceptionDelivery_cons {s : State} {x : ExcItem} {more : List ExcItem} (hclk : s.clocked = true) (hexc : s.lpt.exc = x :: more) :
    exec .exceptionDelivery s = .next (({ s with lpt := { s.lpt with exc := more } } : State).deliverException x) := by
  rw [exec_exceptionDelivery]
  unfold execExceptionDelivery
  rw [if_pos hclk, hexc]
  rfl

/-! ### The local address table (R375) -/

/-- A word staged for place `k` of entry `e` enters the table. -/
def stageWord (e : Nat) (staged : KMap Word) (m : SMap Word) (k : Nat) : SMap Word :=
  match KMap.get (e * 8 + k) staged with
  | some v => SMap.set wordDef (e * 8 + k) v m
  | none => m

theorem get_stageWord (e : Nat) (staged : KMap Word) (m : SMap Word) (k i : Nat) :
    SMap.get wordDef i (stageWord e staged m k) =
      if e * 8 + k = i then (KMap.get i staged).getD (SMap.get wordDef i m) else SMap.get wordDef i m := by
  unfold stageWord
  cases h : KMap.get (e * 8 + k) staged with
  | none =>
    by_cases hi : e * 8 + k = i
    · rw [if_pos hi, ← hi, h]; rfl
    · rw [if_neg hi]
  | some v =>
    dsimp only
    rw [SMap.get_set]
    by_cases hi : e * 8 + k = i
    · rw [if_pos hi, if_pos hi, ← hi, h]; rfl
    · rw [if_neg hi, if_neg hi]

/-- Words that are staged for several places of an entry: each place shows its own, and every other word stays. -/
theorem get_foldl_stageWord (e : Nat) (staged : KMap Word) (i : Nat) (l : List Nat) (m : SMap Word) :
    SMap.get wordDef i (l.foldl (stageWord e staged) m) =
      if ∃ k ∈ l, e * 8 + k = i then (KMap.get i staged).getD (SMap.get wordDef i m) else SMap.get wordDef i m := by
  induction l generalizing m with
  | nil => simp
  | cons a r ih =>
    rw [List.foldl_cons, ih, get_stageWord]
    cases KMap.get i staged <;> by_cases ha : e * 8 + a = i <;> simp [ha]

/-- The table after the last word of entry `e`: that word over the words staged for the entry. -/
theorem State.writeAddress_addr (s : State) (p e : Nat) (w : Word) :
    ((s.writeAddress p e w).port p).addr = SMap.set wordDef (e * 8 + 7) w ((List.range 7).foldl (stageWord e (s.port p).staged) (s.port p).addr) :=
  congrArg Port.addr (SMap.get_set_self portDef p _ s.lpt.ports)

theorem State.writeAddress_frame (s : State) (p e : Nat) (w : Word) : { s.writeAddress p e w with lpt := s.lpt } = s := rfl

theorem State.writeAddress_last (s : State) (p e : Nat) (w : Word) :
    SMap.get wordDef (e * 8 + 7) ((s.writeAddress p e w).port p).addr = w := by
  rw [State.writeAddress_addr, SMap.get_set_self]

theorem State.writeAddress_staged (s : State) (p e : Nat) (w : Word) {k : Nat} (hk : k < 7) :
    SMap.get wordDef (e * 8 + k) ((s.writeAddress p e w).port p).addr =
      (KMap.get (e * 8 + k) (s.port p).staged).getD (SMap.get wordDef (e * 8 + k) (s.port p).addr) := by
  rw [State.writeAddress_addr, SMap.get_set_ne _ (by omega), get_foldl_stageWord]
  exact if_pos ⟨k, List.mem_range.mpr hk, rfl⟩

theorem State.writeAddress_other (s : State) (p e : Nat) (w : Word) {i : Nat} (hi : i / 8 ≠ e) :
    SMap.get wordDef i ((s.writeAddress p e w).port p).addr = SMap.get wordDef i (s.port p).addr := by
  rw [State.writeAddress_addr, SMap.get_set_ne _ (by omega), get_foldl_stageWord]
  refine if_neg ?_
  rintro ⟨k, hk, rfl⟩
  have := List.mem_range.mp hk
  omega

/-! ### A link that falls (R365) -/

/-- A state with ports, registers and outputs blotted out. -/
def State.besidePorts (s : State) : State := { s with lpt := Lpt.reset, regs := [], out := [] }

@[simp] theorem State.besidePorts_emit (s : State) (o : Out) : (s.emit o).besidePorts = s.besidePorts := rfl
@[simp] theorem State.besidePorts_setReg (s : State) (a n : Nat) : (s.setReg a n).besidePorts = s.besidePorts := rfl
@[simp] theorem State.besidePorts_bump (s : State) (a n : Nat) : (s.bump a n).besidePorts = s.besidePorts := rfl
@[simp] theorem State.besidePorts_modPort (s : State) (p : Nat) (f : Port → Port) : (s.modPort p f).besidePorts = s.besidePorts := rfl
@[simp] theorem State.besidePorts_setPhase (s : State) (p k ph : Nat) : (s.setPhase p k ph).besidePorts = s.besidePorts := rfl

/-- The bit of a link and the PF's interrupt (R364): ports stay. -/
@[simp] theorem State.linkChanged_lpt (s : State) (p k : Nat) : (s.linkChanged p k).lpt = s.lpt := by
  unfold State.linkChanged
  dsimp only
  split
  case isTrue => rw [State.emit_lpt, State.setReg_lpt]
  case isFalse => rw [State.setReg_lpt]

@[simp] theorem State.besidePorts_linkChanged (s : State) (p k : Nat) : (s.linkChanged p k).besidePorts = s.besidePorts := by
  unfold State.linkChanged
  dsimp only
  split
  case isTrue => rw [State.besidePorts_emit, State.besidePorts_setReg]
  case isFalse => rw [State.besidePorts_setReg]

theorem State.linkChanged_lptInt (s : State) {p k : Nat} (h : 4 * p + k < 32) :
    ((s.linkChanged p k).reg Reg.lptInt).testBit (4 * p + k) = true := by
  have hset : ((s.setReg Reg.lptInt (s.reg Reg.lptInt ||| 2 ^ (4 * p + k))).reg Reg.lptInt).testBit (4 * p + k) = true := by
    rw [State.reg_setReg, if_pos rfl, Nat.testBit_mod_two_pow, Nat.testBit_or, Nat.testBit_two_pow_self]
    simp [h]
  unfold State.linkChanged
  dsimp only
  split <;> exact hset

/-- Link `k` of a port with nothing queued on it, in phase `ph`. -/
def Port.downLink (x : Port) (k ph : Nat) : Port := { x with txq := listSet x.txq k [], phases := listSet x.phases k ph }

/-- A link that leaves phase 4 moves to its new phase with an empty queue. -/
theorem State.linkFalls_port {s : State} {p k : Nat} (ph : Nat) (h : (s.port p).phases.getD k 0 = 4) :
    (s.linkFalls p k ph).port p = (s.port p).downLink k ph := by
  have hdown : ((s.modPort p (fun x => { x with txq := listSet x.txq k [] })).setPhase p k ph).port p = (s.port p).downLink k ph := by
    simp [State.setPhase, State.modPort, Port.downLink]
  unfold State.linkFalls
  rw [if_neg (not_not_intro h), ← hdown]
  dsimp only
  split
  case isTrue => exact congrArg (fun l : Lpt => SMap.get portDef p l.ports) (State.linkChanged_lpt ..)
  case isFalse => exact congrArg (fun l : Lpt => SMap.get portDef p l.ports) (State.linkChanged_lpt ..)

theorem State.linkFalls_lptInt {s : State} {p k : Nat} (ph : Nat) (hp : 4 * p + k < 32) (h : (s.port p).phases.getD k 0 = 4) :
    ((s.linkFalls p k ph).reg Reg.lptInt).testBit (4 * p + k) = true := by
  unfold State.linkFalls
  rw [if_neg (not_not_intro h)]
  exact State.linkChanged_lptInt _ hp

theorem State.besidePorts_linkFalls (s : State) (p k ph : Nat) : (s.linkFalls p k ph).besidePorts = s.besidePorts := by
  unfold State.linkFalls
  dsimp only
  split
  case isTrue => rw [State.besidePorts_setPhase]
  case isFalse =>
    rw [State.besidePorts_linkChanged]
    split
    case isTrue => rw [State.besidePorts_setPhase, State.besidePorts_modPort]
    case isFalse => rw [State.besidePorts_bump, State.besidePorts_setPhase, State.besidePorts_modPort]

theorem State.linkFalls_frame (s : State) (p k ph : Nat) :
    { s.linkFalls p k ph with lpt := s.lpt, regs := s.regs, out := s.out } = s :=
  congrArg (fun t : State => { t with lpt := s.lpt, regs := s.regs, out := s.out }) (s.besidePorts_linkFalls p k ph)

theorem getD_listSet_self {α : Type} (l : List α) {i : Nat} (a d : α) (h : i < l.length) : (listSet l i a).getD i d = a := by
  unfold listSet
  rw [List.getD_eq_getElem?_getD, List.getElem?_set_self h]
  rfl

/-- Settles O41: the frame of a delivery, the staged words of an entry, and a link that leaves phase 4. -/
theorem exceptionsAndAddresses : Obligations.ExceptionsAndAddresses := by
  intro s
  refine ⟨exec_exceptionDelivery_idle, ?delivery, ?address, ?link⟩
  case delivery =>
    intro x more hclk hexc
    have hbeside := ({ s with lpt := { s.lpt with exc := more } } : State).besideRings_deliverException x
    refine ⟨_, exec_exceptionDelivery_cons hclk hexc, ?_, ?_, ?_, ?_, ?_⟩
    · exact (congrArg (fun t : State => t.lpt.exc) hbeside :)
    · exact (congrArg State.csn hbeside :)
    · exact (congrArg State.jobs hbeside :)
    · intro hoff
      exact if_pos (congrArg Bool.not hoff)
    · intro hon
      exact if_neg (ne_true_of_eq_false (congrArg Bool.not hon))
  case address =>
    intro p e w
    exact ⟨s.writeAddress_last p e w, fun k hk => s.writeAddress_staged p e w hk, fun i hi => s.writeAddress_other p e w hi,
      s.writeAddress_frame p e w⟩
  case link =>
    intro p k h4 hph htx
    have hport := State.linkFalls_port 2 h4
    refine ⟨?_, ?_, State.linkFalls_lptInt 2 (by omega) h4, s.linkFalls_frame p.val k.val 2⟩
    · rw [hport]
      exact getD_listSet_self _ _ _ (by omega)
    · rw [hport]
      exact getD_listSet_self _ _ _ (by omega)

end Sys2Proof.Machine
end

section
/-! The inline handshake: intake, cookie key, PENDING, ESTABLISHED, failure (R15 to R18, R22, R82, R105, R391, R398, R404, R440). -/

namespace Sys2Proof.Machine

/-! ### A device that does not serve -/

/-- Without service no event of a handshake changes anything. -/
theorem exec_handshake_not_serving {s : State} (i : BitVec 24) (h : Nat) (suite : BitVec 16) (alert : Byte) (hserve : s.serving = false) :
    exec .handshakeIntake s = .next s ∧ exec .cookieKeyRotation s = .next s ∧ exec (.sessionPending h suite) s = .next s ∧
      exec (.sessionEstablished i) s = .next s ∧ exec (.handshakeFailed i alert) s = .next s := by
  rw [exec_handshakeIntake, exec_cookieKeyRotation, exec_sessionPending, exec_sessionEstablished, exec_handshakeFailed]
  unfold execHandshakeIntake execCookieKeyRotation execSessionPending execSessionEstablished execHandshakeFailed
  simp [hserve]

/-! ### HANDSHAKE_INTAKE (R15 to R17, R82) -/

theorem exec_handshakeIntake_nil {s : State} (h : s.lpt.intake = []) : exec .handshakeIntake s = .next s := by
  rw [exec_handshakeIntake]
  unfold execHandshakeIntake
  rw [h, ite_self]

theorem exec_handshakeIntake_cons {s : State} {x : Intake} {more : List Intake} (hserve : s.serving = true) (h : s.lpt.intake = x :: more) :
    exec .handshakeIntake s = .next (({ s with lpt := { s.lpt with intake := more } } : State).takeIntake x) := by
  rw [exec_handshakeIntake]
  unfold execHandshakeIntake
  rw [if_pos hserve, h]

theorem State.takeIntake_standby {s : State} {x : Intake} (h : s.standby x.vi = true) : s.takeIntake x = s.bump (Reg.spn 0x220) := by
  unfold State.takeIntake
  exact if_pos h

theorem State.takeIntake_stopped {s : State} {x : Intake} (hstandby : s.standby x.vi = false)
    (hstop : s.viFrozen x.vi = true ∨ (s.vi x.vi).state ≠ .running) : s.takeIntake x = s.bump Reg.vimHsDrop := by
  unfold State.takeIntake
  rw [if_neg (ne_true_of_eq_false hstandby), if_pos hstop]

/-- A datagram for a VI that serves, under the policy of the rule that it matched. -/
structure State.Takes (s : State) (x : Intake) (d : Ip) (policy : Bytes) : Prop where
  standby : s.standby x.vi = false
  frozen : s.viFrozen x.vi = false
  running : (s.vi x.vi).state = .running
  parsed : (parseEth x.frame).parse = .ip d
  ruled : (KMap.get x.rule s.cwy.rules).bind (fun r => KMap.get (rd r 6 1) (s.vi x.vi).policies) = some policy

/-- What is no ClientHello goes to the exception queue, a ClientHello is taken. -/
theorem State.Takes.takeIntake_eq {s : State} {x : Intake} {d : Ip} {policy : Bytes} (hx : s.Takes x d policy) :
    s.takeIntake x = (parseHello d.payload).elim (s.toException x.port 5 x.vi x.frame)
      (fun c => s.takeHello x policy d.v6 (pathOf (parseEth x.frame) d) c) := by
  unfold State.takeIntake
  rw [if_neg (ne_true_of_eq_false hx.standby), if_neg (by simp [hx.frozen, hx.running])]
  dsimp only
  rw [hx.parsed, hx.ruled]
  dsimp only
  cases parseHello d.payload <;> rfl

/-- Without a valid cookie a ClientHello is answered and leaves no state (R16). -/
theorem State.takeHello_retry {s : State} {p : Path} {c : ClientHello} (x : Intake) (policy : Bytes) (v6 : Bool)
    (h : s.cookieOk p c.cookie = false) : s.takeHello x policy v6 p c = s.sendUdp x.port 0 v6 p (s.helloRetry policy p c) := by
  unfold State.takeHello
  exact if_pos (congrArg Bool.not h)

/-- With a valid cookie, a share, a suite and a scheme that the policy and its server key take, the handshake starts (R17). -/
theorem State.takeHello_accept {s : State} {p : Path} {c : ClientHello} {policy : Bytes} {share : Nat × Bytes} {key : KeyRec} (x : Intake) (v6 : Bool)
    (hcookie : s.cookieOk p c.cookie = true) (hshare : chosenShare policy c = some share) (hsuite : (chosenSuite policy c).isSome = true)
    (hkey : s.key (rd policy 16 4) = some key) (hscheme : c.schemes.contains (serverScheme key.alg) = true) :
    s.takeHello x policy v6 p c = s.acceptHello x policy v6 p c share := by
  unfold State.takeHello
  dsimp only
  rw [if_neg (ne_true_of_eq_false (congrArg Bool.not hcookie)), hshare, hkey]
  exact if_pos ⟨hsuite, hscheme⟩

/-! ### COOKIE_KEY_ROTATION (R16, R440) -/

/-- A state with the DRBG's bookkeeping blotted out: draws, the entropy source and registers. -/
def State.besideDraws (s : State) : State := { s with draws := 0, ent := Ent.reset, regs := [] }

theorem State.besideDraws_takeBlock (s : State) : s.takeBlock.besideDraws = s.besideDraws := by
  unfold State.takeBlock
  split <;> rfl

theorem State.besideDraws_reseed (s : State) : s.reseed.besideDraws = s.besideDraws :=
  s.besideDraws_takeBlock

theorem State.besideDraws_nextDraw (s : State) : s.nextDraw.besideDraws = s.besideDraws := by
  unfold State.nextDraw
  dsimp only
  split
  case isTrue => exact State.besideDraws_reseed _
  case isFalse => rfl

theorem State.reseed_draws (s : State) : s.reseed.draws = s.draws := by
  unfold State.reseed State.takeBlock
  dsimp only
  split <;> rfl

theorem State.nextDraw_draws (s : State) : s.nextDraw.draws = s.draws + 1 := by
  unfold State.nextDraw
  dsimp only
  split
  case isTrue => exact State.reseed_draws _
  case isFalse => rfl

theorem exec_cookieKeyRotation_none {s : State} (h : KMap.get 8 s.csn.keys = none) : exec .cookieKeyRotation s = .next s := by
  rw [exec_cookieKeyRotation]
  unfold execCookieKeyRotation
  rw [h, ite_self]

/-- The cookie key's next value, drawn. -/
def State.redrawnCookieKey (s : State) (q : KeyRec) : State :=
  (s.setKey 8 { q with value := drawBytes s.draws 32, kgen := q.kgen + 1 }).nextDraw

theorem exec_cookieKeyRotation_some {s : State} {q : KeyRec} (hserve : s.serving = true) (h : KMap.get 8 s.csn.keys = some q) :
    exec .cookieKeyRotation s =
      .next { s.redrawnCookieKey q with csn := { (s.redrawnCookieKey q).csn with oldCookie := q.value } } := by
  rw [exec_cookieKeyRotation]
  unfold execCookieKeyRotation
  rw [if_pos hserve, h]
  rfl

theorem State.besideDraws_redrawnCookieKey (s : State) (q : KeyRec) : (s.redrawnCookieKey q).besideDraws =
    (s.setKey 8 { q with value := drawBytes s.draws 32, kgen := q.kgen + 1 }).besideDraws :=
  State.besideDraws_nextDraw _

/-! ### SESSION_PENDING (R18, R391, R398) -/

theorem exec_sessionPending_none {s : State} {h : Nat} (suite : BitVec 16) (hs : KMap.get h s.cwy.hs = none) :
    exec (.sessionPending h suite) s = .next s := by
  rw [exec_sessionPending]
  unfold execSessionPending
  rw [hs, ite_self]

/-- The entry stands already, the signature of the key exchange is missing, or the policy does not allow the suite (R18, R391). -/
theorem exec_sessionPending_refused {s : State} {h : Nat} {y : Handshake} {suite : BitVec 16} (hserve : s.serving = true)
    (hs : KMap.get h s.cwy.hs = some y)
    (hno : y.session.isSome = true ∨ y.signed = false ∨ (policySuites y.policy).contains suite.toNat = false) :
    exec (.sessionPending h suite) s = .next s := by
  rw [exec_sessionPending]
  unfold execSessionPending
  rw [if_pos hserve, hs]
  have hcond : (y.session.isSome || !y.signed || !((policySuites y.policy).contains suite.toNat)) = true := by
    obtain hno | hno | hno := hno
    · rw [hno]; rfl
    · rw [hno]; simp
    · rw [hno]; simp
  exact congrArg Host.Outcome.next (if_pos hcond)

/-- A signed handshake under an allowed suite takes a free index, or is given up. -/
theorem exec_sessionPending_signed {s : State} {h : Nat} {y : Handshake} {suite : BitVec 16} (hserve : s.serving = true)
    (hs : KMap.get h s.cwy.hs = some y) (hfresh : y.session = none) (hsigned : y.signed = true)
    (hsuite : (policySuites y.policy).contains suite.toNat = true) :
    exec (.sessionPending h suite) s =
      .next ((s.freeIndex y.vi).elim (s.delHs h) (fun n => (s.writePending h y suite.toNat n).sweepRekey)) := by
  rw [exec_sessionPending]
  unfold execSessionPending
  rw [if_pos hserve, hs]
  dsimp only
  rw [if_neg (by rw [hfresh, hsigned, hsuite]; decide)]
  cases s.freeIndex y.vi <;> rfl

/-! ### SESSION_ESTABLISHED (R391, R404) -/

theorem exec_sessionEstablished_absent {s : State} {i : BitVec 24} (h : s.session i.toNat = none ∨ s.hsOf i.toNat = none) :
    exec (.sessionEstablished i) s = .next s := by
  rw [exec_sessionEstablished]
  unfold execSessionEstablished
  dsimp only
  obtain h | h := h
  · rw [h, ite_self]
  · rw [h]
    split
    case h_1 hhs => cases hhs
    case h_2 => rfl

section Established

variable {s : State} {i : BitVec 24} {x : Session} {n : Nat} {y : Handshake}

/-- The session and its handshake stand: the change is refused, waits for the twin, or takes effect. -/
theorem exec_sessionEstablished_some (hserve : s.serving = true) (hx : s.session i.toNat = some x) (hy : s.hsOf i.toNat = some (n, y)) :
    exec (.sessionEstablished i) s = .next (if x.state ≠ 1 ∨ x.twinWait ∨ !(finishedOk x) then s
      else if s.entryWaits then
        (s.setSession i.toNat { x with twinWait := true }).mirror (.established i.toNat) [sessionItem i.toNat (s.establishedEntry x y.policy)]
      else s.finishEstablish i.toNat) := by
  rw [exec_sessionEstablished]
  unfold execSessionEstablished
  dsimp only
  rw [if_pos hserve, hx, hy]

theorem exec_sessionEstablished_refused (hserve : s.serving = true) (hx : s.session i.toNat = some x) (hy : s.hsOf i.toNat = some (n, y))
    (hno : x.state ≠ 1 ∨ x.twinWait = true ∨ finishedOk x = false) : exec (.sessionEstablished i) s = .next s := by
  have hno' : x.state ≠ 1 ∨ x.twinWait = true ∨ (!(finishedOk x)) = true := hno.imp_right (Or.imp_right (congrArg Bool.not))
  rw [exec_sessionEstablished_some hserve hx hy, if_pos hno']

/-- A PENDING entry whose client Finished verifies waits for the twin while paired, and takes effect at once else. -/
theorem exec_sessionEstablished_verified (hserve : s.serving = true) (hx : s.session i.toNat = some x) (hy : s.hsOf i.toNat = some (n, y))
    (hpending : x.state = 1) (hwait : x.twinWait = false) (hfin : finishedOk x = true) :
    exec (.sessionEstablished i) s = .next (if s.entryWaits then
        (s.setSession i.toNat { x with twinWait := true }).mirror (.established i.toNat) [sessionItem i.toNat (s.establishedEntry x y.policy)]
      else s.finishEstablish i.toNat) := by
  have hyes : ¬(x.state ≠ 1 ∨ x.twinWait = true ∨ (!(finishedOk x)) = true) := by simp [hpending, hwait, hfin]
  rw [exec_sessionEstablished_some hserve hx hy, if_neg hyes]

end Established

/-! ### HANDSHAKE_FAILED (R22) -/

theorem exec_handshakeFailed_none {s : State} {i : BitVec 24} (alert : Byte) (h : s.session i.toNat = none) :
    exec (.handshakeFailed i alert) s = .next s := by
  rw [exec_handshakeFailed]
  unfold execHandshakeFailed
  rw [h, ite_self]

theorem exec_handshakeFailed_some {s : State} {i : BitVec 24} {x : Session} (alert : Byte) (hserve : s.serving = true)
    (h : s.session i.toNat = some x) :
    exec (.handshakeFailed i alert) s = .next (if x.state = 1 then s.failHandshake i.toNat alert.toNat else s) := by
  rw [exec_handshakeFailed]
  unfold execHandshakeFailed
  rw [if_pos hserve, h]

/-! ### The statement -/

/-- Settles O42: each event by the outcomes that its own section gives. -/
theorem handshakes : Obligations.Handshakes := by
  intro s i h suite alert
  refine ⟨exec_handshake_not_serving i h suite alert, exec_handshakeIntake_nil, ?intake, ?cookie, ?pending, ?established,
    exec_sessionEstablished_absent, exec_handshakeFailed_none alert, exec_sessionPending_none suite, exec_cookieKeyRotation_none, ?failed⟩
  case intake =>
    intro x more hserve hintake
    rw [exec_handshakeIntake_cons hserve hintake]
    refine ⟨fun hstandby => ?_, fun hstandby hstop => ?_, fun d r policy hstandby hfrozen hrun hparse hrule hpolicy => ?_⟩
    · rw [State.takeIntake_standby hstandby]
    · rw [State.takeIntake_stopped hstandby hstop]
    · have hx : State.Takes _ x d policy := ⟨hstandby, hfrozen, hrun, hparse, by rw [hrule]; exact hpolicy⟩
      rw [hx.takeIntake_eq]
      refine ⟨fun hnone => ?_, fun c hc hcookie => ?_, fun c share key hc hcookie hshare hsuite hkey hscheme => ?_⟩
      · rw [hnone]; rfl
      · rw [hc, Option.elim_some, State.takeHello_retry x policy d.v6 hcookie]
      · rw [hc, Option.elim_some, State.takeHello_accept x d.v6 hcookie hshare hsuite hkey hscheme]
  case cookie =>
    intro q hserve hq
    have hbeside := s.besideDraws_redrawnCookieKey q
    have hkeys : (s.redrawnCookieKey q).csn.keys = KMap.put 8 { q with value := drawBytes s.draws 32, kgen := q.kgen + 1 } s.csn.keys :=
      (congrArg (fun t : State => t.csn.keys) hbeside :)
    refine ⟨_, exec_cookieKeyRotation_some hserve hq, ?_, rfl, fun n hn => ?_, State.nextDraw_draws _, ?_, ?_, ?_⟩
    · exact (congrArg (KMap.get 8) hkeys).trans (KMap.get_put_self ..)
    · exact (congrArg (KMap.get n) hkeys).trans ((KMap.get_put ..).trans (if_neg hn.symm))
    · exact (congrArg State.cwy hbeside :)
    · exact (congrArg State.out hbeside :)
    · exact (congrArg State.jobs hbeside :)
  case pending =>
    intro y hserve hy
    refine ⟨exec_sessionPending_refused hserve hy, fun hfresh hsigned hsuite => ?_⟩
    rw [exec_sessionPending_signed hserve hy hfresh hsigned hsuite]
    refine ⟨fun hnone => ?_, fun n hn => ?_⟩
    · rw [hnone, Option.elim_none]
    · rw [hn, Option.elim_some]
  case established =>
    intro x n y hserve hx hy
    refine ⟨exec_sessionEstablished_refused hserve hx hy, fun hpending hwait hfin halone => ?_, fun hpending hwait hfin htwin => ?_⟩
    · rw [exec_sessionEstablished_verified hserve hx hy hpending hwait hfin, if_neg (ne_true_of_eq_false halone)]
    · rw [exec_sessionEstablished_verified hserve hx hy hpending hwait hfin, if_pos htwin]
  case failed =>
    intro x hserve hx
    rw [exec_handshakeFailed_some alert hserve hx]
    exact ⟨fun hne => by rw [if_neg hne], fun heq => by rw [if_pos heq]⟩

end Sys2Proof.Machine
end

section
/-! A job that runs: what its engine's result leads to, once the effect of its opcode is known (R67, R278, R340). -/

namespace Sys2Proof.Machine

variable {s t : State} {j op : Nat} {x : Job} {r : Result} {needs : List Need}

theorem State.runJob_eq {f : State → Job → State × Result × List Need} (h : s.startable j op = some x) (hf : f s x = (t, r, needs)) :
    s.runJob j op f = t.finishJob j r needs := by
  rw [State.runJob_of f h, hf]

theorem State.runAction_eq {f : State → Job → State × Result × List Need} (h : s.startable j op = some x) (ha : x.abortBy = none)
    (hf : f s x = (t, r, needs)) : s.runAction j op f = (t.finishJob j r needs).settleDrains := by
  rw [State.runAction_of f h ha, hf]

theorem State.runEngine_eq {f : State → Job → State × Result} (h : s.startable j op = some x) (hf : f s x = (t, r)) :
    s.runEngine j op f = t.computed j r := by
  rw [State.runEngine_of f h, hf]

theorem State.runGraver_eq {f : State → Job → State × Result × List Need} (h : s.startable j op = some x) (hf : f s x = (t, r, needs)) :
    s.runGraver j op true f = t.finishJob j r needs := by
  rw [State.runGraver_sound f h, hf]

theorem State.runBurin_good_eq {f : State → Job → State × Result} (h : s.startable j op = some x) (hf : f s x = (t, r))
    (hr : statusOk r.status = true) : s.runBurin j op f = t.burinComputed j r := by
  rw [State.runBurin_good f h (by rw [hf]; exact hr), hf]

theorem State.runBurin_fails_eq {f : State → Job → State × Result} (h : s.startable j op = some x) (hf : f s x = (t, r))
    (hr : statusOk r.status = false) : s.runBurin j op f = t.finishJob j r [] := by
  rw [State.runBurin_fails f h (by rw [hf]; exact hr), hf]

@[simp] theorem statusOk_okWith (det : Nat) (payload : Bytes) : statusOk (okWith det payload).status = true := rfl
@[simp] theorem statusOk_okEff (det : Nat) (payload : Bytes) (e : List Effect) : statusOk (okEff det payload e).status = true := rfl
@[simp] theorem statusOk_okKeys (det : Nat) (payload : Bytes) (ks : List KeyRec) (e : List Effect) :
    statusOk (okKeys det payload ks e).status = true := rfl

@[simp] theorem State.nextDraw_jobs (s : State) : s.nextDraw.jobs = s.jobs := (congrArg State.jobs s.besideDraws_nextDraw :)

/-- A burin's good result that needs no counterproof stands in its job (R193). -/
theorem State.runBurin_plain {f : State → Job → State × Result} (h : s.startable j op = some x) (hf : f s x = (t, r))
    (hr : statusOk r.status = true) (hjobs : t.jobs = s.jobs) (hn : needsCounterproof x.desc = false) : s.runBurin j op f = t.computed j r := by
  have hjob : t.job j = some x := (congrArg (KMap.get j) hjobs).trans (State.startable_some h).1
  rw [State.runBurin_good_eq h hf hr, State.burinComputed_plain r hjob hn]

end Sys2Proof.Machine
end

section
/-! What the effects of jobs change at the commit point (R105, R110, R138, R139, R153, R243, R475, R526). -/

namespace Sys2Proof.Machine

variable {s : State}

/-! ### A quota record (R526, R558) -/

/-- What an interrupt message leaves of a VI: everything but its pending vectors. -/
def Vi.besidePba (x : Vi) : Vi := { x with pba := [] }

theorem State.besidePba_sendMsix (s : State) (v vec : Nat) : ((s.sendMsix v vec).vi v).besidePba = (s.vi v).besidePba := by
  obtain ⟨-, -, h⟩ | ⟨-, h⟩ := s.sendMsix_cases v vec
  · rw [h]
    rfl
  · rw [h, State.vi_modVi, if_pos rfl]
    rfl

/-- Raising a status bit changes the bit and the pending vectors of its VI alone (R85). -/
theorem State.besidePba_raiseStatus (s : State) (v b : Nat) : ((s.raiseStatus v b).vi v).besidePba =
    { (s.vi v).besidePba with intStatus := (s.vi v).intStatus ||| BitVec.ofNat 4 (2 ^ b) } := by
  unfold State.raiseStatus
  dsimp only
  split
  case isTrue =>
    rw [State.besidePba_sendMsix, State.vi_setVi, if_pos rfl]
    rfl
  case isFalse =>
    rw [State.vi_setVi, if_pos rfl]
    rfl

/-- The TDI of a VI once a quota record applies: ERROR where its resources move under a locked or running TDI (R558). -/
def Vi.quotaTdi (x : Vi) (q : Quota) : Tdi :=
  if decide (x.quota.sessionBase ≠ q.sessionBase ∨ x.quota.sessions ≠ q.sessions ∨ x.quota.handles ≠ q.handles) &&
    decide (x.tdi = .locked ∨ x.tdi = .run) then .error else x.tdi

theorem State.besidePba_putQuota (s : State) (v : Nat) (q : Quota) : ((s.putQuota v q).vi v).besidePba =
    { (s.vi v).besidePba with quota := q, tdi := (s.vi v).quotaTdi q, intStatus := (s.vi v).intStatus ||| BitVec.ofNat 4 (2 ^ 2) } := by
  unfold State.putQuota
  dsimp only
  rw [State.besidePba_raiseStatus, State.vi_modVi, if_pos rfl]
  rfl

theorem State.putQuota_quota (s : State) (v : Nat) (q : Quota) : ((s.putQuota v q).vi v).quota = q :=
  (congrArg Vi.quota (s.besidePba_putQuota v q) :)

theorem State.putQuota_changed (s : State) (v : Nat) (q : Quota) : ((s.putQuota v q).vi v).intStatus.getLsbD 2 = true := by
  have h : ((s.putQuota v q).vi v).intStatus = (s.vi v).intStatus ||| 4#4 := (congrArg Vi.intStatus (s.besidePba_putQuota v q) :)
  rw [h, BitVec.getLsbD_or, show (4#4).getLsbD 2 = true from by decide, Bool.or_true]

theorem State.putQuota_error {v : Nat} {q : Quota} (ht : (s.vi v).tdi = .locked ∨ (s.vi v).tdi = .run)
    (hq : (s.vi v).quota.sessionBase ≠ q.sessionBase ∨ (s.vi v).quota.sessions ≠ q.sessions ∨ (s.vi v).quota.handles ≠ q.handles) :
    ((s.putQuota v q).vi v).tdi = .error := by
  have h : ((s.putQuota v q).vi v).tdi = (s.vi v).quotaTdi q := (congrArg Vi.tdi (s.besidePba_putQuota v q) :)
  rw [h]
  exact if_pos (by rw [decide_eq_true hq, decide_eq_true ht]; rfl)

theorem State.putQuota_frame (s : State) (v : Nat) (q : Quota) : { s.putQuota v q with vis := s.vis, out := s.out } = s :=
  (congrArg (fun t : State => { t with vis := s.vis, out := s.out }) (State.raiseStatus_frame (s.modVi v _) v 2) :)

/-! ### The other tables -/

theorem State.applyEffect_setRule {slot : Nat} {rule : Bytes} (h : rd rule 0 1 ≠ 0) :
    s.applyEffect (.setRule slot rule) = { s with cwy := { s.cwy with rules := KMap.put slot rule s.cwy.rules } } :=
  congrArg (fun r => ({ s with cwy := { s.cwy with rules := r } } : State)) (if_neg h)

theorem State.applyEffect_deleteRule {slot : Nat} {rule : Bytes} (h : rd rule 0 1 = 0) :
    s.applyEffect (.setRule slot rule) = { s with cwy := { s.cwy with rules := KMap.del slot s.cwy.rules } } :=
  congrArg (fun r => ({ s with cwy := { s.cwy with rules := r } } : State)) (if_pos h)

/-- A key's ATTR changes without a mark unless the twin is lost (R470). -/
theorem State.applyEffect_setAttr {h : Nat} {a : BitVec 32} (hl : s.twinLost = false) :
    s.applyEffect (.setAttr h a) = s.modKey h (fun k => { k with attr := a }) := by
  have hlost : (s.setAttr h a).twinLost = false := hl
  exact if_neg (ne_true_of_eq_false hlost)

theorem State.applyEffect_logoutAll (s : State) : s.applyEffect (.logout 0xFF) = { s with csn := { s.csn with officers := [] } } := by
  simp [State.applyEffect]

/-! ### The statement -/

/-- Settles O12: each effect by the table that it writes. -/
theorem effectsAtCommit : Obligations.EffectsAtCommit := by
  intro s
  refine ⟨fun v slot input => rfl, fun slot rule => State.applyEffect_setRule, fun slot rule => State.applyEffect_deleteRule, fun v q => ?quota,
    fun h a => State.applyEffect_setAttr, fun h => rfl, fun h g => rfl, fun h n => rfl, fun h n => rfl, fun h i => rfl, fun mask image => rfl,
    fun v a => rfl, fun v p => rfl, fun v l => rfl, fun v u on => rfl, fun o slot => rfl, s.applyEffect_logoutAll⟩
  case quota => exact ⟨s.putQuota_quota v q, s.putQuota_changed v q, State.putQuota_error, s.putQuota_frame v q⟩

end Sys2Proof.Machine
end

section
/-! The session and flow-rule opcodes (R104 to R110, R386, R413, R417). -/

namespace Sys2Proof.Machine

variable {s : State} {j : Nat} {x : Job} {y : Session} {k : KeyRec}

/-! ### SESSION_POLICY_SET and FLOW_RULE_SET (R105, R110) -/

theorem doPolicySet_sound (h : s.policyDefect x.vi x.input = none) :
    doPolicySet s x = (s, okEff 0 [] [.setPolicy x.vi (bits (dP0 x.desc) 3 0) x.input], s.tableNeeds) := by
  unfold doPolicySet; rw [h]

theorem doPolicySet_defect {st : Nat} (h : s.policyDefect x.vi x.input = some st) : doPolicySet s x = (s, failWith st 0, []) := by
  unfold doPolicySet; rw [h]

theorem doRuleSet_sound (h : s.badRule x.input = false) :
    doRuleSet s x = (s, okEff 0 [] [.setRule (bits (dP0 x.desc) 11 0) x.input], s.tableNeeds) :=
  if_neg (ne_true_of_eq_false h)

theorem doRuleSet_bad (h : s.badRule x.input = true) : doRuleSet s x = (s, failWith St.badEncoding 0, []) := if_pos h

/-! ### SESSION_INSTALL (R106, R386) -/

theorem doInstall_sound {n : Nat} (hk : x.key = some k) (h : s.saDefect x.vi x.input k.alg = none) (hn : s.freeIndex x.vi = some n) :
    doInstall j s x = ({ s with cwy := { s.cwy with reserved := KMap.put j n s.cwy.reserved } },
      okEff 0 (leBytes 4 n) [.installSa n x.vi x.input k.value], s.tableNeeds) := by
  unfold doInstall
  dsimp only
  rw [hk, Option.getD_some, h, hn]

theorem doInstall_defect {d : Nat} (hk : x.key = some k) (h : s.saDefect x.vi x.input k.alg = some d) :
    doInstall j s x = (s, failWith St.badEncoding d, []) := by
  unfold doInstall
  dsimp only
  rw [hk, Option.getD_some, h]

/-! ### A session that the VI owns, or does not (R104) -/

theorem State.ownSession_own (h : s.session (bits (dP0 x.desc) 23 0) = some y) (hv : y.vi = x.vi) :
    s.ownSession x = some (bits (dP0 x.desc) 23 0, y) := by
  unfold State.ownSession
  dsimp only
  rw [h]
  exact if_pos hv

theorem State.ownSession_none
    (h : s.session (bits (dP0 x.desc) 23 0) = none ∨ ∃ y, s.session (bits (dP0 x.desc) 23 0) = some y ∧ y.vi ≠ x.vi) :
    s.ownSession x = none := by
  unfold State.ownSession
  dsimp only
  obtain h | ⟨y, h, hv⟩ := h
  · rw [h]
  · rw [h]
    exact if_neg hv

/-! ### SESSION_REMOVE and SESSION_QUERY (R108, R109) -/

theorem doRemove_none (h : s.ownSession x = none) : doRemove s x = (s, failWith St.inputInvalid 0, []) := by
  unfold doRemove; rw [h]

theorem doRemove_silent {i : Nat} (h : s.ownSession x = some (i, y)) (hq : y.kind ≠ 1 ∨ (dP0 x.desc).testBit 32 = false) :
    doRemove s x = (s, okEff 0 [] [.removeSession i], s.tableNeeds) := by
  have hno : ¬(y.kind = 1 ∧ (dP0 x.desc).testBit 32 = true) := fun ⟨hk, hb⟩ => hq.elim (· hk) (fun hf => absurd hb (ne_true_of_eq_false hf))
  unfold doRemove
  rw [h]
  dsimp only
  rw [if_neg hno]

theorem doQuery_none (h : s.ownSession x = none) : doQuery s x = (s, failWith St.inputInvalid 0, []) := by
  unfold doQuery; rw [h]

theorem doQuery_own {i : Nat} (h : s.ownSession x = some (i, y)) : doQuery s x = (s, okWith 0 (s.sessionReport y), []) := by
  unfold doQuery; rw [h]

/-! ### SESSION_REKEY (R107, R417, R419) -/

theorem exec_sessionRekey_free (h : s.rekeyHeld j = false) : exec (.sessionRekey j) s = .next (s.runJob j 0x0103 (doRekey j)) := by
  rw [exec_sessionRekey]
  exact congrArg Host.Outcome.next (if_neg (ne_true_of_eq_false h))

theorem doRekey_none (h : s.ownSession x = none) : doRekey j s x = (s, failWith St.inputInvalid 0, []) := by
  unfold doRekey
  dsimp only
  rw [h]

/-- An established ESP session takes a key of its own algorithm and, where it is inbound, a free SPI. -/
theorem doRekey_esp {i : Nat} (h : s.ownSession x = some (i, y)) (hst : y.state = 2) (hkind : y.kind = 2) (hk : x.key = some k)
    (halg : k.alg = y.alg) (hspi : y.outbound = true ∨ s.spiFree i y (dP1 x.desc) = true) :
    doRekey j s x = (s, okEff 0 [] [.rekeySa i (dP1 x.desc) k.value], s.tableNeeds) := by
  have htaken : ¬((!y.outbound && !(s.spiFree i y (dP1 x.desc))) = true) := by
    obtain ho | hf := hspi
    · simp [ho]
    · simp [hf]
  unfold doRekey
  dsimp only
  rw [h]
  dsimp only
  rw [if_neg (not_not_intro hst), if_neg (by omega), hk]
  dsimp only
  rw [if_neg (not_not_intro halg), if_neg htaken]

/-- An established DTLS session without a KEY_HANDLE starts a KeyUpdate. -/
theorem doRekey_dtls {i : Nat} (h : s.ownSession x = some (i, y)) (hst : y.state = 2) (hkind : y.kind = 1) (hk : dKey x.desc = noKey)
    (hspi : dP1 x.desc = 0) (hlive : (((s.startKeyUpdate i (some j)).sweepRekey).session i).isSome = true) :
    doRekey j s x = ((s.startKeyUpdate i (some j)).sweepRekey, okEff 0 [] [.rekeyDtls i], [.peerAck]) := by
  unfold doRekey
  dsimp only
  rw [h]
  dsimp only
  rw [if_neg (not_not_intro hst), if_pos hkind, if_neg (not_not_intro hk), if_neg (not_not_intro hspi), if_pos hlive]

/-! ### The statement -/

/-- Settles O13: each opcode by what its rule answers on the session, policy or rule it names. -/
theorem sessionOpcodes : Obligations.SessionOpcodes := by
  intro s j x
  refine ⟨?policy, ?policyBad, ?install, ?installBad, ?esp, ?dtls, ?rekeyNone, ?remove, ?removeNone, ?query, ?queryNone, ?rule, ?ruleBad⟩
  case policy => exact fun h hd => congrArg _ (State.runJob_eq h (doPolicySet_sound hd))
  case policyBad => exact fun st h hd => congrArg _ (State.runJob_eq h (doPolicySet_defect hd))
  case install => exact fun k n h hk hd hn => congrArg _ (State.runJob_eq h (doInstall_sound hk hd hn))
  case installBad => exact fun k d h hk hd => congrArg _ (State.runJob_eq h (doInstall_defect hk hd))
  case esp =>
    intro y k h hheld hown hst hkind hk halg hspi
    rw [exec_sessionRekey_free hheld, State.runJob_eq h (doRekey_esp (State.ownSession_own hown.1 hown.2) hst hkind hk halg hspi)]
  case dtls =>
    intro y h hheld hown hst hkind hk hp1 u hlive
    rw [exec_sessionRekey_free hheld, State.runJob_eq h (doRekey_dtls (State.ownSession_own hown.1 hown.2) hst hkind hk hp1 hlive)]
  case rekeyNone =>
    intro h hheld hno
    rw [exec_sessionRekey_free hheld, State.runJob_eq h (doRekey_none (State.ownSession_none hno))]
  case remove => exact fun y h hown hq => congrArg _ (State.runJob_eq h (doRemove_silent (State.ownSession_own hown.1 hown.2) hq))
  case removeNone => exact fun h hno => congrArg _ (State.runJob_eq h (doRemove_none (State.ownSession_none hno)))
  case query => exact fun y h hown => congrArg _ (State.runJob_eq h (doQuery_own (State.ownSession_own hown.1 hown.2)))
  case queryNone => exact fun h hno => congrArg _ (State.runJob_eq h (doQuery_none (State.ownSession_none hno)))
  case rule => exact fun h hb => congrArg _ (State.runJob_eq h (doRuleSet_sound hb))
  case ruleBad => exact fun h hb => congrArg _ (State.runJob_eq h (doRuleSet_bad hb))

end Sys2Proof.Machine
end

section
/-! KEMs, matrix pins and key agreement (R111 to R115, R206, R217 to R219, R259, R343, R354). -/

namespace Sys2Proof.Machine

variable {s : State} {j : Nat} {x : Job} {sound core : Bool}

/-- No opcode of group 0x02 has a counterproof (R191). -/
theorem needsCounterproof_kem {b : Bytes} (h : dOp b / 256 = 2) : needsCounterproof b = false := by
  have hsig : ¬(dOp b = 0x0302 ∨ dOp b = 0x0304 ∨ dOp b = 0x0301) := by omega
  have henv : dOp b ≠ 0x0701 ∧ dOp b ≠ 0x0702 := by omega
  simp [needsCounterproof, hsig, henv]

/-- A burin's good result of a KEM opcode stands in its job. -/
theorem State.runBurin_kem {t : State} {r : Result} {op : Nat} {f : State → Job → State × Result} (h : s.startable j op = some x)
    (hop : op / 256 = 2) (hf : f s x = (t, r)) (hr : statusOk r.status = true) (hjobs : t.jobs = s.jobs) :
    s.runBurin j op f = t.computed j r :=
  State.runBurin_plain h hf hr hjobs (needsCounterproof_kem (by rw [(State.startable_some h).2.1, hop]))

/-! ### KEM_KEYGEN (R217, R259, R271) -/

theorem exec_kemKeygen_graver (h : s.startable j 0x0201 = some x) (he : x.engine = .graver) : exec (.kemKeygen j sound core) s =
    .next (s.runGraver j 0x0201 sound (fun t y => ((genKem t y).1, (genKem t y).2, t.keyNeeds (dAttr y.desc)))) := by
  rw [exec_kemKeygen]
  unfold execKemKeygen
  rw [h]
  dsimp only
  rw [if_pos he]

theorem exec_kemKeygen_burin (h : s.startable j 0x0201 = some x) (he : x.engine ≠ .graver) :
    exec (.kemKeygen j true true) s = .next (s.runBurin j 0x0201 genKem) := by
  rw [exec_kemKeygen]
  unfold execKemKeygen
  rw [h]
  simp [he]

theorem exec_kemKeygen_failsTest (h : s.startable j 0x0201 = some x) (he : x.engine = .burin) (honce : dOnce x.desc = false) :
    exec (.kemKeygen j false core) s = .next (s.burinTestFails j) := by
  rw [exec_kemKeygen]
  unfold execKemKeygen
  rw [h]
  simp [he, honce]

theorem genKem_jobs (s : State) (x : Job) : (genKem s x).1.jobs = s.jobs := by
  unfold genKem
  dsimp only
  split
  case isTrue => rw [State.nextFree_jobs, State.nextDraw_jobs]
  case isFalse => rw [State.nextDraw_jobs]

/-- Only a McEliece generation draws a count of attempts (R271). -/
theorem genKem_of_not_mce (h : Alg.isMce (dAlg x.desc) = false) :
    genKem s x = (s.nextDraw, okKeys 0 (genKey (dAlg x.desc) 0 0 (dAttr x.desc) (dOnce x.desc) s.draws).pub
      [genKey (dAlg x.desc) 0 0 (dAttr x.desc) (dOnce x.desc) s.draws] []) := by
  simp [genKem, h]

/-! ### KEM_ENCAPS (R113, R218, R260, R268, R278) -/

theorem exec_kemEncaps_sound (h : s.startable j 0x0202 = some x) :
    exec (.kemEncaps j true) s = .next (s.runBurin j 0x0202 doEncaps) := by
  rw [exec_kemEncaps]
  unfold execKemEncaps
  rw [h]
  simp

/-- The defect that ends an encapsulation: an inline key's alone. -/
theorem inlineDefect_none {b : Bytes} {d : Option Nat} (h : dKey b = noKey → d = none) : (if dKey b = noKey then d else none) = none := by
  split
  case isTrue hk => exact h hk
  case isFalse => rfl

theorem doEncaps_single (hd : dKey x.desc = noKey → encapsDefect (dAlg x.desc) x.encapsKey = none) (hh : Alg.isHybrid (dAlg x.desc) = false) :
    doEncaps s x = (s.nextDraw, okKeys 0 (encapsTo (dAlg x.desc) x.encapsKey (drawBytes s.draws 32)).1
      [secretKey (dAttr x.desc) (dOnce x.desc) (encapsTo (dAlg x.desc) x.encapsKey (drawBytes s.draws 32)).2] []) := by
  unfold doEncaps
  dsimp only
  rw [inlineDefect_none hd]
  dsimp only
  rw [if_neg (ne_true_of_eq_false hh)]

/-- A hybrid encapsulation joins the classical secret of its ephemeral scalar with the post-quantum one (R278). -/
theorem doEncaps_hybrid (hd : dKey x.desc = noKey → encapsDefect (dAlg x.desc) x.encapsKey = none) (hh : Alg.isHybrid (dAlg x.desc) = true) :
    let a := dAlg x.desc
    let c := Alg.hybridCurve a
    let e := stdOut .derivedValue c [(drawBytes s.draws 128).drop 32] (Alg.genValueLen c 0 0)
    let parts := Alg.splitHybrid a x.encapsKey
    let r := encapsTo (Alg.hybridKem a) parts.2 (drawBytes s.draws 32)
    secretDefect c e parts.1 = none →
      doEncaps s x = (s.nextDraw, okKeys 0 (joinHybrid a (stdOut .publicKey c [e] (Alg.classicalLen a)) r.1)
        [secretKey (dAttr x.desc) (dOnce x.desc) (joinHybrid a (kexSecret c e parts.1) r.2)] []) := by
  intro a c e parts r hs
  unfold doEncaps
  dsimp only
  rw [inlineDefect_none hd]
  dsimp only
  rw [if_pos hh, hs]

theorem doEncaps_defect {st : Nat} (hk : dKey x.desc = noKey) (hd : encapsDefect (dAlg x.desc) x.encapsKey = some st) :
    doEncaps s x = (s, failWith st 0) := by
  unfold doEncaps
  dsimp only
  rw [if_pos hk, hd]

/-! ### KEM_DECAPS (R114, R204, R219, R278) -/

@[simp] theorem State.fillMatrix_jobs (s : State) (p h kgen : Nat) : (s.fillMatrix p h kgen).jobs = s.jobs := by
  unfold State.fillMatrix
  dsimp only
  split
  case isTrue => rfl
  case isFalse =>
    split
    case isTrue => rfl
    case isFalse => split <;> rfl

/-- A job looks its matrix up in its pier, where it has one (R204). -/
def State.lookedUp (s : State) (x : Job) : State := match x.pier with | some p => s.lookMatrix p x | none => s

theorem State.lookedUp_jobs (s : State) (x : Job) : (s.lookedUp x).jobs = s.jobs := by
  unfold State.lookedUp
  split
  case h_1 p _ =>
    unfold State.lookMatrix
    dsimp only
    split
    case isTrue => rfl
    case isFalse =>
      split
      case isTrue => rfl
      case isFalse => rw [State.bump_jobs, State.fillMatrix_jobs]
  case h_2 => rfl

theorem exec_kemDecaps_sound (h : s.startable j 0x0203 = some x) :
    exec (.kemDecaps j true) s = .next (s.runBurin j 0x0203 doDecaps) := by
  rw [exec_kemDecaps]
  unfold execKemDecaps
  rw [h]
  simp

theorem doDecaps_single (hh : Alg.isHybrid (dAlg x.desc) = false) :
    doDecaps s x = (s.lookedUp x, okKeys 0 [] [secretKey (dAttr x.desc) (dOnce x.desc)
      (decapsWith (dAlg x.desc) ((x.key.map (·.value)).getD []) x.input)] []) := by
  unfold doDecaps
  dsimp only
  exact if_neg (ne_true_of_eq_false hh)

/-- A hybrid decapsulation whose peer value is sound joins both secrets; the post-quantum part never fails (R278). -/
theorem doDecaps_hybrid (hh : Alg.isHybrid (dAlg x.desc) = true) :
    let a := dAlg x.desc
    let c := Alg.hybridCurve a
    let k := hybridValue a ((x.key.map (·.value)).getD [])
    let parts := Alg.splitHybrid a x.input
    kexDefect c k.2 parts.1 = none → doDecaps s x = (s.lookedUp x, okKeys 0 [] [secretKey (dAttr x.desc) (dOnce x.desc)
      (joinHybrid a (kexSecret c k.2 parts.1) (decapsWith (Alg.hybridKem a) k.1 parts.2))] []) := by
  intro a c k parts hd
  unfold doDecaps
  dsimp only
  rw [if_pos hh, hd]
  rfl

/-! ### MATRIX_PIN (R115, R206) -/

/-- The named piers without a free line for the key. -/
def State.piersFull (s : State) (b : Bytes) : List Nat := (onesOf 8 (bits (dP0 b) 15 8)).filter (fun p => !(s.mayPin (dKey b) p))

theorem doPin_room (h : (dP0 x.desc).testBit 0 = false ∨ s.piersFull x.desc = []) :
    doPin s x = (s, okEff 0 [] [.pin (dKey x.desc) x.boundKgen (bits (dP0 x.desc) 15 8) ((dP0 x.desc).testBit 0)], []) := by
  refine if_neg ?_
  rintro ⟨hpin, hno⟩
  obtain h | h := h
  · exact absurd hpin (ne_true_of_eq_false h)
  · rw [State.piersFull] at h
    rw [h] at hno
    cases hno

theorem doPin_busy (hpin : (dP0 x.desc).testBit 0 = true) (h : s.piersFull x.desc ≠ []) :
    doPin s x = (s, failWith St.busy (maskOf (s.piersFull x.desc)), []) :=
  if_pos ⟨hpin, by rw [Bool.not_eq_true', List.isEmpty_eq_false_iff]; exact h⟩

/-! ### KEX_DERIVE (R114, R343, R354) -/

theorem doKex_sound (h : kexDefect (dAlg x.desc) ((x.key.map (·.value)).getD []) x.input = none) :
    doKex s x = (s, okKeys 0 [] [secretKey (dAttr x.desc) (dOnce x.desc)
      (kexSecret (dAlg x.desc) ((x.key.map (·.value)).getD []) x.input)] [], s.keyNeeds (dAttr x.desc)) := by
  unfold doKex
  dsimp only
  rw [h]

theorem doKex_defect {st : Nat} (h : kexDefect (dAlg x.desc) ((x.key.map (·.value)).getD []) x.input = some st) :
    doKex s x = (s.countDummy (dAlg x.desc) x.input, failWith st 0, []) := by
  unfold doKex
  dsimp only
  rw [h]

/-! ### The statement -/

/-- Settles O14: each opcode by its engine, then by its key or its peer value. -/
theorem kemOpcodes : Obligations.KemOpcodes := by
  intro s j x core b a k pk q v c e parts u no
  have hu : s.lookedUp x = u := rfl
  refine ⟨?keygen, ?keygenGraver, ?keygenFails, ?encaps, ?encapsHybrid, ?encapsDefect, ?decaps, ?decapsHybrid, ?pin, ?pinBusy, ?kex, ?kexDefect,
    ?kexUnsound⟩
  case keygen =>
    intro h he
    exact (exec_kemKeygen_burin h he).trans (congrArg _ (State.runBurin_kem h (by decide) rfl (statusOk_okKeys ..) (genKem_jobs s x)))
  case keygenGraver =>
    intro h he hmce
    rw [exec_kemKeygen_graver h he, State.runGraver_sound _ h]
    dsimp only
    rw [genKem_of_not_mce hmce]
  case keygenFails => exact exec_kemKeygen_failsTest
  case encaps =>
    intro h hh hd
    rw [exec_kemEncaps_sound h, State.runBurin_kem h (by decide) (doEncaps_single hd hh) (statusOk_okKeys ..) s.nextDraw_jobs]
  case encapsHybrid =>
    intro h hh hd hs r
    rw [exec_kemEncaps_sound h, State.runBurin_kem h (by decide) (doEncaps_hybrid hd hh hs) (statusOk_okKeys ..) s.nextDraw_jobs]
  case encapsDefect =>
    intro st h hk hd hst
    rw [exec_kemEncaps_sound h, State.runBurin_fails_eq h (doEncaps_defect hk hd) hst]
  case decaps =>
    intro h hh
    rw [exec_kemDecaps_sound h, State.runBurin_kem h (by decide) (doDecaps_single hh) (statusOk_okKeys ..) (s.lookedUp_jobs x), hu]
  case decapsHybrid =>
    intro h hh hd
    rw [exec_kemDecaps_sound h, State.runBurin_kem h (by decide) (doDecaps_hybrid hh hd) (statusOk_okKeys ..) (s.lookedUp_jobs x), hu]
  case pin => exact fun h hroom => congrArg _ (State.runJob_eq h (doPin_room hroom))
  case pinBusy => exact fun h hpin hno => congrArg _ (State.runJob_eq h (doPin_busy hpin hno))
  case kex => exact fun h hd => congrArg _ (State.runGraver_eq h (doKex_sound hd))
  case kexDefect => exact fun st h hd => congrArg _ (State.runGraver_eq h (doKex_defect hd))
  case kexUnsound => exact fun h => congrArg _ (State.runGraver_unsound doKex h)

end Sys2Proof.Machine
end

section
/-! Signatures (R116 to R121, R191, R193, R220, R225, R226, R340). -/

namespace Sys2Proof.Machine

variable {s : State} {j op : Nat} {x : Job} {k : KeyRec} {pre sound : Bool}

/-! ### SIG_KEYGEN (R116, R225) -/

theorem exec_sigKeygen_graver (h : s.startable j 0x0301 = some x) (he : x.engine = .graver) : exec (.sigKeygen j true) s = .next
    (s.nextDraw.finishJob j (okKeys 0 (genSig s x.desc).pub [genSig s x.desc] []) (s.keyNeeds (dAttr x.desc))) := by
  rw [exec_sigKeygen]
  unfold execSigKeygen
  rw [h]
  dsimp only
  rw [if_neg (by rw [he]; decide), State.runGraver_sound _ h]

theorem exec_sigKeygen_burin (h : s.startable j 0x0301 = some x) (he : x.engine = .burin) :
    exec (.sigKeygen j true) s = .next (s.nextDraw.burinComputed j (okKeys 0 (genSig s x.desc).pub [genSig s x.desc] [])) := by
  rw [exec_sigKeygen]
  unfold execSigKeygen
  rw [h]
  dsimp only
  rw [if_pos he, State.runBurin_good_eq h rfl (statusOk_okKeys ..)]

/-! ### SIG_SIGN and SIG_SIGN_PREHASH (R117 to R119, R221, R340) -/

/-- The state after the draw of a signature; a deterministic one draws nothing (R118). -/
def State.signDrawn (s : State) (b : Bytes) : State := if (dP0 b).testBit 16 then s else s.nextDraw

/-- The random bytes of a signature. -/
def State.signRandom (s : State) (b : Bytes) : Bytes := if (dP0 b).testBit 16 then [] else drawBytes s.draws 64

theorem doSign_plain (hk : x.key = some k) (hl : s.leaseOf (dKey x.desc) = none) :
    doSign pre s x = (s.signDrawn x.desc, okWith 0 (signature x.desc pre k x.input none (s.signRandom x.desc))) := by
  unfold doSign
  dsimp only
  rw [hk]
  dsimp only
  rw [hl]
  rfl

/-- A stateful signature uses the lease's index and answers it in DETAIL (R119). -/
theorem doSign_stateful {t : Stateful} (hk : x.key = some k) (hl : s.leaseOf (dKey x.desc) = some t) :
    doSign pre s x = (s.signDrawn x.desc, okEff (t.index % 2 ^ 32)
      (signature x.desc pre k x.input (some t.index) (s.signRandom x.desc)) [.useIndex (dKey x.desc) t.index]) := by
  unfold doSign
  dsimp only
  rw [hk]
  dsimp only
  rw [hl]
  rfl

theorem State.signJob_graver {t : State} {r : Result} (h : s.startable j op = some x) (he : x.engine = .graver)
    (hsign : doSign pre s x = (t, r)) : s.signJob j op pre true = t.finishJob j r [] := by
  unfold State.signJob
  rw [h]
  dsimp only
  rw [if_neg (by rw [he]; decide), State.runGraver_sound _ h]
  dsimp only
  rw [hsign]

theorem State.signJob_burin {t : State} {r : Result} (h : s.startable j op = some x) (he : x.engine = .burin)
    (hsign : doSign pre s x = (t, r)) (hr : statusOk r.status = true) : s.signJob j op pre true = t.burinComputed j r := by
  unfold State.signJob
  rw [h]
  dsimp only
  rw [if_pos he]
  exact State.runBurin_good_eq h hsign hr

theorem State.signJob_graver_unsound (h : s.startable j op = some x) (he : x.engine = .graver) :
    s.signJob j op pre false = s.invariantFails j := by
  unfold State.signJob
  rw [h]
  dsimp only
  rw [if_neg (by rw [he]; decide), State.runGraver_unsound _ h]

/-- An ML-DSA signature without a candidate in 1,000 iterations (R221). -/
theorem State.signJob_mlDsa_unsound (h : s.startable j op = some x) (he : x.engine = .burin) (ha : Alg.isMlDsa (dAlg x.desc) = true) :
    s.signJob j op pre false = s.finishJob j (failWith St.invariantFail 0) [] := by
  unfold State.signJob
  rw [h]
  dsimp only
  rw [if_pos he]
  exact State.runBurin_fails_eq h (if_pos ⟨rfl, ha⟩) rfl

/-! ### SIG_VERIFY (R117, R120, R226) -/

/-- A job verifies with the key that its handle names, or with the key in its input. -/
def Job.verifyKey (x : Job) : Option KeyRec := if dKey x.desc = noKey then none else x.key

theorem doVerify_verdict
    (hin : dKey x.desc = noKey → publicDefect (dAlg x.desc) (dModBits x.desc) (verifyParts x.desc x.input x.verifyKey).1 = none)
    (hkey : dKey x.desc ≠ noKey → x.key.isSome = true) :
    let p := verifyParts x.desc x.input x.verifyKey
    doVerify s x = (s, okWith (if verdictOf x.desc p.1 p.2.1 p.2.2 then 1 else 0) []) := by
  have hnone : (if x.verifyKey.isSome then none
      else publicDefect (dAlg x.desc) (dModBits x.desc) (verifyParts x.desc x.input x.verifyKey).1) = none := by
    by_cases hk : dKey x.desc = noKey
    · rw [hin hk, ite_self]
    · rw [Job.verifyKey, if_neg hk, if_pos (hkey hk)]
  intro p
  unfold doVerify
  dsimp only
  rw [← Job.verifyKey, hnone]

theorem doVerify_defect {st : Nat} (hk : dKey x.desc = noKey)
    (hd : publicDefect (dAlg x.desc) (dModBits x.desc) (verifyParts x.desc x.input x.verifyKey).1 = some st) :
    doVerify s x = (s, failWith st 0) := by
  have hsome : (if x.verifyKey.isSome then none
      else publicDefect (dAlg x.desc) (dModBits x.desc) (verifyParts x.desc x.input x.verifyKey).1) = some st := by
    have hinline : x.verifyKey = none := if_pos hk
    rw [hinline] at hd ⊢
    exact hd
  unfold doVerify
  dsimp only
  rw [← Job.verifyKey, hsome]

theorem exec_sigVerify_graver {t : State} {r : Result} (h : s.startable j 0x0303 = some x) (he : x.engine ≠ .burin)
    (hv : doVerify s x = (t, r)) : exec (.sigVerify j true) s = .next (t.finishJob j r []) := by
  rw [exec_sigVerify]
  unfold execSigVerify
  rw [h]
  dsimp only
  rw [if_neg he, State.runGraver_sound _ h]
  dsimp only
  rw [hv]

theorem exec_sigVerify_fails {t : State} {r : Result} (h : s.startable j 0x0303 = some x) (hv : doVerify s x = (t, r))
    (hr : statusOk r.status = false) : exec (.sigVerify j true) s = .next (t.finishJob j r []) := by
  by_cases he : x.engine = .burin
  · rw [exec_sigVerify]
    unfold execSigVerify
    rw [h]
    dsimp only
    rw [if_pos he, State.runBurin_fails_eq h hv hr]
  · exact exec_sigVerify_graver h he hv

/-! ### HBS_LEASE_QUERY (R121) -/

theorem doLeaseQuery_lease {t : Stateful} (h : s.leaseOf (dKey x.desc) = some t) :
    doLeaseQuery s x = (s, okWith 0 (leaseBytes s.paired t), []) := by
  unfold doLeaseQuery; rw [h]

/-! ### The statement -/

/-- A signing command runs the signing job of its opcode. -/
theorem exec_sign_eq {c : Instr} (s : State) (hc : (pre = false ∧ c = .sigSign j sound ∧ op = 0x0302) ∨
    (pre = true ∧ c = .sigSignPrehash j sound ∧ op = 0x0304)) : exec c s = .next (s.signJob j op pre sound) := by
  obtain ⟨rfl, rfl, rfl⟩ | ⟨rfl, rfl, rfl⟩ := hc <;> rfl

/-- Settles O15: each opcode by its engine; signing by the key's lease. -/
theorem signatureOpcodes : Obligations.SignatureOpcodes := by
  intro s j x k b g det p
  refine ⟨exec_sigKeygen_graver, exec_sigKeygen_burin, ?sign, ?unsound, ?verify, ?defect, ?lease⟩
  case sign =>
    intro pre c op hc h hk u rnd
    rw [exec_sign_eq s hc]
    refine ⟨fun he hl => ?_, fun he hl => ?_, fun t he hl => ?_⟩
    · exact congrArg _ (State.signJob_graver h he (doSign_plain hk hl))
    · exact congrArg _ (State.signJob_burin h he (doSign_plain hk hl) (statusOk_okWith ..))
    · exact congrArg _ (State.signJob_burin h he (doSign_stateful hk hl) (statusOk_okEff ..))
  case unsound =>
    intro c op hc h
    obtain ⟨pre, hc⟩ : ∃ pre, (pre = false ∧ c = .sigSign j false ∧ op = 0x0302) ∨
        (pre = true ∧ c = .sigSignPrehash j false ∧ op = 0x0304) :=
      hc.elim (fun hs => ⟨false, .inl ⟨rfl, hs⟩⟩) (fun hs => ⟨true, .inr ⟨rfl, hs⟩⟩)
    rw [exec_sign_eq s hc]
    exact ⟨fun he => congrArg _ (State.signJob_graver_unsound h he), fun he ha => congrArg _ (State.signJob_mlDsa_unsound h he ha)⟩
  case verify =>
    exact fun h he hin hkey => exec_sigVerify_graver h (by rw [he]; decide) (doVerify_verdict hin hkey)
  case defect => exact fun st h hk hd hst => exec_sigVerify_fails h (doVerify_defect hk hd) hst
  case lease => exact fun t h hl => congrArg _ (State.runJob_eq h (doLeaseQuery_lease hl))

end Sys2Proof.Machine
end

section
/-! HASH, MAC and KDF (R122 to R124, R445, R447, R456, R487). -/

namespace Sys2Proof.Machine

variable {s : State} {j : Nat} {x : Job}

/-! ### The command units (R486) -/

theorem exec_hash_unit (h : s.unitLeft = true) : exec (.hash j) s = .next (s.runJob j 0x0401 doHash) :=
  congrArg Host.Outcome.next (if_pos h)

theorem exec_mac_unit (h : s.unitLeft = true) : exec (.mac j) s = .next (s.runJob j 0x0402 doMac) :=
  congrArg Host.Outcome.next (if_pos h)

theorem exec_hash_noUnit (h : s.unitLeft = false) : exec (.hash j) s = .next s :=
  congrArg Host.Outcome.next (if_neg (ne_true_of_eq_false h))

theorem exec_mac_noUnit (h : s.unitLeft = false) : exec (.mac j) s = .next s :=
  congrArg Host.Outcome.next (if_neg (ne_true_of_eq_false h))

/-! ### HASH (R122) -/

/-- The digest length that a hash job asks for: an extendable function's is in PARAM1. -/
def hashOutLen (b : Bytes) : Nat := if Alg.isShake (dAlg b) then dP1 b else Alg.hashLen (dAlg b)

/-- The message that a stream context holds so far. -/
def State.streamed (s : State) (x : Job) : Bytes := ((KMap.get (dKey x.desc) s.csn.keys).map (·.value)).getD []

theorem doHash_whole (h : bits (dP0 x.desc) 17 16 = 0) :
    doHash s x = (s, okWith 0 (digestOf (dAlg x.desc) (hashOutLen x.desc) x.input), []) := by
  unfold doHash
  dsimp only
  rw [h]
  rfl

theorem doHash_starts (h : bits (dP0 x.desc) 17 16 = 1) :
    doHash s x = (s, okKeys 0 [] [streamKey (dAlg x.desc) x.input] [], []) := by
  unfold doHash
  dsimp only
  rw [h]
  rfl

theorem doHash_extends {k : KeyRec} (h : bits (dP0 x.desc) 17 16 = 2) (hk : KMap.get (dKey x.desc) s.csn.keys = some k) :
    doHash s x = (s, okEff 0 [] [.putKey (dKey x.desc) { k with value := s.streamed x ++ x.input }], []) := by
  unfold doHash State.streamed
  dsimp only
  rw [h, hk]
  rfl

theorem doHash_finishes (h : bits (dP0 x.desc) 17 16 = 3) :
    doHash s x = (s, okEff 0 (digestOf (dAlg x.desc) (hashOutLen x.desc) (s.streamed x ++ x.input)) [.delKey (dKey x.desc)], []) := by
  unfold doHash
  dsimp only
  rw [h]
  rfl

/-! ### MAC (R123) -/

/-- The tag of a MAC job over a message: behind its customisation, LENGTH bytes. -/
def Job.macTag (x : Job) (msg : Bytes) : Bytes :=
  if Alg.isKmac (dAlg x.desc) then stdOut .kmac (dAlg x.desc) [x.keyValue, [], x.input.take (dP2 x.desc), msg] (dP1 x.desc)
  else (stdOut .hmac (dAlg x.desc) [x.keyValue, [], msg] (Alg.hashLen (dAlg x.desc))).take (dP1 x.desc)

theorem doMac_tag (h : (dP0 x.desc).testBit 16 = false) :
    doMac s x = (s, okWith 0 (x.macTag (x.input.drop (dP2 x.desc))), []) := by
  unfold doMac Job.macTag
  dsimp only
  rw [h]
  rfl

theorem doMac_verdict (h : (dP0 x.desc).testBit 16 = true) :
    let rest := x.input.drop (dP2 x.desc)
    let n := rest.length - dP1 x.desc
    doMac s x = (s, okWith (if x.macTag (rest.take n) = rest.drop n then 1 else 0) [], []) := by
  intro rest n
  unfold doMac Job.macTag
  dsimp only
  rw [h]
  rfl

/-! ### KDF (R124, R445, R447, R456) -/

/-- The output specifications of a KDF, and the data behind them. -/
def Job.kdfSpecs (x : Job) : List (Nat × BitVec 32) := (List.range (dP2 x.desc)).map (kdfSpec x.input)
def Job.kdfData (x : Job) : Bytes := x.input.drop (8 * dP2 x.desc)

/-- A specification asks for an OWNER key that the job may not create, or for an anchor. -/
def Job.kdfOwned (x : Job) : Bool :=
  x.kdfSpecs.any (fun p => (Alg.aOwner p.2 && (decide (x.vi ≠ 0) || !(x.quorum.testBit 13))) || Alg.aAnchor p.2)

/-- The keys of a KDF: consecutive slices of its output. -/
def Job.kdfKeys (x : Job) : List KeyRec :=
  (slices (kdfBytes x.desc x.keyValue (if dP1 x.desc = noKey then zeros (Alg.hashLen (dAlg x.desc)) else x.key2Value) x.kdfData
    (x.kdfSpecs.foldl (fun m p => m + p.1) 0)) x.kdfSpecs).map (fun p => kdfKey x p.1 p.2)

theorem doKdf_bad (h : x.kdfSpecs.any (specBad x.desc x.key x.kdfData) = true) : doKdf s x = (s, failWith St.badEncoding 0, []) :=
  if_pos h

theorem doKdf_owned (h : x.kdfSpecs.any (specBad x.desc x.key x.kdfData) = false) (ho : x.kdfOwned = true) :
    doKdf s x = (s, failWith St.policy 0, []) :=
  (if_neg (ne_true_of_eq_false h)).trans (if_pos ho)

theorem doKdf_sound (h : x.kdfSpecs.any (specBad x.desc x.key x.kdfData) = false) (ho : x.kdfOwned = false) :
    doKdf s x = (s, okKeys 0 [] x.kdfKeys [], s.newNeeds x.kdfKeys) :=
  (if_neg (ne_true_of_eq_false h)).trans (if_neg (ne_true_of_eq_false ho))

/-! ### The statement -/

/-- Settles O16: HASH by its stream form, MAC by whether a tag is supplied, KDF by its specifications. -/
theorem hashMacKdf : Obligations.HashMacKdf := by
  intro s j x b a n old key cust rest len tag specs d owned salt ks
  refine ⟨fun hu h => ?hash, fun hu h => ?mac, fun hu => ⟨exec_hash_noUnit hu, exec_mac_noUnit hu⟩, fun h => ?kdf⟩
  case hash =>
    rw [exec_hash_unit hu]
    refine ⟨fun hf => ?_, fun hf => ?_, fun k hf hk => ?_, fun hf => ?_⟩
    · exact congrArg _ (State.runJob_eq h (doHash_whole hf))
    · exact congrArg _ (State.runJob_eq h (doHash_starts hf))
    · exact congrArg _ (State.runJob_eq h (doHash_extends hf hk))
    · exact congrArg _ (State.runJob_eq h (doHash_finishes hf))
  case mac =>
    rw [exec_mac_unit hu]
    exact ⟨fun hv => congrArg _ (State.runJob_eq h (doMac_tag hv)), fun hv => congrArg _ (State.runJob_eq h (doMac_verdict hv))⟩
  case kdf =>
    refine ⟨fun hb ho => ?_, fun hb => ?_, fun hb ho => ?_⟩
    · exact congrArg _ (State.runJob_eq h (doKdf_sound hb ho))
    · exact congrArg _ (State.runJob_eq h (doKdf_bad hb))
    · exact congrArg _ (State.runJob_eq h (doKdf_owned hb ho))

end Sys2Proof.Machine
end

section
/-! AEAD_OPEN (R125, R127). -/

namespace Sys2Proof.Machine

variable {s : State} {j : Nat} {x : Job}

/-- A computed result changes nothing beside the engines. -/
theorem State.beside_computed (s : State) (j : Nat) (r : Result) : (s.computed j r).beside = s.beside := s.beside_freeCore j

theorem exec_aeadOpen_startable (h : s.startable j 0x0502 = some x) : exec (.aeadOpen j) s = .next (s.computed j (doAeadOpen s x)) :=
  congrArg _ (State.runEngine_eq h rfl)

/-- Settles O17: the result is the plaintext under a good tag and INPUT_INVALID under a bad one. -/
theorem aeadOpenChecksTag : Obligations.AeadOpenChecksTag := by
  intro s j x h a key good
  obtain ⟨y, hy, hstage, hresult, -⟩ := State.computed_job (doAeadOpen s x) (State.startable_some h).1
  have hbeside := s.beside_computed j (doAeadOpen s x)
  refine ⟨_, y, exec_aeadOpen_startable h, hy, hstage, (congrArg State.out hbeside :), (congrArg State.replies hbeside :), ?good, ?bad⟩
  case good => exact fun hgood => hresult.trans (if_pos hgood)
  case bad =>
    intro hbad
    have hfail : y.result = failWith St.inputInvalid 1 := hresult.trans (if_neg (ne_true_of_eq_false hbad))
    exact ⟨hfail, congrArg Result.payload hfail⟩

end Sys2Proof.Machine
end

section
/-! KEY_ATTR (R139, R443). -/

namespace Sys2Proof.Machine

/-! ### An ATTR word that only narrows, bit by bit -/

theorem testBit_aUsage (w : BitVec 32) (i : Nat) : (Alg.aUsage w).testBit i = (decide (i < 16) && w.getLsbD i) := by
  have h : Alg.aUsage w = w.toNat % 2 ^ 16 := by simp [Alg.aUsage, bits]
  rw [h, Nat.testBit_mod_two_pow, BitVec.testBit_toNat]

/-- Usage bits are only removed. -/
theorem aUsage_or_eq_iff (old new : BitVec 32) : Alg.aUsage new ||| Alg.aUsage old = Alg.aUsage old ↔
    ∀ i, i < 16 → new.getLsbD i = true → old.getLsbD i = true := by
  constructor
  · intro h i hi hnew
    have hbit := congrArg (Nat.testBit · i) h
    simpa [Nat.testBit_or, testBit_aUsage, hi, hnew] using hbit
  · intro h
    refine Nat.eq_of_testBit_eq fun i => ?_
    rw [Nat.testBit_or, testBit_aUsage, testBit_aUsage]
    by_cases hi : i < 16
    · cases hnew : new.getLsbD i
      · simp
      · simp [h i hi hnew]
    · simp [hi]

/-- The bits that KEY_ATTR may never change: SUBALG, ANCHOR, OWNER, ORIGIN and PERSISTENT (R443). -/
theorem getLsbD_fixedAttrMask {i : Nat} (hi : i < 32) : (0x4FFF0000#32).getLsbD i = decide (16 ≤ i ∧ (i < 28 ∨ i = 30)) := by
  have h : ∀ k : Fin 32, (0x4FFF0000#32).getLsbD k.val = decide (16 ≤ k.val ∧ (k.val < 28 ∨ k.val = 30)) := by decide
  exact h ⟨i, hi⟩

theorem and_fixedAttrMask_eq_iff (old new : BitVec 32) : old &&& 0x4FFF0000 = new &&& 0x4FFF0000 ↔
    ∀ i, 16 ≤ i → i < 28 ∨ i = 30 → new.getLsbD i = old.getLsbD i := by
  constructor
  · intro h i h16 hfixed
    have hmask : (0x4FFF0000#32).getLsbD i = true := by rw [getLsbD_fixedAttrMask (by omega), decide_eq_true ⟨h16, hfixed⟩]
    have hbit := congrArg (BitVec.getLsbD · i) h
    simp only [BitVec.getLsbD_and] at hbit
    rw [show (0x4FFF0000 : BitVec 32).getLsbD i = true from hmask, Bool.and_true, Bool.and_true] at hbit
    exact hbit.symm
  · intro h
    refine BitVec.eq_of_getLsbD_eq fun i hi => ?_
    rw [BitVec.getLsbD_and, BitVec.getLsbD_and, show (0x4FFF0000 : BitVec 32).getLsbD i = _ from getLsbD_fixedAttrMask hi]
    by_cases hfixed : 16 ≤ i ∧ (i < 28 ∨ i = 30)
    · rw [h i hfixed.1 hfixed.2]
    · rw [decide_eq_false hfixed, Bool.and_false, Bool.and_false]

/-- The model's test of a narrowing change, as R139 words it. -/
theorem narrows_iff (old new : BitVec 32) : narrows old new = true ↔
    (∀ i, i < 16 → new.getLsbD i = true → old.getLsbD i = true) ∧ Alg.aExport new ≤ Alg.aExport old ∧
      (new.getLsbD 31 = true → old.getLsbD 31 = true) ∧ ∀ i, 16 ≤ i → i < 28 ∨ i = 30 → new.getLsbD i = old.getLsbD i := by
  have happroved : (Alg.aApproved old || !(Alg.aApproved new)) = true ↔ (new.getLsbD 31 = true → old.getLsbD 31 = true) := by
    unfold Alg.aApproved
    cases new.getLsbD 31 <;> simp
  unfold narrows
  simp only [Bool.and_eq_true, decide_eq_true_eq, happroved, aUsage_or_eq_iff, and_fixedAttrMask_eq_iff, and_assoc]

/-! ### The statement -/

variable {s : State} {x : Job} {k : KeyRec}

theorem doAttr_read (hk : KMap.get (dKey x.desc) s.csn.keys = some k) (hw : (dP0 x.desc).testBit 0 = false) :
    doAttr s x = (s, okWith 0 (attrRecord (dKey x.desc) k), []) := by
  unfold doAttr
  dsimp only
  rw [hk]
  dsimp only
  rw [hw]
  rfl

theorem doAttr_write (hk : KMap.get (dKey x.desc) s.csn.keys = some k) (hw : (dP0 x.desc).testBit 0 = true) :
    doAttr s x = if narrows k.attr (dAttr x.desc) then
        (s, okEff 0 (attrRecord (dKey x.desc) { k with attr := dAttr x.desc }) [.setAttr (dKey x.desc) (dAttr x.desc)], s.keyNeeds k.attr)
      else (s, failWith St.policy 0, []) := by
  unfold doAttr
  dsimp only
  rw [hk]
  dsimp only
  rw [hw]
  cases narrows k.attr (dAttr x.desc) <;> rfl

/-- Settles O21: WRITE by whether the new word narrows the old one. -/
theorem keyAttrNarrows : Obligations.KeyAttrNarrows := by
  intro s j x k h a only hx hk
  have honly : narrows k.attr a = true ↔ only := narrows_iff k.attr a
  refine ⟨fun hw hn => ?narrows, fun hw hn => ?refused, fun hw => congrArg _ (State.runJob_eq hx (doAttr_read hk hw))⟩
  case narrows => exact congrArg _ (State.runJob_eq hx ((doAttr_write hk hw).trans (if_pos (honly.mpr hn))))
  case refused => exact congrArg _ (State.runJob_eq hx ((doAttr_write hk hw).trans (if_neg (fun hno => hn (honly.mp hno)))))

end Sys2Proof.Machine
end

section
/-! The key opcodes of group 0x06 (R132, R134 to R138, R443, R445, R455, R459, R461, R462). -/

namespace Sys2Proof.Machine

variable {s : State} {j : Nat} {x : Job} {k : KeyRec} {sound : Bool}

/-- FORMAT of KEY_IMPORT, KEY_EXPORT_WRAPPED and KEY_REPLACE_STAGE (R134 to R136). -/
def keyFormat (b : Bytes) : Nat := bits (dP0 b) 23 16

/-! ### KEY_IMPORT (R134, R461) -/

theorem doImport_wrapped (hf : keyFormat x.desc ≠ 3) : doImport sound s x = importWrapped sound s x := if_neg hf

theorem doImport_public (hf : keyFormat x.desc = 3) (hlen : badRsaLen x = false) : doImport sound s x = importPublic s x :=
  (if_pos hf).trans (if_neg (ne_true_of_eq_false hlen))

theorem importWrapped_none (h : unwrap (keyFormat x.desc) 1 x.keyValue x.input = none) :
    importWrapped sound s x = (s, failWith St.wrapInvalid 0, []) := by
  rw [keyFormat] at h
  unfold importWrapped
  dsimp only
  rw [h]

/-- What an unwrapped record imports, when it names the algorithm of the descriptor and an ATTR as wide as asked for. -/
theorem importWrapped_some {u : Unwrapped} (h : unwrap (keyFormat x.desc) 1 x.keyValue x.input = some u) :
    importWrapped true s x = if u.alg ≠ dAlg x.desc ∨ wider (dAttr x.desc) u.attr = true then (s, failWith St.wrapInvalid 0, [])
      else (s, okKeys 0 [] [keyOf u.alg (inheritOwner x.key (dAttr x.desc)) oWrapped u.value] [],
        s.newNeeds [keyOf u.alg (inheritOwner x.key (dAttr x.desc)) oWrapped u.value]) := by
  rw [keyFormat] at h
  unfold importWrapped
  dsimp only
  rw [h]
  simp

/-- The modulus length of an imported RSA key comes from the length of its input. -/
def Job.publicBits (x : Job) : Nat := if Alg.isRsa (dAlg x.desc) then rsaPubBits x.input.length else 0

/-- The key of a public import. -/
def Job.publicKey (x : Job) : KeyRec := newKey (dAlg x.desc) x.publicBits (dAttr x.desc) oPublic [] x.input false

theorem importPublic_plain (hmig : isMigImport x.desc = false) (hanchor : isAnchorImport x.desc = false)
    (hd : publicDefect (dAlg x.desc) x.publicBits x.input = none) :
    importPublic s x = (s, okKeys 0 [] [x.publicKey] [], s.newNeeds [x.publicKey]) := by
  rw [Job.publicBits] at hd
  unfold importPublic Job.publicKey Job.publicBits
  dsimp only
  rw [if_neg (ne_true_of_eq_false hmig), hd]
  dsimp only
  rw [if_neg (ne_true_of_eq_false hanchor)]

theorem importPublic_defect {st : Nat} (hmig : isMigImport x.desc = false)
    (hd : publicDefect (dAlg x.desc) x.publicBits x.input = some st) : importPublic s x = (s, failWith st 0, []) := by
  rw [Job.publicBits] at hd
  unfold importPublic
  dsimp only
  rw [if_neg (ne_true_of_eq_false hmig), hd]

/-! ### KEY_EXPORT_WRAPPED (R135, R462) -/

theorem exec_keyExportWrapped_agree (h : s.startable j 0x0603 = some x) :
    exec (.keyExportWrapped j true) s = .next (s.runJob j 0x0603 doExport) := by
  rw [exec_keyExportWrapped]
  unfold execKeyExportWrapped
  rw [h]
  dsimp only
  rw [if_pos rfl]

theorem exec_keyExportWrapped_disagree (h : s.startable j 0x0603 = some x) :
    exec (.keyExportWrapped j false) s = .next (s.splitDecision [] 0) := by
  rw [exec_keyExportWrapped]
  unfold execKeyExportWrapped
  rw [h]
  dsimp only
  rw [if_neg Bool.false_ne_true]

theorem doExport_refused (hk : x.key = some k) (h : exportOk k (keyFormat x.desc) (dP1 x.desc) x.key2 = false) :
    doExport s x = (s, failWith St.policy 0, []) := by
  rw [keyFormat] at h
  unfold doExport
  dsimp only
  rw [hk]
  dsimp only
  rw [h]
  rfl

theorem doExport_public (hk : x.key = some k) (hf : keyFormat x.desc = 3) : doExport s x = (s, okWith 0 k.pub, []) := by
  rw [keyFormat] at hf
  unfold doExport
  dsimp only
  rw [hk]
  dsimp only
  rw [hf]
  rfl

theorem doExport_wrapped (hk : x.key = some k) (hf : keyFormat x.desc = 1) (h : exportOk k (keyFormat x.desc) (dP1 x.desc) x.key2 = true) :
    doExport s x = (s.bump Reg.csnExport, okWith 0 (wrapKw x.key2Value 1 k.alg k.attr k.kgen s.unitId k.value), []) := by
  rw [hf] at h
  rw [keyFormat] at hf
  unfold doExport
  dsimp only
  rw [hk]
  dsimp only
  rw [hf, h]
  rfl

/-! ### Replacement (R136, R137) -/

/-- The fresh value of a key that replaces its own: generated for a key pair, drawn for a secret. -/
def State.freshValue (s : State) (k : KeyRec) : Bytes :=
  if Alg.isAsym k.alg then genValue k.alg k.modBits ((k.stateful.map (·.set)).getD 0) s.draws else drawBytes s.draws k.value.length

theorem doStage_fresh (hk : KMap.get (dKey x.desc) s.csn.keys = some k) (hf : keyFormat x.desc = 0) :
    doStage true s x = (s.nextDraw, stageOk x k k.attr (s.freshValue k), []) := by
  rw [keyFormat] at hf
  unfold doStage
  dsimp only
  rw [hk]
  dsimp only
  rw [if_pos hf]
  exact if_neg (fun h => by cases h.1)

theorem doReplaceCommit_staged {y : StagedKey} (hk : KMap.get (dKey x.desc) s.csn.keys = some k) (hy : k.staged = some y) :
    doReplaceCommit s x = if y.kgen ≠ bits (dP0 x.desc) 31 0 then (s, failWith St.badParam 0x28, [])
      else (s, okEff y.kgen [] [.swapKey (dKey x.desc)], s.keyNeeds y.attr) := by
  unfold doReplaceCommit
  dsimp only
  rw [hk, Option.bind_some, hy]

/-! ### KEY_DESTROY (R138) -/

theorem exec_keyDestroy_startable (h : s.startable j 0x0606 = some x) (hk : KMap.get (dKey x.desc) s.csn.keys = some k) :
    exec (.keyDestroy j) s = .next (if (dP0 x.desc).testBit 0 then s.finishJob j (okEff 0 [] [.setStaged (dKey x.desc) none]) []
      else (s.modKey (dKey x.desc) (fun y => { y with destroying := true })).finishJob j (okEff 0 [] [.delKey (dKey x.desc)])
        (s.destroyNeeds j x k)) := by
  rw [exec_keyDestroy]
  unfold execKeyDestroy
  rw [h]
  dsimp only
  rw [hk]

/-! ### The statement -/

/-- Settles O22: each opcode by its FORMAT and by what the key store holds. -/
theorem keyOpcodes : Obligations.KeyOpcodes := by
  intro s j x b h a f salt g n d
  refine ⟨fun hx => congrArg _ (State.runJob_eq hx rfl), fun hx => congrArg _ (State.runJob_eq hx rfl), ?wrapInvalid, ?wrapWrong, ?wrapped, ?pub,
    ?exported, ?exportRefused, exec_keyExportWrapped_disagree, ?stage, ?commit, ?destroy⟩
  case wrapInvalid =>
    exact fun hx hf hu => congrArg _ (State.runJob_eq hx ((doImport_wrapped hf).trans (importWrapped_none hu)))
  case wrapWrong =>
    exact fun u hx hf hu hbad => congrArg _ (State.runJob_eq hx
      ((doImport_wrapped hf).trans ((importWrapped_some hu).trans (if_pos hbad))))
  case wrapped =>
    intro u hx hf hu halg hwide k
    have hgood : ¬(u.alg ≠ dAlg x.desc ∨ wider (dAttr x.desc) u.attr = true) := fun hbad =>
      hbad.elim (fun hne => hne halg) (ne_true_of_eq_false hwide)
    exact congrArg _ (State.runJob_eq hx ((doImport_wrapped hf).trans ((importWrapped_some hu).trans (if_neg hgood))))
  case pub =>
    intro hx hf hlen hmig hanchor m k
    refine ⟨fun hd => ?_, fun st hd => ?_⟩
    · exact congrArg _ (State.runJob_eq hx ((doImport_public hf hlen).trans (importPublic_plain hmig hanchor hd)))
    · exact congrArg _ (State.runJob_eq hx ((doImport_public hf hlen).trans (importPublic_defect hmig hd)))
  case exported =>
    intro k hx hk hok
    rw [exec_keyExportWrapped_agree hx]
    exact ⟨fun hf => congrArg _ (State.runJob_eq hx (doExport_public hk hf)),
      fun hf => congrArg _ (State.runJob_eq hx (doExport_wrapped hk hf hok))⟩
  case exportRefused =>
    intro k hx hk hok
    rw [exec_keyExportWrapped_agree hx, State.runJob_eq hx (doExport_refused hk hok)]
  case stage => exact fun k hx hf hk => congrArg _ (State.runJob_eq hx (doStage_fresh hk hf))
  case commit =>
    intro k y hx hk hy
    refine ⟨fun hg => ?_, fun hg => ?_⟩
    · exact congrArg _ (State.runJob_eq hx ((doReplaceCommit_staged hk hy).trans (if_neg (not_not_intro hg))))
    · exact congrArg _ (State.runJob_eq hx ((doReplaceCommit_staged hk hy).trans (if_pos hg)))
  case destroy =>
    intro k hx hk
    rw [exec_keyDestroy_startable hx hk]
    exact ⟨fun hb => congrArg _ (if_pos hb), fun hb => congrArg _ (if_neg (ne_true_of_eq_false hb))⟩

end Sys2Proof.Machine
end

section
/-! Maintenance opcodes and SELFTEST_RUN (R142 to R146, R659, R695, R696). -/

namespace Sys2Proof.Machine

variable {s : State} {j : Nat} {x : Job}

/-- The activity that a maintenance opcode names. -/
def namedAct (b : Bytes) : Nat := bits (dP0 b) 7 0

/-! ### MAINT_START (R142, R695) -/

theorem doMaintStart_defect {st det : Nat} (h : s.startDefect (namedAct x.desc) (dP1 x.desc) = some (st, det)) :
    doMaintStart s x = (s, failWith st det, []) := by
  rw [namedAct] at h
  unfold doMaintStart
  dsimp only
  rw [h]

theorem doMaintStart_starts (h : s.startDefect (namedAct x.desc) (dP1 x.desc) = none) :
    doMaintStart s x = (s.startAct (namedAct x.desc) (dP1 x.desc) none,
      okWith ((s.startAct (namedAct x.desc) (dP1 x.desc) none).act (namedAct x.desc)).run [], []) := by
  rw [namedAct] at h ⊢
  unfold doMaintStart
  dsimp only
  rw [h]

/-! ### MAINT_STATUS (R143) -/

/-- The records that MAINT_STATUS answers: one activity's, or those of all nine. -/
def State.statusRecords (s : State) (a : Nat) : Bytes :=
  if a = 0 then (([1, 2, 3, 4, 5, 6, 7, 8, 9] : List Nat).map s.actRecord).flatten else s.actRecord a

theorem exec_maintStatus_answers {p : Bytes} (h : s.startable j 0x0802 = some x) (hp : s.statusRecords (namedAct x.desc) = p) :
    exec (.maintStatus j) s = .next (s.finishJob j (okWith 0 p) []) := by
  rw [← hp]
  exact congrArg _ (State.runJob_eq h rfl)

theorem State.statusRecords_one {a : Nat} (h : a ≠ 0) : s.statusRecords a = s.actRecord a := if_neg h

theorem State.statusRecords_zero (s : State) : s.statusRecords 0 = s.actRecord 1 ++ s.actRecord 2 ++ s.actRecord 3 ++ s.actRecord 4 ++
    s.actRecord 5 ++ s.actRecord 6 ++ s.actRecord 7 ++ s.actRecord 8 ++ s.actRecord 9 := by
  simp [State.statusRecords]

/-! ### MAINT_STOP (R144, R696) -/

theorem State.notIdle_iff (s : State) (a : Nat) : s.notIdle a = true ↔ (s.act a).mstate = 1 ∨ (s.act a).mstate = 2 := decide_eq_true_iff

theorem doMaintStop_idle (h : ¬((s.act (namedAct x.desc)).mstate = 1 ∨ (s.act (namedAct x.desc)).mstate = 2)) :
    doMaintStop s x = (s, okWith 0 [], []) := by
  rw [← State.notIdle_iff, namedAct, Bool.not_eq_true] at h
  unfold doMaintStop
  dsimp only
  rw [h]
  rfl

/-- Only an ARCHIVE_EXPORT whose unit is being written waits for a safe point. -/
theorem doMaintStop_running (h : (s.act (namedAct x.desc)).mstate = 1 ∨ (s.act (namedAct x.desc)).mstate = 2) :
    doMaintStop s x = if namedAct x.desc = 7 ∧ s.cardOp.isSome = true then (s, okWith 0 [], [.safePoint])
      else (s.stopAct (namedAct x.desc), okWith 0 [], []) := by
  rw [← State.notIdle_iff, namedAct] at h
  unfold doMaintStop namedAct
  dsimp only
  rw [h]
  rfl

/-! ### SELFTEST_RUN (R146, R659) -/

/-- The tests that a self-test runs, and those of them that failed, outside the ROM. -/
def selftestMask (b : Bytes) : Nat := bits (dP0 b) 4 0
def selftestFailed (b : Bytes) (failed : BitVec 8) : Nat := failed.toNat &&& selftestMask b &&& 0x17

/-- The result of a self-test: what ran, what failed, the algorithm of the first known-answer test that did. -/
def selftestResult (b : Bytes) (failed : BitVec 8) (kat : BitVec 16) : Result :=
  let f := selftestFailed b failed
  okEff f (leBytes 4 (selftestMask b) ++ leBytes 4 f ++ leBytes 8 (if f.testBit 0 then kat.toNat else 0) ++ zeros 16)
    (if f = 0 then [] else [.after (.falsework 8)])

/-- Out of FALSEWORK no ROM stands for the firmware. -/
theorem romRuns_eq_false (hdev : s.glb.dev ≠ .falsework) : decide (s.glb.dev = .falsework ∧ s.glb.fwCause = 2) = false :=
  decide_eq_false (fun h => hdev h.1)

theorem doSelftest_plain {failed : BitVec 8} {kat : BitVec 16} (hdev : s.glb.dev ≠ .falsework) (h3 : (selftestMask x.desc).testBit 3 = false) :
    doSelftest j failed kat s x = (s, selftestResult x.desc failed kat, []) := by
  rw [selftestMask] at h3
  unfold doSelftest selftestResult selftestFailed selftestMask
  dsimp only
  rw [romRuns_eq_false hdev]
  simp only [hdev, h3, Bool.not_false, and_true, true_or, and_false, Bool.false_eq_true, if_true, if_false]

theorem doSelftest_conflict {failed : BitVec 8} {kat : BitVec 16} {c : Nat} (hdev : s.glb.dev ≠ .falsework)
    (h3 : (selftestMask x.desc).testBit 3 = true) (hc : s.conflictWith 6 = some c) :
    doSelftest j failed kat s x = (s, failWith St.maintConflict c, []) := by
  rw [selftestMask] at h3
  unfold doSelftest
  dsimp only
  rw [romRuns_eq_false hdev]
  simp only [hdev, h3, hc, Bool.not_true, false_and, and_false, Bool.false_eq_true, or_self, if_false]

/-! ### The statement -/

/-- Settles O26: start by its defect, status by the activity named, stop by the activity's state, the self-test by its bit 3. -/
theorem maintenanceOpcodes : Obligations.MaintenanceOpcodes := by
  intro s j x a
  refine ⟨fun h ha => ?start, fun h => ?status, fun h ha => ?stop, fun h => congrArg _ (State.runJob_eq h rfl), ?plain, ?conflict⟩
  case start =>
    exact ⟨fun st det hd => congrArg _ (State.runAction_eq h ha (doMaintStart_defect hd)),
      fun hd => congrArg _ (State.runAction_eq h ha (doMaintStart_starts hd))⟩
  case status =>
    refine ⟨fun hone => exec_maintStatus_answers h (State.statusRecords_one hone), fun hall => exec_maintStatus_answers h ?_⟩
    rw [show namedAct x.desc = 0 from hall, State.statusRecords_zero]
  case stop =>
    refine ⟨fun h1 h2 => ?_, fun hrun h7 => ?_, fun hrun h7 hcard => ?_⟩
    · exact congrArg _ (State.runAction_eq h ha (doMaintStop_idle (fun hrun => hrun.elim h1 h2)))
    · exact congrArg _ (State.runAction_eq h ha ((doMaintStop_running hrun).trans (if_neg (fun hno => h7 hno.1))))
    · exact congrArg _ (State.runAction_eq h ha ((doMaintStop_running hrun).trans (if_pos ⟨h7, hcard⟩)))
  case plain =>
    intro failed kat h ha hdev m f h3
    exact congrArg _ (State.runAction_eq h ha (doSelftest_plain hdev h3))
  case conflict =>
    intro failed kat c h ha hdev h3 hc
    exact congrArg _ (State.runAction_eq h ha (doSelftest_conflict hdev h3 hc))

end Sys2Proof.Machine
end

section
/-! The life-cycle opcodes (R147 to R150, R617, R618, R621 to R626, R630). -/

namespace Sys2Proof.Machine

variable {s : State} {j : Nat} {x : Job} {agree : Bool}

/-! ### While a transition runs (R630) -/

theorem exec_lcsRequest_burning (h : s.startable j 0x0902 = some x) (hb : s.lcs.burn.isSome = true) :
    exec (.lcsRequest j agree) s = .next s := by
  rw [exec_lcsRequest]
  unfold execLcsRequest
  rw [h]
  dsimp only
  rw [if_pos hb]

theorem exec_lcsChallenge_burning (h : s.startable j 0x0903 = some x) (hb : s.lcs.burn.isSome = true) :
    exec (.lcsChallenge j) s = .next s := by
  rw [exec_lcsChallenge]
  unfold execLcsChallenge
  rw [h]
  dsimp only
  rw [if_pos hb]

theorem exec_lcsPermit_burning (h : s.startable j 0x0904 = some x) (hb : s.lcs.burn.isSome = true) :
    exec (.lcsPermit j agree) s = .next s := by
  rw [exec_lcsPermit]
  unfold execLcsPermit
  rw [h]
  dsimp only
  rw [if_pos hb]

/-! ### LCS_REQUEST (R148, R617, R618) -/

theorem exec_lcsRequest_disagree (h : s.startable j 0x0902 = some x) (hb : s.lcs.burn = none) :
    exec (.lcsRequest j false) s = .next (s.splitDecision [] 0) := by
  rw [exec_lcsRequest]
  unfold execLcsRequest
  rw [h]
  dsimp only
  rw [if_neg (by rw [hb]; exact Bool.false_ne_true), if_pos Bool.not_false]

theorem exec_lcsRequest_refused (h : s.startable j 0x0902 = some x) (hb : s.lcs.burn = none)
    (hp : s.planBurn (leBytes 5 (dP0 x.desc)) = none) : exec (.lcsRequest j true) s = .next (s.finishJob j s.stateFail []) := by
  rw [exec_lcsRequest]
  unfold execLcsRequest
  rw [h]
  dsimp only
  rw [if_neg (by rw [hb]; exact Bool.false_ne_true), if_neg (by decide), hp]

theorem exec_lcsRequest_planned {l : LState} {code : Bytes} {steps : List BurnStep} (h : s.startable j 0x0902 = some x)
    (hb : s.lcs.burn = none) (hp : s.planBurn (leBytes 5 (dP0 x.desc)) = some (l, code, steps)) :
    exec (.lcsRequest j true) s = .next (s.askBurn j 0 l code steps) := by
  rw [exec_lcsRequest]
  unfold execLcsRequest
  rw [h]
  dsimp only
  rw [if_neg (by rw [hb]; exact Bool.false_ne_true), if_neg (by decide), hp]

/-- A transition other than a restrike asks for nothing after its reply but the cancellation (R625). -/
theorem State.askBurn_of_ne_restrike {det : Nat} {l : LState} {code : Bytes} {steps : List BurnStep} (hl : l ≠ .restrike) :
    s.askBurn j det l code steps =
      (s.finishJob j (okEff det [] (if l = .cancelled then [.after .cancelled] else [])) [.burn]).startBurn l code steps (.job j) := by
  unfold State.askBurn
  dsimp only
  rw [if_neg hl]

/-! ### LCS_CHALLENGE (R149, R622) -/

theorem exec_lcsChallenge_draws (h : s.startable j 0x0903 = some x) (hb : s.lcs.burn = none) 
    (hl : s.lcs.lstate = .proof ∨ s.lcs.lstate = .edition ∨ s.lcs.lstate = .restrike) :
    exec (.lcsChallenge j) s = .next (({ s with lcs := { s.lcs with challenge := some (drawBytes s.draws 32) } }).nextDraw.finishJob j
      (okWith 0 (drawBytes s.draws 32 ++ s.unitId)) []) := by
  rw [exec_lcsChallenge]
  unfold execLcsChallenge
  rw [h]
  dsimp only
  rw [if_neg (by rw [hb]; exact Bool.false_ne_true), if_pos hl]

theorem exec_lcsChallenge_refused (h : s.startable j 0x0903 = some x) (hb : s.lcs.burn = none) 
    (hl : ¬(s.lcs.lstate = .proof ∨ s.lcs.lstate = .edition ∨ s.lcs.lstate = .restrike)) :
    exec (.lcsChallenge j) s = .next (s.finishJob j s.stateFail []) := by
  rw [exec_lcsChallenge]
  unfold execLcsChallenge
  rw [h]
  dsimp only
  rw [if_neg (by rw [hb]; exact Bool.false_ne_true), if_neg hl]

/-! ### LCS_PERMIT (R150, R622 to R626) -/

/-- The challenge is consumed whatever the outcome (R622). -/
def State.challengeUsed (s : State) : State := { s with lcs := { s.lcs with challenge := none } }

/-- The first check of R623 that the permit of a job fails. -/
def State.permitDefect (s : State) (x : Job) : Option (Nat × Nat) :=
  s.challengeUsed.permitFails x.input (bits (dP0 x.desc) 7 0) s.lcs.challenge (x.quorum.testBit 10)

theorem exec_lcsPermit_disagree (h : s.startable j 0x0904 = some x) (hb : s.lcs.burn = none) :
    exec (.lcsPermit j false) s = .next (s.challengeUsed.splitDecision [] 0) := by
  rw [exec_lcsPermit]
  unfold execLcsPermit
  rw [h]
  dsimp only
  rw [if_neg (by rw [hb]; exact Bool.false_ne_true), if_pos Bool.not_false]
  rfl

theorem exec_lcsPermit_fails {st det : Nat} (h : s.startable j 0x0904 = some x) (hb : s.lcs.burn = none)
    (hd : s.permitDefect x = some (st, det)) :
    exec (.lcsPermit j true) s = .next ((s.challengeUsed.finishJob j (failWith st det) []).bump Reg.lcsPermitFail) := by
  unfold State.permitDefect State.challengeUsed at hd
  dsimp only at hd
  rw [exec_lcsPermit]
  unfold execLcsPermit
  rw [h]
  dsimp only
  rw [if_neg (by rw [hb]; exact Bool.false_ne_true), if_neg (by decide), hd]
  rfl

theorem exec_lcsPermit_accepted (h : s.startable j 0x0904 = some x) (hb : s.lcs.burn = none) (hd : s.permitDefect x = none) :
    exec (.lcsPermit j true) s = .next (s.challengeUsed.acceptPermit j (bits (dP0 x.desc) 7 0)) := by
  unfold State.permitDefect State.challengeUsed at hd
  dsimp only at hd
  rw [exec_lcsPermit]
  unfold execLcsPermit
  rw [h]
  dsimp only
  rw [if_neg (by rw [hb]; exact Bool.false_ne_true), if_neg (by decide), hd]
  rfl

theorem State.acceptPermit_debug {kind : Nat} (hk : kind = 3) : s.acceptPermit j kind = s.openDebug.finishJob j (okWith 3 []) [] := if_pos hk

theorem State.acceptPermit_half {kind : Nat} (hk : kind ≠ 3) (hh : s.lcs.half = 0 ∨ s.lcs.half = kind) :
    s.acceptPermit j kind = ({ s with lcs := { s.lcs with half := kind } } : State).finishJob j (okWith 1 []) [] :=
  (if_neg hk).trans (if_pos hh)

/-! ### The statement -/

/-- Settles O27: each opcode by whether a transition runs, then by its own checks. -/
theorem lifeCycleOpcodes : Obligations.LifeCycleOpcodes := by
  intro s j x used kind
  refine ⟨fun h => congrArg _ (State.runJob_eq h rfl), ?burning, fun h hb => ?request, fun h hb => ?challenge, fun h hb => ?permit⟩
  case burning =>
    intro c op hc h hb
    obtain ⟨b, rfl, rfl⟩ | ⟨rfl, rfl⟩ | ⟨b, rfl, rfl⟩ := hc
    · exact exec_lcsRequest_burning h hb
    · exact exec_lcsChallenge_burning h hb
    · exact exec_lcsPermit_burning h hb
  case request =>
    refine ⟨exec_lcsRequest_disagree h hb, fun hp => exec_lcsRequest_refused h hb hp, fun l code steps hp hl => ?_⟩
    rw [exec_lcsRequest_planned h hb hp, State.askBurn_of_ne_restrike hl]
  case challenge =>
    exact ⟨fun hl => exec_lcsChallenge_draws h hb hl,
      fun h1 h2 h3 => exec_lcsChallenge_refused h hb (fun hl => hl.elim h1 (fun hl => hl.elim h2 h3))⟩
  case permit =>
    refine ⟨exec_lcsPermit_disagree h hb, fun st det hd => exec_lcsPermit_fails h hb hd, fun hd => ⟨fun hk => ?_, fun hk hh => ?_⟩⟩
    · exact (exec_lcsPermit_accepted h hb hd).trans (congrArg _ (State.acceptPermit_debug hk))
    · exact (exec_lcsPermit_accepted h hb hd).trans (congrArg _ (State.acceptPermit_half hk hh))

end Sys2Proof.Machine
end

section
/-! The custody opcodes (R151, R473, R475, R747, R748, R754, R757, R768, R770). -/

namespace Sys2Proof.Machine

variable {s : State} {j st det : Nat} {x : Job} {present : BitVec 8}

/-! ### The card (R747, R748) -/

theorem State.cardDefect_held (h : s.cardOp.isSome = true) : s.cardDefect = some (St.maintConflict, 7) := if_pos h

theorem State.cardDefect_absent (h : s.cardOp = none) (hr : s.cus.ready = false) : s.cardDefect = some (St.cardRemoved, 0) := by
  simp [State.cardDefect, h, hr]

theorem State.cardDefect_free (h : s.cardOp = none) (hr : s.cus.ready = true) : s.cardDefect = none := by
  simp [State.cardDefect, h, hr]

/-! ### ARCHIVE_SCAN (R754) -/

theorem exec_archiveScan_refused (h : s.startable j 0x0A02 = some x) (hheld : s.holdsCard j = false) (ha : x.abortBy = none)
    (hd : s.cardDefect = some (st, det)) : exec (.archiveScan j) s = .next (s.finishJob j (failWith st det) []) := by
  rw [exec_archiveScan]
  unfold execArchiveScan
  rw [h]
  dsimp only
  rw [if_neg (ne_true_of_eq_false hheld), ha, hd]

theorem exec_archiveScan_begins (h : s.startable j 0x0A02 = some x) (hheld : s.holdsCard j = false) (ha : x.abortBy = none)
    (hd : s.cardDefect = none) : exec (.archiveScan j) s = .next (s.beginOp (CardOp.start (.scan j) scanReads)) := by
  rw [exec_archiveScan]
  unfold execArchiveScan
  rw [h]
  dsimp only
  rw [if_neg (ne_true_of_eq_false hheld), ha, hd]

/-! ### ARCHIVE_RESTORE (R757) -/

theorem State.restoreDefect_quorum (h : x.quorum.testBit 11 = false) : s.restoreDefect x = some (St.quorum, 0) := by
  simp [State.restoreDefect, h]

theorem State.restoreDefect_card (h : x.quorum.testBit 11 = true) (hf : ([5, 6, 7] : List Nat).find? s.startedRuns = none)
    (hd : s.cardDefect = some (st, det)) : s.restoreDefect x = some (st, det) := by
  unfold State.restoreDefect
  rw [h, hf]
  dsimp only
  rw [hd]
  rfl

theorem State.restoreDefect_free (h : x.quorum.testBit 11 = true) (hf : ([5, 6, 7] : List Nat).find? s.startedRuns = none)
    (hd : s.cardDefect = none) : s.restoreDefect x = if s.cus.valid then none else some (St.policy, 0) := by
  unfold State.restoreDefect
  rw [h, hf]
  dsimp only
  rw [hd]
  rfl

theorem exec_archiveRestore_refused (h : s.startable j 0x0A03 = some x) (hheld : s.holdsCard j = false) (ha : x.abortBy = none)
    (hd : s.restoreDefect x = some (st, det)) : exec (.archiveRestore j) s = .next (s.finishJob j (failWith st det) []) := by
  rw [exec_archiveRestore]
  unfold execArchiveRestore
  rw [h]
  dsimp only
  rw [if_neg (ne_true_of_eq_false hheld), ha, hd]

/-- With the archive key of the card's superblock at hand, the card is read at once. -/
theorem exec_archiveRestore_reads {k : Bytes} (h : s.startable j 0x0A03 = some x) (hheld : s.holdsCard j = false) (ha : x.abortBy = none)
    (hd : s.restoreDefect x = none) (hk : s.archiveKey = some k) (hkcv : kcvOf k = slice (s.cus.ruling.getD []) 80 8) :
    exec (.archiveRestore j) s = .next (s.readView { CardOp.start (.restore j) [] with key := k }) := by
  rw [exec_archiveRestore]
  unfold execArchiveRestore
  rw [h]
  dsimp only
  rw [if_neg (ne_true_of_eq_false hheld), ha, hd]
  dsimp only
  rw [hk]
  dsimp only
  rw [if_pos hkcv]

/-! ### OFFICER_LOGIN (R768) -/

/-- The presence pins of the slots as a login reads them. -/
def State.seesCards (s : State) (present : BitVec 8) : State := { s with cus := { s.cus with ocd := present.toNat } }

theorem exec_officerLogin_wrongState (h : s.startable j 0x0A04 = some x) (hx : s.exchange = none) (ha : x.abortBy = none)
    (hp : s.lcs.lstate ≠ .proof) (he : s.lcs.lstate ≠ .edition) :
    exec (.officerLogin j present) s = .next ((s.seesCards present).refuseLogin j St.state s.glb.dev.code) := by
  rw [exec_officerLogin]
  unfold execOfficerLogin
  rw [h]
  dsimp only
  rw [if_neg (by rw [hx]; exact Bool.false_ne_true), ha]
  dsimp only
  rw [if_pos ⟨hp, he⟩]
  rfl

/-- In PROOF and EDITION, with the custody domain on, the login goes by the slot that it finds. -/
theorem exec_officerLogin_slot {o : Option Nat} (h : s.startable j 0x0A04 = some x) (hx : s.exchange = none) (ha : x.abortBy = none)
    (hl : s.lcs.lstate = .proof ∨ s.lcs.lstate = .edition) (hpd : s.pdOn 26 = true) (ho : (s.seesCards present).loginSlot = o) :
    exec (.officerLogin j present) s = .next (o.elim ((s.seesCards present).refuseLogin j St.cardRemoved 0)
      (fun i => (s.seesCards present).beginExch i j true)) := by
  have hserved : (if (s.seesCards present).pdOn 26 then (s.seesCards present).loginSlot else none) = o := (if_pos hpd).trans ho
  unfold State.seesCards at hserved
  dsimp only at hserved
  rw [exec_officerLogin]
  unfold execOfficerLogin
  rw [h]
  dsimp only
  rw [if_neg (by rw [hx]; exact Bool.false_ne_true), ha]
  dsimp only
  rw [if_neg (fun hno => hl.elim hno.1 hno.2), hserved]
  cases o <;> rfl

/-! ### QUORUM_SET (R473, R475) -/

theorem exec_quorumSet_entropy (h : s.ent.noEntropy = false) : exec (.quorumSet j) s = .next (s.runJob j 0x0A06 doQuorumSet) := by
  rw [exec_quorumSet]
  exact congrArg Host.Outcome.next (if_neg (fun hno => ne_true_of_eq_false h hno.1))

theorem doQuorumSet_badForm (h : policyForm x.input = false) : doQuorumSet s x = (s, failWith St.badEncoding 0, []) := by
  unfold doQuorumSet
  simp [h]

theorem doQuorumSet_unsigned (h : policyForm x.input = true) (hs : s.policySigned x.input = false) :
    doQuorumSet s x = (s, failWith St.policy 0, []) := by
  unfold doQuorumSet
  simp [h, hs]

/-- A quorum is asked for, but for the first policy of a device in PROOF (R475). -/
theorem quorumSet_unmet_iff : (!(s.csn.policy.isNone && decide (s.lcs.lstate = .proof)) && !(x.quorum.testBit 12)) = true ↔
    ¬((s.csn.policy = none ∧ s.lcs.lstate = .proof) ∨ x.quorum.testBit 12 = true) := by
  cases s.csn.policy <;> simp

theorem doQuorumSet_noQuorum (h : policyForm x.input = true) (hs : s.policySigned x.input = true)
    (hq : ¬((s.csn.policy = none ∧ s.lcs.lstate = .proof) ∨ x.quorum.testBit 12 = true)) :
    doQuorumSet s x = (s, failWith St.quorum 0, []) := by
  unfold doQuorumSet
  dsimp only
  rw [h, hs, if_neg (by decide), if_neg (by decide), if_pos (quorumSet_unmet_iff.mpr hq)]

theorem doQuorumSet_set (h : policyForm x.input = true) (hs : s.policySigned x.input = true)
    (hq : (s.csn.policy = none ∧ s.lcs.lstate = .proof) ∨ x.quorum.testBit 12 = true) (hl : s.lcs.lstate ≠ .edition) :
    doQuorumSet s x = (s, okEff 0 [] [.quorum x.input], [.shelf] ++ s.tableNeeds) := by
  unfold doQuorumSet
  dsimp only
  rw [h, hs, if_neg (by decide), if_neg (by decide), if_neg (fun hno => quorumSet_unmet_iff.mp hno hq), if_pos hl]

/-! ### The statement -/

/-- Settles O28: the card by who holds it, the login by its slot, the policy by its form, signatures and quorum. -/
theorem custodyOpcodes : Obligations.CustodyOpcodes := by
  intro s j x present seen first
  refine ⟨fun h => congrArg _ (State.runJob_eq h rfl), fun h hheld ha => ?scan, fun h hheld ha => ?restore, fun h hx ha => ?login,
    fun h => congrArg _ (State.runJob_eq h rfl), fun h he => ?quorum⟩
  case scan =>
    refine ⟨fun hop => ?_, fun hop hr => ?_, fun hop hr => ?_⟩
    · exact exec_archiveScan_refused h hheld ha (State.cardDefect_held hop)
    · exact exec_archiveScan_refused h hheld ha (State.cardDefect_absent hop hr)
    · exact exec_archiveScan_begins h hheld ha (State.cardDefect_free hop hr)
  case restore =>
    refine ⟨fun hq => exec_archiveRestore_refused h hheld ha (State.restoreDefect_quorum hq), fun hq hf => ⟨fun hop => ?_, fun hop hr => ?_,
      fun hop hr hv => ?_, fun k hop hr hv hk hkcv => ?_⟩⟩
    · exact exec_archiveRestore_refused h hheld ha (State.restoreDefect_card hq hf (State.cardDefect_held hop))
    · exact exec_archiveRestore_refused h hheld ha (State.restoreDefect_card hq hf (State.cardDefect_absent hop hr))
    · exact exec_archiveRestore_refused h hheld ha
        ((State.restoreDefect_free hq hf (State.cardDefect_free hop hr)).trans (if_neg (ne_true_of_eq_false hv)))
    · exact exec_archiveRestore_reads h hheld ha ((State.restoreDefect_free hq hf (State.cardDefect_free hop hr)).trans (if_pos hv)) hk hkcv
  case login =>
    exact ⟨exec_officerLogin_wrongState h hx ha,
      fun hl hpd => ⟨fun hnone => exec_officerLogin_slot h hx ha hl hpd hnone, fun i hi => exec_officerLogin_slot h hx ha hl hpd hi⟩⟩
  case quorum =>
    rw [exec_quorumSet_entropy he]
    refine ⟨fun hf => ?_, fun hf hs => ?_, fun hf hs hno hq => ?_, fun hf hs hq hl => ?_⟩
    · exact congrArg _ (State.runJob_eq h (doQuorumSet_badForm hf))
    · exact congrArg _ (State.runJob_eq h (doQuorumSet_unsigned hf hs))
    · exact congrArg _ (State.runJob_eq h (doQuorumSet_noQuorum hf hs (fun hor => hor.elim hno (ne_true_of_eq_false hq))))
    · exact congrArg _ (State.runJob_eq h (doQuorumSet_set hf hs hq hl))

end Sys2Proof.Machine
end

section
/-! The twin opcodes and the pairing exchange (R152, R572 to R577, R579, R591, R592). -/

namespace Sys2Proof.Machine

variable {s : State} {j : Nat} {x : Job}

/-! ### TWIN_STATUS (R572) -/

theorem exec_twinStatus_startable (h : s.startable j 0x0B02 = some x) :
    ∃ r, exec (.twinStatus j) s = .next (s.finishJob j (okWith 0 r) []) ∧ r.take 1 = leBytes 1 s.spn.pair.code :=
  ⟨_, congrArg _ (State.runJob_eq h rfl), rfl⟩

/-! ### TWIN_ROLE_SET (R579) -/

theorem doRoleSet_apart (h : s.spn.pair ≠ .inStep) : doRoleSet s x = (s, failWith St.twinUnavailable 0, []) := if_pos h

/-- The change of role that a job asks for. -/
def roleChange (b : Bytes) : Result := okEff 0 [] [.roles [bits (dP0 b) 7 0] ((dP0 b).testBit 8) (some ((dP0 b).testBit 9)) 1]

/-- A job gives a primary role of this device away. -/
def State.givesRole (s : State) (b : Bytes) : Bool := !((dP0 b).testBit 8) && (s.vi (bits (dP0 b) 7 0)).primary

theorem doRoleSet_takes (h : s.spn.pair = .inStep) (hg : s.givesRole x.desc = false) : doRoleSet s x = (s, roleChange x.desc, [.twin]) := by
  rw [State.givesRole] at hg
  unfold doRoleSet
  dsimp only
  rw [if_neg (not_not_intro h), hg]
  rfl

theorem doRoleSet_gives (h : s.spn.pair = .inStep) (hg : s.givesRole x.desc = true) :
    doRoleSet s x = (s.modVi (bits (dP0 x.desc) 7 0) (fun y => { y with handover := true }), roleChange x.desc, [.drain, .twin]) := by
  rw [State.givesRole] at hg
  unfold doRoleSet
  dsimp only
  rw [if_neg (not_not_intro h), hg]
  rfl

/-! ### TWIN_TAKEOVER (R591, R592) -/

/-- The VIs that a takeover makes primary: all, or the one named, but those that are already. -/
def State.takenOver (s : State) (b : Bytes) : List Nat :=
  (if bits (dP0 b) 7 0 = 0xFF then allVis else [bits (dP0 b) 7 0]).filter (fun v => !(s.vi v).primary)

/-- A claim whose peer is fenced already is won at once. -/
def State.claimSettled (s : State) (j : Nat) : State :=
  if s.spn.claim = some j ∧ s.spn.hbAlive ∧ s.spn.peerState = 6 then s.claimWon else s

theorem exec_twinTakeover_startable {t : State} {r : Result} {needs : List Need} (h : s.startable j 0x0B04 = some x) (ha : x.abortBy = none)
    (hf : doTakeover j s x = (t, r, needs)) :
    exec (.twinTakeover j) s = .next ((t.finishJob j r needs).settleDrains.claimSettled j) :=
  congrArg (fun u : State => Host.Outcome.next (u.claimSettled j)) (State.runAction_eq h ha hf)

theorem doTakeover_peerLost (h : s.spn.pair = .peerLost) :
    doTakeover j s x = (s, okEff 0 [] [.roles (s.takenOver x.desc) true none 3], []) := by
  unfold doTakeover
  dsimp only
  rw [h]
  rfl

theorem doTakeover_claims (h : s.spn.pair = .linkDown) (hall : bits (dP0 x.desc) 7 0 = 0xFF) (hc : s.spn.claim = none) :
    doTakeover j s x = ({ s with spn := { s.spn with fence := true, claim := some j } }, okWith 0 [], [.takeover]) := by
  unfold doTakeover
  dsimp only
  rw [h]
  dsimp only
  rw [if_neg (not_not_intro hall), if_neg (by rw [hc]; exact Bool.false_ne_true)]

theorem doTakeover_oneVi (h : s.spn.pair = .linkDown) (hone : bits (dP0 x.desc) 7 0 ≠ 0xFF) :
    doTakeover j s x = (s, failWith St.badParam 0x28, []) := by
  unfold doTakeover
  dsimp only
  rw [h]
  dsimp only
  rw [if_pos hone]

theorem doTakeover_inStep (h : s.spn.pair = .inStep) (hv : s.takenOver x.desc ≠ []) :
    doTakeover j s x = (s, okEff 0 [] [.roles (s.takenOver x.desc) true none 1], [.twin]) := by
  unfold doTakeover
  dsimp only
  rw [h]
  exact if_neg (fun he => hv (List.isEmpty_iff.mp he))

/-! ### TWIN_UNPAIR (R577) -/

theorem doUnpair_apart (h : s.spn.pair = .unpaired) : doUnpair s x = (s, s.wrongState, []) := by
  simp [doUnpair, h]

theorem doUnpair_noQuorum (h : s.spn.pair = .peerLost) (hq : x.quorum.testBit 9 = false) : doUnpair s x = (s, failWith St.quorum 0, []) := by
  simp [doUnpair, h, hq]

theorem doUnpair_alone (h : s.spn.pair = .peerLost) (hq : x.quorum.testBit 9 = true) : doUnpair s x = (s, okEff 0 [] [.unpair], []) := by
  simp [doUnpair, h, hq]

theorem doUnpair_inStep (h : s.spn.pair = .inStep) (hq : x.quorum.testBit 9 = true) :
    doUnpair s x = (s, okEff 0 [] [.unpair], [.twin]) := by
  simp [doUnpair, h, hq]

/-! ### TWIN_PAIR (R573, R574) -/

theorem exec_twinPair_startable {t : State} {r : Result} {needs : List Need} (h : s.startable j 0x0B01 = some x) (ha : x.abortBy = none)
    (hf : doPair j s x = (t, r, needs)) : exec (.twinPair j) s = .next (t.finishJob j r needs).settleDrains.takePair :=
  congrArg (fun u : State => Host.Outcome.next u.takePair) (State.runAction_eq h ha hf)

theorem doPair_wrongState (h : s.lcs.lstate ≠ .edition) : doPair j s x = (s, s.wrongState, []) := if_pos (.inl h)

/-- A device in EDITION that is ready, unpaired and not pairing. -/
theorem not_pairRefused (hl : s.lcs.lstate = .edition) (hdev : s.glb.dev = .ready) (hp : s.spn.pair = .unpaired) (hn : s.spn.pairing = none) :
    ¬(s.lcs.lstate ≠ .edition ∨ s.glb.dev ≠ .ready ∨ (s.spn.pair ≠ .unpaired ∧ s.spn.pair ≠ .peerLost) ∨
      s.spn.pairing.isSome = true) := by
  simp [hl, hdev, hp, hn]

theorem doPair_noQuorum (hl : s.lcs.lstate = .edition) (hdev : s.glb.dev = .ready) (hp : s.spn.pair = .unpaired) (hn : s.spn.pairing = none)
    (hq : x.quorum.testBit 8 = false) : doPair j s x = (s, failWith St.quorum 0, []) := by
  unfold doPair
  dsimp only
  rw [if_neg (not_pairRefused hl hdev hp hn), hq]
  rfl

theorem doPair_defect {d : Nat × Nat} (hl : s.lcs.lstate = .edition) (hdev : s.glb.dev = .ready) (hp : s.spn.pair = .unpaired)
    (hn : s.spn.pairing = none) (hq : x.quorum.testBit 8 = true) (hd : s.pairDefect x.input ((dP0 x.desc).testBit 0) = some d) :
    doPair j s x = (s, failWith d.1 d.2, []) := by
  unfold doPair
  dsimp only
  rw [if_neg (not_pairRefused hl hdev hp hn), hq, hd]
  rfl

/-! ### Frames, refusal and timeout of the exchange (R575) -/

theorem exec_twinPairTimeout_waits {p : Pairing} (hp : s.spn.pairing = some p)
    (hw : (s.job p.job).any (fun y => decide (y.stage = .waiting ∧ y.needs.head? = some Need.pair)) = true) :
    exec .twinPairTimeout s = .next (s.failJob p.job St.twinUnavailable 0) := by
  rw [exec_twinPairTimeout]
  unfold execTwinPairTimeout
  rw [hp]
  exact congrArg Host.Outcome.next (if_pos hw)

theorem exec_twinPairTimeout_none (hp : s.spn.pairing = none) : exec .twinPairTimeout s = .next s := by
  rw [exec_twinPairTimeout]
  unfold execTwinPairTimeout
  rw [hp]

theorem exec_pairRefusal_on (h : s.spanOn = true) : exec .pairRefusal s = .next s.refusedByPeer := by
  rw [exec_pairRefusal]
  exact congrArg Host.Outcome.next (if_pos h)

/-- A span that is on and not dead takes frames. -/
theorem not_spanOff_or_dead (hon : s.spanOn = true) (hdead : s.spn.dead = false) : ¬((!s.spanOn) = true ∨ s.spn.dead = true) := by
  simp [hon, hdead]

theorem exec_pairFrame_damaged {frame : Bytes} (hon : s.spanOn = true) (hdead : s.spn.dead = false) (hw : frameWhole frame = false) :
    exec (.pairFrame frame) s = .next (s.bump (Reg.spn 0x208)) := by
  rw [exec_pairFrame]
  unfold execPairFrame
  rw [if_neg (not_spanOff_or_dead hon hdead), hw]
  rfl

theorem exec_pairFrame_refusal {frame : Bytes} (hon : s.spanOn = true) (hdead : s.spn.dead = false) (hw : frameWhole frame = true)
    (hf : frameOf frame [tPair] = true) (hlen : 6 ≤ rd frame 4 2) (hstep : rd (slice frame 32 (rd frame 4 2)) 0 1 = 0x0F) :
    exec (.pairFrame frame) s = .next s.refusedByPeer := by
  rw [exec_pairFrame]
  unfold execPairFrame
  rw [if_neg (not_spanOff_or_dead hon hdead), hw, if_neg (by decide), hf, if_neg (by simpa using hlen)]
  exact congrArg Host.Outcome.next (if_pos hstep)

/-! ### The statement -/

/-- Settles O30: each opcode by the pair state, then by its quorum; frames by whether they are whole. -/
theorem twinOpcodes : Obligations.TwinOpcodes := by
  intro s j x p0 v prim gives held roles vs won
  refine ⟨exec_twinStatus_startable, fun h ha => ?roleSet, fun h ha => ?takeover, fun h ha => ?unpair, fun h ha _ => ?pair,
    fun p => exec_twinPairTimeout_waits, exec_twinPairTimeout_none, exec_pairRefusal_on, fun frame => exec_pairFrame_damaged,
    fun frame => exec_pairFrame_refusal⟩
  case roleSet =>
    refine ⟨fun hp => ?_, fun hp hg => ?_, fun hp hg => ?_⟩
    · exact congrArg _ (State.runAction_eq h ha (doRoleSet_apart hp))
    · exact congrArg _ (State.runAction_eq h ha (doRoleSet_takes hp hg))
    · exact congrArg _ (State.runAction_eq h ha (doRoleSet_gives hp hg))
  case takeover =>
    refine ⟨fun hp => ?_, fun hp hall hc => ?_, fun hp hone => ?_, fun hp hvs => ?_⟩
    · exact exec_twinTakeover_startable h ha (doTakeover_peerLost hp)
    · exact exec_twinTakeover_startable h ha (doTakeover_claims hp hall hc)
    · exact exec_twinTakeover_startable h ha (doTakeover_oneVi hp hone)
    · exact exec_twinTakeover_startable h ha (doTakeover_inStep hp hvs)
  case unpair =>
    refine ⟨fun hp => ?_, fun hp hq => ?_, fun hp hq => ?_, fun hp hq => ?_⟩
    · exact congrArg _ (State.runAction_eq h ha (doUnpair_apart hp))
    · exact congrArg _ (State.runAction_eq h ha (doUnpair_noQuorum hp hq))
    · exact congrArg _ (State.runAction_eq h ha (doUnpair_alone hp hq))
    · exact congrArg _ (State.runAction_eq h ha (doUnpair_inStep hp hq))
  case pair =>
    refine ⟨fun hl => ⟨_, exec_twinPair_startable h ha (doPair_wrongState hl), rfl⟩, fun hl hdev hp hn hq => ?_,
      fun d hl hdev hp hn hq hd => ?_⟩
    · exact exec_twinPair_startable h ha (doPair_noQuorum hl hdev hp hn hq)
    · exact exec_twinPair_startable h ha (doPair_defect hl hdev hp hn hq hd)

end Sys2Proof.Machine
end

section
/-! The opcodes of the VI manager (R153, R197, R522, R523, R526, R529, R534, R540, R544, R549, R552, R558). -/

namespace Sys2Proof.Machine

variable {s : State} {j : Nat} {x : Job} {sound : Bool}

/-! ### VI_QUOTA_SET and VI_RESET (R522, R523, R534) -/

theorem doQuotaSet_bad {o : Nat} (h : s.quotaBad (targetVi x.desc) x.input = some o) : doQuotaSet s x = (s, failWith St.badEncoding o, []) := by
  unfold doQuotaSet
  dsimp only
  rw [h]

theorem doQuotaSet_sound (h : s.quotaBad (targetVi x.desc) x.input = none) :
    doQuotaSet s x = (s, okEff 0 [] [.putQuota (targetVi x.desc) (Quota.ofBytes x.input)], s.tableNeeds) := by
  unfold doQuotaSet
  dsimp only
  rw [h]

theorem exec_viReset_startable (h : s.startable j 0x0C02 = some x) (ha : x.abortBy = none) : exec (.viReset j) s =
    .next (((s.startReset (targetVi x.desc)).finishJob j (okWith 0 []) [.reset]).settleDrains) :=
  congrArg _ (State.runAction_eq h ha rfl)

/-! ### VI_FREEZE and VI_THAW (R540, R544, R558) -/

/-- What VI_FREEZE does with the VI that its job names. -/
def doFreeze (s : State) (x : Job) : State × Result × List Need :=
  if (s.vi (targetVi x.desc)).state ≠ .running ∨ (s.vi (targetVi x.desc)).freezing then (s, s.wrongState, [])
  else if (s.vi (targetVi x.desc)).lockedDown then (s, failWith St.policy 0, [])
  else (s.beginFreeze (targetVi x.desc), okEff 0 [] [.freeze (targetVi x.desc)], [.drain])

theorem exec_viFreeze_startable {t : State} {r : Result} {needs : List Need} (h : s.startable j 0x0C03 = some x) (ha : x.abortBy = none)
    (hf : doFreeze s x = (t, r, needs)) : exec (.viFreeze j) s = .next (t.finishJob j r needs).settleDrains :=
  congrArg _ (State.runAction_eq h ha hf)

theorem doFreeze_wrongState (h : (s.vi (targetVi x.desc)).state ≠ .running ∨ (s.vi (targetVi x.desc)).freezing = true) :
    doFreeze s x = (s, s.wrongState, []) := if_pos h

/-- A VI that runs and is not being frozen is refused by its TDI alone. -/
theorem doFreeze_running (h : (s.vi (targetVi x.desc)).state = .running) (hf : (s.vi (targetVi x.desc)).freezing = false) :
    doFreeze s x = if (s.vi (targetVi x.desc)).lockedDown then (s, failWith St.policy 0, [])
      else (s.beginFreeze (targetVi x.desc), okEff 0 [] [.freeze (targetVi x.desc)], [.drain]) :=
  if_neg (fun hno => hno.elim (· h) (ne_true_of_eq_false hf))

theorem Vi.lockedDown_iff (y : Vi) : y.lockedDown = true ↔ y.tdi = .locked ∨ y.tdi = .run := decide_eq_true_iff

/-- What VI_THAW does with the VI that its job names. -/
def doThaw (s : State) (x : Job) : State × Result × List Need :=
  if (s.vi (targetVi x.desc)).state ≠ .frozen then (s, s.wrongState, []) else (s.thaw (targetVi x.desc), okWith 0 [], [])

theorem exec_viThaw_startable {t : State} {r : Result} {needs : List Need} (h : s.startable j 0x0C06 = some x) (ha : x.abortBy = none)
    (hf : doThaw s x = (t, r, needs)) : exec (.viThaw j) s = .next (t.finishJob j r needs).settleDrains :=
  congrArg _ (State.runAction_eq h ha hf)

/-! ### VI_SAVE (R548, R549) -/

theorem exec_viSave_startable (h : s.startable j 0x0C04 = some x) (ha : x.abortBy = none) :
    exec (.viSave j) s = .next (s.runJob j 0x0C04 doSave) := by
  rw [exec_viSave]
  unfold execViSave
  rw [h, Option.bind_some, ha]

theorem doSave_wrongState (h : (s.vi (targetVi x.desc)).state ≠ .frozen) : doSave s x = (s, s.wrongState, []) := if_pos h

theorem doSave_locked (h : (s.vi (targetVi x.desc)).state = .frozen) (ht : (s.vi (targetVi x.desc)).tdi ≠ .unlocked) :
    doSave s x = (s, failWith St.policy 0, []) :=
  (if_neg (not_not_intro h)).trans (if_pos ht)

/-- The length of the blob of the VI that a job saves. -/
def State.savedLen (s : State) (x : Job) (k : KeyRec) : Nat :=
  (s.blob (targetVi x.desc) k).1.length + (s.blob (targetVi x.desc) k).2.length

/-- A frozen, unlocked VI of a device without a twin is saved when its blob fits the output. -/
theorem doSave_blob {k : KeyRec} (h : (s.vi (targetVi x.desc)).state = .frozen) (ht : (s.vi (targetVi x.desc)).tdi = .unlocked)
    (hp : s.paired = false) (hk : x.key = some k) :
    doSave s x = if dOutMax x.desc < s.savedLen x k then (s, { failWith St.badParam 16 with lenOut := s.savedLen x k }, [])
      else (((s.nextDraw.nextDraw.nextDraw.nextDraw).emit
          (.dma x.vi (s.via x.vi) (dOutAddr x.desc) (s.blob (targetVi x.desc) k).1)),
        { okEff 0 [] [.saved (targetVi x.desc)] with
          lenOut := s.savedLen x k
          extra := [(dOutAddr x.desc + (s.blob (targetVi x.desc) k).1.length, (s.blob (targetVi x.desc) k).2)] },
        [Need.shelf] ++ (if s.twinWaits then [Need.twin] else [])) := by
  unfold doSave
  dsimp only
  rw [if_neg (not_not_intro h), if_neg (not_not_intro ht), if_neg (fun hno => ne_true_of_eq_false hp hno.1), hk]
  rfl

/-! ### VI_RESTORE (R552) -/

theorem exec_viRestore_startable (h : s.startable j 0x0C05 = some x) (ha : x.abortBy = none) :
    exec (.viRestore j sound) s = .next (s.runJob j 0x0C05 (doRestore sound)) := by
  rw [exec_viRestore]
  unfold execViRestore
  rw [h, Option.bind_some, ha]

theorem doRestore_locked (h : (s.vi (targetVi x.desc)).lockedDown = true) : doRestore sound s x = (s, failWith St.policy 0, []) := if_pos h

theorem doRestore_wrongState (h : (s.vi (targetVi x.desc)).lockedDown = false)
    (hw : ((s.vi (targetVi x.desc)).state ≠ .running ∧ (s.vi (targetVi x.desc)).state ≠ .detached) ∨
      (s.vi (targetVi x.desc)).freezing = true ∨ (s.vi (targetVi x.desc)).tdi ≠ .unlocked ∨ s.viEmpty (targetVi x.desc) = false) :
    doRestore sound s x = (s, s.wrongState, []) := by
  rw [← Bool.not_eq_true'] at hw
  exact (if_neg (ne_true_of_eq_false h)).trans (if_pos hw)

/-! ### FUNCTION_SET (R153, R197) -/

/-- The kind and the unit that FUNCTION_SET names. -/
def functionKind (b : Bytes) : Nat := bits (dP0 b) 15 8
def functionUnit (b : Bytes) : Nat := bits (dP0 b) 31 16

/-- To disable the named unit would leave fewer than 2 piers, or no lane. -/
def State.leavesFewPiers (s : State) (b : Bytes) : Prop :=
  functionKind b = 2 ∧ (s.piersOn.filter (fun p => decide (p ≠ functionUnit b))).length < 2
def State.leavesNoLane (s : State) (b : Bytes) : Prop := functionKind b = 3 ∧ s.laneUp (functionUnit b) = true ∧ s.lanesOnDuty ≤ 1

theorem doFunctionSet_on (h : (dP0 x.desc).testBit 32 = true) :
    doFunctionSet s x = (s.setFunction (functionKind x.desc) (targetVi x.desc) (functionUnit x.desc) true, okWith 0 [], []) := if_pos h

theorem doFunctionSet_refused (h : (dP0 x.desc).testBit 32 = false) (hf : s.leavesFewPiers x.desc ∨ s.leavesNoLane x.desc) :
    doFunctionSet s x = (s, failWith St.badParam 0x28, []) := by
  unfold doFunctionSet
  dsimp only
  rw [if_neg (ne_true_of_eq_false h)]
  by_cases hp : s.leavesFewPiers x.desc
  · exact if_pos hp
  · exact (if_neg hp).trans (if_pos (hf.resolve_left hp))

theorem doFunctionSet_off (h : (dP0 x.desc).testBit 32 = false) (hp : ¬s.leavesFewPiers x.desc) (hl : ¬s.leavesNoLane x.desc) :
    doFunctionSet s x =
      (if functionKind x.desc = 2 then
          (s.setFunction (functionKind x.desc) (targetVi x.desc) (functionUnit x.desc) false).disablePier (functionUnit x.desc)
        else s.setFunction (functionKind x.desc) (targetVi x.desc) (functionUnit x.desc) false, okWith 0 [], [.drain]) := by
  unfold doFunctionSet
  dsimp only
  rw [if_neg (ne_true_of_eq_false h)]
  exact (if_neg hp).trans (if_neg hl)

/-! ### The statement -/

/-- Settles O31: each opcode by the state and the TDI of the VI it names; FUNCTION_SET by what it would leave. -/
theorem viOpcodes : Obligations.ViOpcodes := by
  intro s j x sound p0 v y kind unit ends fewPiers fewLanes
  refine ⟨fun h => ?quota, fun h => congrArg _ (State.runJob_eq h rfl), exec_viReset_startable, fun h ha => ?freeze, fun h ha => ?thaw,
    fun h ha => ?save, fun h ha => ?restore, fun h ha => ?function⟩
  case quota =>
    exact ⟨fun o ho => congrArg _ (State.runJob_eq h (doQuotaSet_bad ho)), fun hn => congrArg _ (State.runJob_eq h (doQuotaSet_sound hn))⟩
  case freeze =>
    refine ⟨fun hw => ?_, fun hr hf ht => ?_, fun hr hf hlocked hrun => ?_⟩
    · exact exec_viFreeze_startable h ha (doFreeze_wrongState hw)
    · exact exec_viFreeze_startable h ha ((doFreeze_running hr hf).trans (if_pos (y.lockedDown_iff.mpr ht)))
    · exact exec_viFreeze_startable h ha
        ((doFreeze_running hr hf).trans (if_neg (fun hl => (y.lockedDown_iff.mp hl).elim hlocked hrun)))
  case thaw =>
    exact ⟨fun hw => exec_viThaw_startable h ha (if_pos hw), fun hf => exec_viThaw_startable h ha (if_neg (not_not_intro hf))⟩
  case save =>
    rw [exec_viSave_startable h ha]
    refine ⟨fun hw => ?_, fun hf ht => ?_, fun k hf ht hp hk => ⟨fun hlen => ?_, fun hlen => ?_⟩⟩
    · exact congrArg _ (State.runJob_eq h (doSave_wrongState hw))
    · exact congrArg _ (State.runJob_eq h (doSave_locked hf ht))
    · exact congrArg _ (State.runJob_eq h ((doSave_blob hf ht hp hk).trans (if_pos hlen)))
    · exact congrArg _ (State.runJob_eq h ((doSave_blob hf ht hp hk).trans (if_neg (Nat.not_lt.mpr hlen))))
  case restore =>
    rw [exec_viRestore_startable h ha]
    refine ⟨fun hl => ?_, fun hl hw => ?_, congrArg _ (State.runJob_of (doRestore sound) h)⟩
    · exact congrArg _ (State.runJob_eq h (doRestore_locked hl))
    · exact congrArg _ (State.runJob_eq h (doRestore_wrongState hl hw))
  case function =>
    refine ⟨fun hon => ?_, fun hoff hfew => ?_, fun hoff hp hl => ?_⟩
    · exact congrArg _ (State.runAction_eq h ha (doFunctionSet_on hon))
    · exact congrArg _ (State.runAction_eq h ha (doFunctionSet_refused hoff hfew))
    · exact congrArg _ (State.runAction_eq h ha (doFunctionSet_off hoff hp hl))

end Sys2Proof.Machine
end

section
/-! Customer microcode: load, invocation, query and the load's time limit (R98, R154, R155, R307, R310, R311, R314, R473). -/

namespace Sys2Proof.Machine

variable {s : State} {j : Nat} {x : Job} {sound : Bool}

/-! ### UCODE_LOAD (R154, R310, R311) -/

theorem exec_ucodeLoad_forbidden (h : s.startable j 0x0D01 = some x) (hp : s.ucodeAllowed x.input = false) (hd : imageFault x.input ≠ 3) :
    exec (.ucodeLoad j sound) s = .next (s.finishJob j (failWith St.policy 0) []) := by
  rw [exec_ucodeLoad]
  unfold execUcodeLoad
  rw [h]
  exact congrArg Host.Outcome.next (if_pos ⟨by rw [hp]; rfl, hd⟩)

/-- A malformed header is told before the policy is asked (R310). -/
theorem not_ucodeForbidden (hp : s.ucodeAllowed x.input = true ∨ imageFault x.input = 3) :
    ¬((!(s.ucodeAllowed x.input)) = true ∧ imageFault x.input ≠ 3) := by
  rintro ⟨hno, h3⟩
  rw [Bool.not_eq_true'] at hno
  exact hp.elim (ne_true_of_eq_false hno) h3

theorem exec_ucodeLoad_faulty (h : s.startable j 0x0D01 = some x) (hp : s.ucodeAllowed x.input = true ∨ imageFault x.input = 3)
    (hd : imageFault x.input ≠ 0) :
    exec (.ucodeLoad j sound) s = .next (s.finishJob j (failWith St.inputInvalid (imageFault x.input)) []) := by
  rw [exec_ucodeLoad]
  unfold execUcodeLoad
  rw [h]
  dsimp only
  rw [if_neg (not_ucodeForbidden hp), if_pos hd]

theorem exec_ucodeLoad_loads (h : s.startable j 0x0D01 = some x) (hp : s.ucodeAllowed x.input = true) (hd : imageFault x.input = 0) :
    exec (.ucodeLoad j true) s = .next
      ((s.finishJob j (okEff 0 [] [.ucode (dP0 x.desc) (x.input.take (256 + imBodyLen x.input))]) [.drain]).settleDrains) := by
  rw [exec_ucodeLoad]
  unfold execUcodeLoad
  rw [h]
  dsimp only
  rw [if_neg (not_ucodeForbidden (.inl hp)), if_neg (not_not_intro hd), if_pos rfl]

theorem exec_ucodeLoad_undrained (h : s.startable j 0x0D01 = some x) (hp : s.ucodeAllowed x.input = true) (hd : imageFault x.input = 0)
    (hdrain : s.drained j x = false) : exec (.ucodeLoad j false) s = .next s := by
  rw [exec_ucodeLoad]
  unfold execUcodeLoad
  rw [h]
  dsimp only
  rw [if_neg (not_ucodeForbidden (.inl hp)), if_neg (not_not_intro hd), if_neg Bool.false_ne_true, if_neg (ne_true_of_eq_false hdrain)]

/-! ### UCODE_INVOKE (R155, R307) -/

/-- The state after the draws that an invocation of an entry reserves, and its free values. -/
def State.invokeDrawn (s : State) (im : Bytes) (e : Nat) : State :=
  (List.range (rd (imEntry im e) 3 1)).foldl (fun u _ => u.nextDraw) { s with frees := s.frees + rd (imEntry im e) 10 2 / 3 }

theorem State.besideDraws_invokeDrawn (s : State) (im : Bytes) (e : Nat) :
    (s.invokeDrawn im e).besideDraws = { s.besideDraws with frees := s.frees + rd (imEntry im e) 10 2 / 3 } :=
  State.foldl_keeps State.besideDraws _ (fun t _ => t.besideDraws_nextDraw) _ _

/-- The routine that an invocation sets up: entry, input, key, parameters. -/
def Job.routine (x : Job) (im : Bytes) (draws frees : Nat) : Micro :=
  Micro.start im (dP0 x.desc) x.input ((x.key.map (·.value)).getD []) (leBytes 8 (dP1 x.desc) ++ leBytes 4 (dP2 x.desc) ++ zeros 20) draws frees

theorem exec_ucodeInvoke_starts {p b : Nat} {im : Bytes} (h : s.startable j 0x0D02 = some x) (hb : s.burinOf j = some (p, b))
    (hm : (s.burin p b).micro = none) (hi : (s.pier p).image = some im) : exec (.ucodeInvoke j) s =
      .next ((s.invokeDrawn im (dP0 x.desc)).modBurin p b (fun y => { y with micro := some (x.routine im s.draws s.frees) })) := by
  rw [exec_ucodeInvoke]
  unfold execUcodeInvoke
  rw [h]
  dsimp only
  rw [hb]
  dsimp only
  rw [hm, hi]
  rfl

/-! ### UCODE_QUERY (R314) -/

/-- The records of all piers, one behind the other. -/
def State.ucodeRecords (s : State) : Bytes := ((List.range 8).map s.ucodeRecord).flatten

theorem exec_ucodeQuery_startable (h : s.startable j 0x0D03 = some x) :
    exec (.ucodeQuery j) s = .next (s.finishJob j (okWith 0 s.ucodeRecords) []) :=
  congrArg _ (State.runJob_eq h rfl)

theorem State.ucodeRecords_eq (s : State) : s.ucodeRecords = s.ucodeRecord 0 ++ s.ucodeRecord 1 ++ s.ucodeRecord 2 ++ s.ucodeRecord 3 ++
    s.ucodeRecord 4 ++ s.ucodeRecord 5 ++ s.ucodeRecord 6 ++ s.ucodeRecord 7 := by
  simp [State.ucodeRecords, List.range_succ]

/-! ### UCODE_LOAD_TIMEOUT (R98) -/

theorem exec_ucodeLoadTimeout_waiting {y : Job} (h : s.job j = some y) (hop : dOp y.desc = 0x0D01) (hw : y.stage = .waiting) :
    exec (.ucodeLoadTimeout j) s = .next (((s.jobs.filter (fun q => decide (dOp q.2.desc = 0x0D02) &&
      (q.2.pier.map (dP0 y.desc).testBit).getD false)).foldl (fun t q => t.requestAbort q.1 St.aborted) s).settleDrains) := by
  rw [exec_ucodeLoadTimeout]
  unfold execUcodeLoadTimeout
  rw [h]
  exact congrArg Host.Outcome.next (if_neg (fun hno => hno.elim (· hop) (· hw)))

theorem exec_ucodeLoadTimeout_none (h : s.job j = none) : exec (.ucodeLoadTimeout j) s = .next s := by
  rw [exec_ucodeLoadTimeout]
  unfold execUcodeLoadTimeout
  rw [h]

/-! ### The statement -/

/-- Settles O36: the load by policy and image, the invocation by its pier, the time limit by whether the load waits. -/
theorem ucodeOpcodes : Obligations.UcodeOpcodes := by
  intro s j x d
  refine ⟨fun h => ⟨fun hp hd sound => exec_ucodeLoad_forbidden h hp hd, fun hp hd sound => exec_ucodeLoad_faulty h hp hd,
    exec_ucodeLoad_loads h, exec_ucodeLoad_undrained h⟩, ?invoke, fun h => ?query, fun y => exec_ucodeLoadTimeout_waiting,
    exec_ucodeLoadTimeout_none⟩
  case invoke =>
    intro p b im h hb hm hi
    have hbeside := s.besideDraws_invokeDrawn im (dP0 x.desc)
    refine ⟨_, exec_ucodeInvoke_starts h hb hm hi, ?_, ?_, ?_, ?_⟩
    · rw [State.burin_modBurin_self]
      rfl
    · exact (congrArg State.jobs hbeside :)
    · exact (congrArg State.csn hbeside :)
    · exact (congrArg State.out hbeside :)
  case query => rw [exec_ucodeQuery_startable h, State.ucodeRecords_eq]

end Sys2Proof.Machine
end

section
/-! Stateful leases (R119, R237, R238, R241, R244, R250, R252). -/

namespace Sys2Proof.Machine

variable {s : State} {h : Word} {k : KeyRec} {t : Stateful} {programmed good : Bool}

/-! ### LEASE_SUBTREE_BUILT (R238) -/

theorem exec_leaseSubtreeBuilt_clocked (hc : s.clocked = true) : exec (.leaseSubtreeBuilt h) s = .next
    (s.modStateful h.toNat (fun t => if t.requested then { t with subtreeBuilt := true } else t)) := by
  rw [exec_leaseSubtreeBuilt]
  exact congrArg Host.Outcome.next (if_pos hc)

theorem exec_leaseSubtreeBuilt_unclocked (hc : s.clocked = false) : exec (.leaseSubtreeBuilt h) s = .next s := by
  rw [exec_leaseSubtreeBuilt]
  exact congrArg Host.Outcome.next (if_neg (ne_true_of_eq_false hc))

/-! ### HBS_LEASE_GRANT (R241, R244, R250, R252) -/

theorem exec_hbsLeaseGrant_key (hk : KMap.get h.toNat s.csn.keys = some k) (ht : k.stateful = some t) : exec (.hbsLeaseGrant h programmed) s =
    .next (if s.serving = true ∧ t.requested = true ∧ (!t.programmed) = true then s.grantLease h.toNat k t programmed else s) := by
  rw [exec_hbsLeaseGrant]
  unfold execHbsLeaseGrant
  rw [hk]
  dsimp only
  rw [ht]

theorem exec_hbsLeaseGrant_requested (hk : KMap.get h.toNat s.csn.keys = some k) (ht : k.stateful = some t) (hserve : s.serving = true)
    (hr : t.requested = true) (hp : t.programmed = false) :
    exec (.hbsLeaseGrant h programmed) s = .next (s.grantLease h.toNat k t programmed) := by
  rw [exec_hbsLeaseGrant_key hk ht, if_pos ⟨hserve, hr, by rw [hp]; rfl⟩]

theorem exec_hbsLeaseGrant_idle (hk : KMap.get h.toNat s.csn.keys = some k) (ht : k.stateful = some t)
    (hi : t.requested = false ∨ t.programmed = true) : exec (.hbsLeaseGrant h programmed) s = .next s := by
  have hno : ¬(s.serving = true ∧ t.requested = true ∧ (!t.programmed) = true) := by
    rintro ⟨-, hr, hp⟩
    rw [Bool.not_eq_true'] at hp
    exact hi.elim (fun hf => ne_true_of_eq_false hf hr) (ne_true_of_eq_false hp)
  rw [exec_hbsLeaseGrant_key hk ht, if_neg hno]

theorem State.grantLease_full {n : Nat} (hu : s.logUsable < 2) : s.grantLease n k t programmed = s.report uCsn 0 0x0D := if_pos hu

theorem State.grantLease_alone {n : Nat} (hu : 2 ≤ s.logUsable) (hm : s.mirrors k.attr = false) : s.grantLease n k t true =
    ((s.leaseRecord 1 n k.kgen t.reqFirst t.reqEnd t.rangeEnd).raiseLeaseSeq).modStateful n
      (fun y => { y with programmed := true, acked := true }) := by
  unfold State.grantLease
  rw [if_neg (Nat.not_lt.mpr hu), if_neg (by decide)]
  dsimp only
  rw [hm]
  rfl

/-- The lease log with its active block retired, where one is active (R250). -/
def retireActive (l : List LeaseBlock) : List LeaseBlock :=
  match activeBlock l with
  | some (i, _) => listMod l i (fun b => { b with retired := true })
  | none => l

theorem State.grantLease_unprogrammed {n : Nat} (hu : 2 ≤ s.logUsable) : s.grantLease n k t false =
    ({ s with csn := { s.csn with leaseLog := retireActive s.csn.leaseLog } } : State).report uCsn 0 0x0D := by
  unfold State.grantLease
  rw [if_neg (Nat.not_lt.mpr hu), if_pos (by decide)]
  rfl

/-! ### LEASE_LOG_ERASE (R250) -/

/-- A block after its erase: empty, counted, retired at 100,000 erases or when the erase failed. -/
def LeaseBlock.erased (b : LeaseBlock) (good : Bool) : LeaseBlock :=
  { erases := b.erases + 1, blockSeq := none, recs := [], retired := !good || decide (100000 ≤ b.erases + 1) }

theorem exec_leaseLogErase_block {i : Nat} {b : LeaseBlock} (hb : s.csn.leaseLog[i]? = some b) : exec (.leaseLogErase i good) s =
    .next (if b.retired = true ∨ b.blockSeq.isNone = true ∨ (activeBlock s.csn.leaseLog).any (fun p => decide (p.1 = i)) = true ∨
        (!(s.blockStale i)) = true then s
      else { s with csn := { s.csn with leaseLog := s.csn.leaseLog.set i (b.erased good) } }) := by
  rw [exec_leaseLogErase]
  unfold execLeaseLogErase
  dsimp only
  rw [hb]
  rfl

theorem exec_leaseLogErase_stale {i : Nat} {b : LeaseBlock} (hb : s.csn.leaseLog[i]? = some b) (hr : b.retired = false) (hq : b.blockSeq ≠ none)
    (ha : (activeBlock s.csn.leaseLog).any (fun p => decide (p.1 = i)) = false) (hs : s.blockStale i = true) :
    exec (.leaseLogErase i good) s = .next { s with csn := { s.csn with leaseLog := s.csn.leaseLog.set i (b.erased good) } } := by
  rw [exec_leaseLogErase_block hb, if_neg]
  rintro (h | h | h | h)
  · exact ne_true_of_eq_false hr h
  · exact hq (Option.isNone_iff_eq_none.mp h)
  · exact ne_true_of_eq_false ha h
  · exact ne_true_of_eq_false ((Bool.not_eq_true' _).mp h) hs

theorem exec_leaseLogErase_kept {i : Nat} {b : LeaseBlock} (hb : s.csn.leaseLog[i]? = some b)
    (h : b.retired = true ∨ b.blockSeq = none ∨ s.blockStale i = false) : exec (.leaseLogErase i good) s = .next s := by
  rw [exec_leaseLogErase_block hb, if_pos]
  obtain h | h | h := h
  · exact .inl h
  · exact .inr (.inl (Option.isNone_iff_eq_none.mpr h))
  · exact .inr (.inr (.inr (by rw [h]; rfl)))

/-! ### LEASE_WAIT_TIMEOUT (R119, R244) -/

theorem exec_leaseWaitTimeout_queued {j : Nat} {x : Job} (hj : s.job j = some x) (hop : dOp x.desc = 0x0302) (hq : x.stage = .queued)
    (hl : s.leaseOf (dKey x.desc) = some t) : exec (.leaseWaitTimeout j) s =
      .next (if t.next < t.leaseEnd ∨ (t.requested = true ∧ t.programmed = true ∧ t.acked = true) then s
        else s.abandon j (if !t.available && s.twinLost then St.twinUnavailable else St.leaseWait)) := by
  rw [exec_leaseWaitTimeout]
  unfold execLeaseWaitTimeout
  rw [hj]
  dsimp only
  rw [if_pos ⟨hop, hq⟩, hl]

/-! ### The statement -/

/-- Settles O39: the grant by the log's room and the program's outcome, the erase by what the block holds, the time limit by the lease. -/
theorem statefulLeases : Obligations.StatefulLeases := by
  intro s h k t
  refine ⟨exec_leaseSubtreeBuilt_clocked, exec_leaseSubtreeBuilt_unclocked, fun hk ht hserve hr hp => ?grant,
    fun programmed => exec_hbsLeaseGrant_idle, fun i good b hb => ⟨exec_leaseLogErase_stale hb, exec_leaseLogErase_kept hb⟩,
    fun j x hj hop hq hl => ?wait⟩
  case grant =>
    refine ⟨fun programmed hu => ?_, fun hu hm => ?_, fun hu => ?_⟩
    · rw [exec_hbsLeaseGrant_requested hk ht hserve hr hp, State.grantLease_full hu]
    · rw [exec_hbsLeaseGrant_requested hk ht hserve hr hp, State.grantLease_alone hu hm]
    · rw [exec_hbsLeaseGrant_requested hk ht hserve hr hp, State.grantLease_unprogrammed hu]
      exact ⟨_, rfl, rfl, rfl⟩
  case wait =>
    rw [exec_leaseWaitTimeout_queued hj hop hq hl]
    refine ⟨fun hlive => congrArg _ (if_pos (.inl hlive)), fun hout hno => congrArg _ (if_neg ?_)⟩
    rintro (hlive | ⟨hr, -⟩)
    · omega
    · exact ne_true_of_eq_false hno hr

end Sys2Proof.Machine
end

section
/-! Events of a pier's burins: preemption, parking, counterproof verdicts, stipple generators, spares (R180, R184, R185, R193 to R195, R202, R203). -/

namespace Sys2Proof.Machine

variable {s : State} {p : Fin 8} {b : Fin 9}

/-! ### YIELD_HOLD_PREEMPTION (R180) -/

theorem exec_yieldHoldPreemption_notHeld (hs : (s.burin p.val b.val).state ≠ .yieldHold) :
    exec (.yieldHoldPreemption p b) s = .next s := by
  rw [exec_yieldHoldPreemption]
  unfold execYieldHoldPreemption
  split
  case h_1 hheld _ => exact absurd hheld hs
  case h_2 => rfl

/-- A burin that holds its job asks whether the job may be preempted and whether a more urgent one waits. -/
theorem exec_yieldHoldPreemption_held {j : Nat} {x : Job} (hs : (s.burin p.val b.val).state = .yieldHold)
    (hj : (s.burin p.val b.val).job = some j) (hx : s.job j = some x) : exec (.yieldHoldPreemption p b) s =
      .next (if x.preempted || x.committed || decide (s.reg Reg.burYieldHold = 0) ||
          !((s.pierQueue p.val).any (fun q => decide (q.2.cls < x.cls))) then s
        else ((s.restartBurinJob j false).modJob j (fun q => { q with preempted := true })).bump (Reg.pier p.val 0x7C)) := by
  rw [exec_yieldHoldPreemption]
  unfold execYieldHoldPreemption
  rw [hs, hj]
  dsimp only
  rw [hx]

theorem exec_yieldHoldPreemption_restarts {j : Nat} {x : Job} (hs : (s.burin p.val b.val).state = .yieldHold)
    (hj : (s.burin p.val b.val).job = some j) (hx : s.job j = some x) (honce : x.preempted = false) (hcommit : x.committed = false)
    (hlimit : s.reg Reg.burYieldHold ≠ 0) (hurgent : (s.pierQueue p.val).any (fun q => decide (q.2.cls < x.cls)) = true) :
    exec (.yieldHoldPreemption p b) s = .next
      (((s.restartBurinJob j false).modJob j (fun q => { q with preempted := true })).bump (Reg.pier p.val 0x7C)) := by
  rw [exec_yieldHoldPreemption_held hs hj hx, if_neg]
  simp [honce, hcommit, hlimit, hurgent]

theorem exec_yieldHoldPreemption_keeps {j : Nat} {x : Job} (hs : (s.burin p.val b.val).state = .yieldHold)
    (hj : (s.burin p.val b.val).job = some j) (hx : s.job j = some x)
    (hstay : x.preempted = true ∨ x.committed = true ∨ s.reg Reg.burYieldHold = 0) :
    exec (.yieldHoldPreemption p b) s = .next s := by
  rw [exec_yieldHoldPreemption_held hs hj hx, if_pos]
  obtain h | h | h := hstay <;> simp [h]

/-! ### PARK_BUFFER_ROOM (R193) -/

/-- One burin's turn at the park buffer: it parks its candidate when it waits in PARKING. -/
def State.parkTurn (s : State) (p b : Nat) : State :=
  match (s.burin p b).state, (s.burin p b).job with
  | .parking, some j => s.tryPark p b j
  | _, _ => s

theorem exec_parkBufferRoom_clocked (hc : s.clocked = true) :
    exec (.parkBufferRoom p) s = .next ((List.range 9).foldl (fun t k => t.parkTurn p.val k) s) := by
  rw [exec_parkBufferRoom]
  unfold execParkBufferRoom
  rw [hc]
  rfl

theorem State.parkTurn_notParking {p b : Nat} (h : (s.burin p b).state ≠ .parking) : s.parkTurn p b = s := by
  unfold State.parkTurn
  split
  case h_1 hpark _ => exact absurd hpark h
  case h_2 => rfl

theorem State.parkTurn_parking {p b j : Nat} (h : (s.burin p b).state = .parking) (hj : (s.burin p b).job = some j) :
    s.parkTurn p b = s.tryPark p b j := by
  unfold State.parkTurn
  rw [h, hj]

theorem State.foldl_parkTurn_notParking {p : Nat} {l : List Nat} (h : ∀ k ∈ l, (s.burin p k).state ≠ .parking) :
    l.foldl (fun t k => t.parkTurn p k) s = s := by
  induction l with
  | nil => rfl
  | cons k rest ih =>
    rw [List.foldl_cons, State.parkTurn_notParking (h k List.mem_cons_self)]
    exact ih (fun i hi => h i (List.mem_cons_of_mem k hi))

/-- Where one burin alone waits in PARKING, before its turn and after it, the pass over the burins is its turn. -/
theorem State.foldl_parkTurn_one {p i j : Nat} {l : List Nat} (hi : i ∈ l) (hl : l.Nodup)
    (hbefore : ∀ k ∈ l, k ≠ i → (s.burin p k).state ≠ .parking) (hpark : (s.burin p i).state = .parking)
    (hj : (s.burin p i).job = some j) (hafter : ∀ k ∈ l, k ≠ i → ((s.tryPark p i j).burin p k).state ≠ .parking) :
    l.foldl (fun t k => t.parkTurn p k) s = s.tryPark p i j := by
  obtain ⟨front, back, rfl⟩ := List.append_of_mem hi
  obtain ⟨-, hrest, hapart⟩ := List.nodup_append.mp hl
  have hfront : i ∉ front := fun h => hapart i h i List.mem_cons_self rfl
  have hback : i ∉ back := (List.nodup_cons.mp hrest).1
  have hbeforeQuiet : ∀ k ∈ front, (s.burin p k).state ≠ .parking := fun k hk =>
    hbefore k (List.mem_append_left _ hk) (ne_of_mem_of_not_mem hk hfront)
  have hafterQuiet : ∀ k ∈ back, ((s.tryPark p i j).burin p k).state ≠ .parking := fun k hk =>
    hafter k (List.mem_append_right _ (List.mem_cons_of_mem i hk)) (ne_of_mem_of_not_mem hk hback)
  rw [List.foldl_append, State.foldl_parkTurn_notParking hbeforeQuiet, List.foldl_cons, State.parkTurn_parking hpark hj,
    State.foldl_parkTurn_notParking hafterQuiet]

/-! ### COUNTERPROOF_VERDICT (R194, R195) -/

/-- The verification of a parked job ends: its burin is freed, whatever it found. -/
theorem exec_counterproofVerdict_running {j v vp vb : Nat} {x : Job} {valid : Bool} (hc : s.clocked = true)
    (hv : s.proofOf j = some (v, vp, vb)) (hx : s.job j = some x) : exec (.counterproofVerdict j valid) s = .next
      (if valid then (((s.idleBurin vp vb).delJob v).bump (Reg.pier vp 0x64)).modJob j (fun q => { q with verdict := some true })
        else (((s.idleBurin vp vb).delJob v).bump (Reg.pier vp 0x64)).mismatch j x.signer (burinUnit vp vb) false) := by
  rw [exec_counterproofVerdict]
  unfold execCounterproofVerdict
  rw [hc, hv, hx]
  rfl

/-! ### Stipple generators (R202, R203) -/

theorem exec_stippleReseed_noSeed (h : (s.pier p.val).seedReady = false) : exec (.stippleReseed p) s = .next s := by
  rw [exec_stippleReseed]
  unfold execStippleReseed
  dsimp only
  rw [h]
  rfl

/-- A sound generator has nothing to heal, so its seed leaves STIPPLE_OK as it is and acknowledges nothing. -/
theorem exec_stippleReseed_sound (hseed : (s.pier p.val).seedReady = true) (hok : (s.pier p.val).stippleOk = true) :
    exec (.stippleReseed p) s = .next ((s.setPier p.val { s.pier p.val with
      seedReady := false, stippleStall := false, stippleUsed := 0, stippleSeeds := (s.pier p.val).stippleSeeds + 1 }).bump (Reg.pier p.val 0x50)) := by
  rw [exec_stippleReseed]
  unfold execStippleReseed
  dsimp only
  rw [hseed, hok]
  rfl

theorem State.stippleFails_failed {p : Nat} {injected : Bool} (h : (s.pier p).stippleOk = false) : s.stippleFails p injected = s :=
  if_pos (by rw [h]; rfl)

theorem exec_stippleFailure_clocked (hc : s.clocked = true) : exec (.stippleFailure p) s = .next (s.stippleFails p.val false) :=
  congrArg Host.Outcome.next (if_pos hc)

theorem exec_stippleFailure_failed (h : (s.pier p.val).stippleOk = false) : exec (.stippleFailure p) s = .next s := by
  rw [exec_stippleFailure]
  unfold execStippleFailure
  rw [State.stippleFails_failed h, ite_self]

/-! ### BURIN_SPARE_READY (R184, R185) -/

theorem exec_burinSpareReady_notTesting {passed : Bool}
    (h : (s.burin p.val b.val).state ≠ .selftest ∨ s.hasToken 0 (burinUnit p.val b.val) = false) :
    exec (.burinSpareReady p b passed) s = .next s :=
  congrArg Host.Outcome.next (if_pos (h.imp_right (fun hno => by rw [hno]; rfl)))

/-- The state with a spare on duty: its token released, in the pier's mask, IDLE, the faults of the burins it stands for acknowledged. -/
def State.spareOnDuty (s : State) (p b : Nat) : State :=
  (((s.releaseToken 0 (burinUnit p b)).modPier p (fun q =>
    { q with onDuty := q.onDuty ||| 2 ^ b, spare := q.spare - bitAt b (q.spare.testBit b) })).modBurin p b
      (fun q => { q with state := .idle })).ackRetired p

/-- A spare that is in SELFTEST with its token goes on duty or is retired, as its self-test says. -/
theorem exec_burinSpareReady_testing {passed : Bool} (hs : (s.burin p.val b.val).state = .selftest)
    (ht : s.hasToken 0 (burinUnit p.val b.val) = true) : exec (.burinSpareReady p b passed) s = .next
      (if passed then
          if ((s.spareOnDuty p.val b.val).reg Reg.burCtl).testBit 30 && !(s.spareOnDuty p.val b.val).fcl.uncommitted.isEmpty then
            (s.spareOnDuty p.val b.val).wantAct 4
          else s.spareOnDuty p.val b.val
        else ((s.report uBurin (burinUnit p.val b.val) 0x07).retireBurin p.val b.val false).bringSpare p.val) := by
  rw [exec_burinSpareReady]
  unfold execBurinSpareReady
  dsimp only
  rw [hs, ht]
  rfl

/-! ### The statement -/

/-- Settles O35: each event by the state of the burin, the generator or the verification that it concerns. -/
theorem burinEvents : Obligations.BurinEvents := by
  intro s p b y u g
  refine ⟨fun j x hs hj hx => ⟨exec_yieldHoldPreemption_restarts hs hj hx, exec_yieldHoldPreemption_keeps hs hj hx⟩,
    exec_yieldHoldPreemption_notHeld, fun hc hquiet => ?noneParks, fun i hc hi hbefore j hpark hj hafter => ?oneParks,
    fun j v vp vb x hc hv hx => ?verdict,
    exec_stippleReseed_noSeed, exec_stippleReseed_sound, exec_stippleFailure_failed, exec_stippleFailure_clocked,
    fun hs ht => ?spare, fun _ => exec_burinSpareReady_notTesting⟩
  case noneParks =>
    rw [exec_parkBufferRoom_clocked hc, State.foldl_parkTurn_notParking (fun k hk => hquiet k (List.mem_range.mp hk))]
  case oneParks =>
    rw [exec_parkBufferRoom_clocked hc, State.foldl_parkTurn_one (List.mem_range.mpr hi) List.nodup_range
      (fun k hk => hbefore k (List.mem_range.mp hk)) hpark hj (fun k hk => hafter k (List.mem_range.mp hk))]
  case verdict =>
    exact ⟨(exec_counterproofVerdict_running hc hv hx).trans (congrArg _ (if_pos rfl)),
      (exec_counterproofVerdict_running hc hv hx).trans (congrArg _ (if_neg Bool.false_ne_true))⟩
  case spare =>
    exact ⟨(exec_burinSpareReady_testing hs ht).trans (congrArg _ (if_pos rfl)),
      (exec_burinSpareReady_testing hs ht).trans (congrArg _ (if_neg Bool.false_ne_true))⟩

end Sys2Proof.Machine
end

section
/-! Phase tokens: granting and giving back (R177, R338, R426, R714, R716 to R718). -/

namespace Sys2Proof.Machine

variable {s : State} {kind : PhaseKind} {x : TokenAsk} {t : Tol}

/-! ### Who is granted next (R717) -/

/-- The turn within a class moves deficits and turns; the tokens granted stand. -/
theorem State.askClass_grants {k c : Nat} {l : List TokenAsk} (h : s.askClass k c l = some (x, t)) : t.grants = s.tol.grants := by
  unfold State.askClass at h
  dsimp only at h
  split at h
  · cases h
  · obtain ⟨y, -, hy⟩ := Option.map_eq_some_iff.mp h
    cases hy
    rfl

theorem State.nextAsk_grants (h : s.nextAsk kind = some (x, t)) : t.grants = s.tol.grants := by
  unfold State.nextAsk at h
  dsimp only at h
  split at h
  case h_1 => cases h; rfl
  case h_2 =>
    split at h
    case isTrue =>
      obtain ⟨y, -, hy⟩ := Option.map_eq_some_iff.mp h
      cases hy
      rfl
    case isFalse =>
      split at h
      case h_1 => cases h; rfl
      case h_2 =>
        obtain ⟨c, -, hc⟩ := List.exists_of_findSome?_eq_some h
        exact State.askClass_grants hc

/-! ### TOKEN_GRANT (R716, R717, R734) -/

/-- The device grants tokens of a kind: outside HALTED, and with the engines' clock for every kind but a Drafting pair. -/
def State.mayGrant (s : State) (kind : PhaseKind) : Prop :=
  (s.glb.dev = .ready ∨ s.glb.dev = .post ∨ s.glb.dev = .falsework) ∧ (kind = .draft ∨ s.glb.pll = true)

theorem State.not_mayGrant_iff : ((!(decide (s.glb.dev = .ready ∨ s.glb.dev = .post ∨ s.glb.dev = .falsework))) = true ∨
    (kind ≠ .draft ∧ (!s.glb.pll) = true)) ↔ ¬s.mayGrant kind := by
  rw [State.mayGrant, Classical.not_and_iff_not_or_not, Bool.not_eq_true', Bool.not_eq_true', decide_eq_false_iff_not, @not_or (kind = .draft),
    Bool.not_eq_true]

/-- The state after a grant to the request `x`, before its unit acts: `t` is the Tollhouse after the round that chose it. -/
def State.granted (s : State) (kind : PhaseKind) (x : TokenAsk) (t : Tol) : State :=
  { s with tol := { t with grants := (kindNum kind, x.unit) :: t.grants, asked := KMap.del (askKey (kindNum kind) x.unit) t.asked,
                           counts := SMap.set zeroDef (kindNum kind) ((SMap.get zeroDef (kindNum kind) t.counts + 1) % 8) t.counts } }

theorem exec_tokenGrant_closed (h : ¬s.mayGrant kind) : exec (.tokenGrant kind) s = .next s :=
  congrArg Host.Outcome.next (if_pos (State.not_mayGrant_iff.mpr h))

theorem exec_tokenGrant_noAsk (h : s.nextAsk kind = none) : exec (.tokenGrant kind) s = .next s := by
  rw [exec_tokenGrant]
  unfold execTokenGrant
  rw [h]
  exact congrArg Host.Outcome.next (ite_self s)

theorem exec_tokenGrant_ask (hmay : s.mayGrant kind) (h : s.nextAsk kind = some (x, t)) : exec (.tokenGrant kind) s =
    .next (if s.roomFor (kindNum kind) x.cls then (s.granted kind x t).wake kind x.unit else s) := by
  rw [exec_tokenGrant]
  unfold execTokenGrant
  dsimp only
  rw [if_neg (fun hno => State.not_mayGrant_iff.mp hno hmay), h]
  dsimp only
  cases s.roomFor (kindNum kind) x.cls <;> rfl

/-! ### What a unit does with its token (R161, R177, R338, R426) -/

theorem State.beginInput_done {j : Nat} (h : ∀ y, s.job j = some y → y.inputDone = true) : s.beginInput j = s := by
  unfold State.beginInput
  split
  case h_1 y hy => exact if_pos (by simp [h y hy])
  case h_2 => rfl

theorem State.wake_burin_frame {u : Nat} (h : ∀ j y, s.job j = some y → y.inputDone = true) :
    { s.wake .burin u with bur := s.bur } = s := by
  unfold State.wake
  dsimp only
  split
  · rfl
  · split
    case h_1 j _ _ =>
      split
      · rw [State.beginInput_done (s := s.modBurin _ _ _) (h j)]
        rfl
      · rfl
    case h_2 => rfl

theorem State.wake_lane_frame {u : Nat} (h : ∀ j y, s.job j = some y → y.inputDone = true) :
    { s.wake .lane u with lne := s.lne } = s := by
  unfold State.wake
  dsimp only
  split
  · rfl
  · split
    case h_1 w _ =>
      split
      · rfl
      · rw [State.beginInput_done (s := s.modLane _ _) (h w.id)]
        rfl
    case h_2 => rfl

theorem State.wake_graver_frame (s : State) (u : Nat) : { s.wake .graver u with grv := s.grv } = s := by
  unfold State.wake
  dsimp only
  split <;> rfl

/-- A unit that starts no input changes nothing but itself. -/
theorem State.wake_frame {u : Nat} (h : kind = .graver ∨ kind = .draft ∨ ∀ j y, s.job j = some y → y.inputDone = true) :
    { s.wake kind u with bur := s.bur, lne := s.lne, grv := s.grv } = s := by
  have hdone : kind ≠ .graver → kind ≠ .draft → ∀ j y, s.job j = some y → y.inputDone = true := fun hg hd =>
    (h.resolve_left hg).resolve_left hd
  cases kind with
  | burin =>
    exact congrArg (fun t : State => { t with lne := s.lne, grv := s.grv }) (State.wake_burin_frame (hdone (by decide) (by decide)))
  | lane =>
    exact congrArg (fun t : State => { t with bur := s.bur, grv := s.grv }) (State.wake_lane_frame (hdone (by decide) (by decide)))
  | graver => exact congrArg (fun t : State => { t with bur := s.bur, lne := s.lne }) (s.wake_graver_frame u)
  | draft => rfl

theorem State.hasToken_granted : (s.granted kind x t).hasToken (kindNum kind) x.unit = true :=
  List.contains_iff_mem.mpr List.mem_cons_self

/-! ### A token given back (R426, R714, R718) -/

theorem State.mem_grants_releaseToken {k u : Nat} {g : Nat × Nat} : g ∈ (s.releaseToken k u).tol.grants ↔ g ∈ s.tol.grants ∧ g ≠ (k, u) := by
  unfold State.releaseToken
  rw [List.mem_filter, decide_eq_true_iff]

theorem State.hasToken_releaseToken_self (s : State) (k u : Nat) : (s.releaseToken k u).hasToken k u = false :=
  Bool.eq_false_iff.mpr (fun h => (State.mem_grants_releaseToken.mp (List.contains_iff_mem.mp h)).2 rfl)

/-- A release takes the unit's token and no other, and touches the Tollhouse alone. -/
theorem State.releaseToken_takesOne (s : State) (k u : Nat) : (s.releaseToken k u).hasToken k u = false ∧
    (∀ g, g ≠ (k, u) → (g ∈ (s.releaseToken k u).tol.grants ↔ g ∈ s.tol.grants)) ∧ { s.releaseToken k u with tol := s.tol } = s :=
  ⟨s.hasToken_releaseToken_self k u, fun _ hg => State.mem_grants_releaseToken.trans (and_iff_left hg), rfl⟩

theorem exec_laneIdleTokenRelease_idle {l : Fin 8} (hi : (s.lane l.val).state = .idle) (hw : (s.lane l.val).work = []) :
    exec (.laneIdleTokenRelease l) s = .next (s.releaseToken 1 l.val) :=
  congrArg Host.Outcome.next (if_pos ⟨hi, by rw [hw]; rfl⟩)

theorem exec_laneIdleTokenRelease_busy {l : Fin 8} (hb : (s.lane l.val).state ≠ .idle) :
    exec (.laneIdleTokenRelease l) s = .next s :=
  congrArg Host.Outcome.next (if_neg (fun h => hb h.1))

theorem exec_draftTokenRelease_gives {p : Fin 10} (h : s.draftWork = false ∨ s.recalledFrom 3 p.val = true) :
    exec (.draftTokenRelease p) s = .next (s.releaseToken 3 p.val) :=
  congrArg Host.Outcome.next (if_pos (by rwa [Bool.or_eq_true, Bool.not_eq_true']))

theorem exec_draftTokenRelease_keeps {p : Fin 10} (hw : s.draftWork = true) (hr : s.recalledFrom 3 p.val = false) :
    exec (.draftTokenRelease p) s = .next s :=
  congrArg Host.Outcome.next (if_neg (by rw [hw, hr]; decide))

/-! ### The statement -/

/-- Settles O37: the grant by clock, request and room, then what its unit starts; the releases by what the unit still has to do. -/
theorem phaseTokens : Obligations.PhaseTokens := by
  intro s kind k may grant
  refine ⟨exec_tokenGrant_closed, fun _ => exec_tokenGrant_noAsk, fun x t hmay hask hroom => ?full, fun x t hmay hask hroom => ?room,
    fun l => ⟨fun hi hw => ⟨_, exec_laneIdleTokenRelease_idle hi hw, s.releaseToken_takesOne 1 l.val⟩, exec_laneIdleTokenRelease_busy⟩,
    fun p => ⟨fun h => ⟨_, exec_draftTokenRelease_gives h, s.releaseToken_takesOne 3 p.val⟩, exec_draftTokenRelease_keeps⟩⟩
  case full => rw [exec_tokenGrant_ask hmay hask, if_neg (ne_true_of_eq_false hroom)]
  case room =>
    refine ⟨?_, congrArg (List.cons (k, x.unit)) (State.nextAsk_grants hask), fun hquiet => ?_⟩
    · rw [exec_tokenGrant_ask hmay hask, if_pos hroom]
      rfl
    · have hframe := State.wake_frame (s := s.granted kind x t) (u := x.unit) hquiet
      refine ⟨?_, (congrArg State.tol hframe :), (congrArg State.regs hframe :), (congrArg State.jobs hframe :),
        (congrArg State.csn hframe :), (congrArg State.vis hframe :)⟩
      exact (congrArg (fun w : State => w.hasToken k x.unit) hframe :).trans State.hasToken_granted

end Sys2Proof.Machine
end

section
/-! Commands of the Graver: slots, yield points, spares, missing public keys (R263, R273, R330, R331, R333, R336, R338, R341, R347). -/

namespace Sys2Proof.Machine

variable {s : State} {c : Fin 18}

/-! ### GRAVER_SLOT_LOAD (R330, R331) -/

theorem exec_graverSlotLoad_unclocked (hc : s.clocked = false) : exec (.graverSlotLoad c) s = .next s :=
  congrArg Host.Outcome.next (if_pos (by rw [hc]; rfl))

theorem exec_graverSlotLoad_loads {j : Nat} {g : Grv} (hc : s.clocked = true) (hcore : s.fillGraver.chosenCore = some c.val)
    (hent : s.fillGraver.ent.noEntropy = false) (hnext : s.fillGraver.nextGraver = some (j, g)) :
    exec (.graverSlotLoad c) s = .next (({ s.fillGraver with grv := g } : State).loadSlot c.val j) := by
  rw [exec_graverSlotLoad]
  unfold execGraverSlotLoad
  dsimp only
  rw [hc, if_neg (by decide), if_neg (by simp [hcore, hent]), hnext]

/-- A core that is not chosen, or finds no entropy or no job, leaves the Graver's queues filled and nothing else done. -/
theorem exec_graverSlotLoad_loadsNone (hc : s.clocked = true) (hno : s.fillGraver.chosenCore ≠ some c.val ∨
    s.fillGraver.ent.noEntropy = true ∨ s.fillGraver.nextGraver = none) : exec (.graverSlotLoad c) s = .next s.fillGraver := by
  rw [exec_graverSlotLoad]
  unfold execGraverSlotLoad
  dsimp only
  rw [hc, if_neg (by decide)]
  obtain hcore | hent | hnext := hno
  · rw [if_pos (.inl hcore)]
  · rw [if_pos (.inr hent)]
  · rw [hnext]
    exact congrArg Host.Outcome.next (ite_self s.fillGraver)

/-! ### GRAVER_YIELD_POINT (R333, R334, R336, R338) -/

/-- The yields that a core counts for its resident job `j`. -/
def Core.yieldsOf (x : Core) (j : Nat) : Nat := ((x.slots.find? (fun y => decide (y.job = j))).map (·.yields)).getD 0

/-- What a yield point does to the job `j` that computes, before the token is looked at: a switch, unless it has yielded 64 times. -/
def State.yieldSwitch (s : State) (c j ran : Nat) : State :=
  if 64 ≤ (s.core c).yieldsOf j then s
  else match s.switchTo (s.core c) j ran with
    | some k => s.switchCore c j k
    | none => s

theorem exec_graverYieldPoint_unclocked {ran : Nat} (hc : s.clocked = false) : exec (.graverYieldPoint c ran) s = .next s :=
  congrArg Host.Outcome.next (if_pos (.inl (by rw [hc]; rfl)))

theorem exec_graverYieldPoint_notRunning {ran : Nat} (hr : (s.core c.val).state ≠ .run) : exec (.graverYieldPoint c ran) s = .next s :=
  congrArg Host.Outcome.next (if_pos (.inr hr))

section
variable {j ran : Nat} {x : Job} (hc : s.clocked = true) (hr : (s.core c.val).state = .run) (hj : (s.core c.val).computing = some j)
  (hx : s.job j = some x)
include hc hr hj hx

theorem exec_graverYieldPoint_aborts {st : Nat} (ha : x.abortBy = some st) : exec (.graverYieldPoint c ran) s = .next (s.abandon j st) := by
  rw [exec_graverYieldPoint]
  unfold execGraverYieldPoint
  rw [if_neg (by simp [hc, hr]), hj]
  dsimp only
  rw [hx, Option.bind_some, ha]

/-- Without an abort request the yield point is its switch, then the token's recall. -/
theorem exec_graverYieldPoint_keepsToken (ha : x.abortBy = none) (htoken : (s.yieldSwitch c.val j ran).recalledFrom 2 c.val = false) :
    exec (.graverYieldPoint c ran) s = .next (s.yieldSwitch c.val j ran) := by
  rw [exec_graverYieldPoint]
  unfold execGraverYieldPoint
  rw [if_neg (by simp [hc, hr]), hj]
  dsimp only
  rw [hx, Option.bind_some, ha]
  exact congrArg Host.Outcome.next (if_neg (ne_true_of_eq_false htoken))

end

theorem Core.yieldsOf_lt {x : Core} {j n : Nat} (hn : 0 < n) (h : ∀ q ∈ x.slots, q.job = j → q.yields < n) : x.yieldsOf j < n := by
  unfold Core.yieldsOf
  cases hfind : x.slots.find? (fun y => decide (y.job = j)) with
  | none => exact hn
  | some q => exact h q (List.mem_of_find?_eq_some hfind) (of_decide_eq_true (List.find?_some hfind :))

/-- A job that is alone on its core is switched to no other. -/
theorem State.switchTo_alone {x : Core} {j ran : Nat} (h : ∀ q ∈ x.slots, q.job = j) : s.switchTo x j ran = none := by
  have hothers : x.slots.filter (fun y => decide (y.job ≠ j)) = [] :=
    List.filter_eq_nil_iff.mpr (fun q hq => by simp [h q hq])
  unfold State.switchTo
  dsimp only
  rw [hothers]
  exact ite_self none

theorem State.yieldSwitch_none {c j ran : Nat} (h : s.switchTo (s.core c) j ran = none) : s.yieldSwitch c j ran = s := by
  unfold State.yieldSwitch
  rw [h]
  exact ite_self s

theorem State.yieldSwitch_some {c j ran k : Nat} (hy : (s.core c).yieldsOf j < 64) (h : s.switchTo (s.core c) j ran = some k) :
    s.yieldSwitch c j ran = s.switchCore c j k := by
  unfold State.yieldSwitch
  rw [if_neg (Nat.not_le.mpr hy), h]

/-! ### GRAVER_SPARE_READY (R341, R347) -/

theorem exec_graverSpareReady_notTesting {passed : Bool} (hs : (s.core c.val).state ≠ .selftest) :
    exec (.graverSpareReady c passed) s = .next s :=
  congrArg Host.Outcome.next (if_pos (.inl hs))

/-- The state with a spare core on duty: its token released, in the Graver's mask, IDLE, the faults of the cores it stands for acknowledged. -/
def State.coreOnDuty (s : State) (c : Nat) : State :=
  (({ s.releaseToken 2 c with grv := { s.grv with
      onDuty := s.grv.onDuty ||| 2 ^ c, spare := s.grv.spare - bitAt c (s.grv.spare.testBit c) } } : State).modCore c
    (fun q => { q with state := .idle })).ackCores

/-- A spare that is in SELFTEST with its token goes on duty or is retired, as its self-test says. -/
theorem exec_graverSpareReady_testing {passed : Bool} (hs : (s.core c.val).state = .selftest) (ht : s.hasToken 2 c.val = true) :
    exec (.graverSpareReady c passed) s = .next
      (if passed then s.coreOnDuty c.val else ((s.report uGraver c.val 0x07).retireCore c.val none false).bringCore) :=
  congrArg Host.Outcome.next (if_neg (by simp [hs, ht]))

/-! ### PUBLIC_KEY_REGENERATION (R263, R273) -/

theorem exec_publicKeyRegeneration_missing {h : Word} {k : KeyRec} {good : Bool} (hk : KMap.get h.toNat s.csn.keys = some k)
    (hc : s.clocked = true) (hmce : Alg.isMce k.alg = true) (hpriv : k.isPrivate = true) (hpub : k.publicPresent = false)
    (hlive : k.destroying = false) (hvalue : k.badValue = false) (hpiers : s.piersOn ≠ []) :
    exec (.publicKeyRegeneration h good) s = .next
      (if good then s.modKey h.toNat (fun q => { q with pub := stdOut .publicKey k.alg [k.value] (Alg.pkLen k.alg 0 0), publicPresent := true })
        else s.modKey h.toNat (fun q => { q with badValue := true })) := by
  rw [exec_publicKeyRegeneration]
  unfold execPublicKeyRegeneration
  rw [hk]
  exact congrArg Host.Outcome.next (if_neg (by simp [hc, hmce, hpriv, hpub, hlive, hvalue, hpiers]))

theorem exec_publicKeyRegeneration_present {h : Word} {k : KeyRec} {good : Bool} (hk : KMap.get h.toNat s.csn.keys = some k)
    (hpub : k.publicPresent = true) : exec (.publicKeyRegeneration h good) s = .next s := by
  rw [exec_publicKeyRegeneration]
  unfold execPublicKeyRegeneration
  rw [hk]
  exact congrArg Host.Outcome.next (if_pos (by simp [hpub]))

/-! ### The statement -/

/-- Settles O38: each command by the state of its core or key; a yield point by what its switch finds among the other residents. -/
theorem graverCommands : Obligations.GraverCommands := by
  intro s c y t
  refine ⟨fun hc => ⟨exec_graverSlotLoad_unclocked hc, exec_graverYieldPoint_unclocked hc⟩, exec_graverSlotLoad_loadsNone,
    fun _ _ => exec_graverSlotLoad_loads, fun _ => exec_graverYieldPoint_notRunning,
    fun _ _ _ _ hc hr hj hx => exec_graverYieldPoint_aborts hc hr hj hx,
    fun j x ran hc hr hj hx ha halone htoken => ?alone, fun j x ran k hc hr hj hx ha hyields hswitch htoken => ?switch,
    fun hs ht => ⟨⟨_, exec_graverSpareReady_testing hs ht, if_pos rfl⟩, ?retires⟩, fun _ => exec_graverSpareReady_notTesting,
    fun h k hk => ⟨fun hc hmce hpriv hpub hlive hvalue hpiers => ?missing, fun _ => exec_publicKeyRegeneration_present hk⟩⟩
  case alone =>
    have hstays : s.yieldSwitch c.val j ran = s := State.yieldSwitch_none (State.switchTo_alone halone)
    rw [exec_graverYieldPoint_keepsToken hc hr hj hx ha (by rwa [hstays]), hstays]
  case switch =>
    have hmoves : s.yieldSwitch c.val j ran = s.switchCore c.val j k :=
      State.yieldSwitch_some (Core.yieldsOf_lt (by decide) hyields) hswitch
    rw [exec_graverYieldPoint_keepsToken hc hr hj hx ha (by rwa [hmoves]), hmoves]
  case retires => exact (exec_graverSpareReady_testing hs ht).trans (congrArg _ (if_neg Bool.false_ne_true))
  case missing =>
    have hwrites := fun good => exec_publicKeyRegeneration_missing (good := good) hk hc hmce hpriv hpub hlive hvalue hpiers
    exact ⟨(hwrites true).trans (congrArg _ (if_pos rfl)), (hwrites false).trans (congrArg _ (if_neg Bool.false_ne_true))⟩

end Sys2Proof.Machine
end

section
/-! The words of a customer routine: control specials, issues, and the specials' own words (R284, R285, R287, R288, R290 to R295, R298). -/

namespace Sys2Proof.Machine

variable {s : State} {p : Fin 8} {b : Fin 9} {j : Nat} {x : Job} {m : Micro} {w code : Nat}

/-! ### The word at the routine's address (R289, R291) -/

theorem Micro.special_own (hw : plateWord m.image m.pc = some w) (hseq : wSeq w = 3) (hcode : wImm w = code) : m.special code = some w := by
  unfold Micro.special
  rw [hw]
  exact if_pos ⟨hseq, hcode⟩

theorem Micro.special_other (hw : plateWord m.image m.pc = some w) (h : wSeq w ≠ 3 ∨ wImm w ≠ code) : m.special code = none := by
  unfold Micro.special
  rw [hw]
  exact if_neg (Classical.not_and_iff_not_or_not.mpr h)

/-! ### One issue that takes no stipple word (R288, R290) -/

section
variable {n : Nat} {f : Micro → Micro} (hn : stippleWords n = 0)
include hn

theorem State.issueNano_tagFault {p b : Nat} (hfault : m.land.tagFault n (wA w) (wB w) = true) :
    s.issueNano p b j m n w f = s.invariantEnds j := by
  unfold State.issueNano
  dsimp only
  rw [hn, if_neg (by simp), if_pos hfault]

theorem State.issueNano_issues {p b : Nat} (hkept : m.land.tagFault n (wA w) (wB w) = false) :
    s.issueNano p b j m n w f =
      ({ s with frees := s.frees + issueFrees } : State).modBurin p b (fun y => { y with micro := some (f m.land) }) := by
  unfold State.issueNano
  dsimp only
  rw [hn, if_neg (by simp), if_neg (ne_true_of_eq_false hkept)]
  rfl

end

section
variable (hi : s.issuing p.val b.val = some (j, x)) (hm : (s.burin p.val b.val).micro = some m)

/-! ### SET_LC, BASE_LOAD, WAIT (R287, R291) -/

section
variable (hw : plateWord m.image m.pc = some w) (hseq : wSeq w = 3)
include hi hm hw hseq

/-- On a word of its code a control special acts on the routine after what has landed. -/
theorem State.control_acts {own : Nat → Bool} {f : Micro → Nat → Micro} (hown : own (wImm w) = true) :
    s.control p.val b.val own f = s.modBurin p.val b.val (fun y => { y with micro := some (f m.land w) }) := by
  unfold State.control
  rw [hi, hm]
  dsimp only
  rw [hw]
  exact if_pos ⟨hseq, hown⟩

theorem exec_setLc_own (hlo : 0x10 ≤ wImm w) (hhi : wImm w ≤ 0x13) :
    exec (.setLc p b) s = .next (s.modBurin p.val b.val (fun y => { y with
      micro := some { m.land with lcs := listSet m.land.lcs (wImm w - 0x10) (wNano w), pc := m.land.pc + 1, cycle := m.land.cycle + 1 } })) :=
  congrArg Host.Outcome.next (State.control_acts hi hm hw hseq (decide_eq_true ⟨hlo, hhi⟩))

theorem exec_baseLoad_own (hcode : wImm w = 0x20) :
    exec (.baseLoad p b) s = .next (s.modBurin p.val b.val (fun y => { y with
      micro := some { m.land with
        bases := listSet m.land.bases (wA w) (imBase m.land.image (wNano w % 64))
        pc := m.land.pc + 1, cycle := m.land.cycle + 1 } })) :=
  congrArg Host.Outcome.next (State.control_acts hi hm hw hseq (beq_iff_eq.mpr hcode))

theorem exec_wait_own (hcode : wImm w = 0x30) :
    exec (.wait p b) s = .next (s.modBurin p.val b.val (fun y => { y with
      micro := some { m.land with pc := m.land.pc + 1, cycle := m.land.cycle + wNano w + 1 } })) :=
  congrArg Host.Outcome.next (State.control_acts hi hm hw hseq (beq_iff_eq.mpr hcode))

end

/-! ### MICROWORD_ISSUE (R288, R290) -/

include hi hm

theorem exec_microwordIssue_word (hw : plateWord m.image m.pc = some w) :
    exec (.microwordIssue p b) s = .next (if wSeq w = 3 then s
      else s.issueNano p.val b.val j m (etchWord m.image (wNano w)) w (fun k => k.issue w s.frees)) := by
  rw [exec_microwordIssue]
  unfold execMicrowordIssue
  rw [hi, hm]
  dsimp only
  rw [hw]

/-! ### COMMIT, END, YIELD, MASK_REFRESH (R291, R295, R298) -/

theorem exec_commit_other (h : m.special 1 = none) : exec (.commit p b) s = .next s := by
  rw [exec_commit]
  unfold execCommit
  rw [hi, hm]
  dsimp only
  rw [h]

/-- COMMIT samples the abort request before it issues its nano-word. -/
theorem exec_commit_aborts {st : Nat} (h : m.special 1 = some w) (ha : x.abortBy = some st) :
    exec (.commit p b) s = .next (s.abandon j st) := by
  rw [exec_commit]
  unfold execCommit
  rw [hi, hm]
  dsimp only
  rw [h, ha]

theorem exec_end_other (h : m.special 2 = none) : exec (.end_ p b) s = .next s := by
  rw [exec_end_]
  unfold execEnd
  rw [hi, hm]
  dsimp only
  rw [h]
  exact congrArg Host.Outcome.next (ite_self s)

theorem exec_yield_other (h : m.special 3 = none) : exec (.yield_ p b) s = .next s := by
  rw [exec_yield_]
  unfold execYield
  rw [hi, hm]
  dsimp only
  rw [h]
  exact congrArg Host.Outcome.next (ite_self s)

end

theorem exec_end_uncommitted (hi : s.issuing p.val b.val = some (j, x)) (hs : (s.burin p.val b.val).state ≠ .postCommit) :
    exec (.end_ p b) s = .next s := by
  rw [exec_end_]
  unfold execEnd
  rw [hi]
  exact congrArg Host.Outcome.next (if_pos hs)

theorem exec_maskRefresh_other (hm : (s.burin p.val b.val).micro = some m) (h : m.special 4 = none) :
    exec (.maskRefresh p b) s = .next s := by
  rw [exec_maskRefresh]
  unfold execMaskRefresh
  rw [hm]
  dsimp only
  rw [h]
  exact congrArg Host.Outcome.next (ite_self s)

/-! ### The statement -/

/-- Settles O34: each command by the word at the routine's address; an issue by what the share tags say of its nano-word. -/
theorem customerWords : Obligations.CustomerWords := by
  intro s p b j x m w put n hi hm hw
  have hissue := exec_microwordIssue_word hi hm hw
  refine ⟨exec_setLc_own hi hm hw, exec_baseLoad_own hi hm hw, exec_wait_own hi hm hw,
    fun hseq => ?special, fun hseq hn hfault => ?breaks, fun hseq hn hkept => ?issues,
    fun h => exec_commit_other hi hm (Micro.special_other hw h), fun h => exec_end_other hi hm (Micro.special_other hw h),
    fun h => exec_yield_other hi hm (Micro.special_other hw h), fun h => exec_maskRefresh_other hm (Micro.special_other hw h),
    fun st hseq hcode => exec_commit_aborts hi hm (Micro.special_own hw hseq hcode), fun _ _ => exec_end_uncommitted hi⟩
  case special => rw [hissue, if_pos hseq]
  case breaks => rw [hissue, if_neg hseq, State.issueNano_tagFault hn hfault]
  case issues => rw [hissue, if_neg hseq, State.issueNano_issues hn hkept]

end Sys2Proof.Machine
end

section
/-! Frames in and out, links, lane and port control, and local addresses of a line port (R360, R361, R363 to R366, R369, R375, R381, R382). -/

namespace Sys2Proof.Machine

@[simp] theorem State.port_modPort (s : State) (p q : Nat) (g : Port → Port) :
    (s.modPort p g).port q = if p = q then g (s.port p) else s.port q := SMap.get_set ..

/-! ### FRAME_RECEIVE (R360, R366, R382) -/

theorem exec_frameReceive_down {s : State} {p : Fin 2} {k : Fin 4} {f : Bytes} {fec : FecReport} (h : s.linkWorks p.val k.val = false) :
    exec (.frameReceive p k f fec) s = .next s := by
  rw [exec_frameReceive]
  unfold execFrameReceive
  rw [h]
  rfl

/-- On a working link the codewords are counted first; a frame with an uncorrectable one does not reach the MAC. -/
theorem exec_frameReceive_works {s : State} {p : Fin 2} {k : Fin 4} {f : Bytes} {fec : FecReport} (h : s.linkWorks p.val k.val = true) :
    exec (.frameReceive p k f fec) s = .next (if fec.uncorrectable then s.countFec p.val k.val fec
      else (s.countFec p.val k.val fec).macReceive p.val k.val f) := by
  rw [exec_frameReceive]
  unfold execFrameReceive
  rw [h]
  rfl

theorem exec_frameReceive_uncorrectable {s : State} {p : Fin 2} {k : Fin 4} {f : Bytes} {fec : FecReport}
    (h : s.linkWorks p.val k.val = true) (hfec : fec.uncorrectable = true) :
    exec (.frameReceive p k f fec) s = .next (s.countFec p.val k.val fec) := by
  rw [exec_frameReceive_works h, if_pos hfec]

theorem exec_frameReceive_mac {s : State} {p : Fin 2} {k : Fin 4} {f : Bytes} {fec : FecReport}
    (h : s.linkWorks p.val k.val = true) (hfec : fec.uncorrectable = false) :
    exec (.frameReceive p k f fec) s = .next ((s.countFec p.val k.val fec).macReceive p.val k.val f) := by
  rw [exec_frameReceive_works h, if_neg (ne_true_of_eq_false hfec)]

/-- A report without errors counts nothing. -/
theorem State.countFec_clean (s : State) (p k : Nat) {fec : FecReport} (hcorr : fec.corrected = 0) (hsym : fec.symbols = 0)
    (hunc : fec.uncorrectable = false) : s.countFec p k fec = s := by
  unfold State.countFec
  dsimp only
  rw [if_pos hcorr, if_pos hsym, if_neg (ne_true_of_eq_false hunc)]

/-! ### The MAC (R366, assumption log 37) -/

/-- A frame whose length the port takes. -/
structure State.Fits (s : State) (p : Nat) (f : Bytes) : Prop where
  min : 64 ≤ f.length
  max : f.length ≤ bits (s.reg (Reg.portMaxFrame p)) 13 0

/-- A frame that fits and carries its own FCS. -/
structure State.Intact (s : State) (p : Nat) (f : Bytes) : Prop extends s.Fits p f where
  fcs : f.drop (f.length - 4) = leBytes 4 (fcs32 (f.take (f.length - 4)))

section Mac

variable {s : State} {p : Nat} {f : Bytes} (k : Nat)

theorem State.macReceive_short (h : f.length < 64) : s.macReceive p k f = s.bump (Reg.linkCtr p k 4) :=
  if_pos h

theorem State.macReceive_long (hmin : 64 ≤ f.length) (h : bits (s.reg (Reg.portMaxFrame p)) 13 0 < f.length) :
    s.macReceive p k f = s.bump (Reg.linkCtr p k 8) := by
  unfold State.macReceive
  rw [if_neg (Nat.not_lt.mpr hmin), if_pos h]

theorem State.Fits.macReceive_badFcs (hf : s.Fits p f) (h : f.drop (f.length - 4) ≠ leBytes 4 (fcs32 (f.take (f.length - 4)))) :
    s.macReceive p k f = s.bump (Reg.linkCtr p k 0xC) := by
  unfold State.macReceive
  rw [if_neg (Nat.not_lt.mpr hf.min), if_neg (Nat.not_lt.mpr hf.max), if_pos h]

/-- An intact frame is told by its EtherType before its destination is filtered. -/
theorem State.Intact.macReceive_eq (hf : s.Intact p f) : s.macReceive p k f =
    if rdBe (f.take (f.length - 4)) 12 2 = 0x8808 then s.bump (Reg.linkCtr p k 0x14)
    else if !(s.addressed p ((f.take (f.length - 4)).take 6)) then s.bump (Reg.linkCtr p k 0x10)
    else (s.bump (Reg.linkCtr p k 0)).parseFrame p k (f.take (f.length - 4)) := by
  unfold State.macReceive
  rw [if_neg (Nat.not_lt.mpr hf.min), if_neg (Nat.not_lt.mpr hf.max), if_neg (not_not_intro hf.fcs)]

theorem State.Intact.macReceive_control (hf : s.Intact p f) (h : rdBe (f.take (f.length - 4)) 12 2 = 0x8808) :
    s.macReceive p k f = s.bump (Reg.linkCtr p k 0x14) := by
  rw [hf.macReceive_eq, if_pos h]

theorem State.Intact.macReceive_filtered (hf : s.Intact p f) (hdata : rdBe (f.take (f.length - 4)) 12 2 ≠ 0x8808)
    (h : s.addressed p ((f.take (f.length - 4)).take 6) = false) : s.macReceive p k f = s.bump (Reg.linkCtr p k 0x10) := by
  rw [hf.macReceive_eq, if_neg hdata, h]
  rfl

theorem State.Intact.macReceive_accepted (hf : s.Intact p f) (hdata : rdBe (f.take (f.length - 4)) 12 2 ≠ 0x8808)
    (h : s.addressed p ((f.take (f.length - 4)).take 6) = true) :
    s.macReceive p k f = (s.bump (Reg.linkCtr p k 0)).parseFrame p k (f.take (f.length - 4)) := by
  rw [hf.macReceive_eq, if_neg hdata, h]
  rfl

end Mac

/-! ### FRAME_TRANSMIT (R369) -/

/-- The frame `g` leaves link `k`, with `more` still queued behind it. -/
def State.sendFrame (s : State) (p k : Nat) (g : Bytes) (more : List Bytes) : State :=
  ((s.modPort p (fun x => { x with txq := listSet x.txq k more })).emit (.frame p k (macFrame (s.stationMac p) g))).bump (Reg.linkCtr p k 0x20)

theorem State.sendFrame_out (s : State) (p k : Nat) (g : Bytes) (more : List Bytes) :
    (s.sendFrame p k g more).out = s.out ++ [.frame p k (macFrame (s.stationMac p) g)] := rfl

theorem State.sendFrame_port (s : State) (p k : Nat) (g : Bytes) (more : List Bytes) :
    (s.sendFrame p k g more).port p = { s.port p with txq := listSet (s.port p).txq k more } :=
  SMap.get_set_self ..

theorem State.sendFrame_frame (s : State) (p k : Nat) (g : Bytes) (more : List Bytes) :
    { s.sendFrame p k g more with lpt := s.lpt, out := s.out, regs := s.regs } = s := rfl

theorem exec_frameTransmit_down {s : State} {p : Fin 2} {k : Fin 4} (h : s.linkWorks p.val k.val = false) :
    exec (.frameTransmit p k) s = .next s := by
  rw [exec_frameTransmit]
  unfold execFrameTransmit
  rw [if_neg (ne_true_of_eq_false h)]

theorem exec_frameTransmit_nil {s : State} {p : Fin 2} {k : Fin 4} (h : s.linkWorks p.val k.val = true)
    (hq : (s.port p.val).txq.getD k.val [] = []) : exec (.frameTransmit p k) s = .next s := by
  rw [exec_frameTransmit]
  unfold execFrameTransmit
  rw [if_pos h, hq]

theorem exec_frameTransmit_cons {s : State} {p : Fin 2} {k : Fin 4} {g : Bytes} {more : List Bytes} (h : s.linkWorks p.val k.val = true)
    (hq : (s.port p.val).txq.getD k.val [] = g :: more) : exec (.frameTransmit p k) s = .next (s.sendFrame p.val k.val g more) := by
  rw [exec_frameTransmit]
  unfold execFrameTransmit
  rw [if_pos h, hq]
  rfl

/-! ### LINK_UP and LINK_DOWN (R360, R364, R365) -/

/-- What a link needs to enter phase 4: power, clock, an enabled port whose MODE has the link, a proper RX_MAP, and phases 1 to 3 behind it. -/
structure State.Acquires (s : State) (p k : Nat) : Prop where
  power : s.pdOn (20 + p) = true
  pll : s.glb.pll = true
  enabled : s.portOn p = true
  member : k < modeLinks (s.portMode p)
  mapped : rxMapOk (s.reg (Reg.portCtl p)) = true
  started : 1 ≤ (s.port p).phases.getD k 0
  notUp : (s.port p).phases.getD k 0 ≤ 3

theorem exec_linkUp_acquires {s : State} {p : Fin 2} {k : Fin 4} (h : s.Acquires p.val k.val) :
    exec (.linkUp p k) s = .next ((s.setPhase p.val k.val 4).linkChanged p.val k.val) := by
  rw [exec_linkUp]
  unfold execLinkUp
  dsimp only
  rw [if_pos ⟨h.power, h.pll, h.enabled, h.member, h.mapped, h.started, h.notUp⟩]

theorem exec_linkUp_stays {s : State} {p : Fin 2} {k : Fin 4} (h : ¬s.Acquires p.val k.val) : exec (.linkUp p k) s = .next s := by
  rw [exec_linkUp]
  unfold execLinkUp
  dsimp only
  rw [if_neg]
  rintro ⟨hpower, hpll, henabled, hmember, hmapped, hstarted, hnotUp⟩
  exact h ⟨hpower, hpll, henabled, hmember, hmapped, hstarted, hnotUp⟩

/-- A disabled port acquires no link, and a link that is up is not acquired again. -/
theorem State.not_acquires {s : State} {p k : Nat} (h : s.portOn p = false ∨ (s.port p).phases.getD k 0 = 4) : ¬s.Acquires p k := by
  intro ha
  obtain hoff | hup := h
  · exact ne_true_of_eq_false hoff ha.enabled
  · have := ha.notUp
    omega

theorem exec_linkDown_up {s : State} {p : Fin 2} {k : Fin 4} (h : (s.port p.val).phases.getD k.val 0 = 4) :
    exec (.linkDown p k) s = .next (s.linkFalls p.val k.val 2) := by
  rw [exec_linkDown]
  unfold execLinkDown
  rw [if_pos h]

theorem exec_linkDown_stays {s : State} {p : Fin 2} {k : Fin 4} (h : (s.port p.val).phases.getD k.val 0 ≠ 4) :
    exec (.linkDown p k) s = .next s := by
  rw [exec_linkDown]
  unfold execLinkDown
  rw [if_neg h]

/-! ### Writes of port, lane and address registers (R361, R363, R375) -/

/-- The registers of a port answer: its clock runs and its power domain is on. -/
def State.portAnswers (s : State) (p : Nat) : Prop := s.clocked = true ∧ s.pdOn (20 + p) = true

theorem State.portAnswers_iff (s : State) (p : Nat) : s.portAnswers p ↔ (s.clocked && s.pdOn (20 + p)) = true :=
  Bool.and_eq_true_iff.symm

section Answers

variable {s : State} {p : Fin 2} {w : Word}

theorem exec_lptPortCtlWrite_on (h : s.portAnswers p.val) : exec (.lptPortCtlWrite p w) s = .next (s.writePortCtl p.val w.toNat) := by
  rw [exec_lptPortCtlWrite]
  unfold execLptPortCtlWrite
  rw [if_pos ((s.portAnswers_iff p.val).mp h)]

theorem exec_lptPortCtlWrite_off (h : ¬s.portAnswers p.val) : exec (.lptPortCtlWrite p w) s = .next s := by
  rw [exec_lptPortCtlWrite]
  unfold execLptPortCtlWrite
  rw [if_neg (mt (s.portAnswers_iff p.val).mpr h)]

theorem exec_lptTxeqWrite_taken (k : Fin 4) (h : s.portAnswers p.val) (htaps : tapsOk w.toNat = true) :
    exec (.lptTxeqWrite p k w) s = .next (s.setReg (Reg.laneTxEq p.val k.val) (w.toNat % 2 ^ 24)) := by
  rw [exec_lptTxeqWrite]
  unfold execLptTxeqWrite
  rw [if_pos (Bool.and_eq_true_iff.mpr ⟨(s.portAnswers_iff p.val).mp h, htaps⟩)]

theorem exec_lptTxeqWrite_refused (k : Fin 4) (htaps : tapsOk w.toNat = false) : exec (.lptTxeqWrite p k w) s = .next s := by
  rw [exec_lptTxeqWrite]
  unfold execLptTxeqWrite
  rw [htaps, Bool.and_false]
  rfl

theorem exec_localAddressWrite_on (e : Fin 16) (h : s.portAnswers p.val) :
    exec (.localAddressWrite p e w) s = .next (s.writeAddress p.val e.val w) := by
  rw [exec_localAddressWrite]
  unfold execLocalAddressWrite
  rw [if_pos ((s.portAnswers_iff p.val).mp h)]

theorem exec_localAddressWrite_off (e : Fin 16) (h : ¬s.portAnswers p.val) : exec (.localAddressWrite p e w) s = .next s := by
  rw [exec_localAddressWrite]
  unfold execLocalAddressWrite
  rw [if_neg (mt (s.portAnswers_iff p.val).mpr h)]

end Answers

/-! ### LPT_PORTp_CTL while ENABLE is 1 (R361) -/

theorem testBit_31_setBits_31 (old n : Nat) : (setBits old n 31 31).testBit 31 = n.testBit 0 := by
  simp only [setBits, bits, Nat.testBit_eq_decide_div_mod_eq, Nat.shiftRight_eq_div_pow, decide_eq_decide]
  omega

theorem testBit_31_setBits_27 (old n : Nat) : (setBits old n 27 27).testBit 31 = old.testBit 31 := by
  simp only [setBits, bits, Nat.testBit_eq_decide_div_mod_eq, Nat.shiftRight_eq_div_pow, decide_eq_decide]
  omega

/-- Of an enabled port only ENABLE and PROMISC take what is written. -/
theorem portCtlAfter_enabled {old : Nat} (w : Nat) (h : old.testBit 31 = true) :
    portCtlAfter old w = setBits (setBits old (w / 2 ^ 31) 31 31) (w / 2 ^ 27) 27 27 :=
  if_pos h

/-- ENABLE takes the written bit. -/
theorem portCtlAfter_enable {old : Nat} (w : Nat) (h : old.testBit 31 = true) : (portCtlAfter old w).testBit 31 = w.testBit 31 := by
  rw [portCtlAfter_enabled w h, testBit_31_setBits_27, testBit_31_setBits_31, Nat.testBit_div_two_pow]

/-- A write that leaves ENABLE at 1 neither starts nor stops a link. -/
theorem State.writePortCtl_staysEnabled {s : State} {p w : Nat} (hold : (s.reg (Reg.portCtl p)).testBit 31 = true)
    (hw : w.testBit 31 = true) :
    s.writePortCtl p w = s.setReg (Reg.portCtl p) (portCtlAfter (s.reg (Reg.portCtl p)) w) := by
  have hnew := (portCtlAfter_enable w hold).trans hw
  unfold State.writePortCtl
  dsimp only
  rw [hold, hnew]
  rfl

/-! ### EXC_LIMIT_INTERVAL (R381) -/

/-- A port with no exception frame admitted yet in its interval. -/
def Port.readmitted (x : Port) : Port := { x with admitted := 0 }

theorem exec_excLimitInterval_eq (s : State) :
    exec .excLimitInterval s = .next ((s.modPort 0 Port.readmitted).modPort 1 Port.readmitted) := by
  rw [exec_excLimitInterval]
  rfl

theorem State.port_readmitted (s : State) {q : Nat} (hq : q < 2) :
    ((s.modPort 0 Port.readmitted).modPort 1 Port.readmitted).port q = { s.port q with admitted := 0 } := by
  obtain rfl | rfl : q = 0 ∨ q = 1 := by omega
  · rw [State.port_modPort, if_neg Nat.one_ne_zero, State.port_modPort, if_pos rfl]
    rfl
  · rw [State.port_modPort, if_pos rfl, State.port_modPort, if_neg Nat.zero_ne_one]
    rfl

/-! ### The statement -/

/-- Settles O40: each command by the outcomes that its own section gives. -/
theorem portCommands : Obligations.PortCommands := by
  intro s p k f fec w n body u on old
  refine ⟨fun hdown => ⟨exec_frameReceive_down hdown, exec_frameTransmit_down hdown⟩,
    fun hworks hunc => exec_frameReceive_uncorrectable hworks hunc, ?receive,
    fun hcorr hsym hunc => s.countFec_clean p.val k.val hcorr hsym hunc, fun hworks hq => exec_frameTransmit_nil hworks hq, ?transmit,
    fun hpower hpll hon hmember hmap hmin hmax => exec_linkUp_acquires ⟨hpower, hpll, hon, hmember, hmap, hmin, hmax⟩,
    fun h => exec_linkUp_stays (State.not_acquires h), fun h => exec_linkDown_up h, fun h => exec_linkDown_stays h, ?enabled,
    fun hon => exec_lptPortCtlWrite_on hon, fun hoff => exec_lptPortCtlWrite_off hoff,
    fun hon htaps => exec_lptTxeqWrite_taken k hon htaps, fun htaps => exec_lptTxeqWrite_refused k htaps,
    fun e => ⟨fun hon => exec_localAddressWrite_on e hon, fun hoff => exec_localAddressWrite_off e hoff⟩,
    ⟨_, exec_excLimitInterval_eq s, fun q hq => s.port_readmitted hq, rfl⟩⟩
  case receive =>
    intro hworks hunc
    rw [exec_frameReceive_mac hworks hunc]
    refine ⟨fun hshort => ?_, fun hmin hlong => ?_, fun hmin hmax hbad => ?_, fun hmin hmax hfcs hctl => ?_,
      fun hmin hmax hfcs hdata hother => ?_, fun hmin hmax hfcs hdata hours => ?_⟩
    · exact congrArg _ (State.macReceive_short _ hshort)
    · exact congrArg _ (State.macReceive_long _ hmin hlong)
    · exact congrArg _ (State.Fits.macReceive_badFcs _ ⟨hmin, hmax⟩ hbad)
    · exact congrArg _ (State.Intact.macReceive_control _ ⟨⟨hmin, hmax⟩, hfcs⟩ hctl)
    · exact congrArg _ (State.Intact.macReceive_filtered _ ⟨⟨hmin, hmax⟩, hfcs⟩ hdata hother)
    · exact congrArg _ (State.Intact.macReceive_accepted _ ⟨⟨hmin, hmax⟩, hfcs⟩ hdata hours)
  case transmit =>
    intro g more hworks hq
    exact ⟨_, exec_frameTransmit_cons hworks hq, s.sendFrame_out p.val k.val g more, s.sendFrame_port p.val k.val g more,
      s.sendFrame_frame p.val k.val g more⟩
  case enabled =>
    intro hon hold hw
    rw [exec_lptPortCtlWrite_on hon, State.writePortCtl_staysEnabled hold hw, portCtlAfter_enabled _ hold]

end Sys2Proof.Machine
end

section
/-! Received records: slots, records and packets through checks 2 to 5, lanes, verdicts and held records (R392 to R406, R422 to R429). -/

namespace Sys2Proof.Machine

/-- The Carriageway's events look nothing up while its clock does not run. -/
theorem State.whenRuns_none {α : Type} {s : State} {o : Option α} (h : s.clocked = false ∨ o = none) : (if s.cwyRuns then o else none) = none := by
  obtain hclk | rfl := h
  · exact if_neg (ne_true_of_eq_false hclk)
  · exact ite_self none

theorem State.whenRuns_clocked {α : Type} {s : State} (o : Option α) (h : s.clocked = true) : (if s.cwyRuns then o else none) = o := if_pos h

theorem State.not_stopped {s : State} (h : s.clocked = true) : ¬((!s.clocked) = true) := by
  rw [h]
  exact Bool.false_ne_true

theorem State.not_clocked_or {s : State} {b : Bool} (hclk : s.clocked = true) (hb : b = false) : ¬((!s.clocked || b) = true) := by
  rw [hclk, hb]
  exact Bool.false_ne_true

/-! ### CWY_SLOT_ISSUE (R392) -/

/-- The receive and look-aside sources that have work. -/
def State.slotSources (s : State) : List Nat := ([0, 1, 4] : List Nat).filter s.slotWork

theorem State.slotSources_eq {s : State} {b0 b1 b4 : Bool} (h0 : s.slotWork 0 = b0) (h1 : s.slotWork 1 = b1) (h4 : s.slotWork 4 = b4) :
    s.slotSources = (if b0 then [0] else []) ++ (if b1 then [1] else []) ++ (if b4 then [4] else []) := by
  change (([0] ++ [1] ++ [4] : List Nat).filter s.slotWork) = _
  simp only [List.filter_append, List.filter_cons, List.filter_nil, h0, h1, h4]

/-- The only source with work is picked with or without weight left. -/
theorem find?_orElse_head?_singleton (q : Nat → Bool) (a : Nat) : (([a] : List Nat).find? q).orElse (fun _ => ([a] : List Nat).head?) = some a := by
  rw [List.find?_singleton]
  split <;> rfl

theorem State.slotWork_lookaside {s : State} {q : Nat × Job} (h : s.nextLookaside = some q) : s.slotWork 4 = true :=
  congrArg Option.isSome h

theorem exec_cwySlotIssue_stopped {s : State} (h : s.clocked = false) : exec .cwySlotIssue s = .next s := by
  rw [exec_cwySlotIssue]
  unfold execCwySlotIssue
  rw [h]
  rfl

theorem exec_cwySlotIssue_noWork {s : State} (h : s.slotSources = []) : exec .cwySlotIssue s = .next s := by
  rw [State.slotSources] at h
  rw [exec_cwySlotIssue]
  unfold execCwySlotIssue
  rw [h]
  exact congrArg _ (ite_self s)

/-- The port that alone has work takes a slot, within its weight or in a new round. -/
theorem exec_cwySlotIssue_port {s : State} {p : Nat} (hp : p ≠ 4) (hclk : s.clocked = true) (h : s.slotSources = [p]) :
    exec .cwySlotIssue s = .next (((s.takeSlots p 1).getD s).receiveSlot p) := by
  rw [State.slotSources] at h
  rw [exec_cwySlotIssue]
  unfold execCwySlotIssue
  dsimp only
  rw [if_neg (State.not_stopped hclk), h, find?_orElse_head?_singleton]
  split
  case h_1 hnone => cases hnone
  case h_2 hfour => exact absurd (Option.some.inj hfour) hp
  case h_3 hsome => cases hsome; rfl

/-- The look-aside job at the head takes one slot unless it is a BATCH. -/
theorem exec_cwySlotIssue_lookaside {s : State} {j : Nat} {x : Job} (hclk : s.clocked = true) (h : s.slotSources = [4])
    (hnext : s.nextLookaside = some (j, x)) (hop : dOp x.desc ≠ 0x0505) :
    exec .cwySlotIssue s = .next (((s.takeSlots 4 1).getD s).lookasideSlot j x) := by
  rw [State.slotSources] at h
  rw [exec_cwySlotIssue]
  unfold execCwySlotIssue
  dsimp only
  rw [if_neg (State.not_stopped hclk), h, find?_orElse_head?_singleton, hnext]
  dsimp only
  rw [if_neg hop]
  rfl

/-! ### DTLS_RECORD_RECEIVE (R394, R395, R403, R404) -/

theorem exec_dtlsRecordReceive_none {s : State} (h : s.clocked = false ∨ s.nextRec 1 = none) : exec .dtlsRecordReceive s = .next s := by
  rw [exec_dtlsRecordReceive]
  unfold execDtlsRecordReceive
  rw [State.whenRuns_none h]

theorem exec_dtlsRecordReceive_some {s : State} {n : Nat} {r : Rec} (hclk : s.clocked = true) (h : s.nextRec 1 = some (n, r)) :
    exec .dtlsRecordReceive s = .next (s.dtlsReceive n r).settleDrains := by
  rw [exec_dtlsRecordReceive]
  unfold execDtlsRecordReceive
  rw [State.whenRuns_clocked _ hclk, h]

/-- Checks 2 and 3 pass: a header that can be read, the entry's connection ID, and a length that fits the datagram and the entry. -/
structure Session.Passes (x : Session) (r : Rec) (h : DtlsHead) : Prop where
  parse : parseDtls r.data = some h
  cid : h.cid = x.cid r.session
  whole : h.hdrLen + h.len ≤ r.data.length
  min : 17 ≤ h.len
  max : h.len ≤ x.maxPlaintext + 272

section Receive

variable {s : State} (n : Nat) {r : Rec} {x : Session}

theorem State.dtlsReceive_closed (hx : s.session r.session = some x) (h : ¬(x.state = 1 ∨ x.state = 2)) :
    s.dtlsReceive n r = (s.touchHead r.session).dropRec n Reg.headerDrop := by
  unfold State.dtlsReceive
  rw [hx]
  exact if_pos h

theorem State.dtlsReceive_unreadable (hx : s.session r.session = some x) (hopen : x.state = 1 ∨ x.state = 2) (h : parseDtls r.data = none) :
    s.dtlsReceive n r = (s.touchHead r.session).dropRest n r := by
  unfold State.dtlsReceive
  rw [hx, h]
  exact if_neg (not_not_intro hopen)

theorem State.dtlsReceive_passes {h : DtlsHead} (hx : s.session r.session = some x) (hopen : x.state = 1 ∨ x.state = 2) (hr : x.Passes r h) :
    s.dtlsReceive n r = (s.touchHead r.session).dtlsNumber n r x h := by
  have hfits : ¬(h.cid ≠ x.cid r.session ∨ r.data.length < h.hdrLen + h.len ∨ h.len < 17 ∨ x.maxPlaintext + 272 < h.len) := by
    rintro (hcid | hlong | hmin | hmax)
    · exact hcid hr.cid
    · exact Nat.not_lt.mpr hr.whole hlong
    · exact Nat.not_lt.mpr hr.min hmin
    · exact Nat.not_lt.mpr hr.max hmax
  unfold State.dtlsReceive
  rw [hx, hr.parse]
  dsimp only
  rw [if_neg (not_not_intro hopen), if_neg hfits]

/-- Check 4 fails: the epoch bits select neither slot (R395). -/
theorem State.dtlsNumber_noSlot (h : DtlsHead) (hslot : x.slotFor (rd r.data 0 1 % 4) = none) :
    s.dtlsNumber n r x h = s.dropRec n Reg.epochMiss := by
  unfold State.dtlsNumber
  rw [hslot]

/-! ### ESP_PACKET_RECEIVE (R400, R402) -/

theorem exec_espPacketReceive_none (h : s.clocked = false ∨ s.nextRec 2 = none) : exec .espPacketReceive s = .next s := by
  rw [exec_espPacketReceive]
  unfold execEspPacketReceive
  rw [State.whenRuns_none h]

theorem exec_espPacketReceive_some {n : Nat} (hclk : s.clocked = true) (h : s.nextRec 2 = some (n, r)) :
    exec .espPacketReceive s = .next (s.espReceive n r).settleDrains := by
  rw [exec_espPacketReceive]
  unfold execEspPacketReceive
  rw [State.whenRuns_clocked _ hclk, h]

theorem State.espReceive_refused (hx : s.session r.session = some x) (h : x.state ≠ 2 ∨ r.data.length < 34) :
    s.espReceive n r = (s.touchHead r.session).dropRec n Reg.headerDrop := by
  unfold State.espReceive
  rw [hx]
  exact if_pos h

/-- A number that the window itself refuses is dropped without a checkpoint (R584). -/
theorem State.replayFails_unbound (s : State) (n : Nat) (r : Rec) : s.replayFails n r false = s.dropRec n Reg.replayDrop := rfl

/-- A packet under the head's SPI, with its 32-bit sequence number looked up in the head's window. -/
def Rec.inWindow (r : Rec) (x : Session) : Rec :=
  { r with alt := false, recnum := rdBe r.data 4 4, slot := x.rx.slot, slotId := rdBe r.data 0 4 }

theorem State.espReceive_replayed (hx : s.session r.session = some x) (hest : x.state = 2) (hlen : 34 ≤ r.data.length)
    (hspi : rdBe r.data 0 4 = x.rx.spi) (hesn : x.esn = false) (hnum : rdBe r.data 4 4 ≠ 0) (h : x.rx.admits (rdBe r.data 4 4) = false) :
    s.espReceive n r = ((s.touchHead r.session).bodyRead x (r.inWindow x)).dropRec n Reg.replayDrop := by
  have hsound : ¬(x.state ≠ 2 ∨ r.data.length < 34) := not_or.mpr ⟨not_not_intro hest, Nat.not_lt.mpr hlen⟩
  have hhead : decide (rdBe r.data 0 4 ≠ x.rx.spi) = false := decide_eq_false (not_not_intro hspi)
  unfold State.espReceive
  rw [hx]
  dsimp only
  rw [if_neg hsound, hhead, hesn]
  simp only [Bool.false_eq_true, if_false, if_neg hnum, h, Bool.not_false, Bool.true_or, if_true, Bool.false_and, State.replayFails_unbound]
  rfl

end Receive

/-! ### Verdicts (R394, R397) -/

section Verdicts

variable {s : State} {i : BitVec 24} {n : Nat} {r : Rec} {x : Session}

theorem exec_dtlsRecordVerdict_none (h : s.clocked = false ∨ s.decidedRec i.toNat 1 = none) : exec (.dtlsRecordVerdict i) s = .next s := by
  rw [exec_dtlsRecordVerdict]
  unfold execDtlsRecordVerdict
  rw [State.whenRuns_none h]

theorem exec_dtlsRecordVerdict_some (hclk : s.clocked = true) (h : s.decidedRec i.toNat 1 = some (n, r, x)) :
    exec (.dtlsRecordVerdict i) s =
      .next (if r.stage = 4 then s.tagFails n r else s.dtlsVerdict i.toNat n r x).sweepRekey.settleDrains := by
  rw [exec_dtlsRecordVerdict]
  unfold execDtlsRecordVerdict
  rw [State.whenRuns_clocked _ hclk, h]

theorem exec_espPacketVerdict_none (h : s.clocked = false ∨ s.decidedRec i.toNat 2 = none) : exec (.espPacketVerdict i) s = .next s := by
  rw [exec_espPacketVerdict]
  unfold execEspPacketVerdict
  rw [State.whenRuns_none h]

theorem exec_espPacketVerdict_some (hclk : s.clocked = true) (h : s.decidedRec i.toNat 2 = some (n, r, x)) :
    exec (.espPacketVerdict i) s =
      .next (if r.stage = 4 then s.tagFails n r else s.espVerdict i.toNat n r x).sweepRekey.settleDrains := by
  rw [exec_espPacketVerdict]
  unfold execEspPacketVerdict
  rw [State.whenRuns_clocked _ hclk, h]

/-! ### HELD_RECORD_RELEASE (R406) -/

/-- The entry after its oldest held record has left. -/
def Session.unheld (x : Session) (more : List HeldRec) : Session :=
  { x with held := more, rx := { x.rx with creditUsed := x.rx.creditUsed - 1 } }

theorem exec_heldRecordRelease_stopped (h : s.clocked = false) : exec (.heldRecordRelease i) s = .next s := by
  have hstop : (!s.cwyRuns) = true := congrArg not h
  rw [exec_heldRecordRelease]
  unfold execHeldRecordRelease
  rw [hstop]
  split
  · rfl
  · split <;> rfl

theorem exec_heldRecordRelease_nil (hx : s.session i.toNat = some x) (h : x.held = []) : exec (.heldRecordRelease i) s = .next s := by
  rw [exec_heldRecordRelease]
  unfold execHeldRecordRelease
  rw [hx]
  dsimp only
  rw [h]

theorem exec_heldRecordRelease_cons {q : HeldRec} {more : List HeldRec} (hx : s.session i.toNat = some x) (h : x.held = q :: more)
    (hclk : s.clocked = true) (hest : x.state = 2) (hring : (s.ring x.vi (16 + x.rx.ring)).enable = true) :
    exec (.heldRecordRelease i) s =
      .next (((s.setSession i.toNat (x.unheld more)).postRecord i.toNat (x.unheld more) q).getD s).sweepRekey := by
  have hgoes : ¬((!s.cwyRuns || decide (x.state ≠ 2) || !(s.ring x.vi (16 + x.rx.ring)).enable) = true) := by
    rw [State.cwyRuns, hclk, hest, hring]
    decide
  rw [exec_heldRecordRelease]
  unfold execHeldRecordRelease
  rw [hx]
  dsimp only
  rw [h]
  exact congrArg _ (if_neg hgoes)

end Verdicts

/-! ### LANE_TAKE_JOB (R425, R426) -/

section Lanes

variable {s : State} {l : Fin 8} {w : LaneWork}

theorem exec_laneTakeJob_idle (h : s.clocked = false ∨ s.chosenLane ≠ some l.val ∨ s.nextLaneWork = none) :
    exec (.laneTakeJob l) s = .next s := by
  rw [exec_laneTakeJob]
  unfold execLaneTakeJob
  obtain hclk | hother | hnone := h
  · rw [hclk]
    rfl
  · rw [decide_eq_true hother, Bool.or_true]
    rfl
  · rw [hnone]
    exact congrArg _ (ite_self s)

/-- The record of `w` leaves the lane queue, and the running lane `l` takes it. -/
def State.laneTakesRec (s : State) (l : Nat) (w : LaneWork) (n : Lne) : State :=
  (((({ s with lne := { n with queue := n.queue.filter (fun y => decide (y.tag ≠ w.tag)) } } : State).modLane l
    (fun x => { x with work := x.work ++ [w] })).modRec w.id (fun r => { r with stage := 2 }))).modLane l (fun x => { x with state := .run })

theorem exec_laneTakeJob_record {n : Lne} (hclk : s.clocked = true) (hlane : s.chosenLane = some l.val)
    (hwork : s.nextLaneWork = some (w, n)) (hrec : w.isRec = true) (hrun : (s.lane l.val).state = .run) :
    exec (.laneTakeJob l) s = .next (s.laneTakesRec l.val w n) := by
  rw [exec_laneTakeJob]
  unfold execLaneTakeJob
  rw [if_neg (State.not_clocked_or hclk (decide_eq_false (not_not_intro hlane))), hwork]
  dsimp only
  rw [if_pos (.inl hrun), hrec]
  rfl

/-! ### LANE_JOB_COMPLETE (R424, R427) -/

/-- The head of the pipeline of a running lane. -/
structure State.LaneHead (s : State) (l : Nat) (w : LaneWork) : Prop where
  clocked : s.clocked = true
  run : (s.lane l).state = .run
  head : (s.lane l).work.head? = some w

theorem exec_laneJobComplete_notRunning (agree : Bool) (h : (s.lane l.val).state ≠ .run) :
    exec (.laneJobComplete l agree) s = .next s.settleDrains := by
  rw [exec_laneJobComplete]
  unfold execLaneJobComplete
  dsimp only
  rw [decide_eq_true h, Bool.or_true]
  rfl

/-- Whether the tag of a record verifies under the entry that it came in for; without the entry it does not. -/
def State.recVerifies (s : State) (r : Rec) : Bool := ((s.session r.session).map r.tagVerifies).getD false

theorem exec_laneJobComplete_record {r : Rec} (agree : Bool) (hw : s.LaneHead l.val w) (hrec : w.isRec = true) (hr : s.rxRec w.id = some r) :
    exec (.laneJobComplete l agree) s = .next (State.settleDrains (if !agree then (s.popLane l.val).laneFault l.val w false
      else ((s.popLane l.val).modRec w.id
        (fun y => { y with stage := if s.recVerifies r then 3 else 4, stamp := s.time })).laneEnds l.val)) := by
  rw [exec_laneJobComplete]
  unfold execLaneJobComplete
  dsimp only
  rw [if_neg (State.not_clocked_or hw.clocked (decide_eq_false (not_not_intro hw.run))), hw.head]
  dsimp only
  rw [if_pos hrec, hr]
  rfl

theorem exec_laneJobComplete_job {x : Job} (hw : s.LaneHead l.val w) (hjob : w.isRec = false) (hx : s.job w.id = some x)
    (habort : x.abortBy = none) (hstage : x.stage = .computed) :
    exec (.laneJobComplete l true) s = .next (((s.popLane l.val).finishJob w.id x.result []).laneEnds l.val).settleDrains := by
  rw [exec_laneJobComplete]
  unfold execLaneJobComplete
  dsimp only
  rw [if_neg (State.not_clocked_or hw.clocked (decide_eq_false (not_not_intro hw.run))), hw.head]
  dsimp only
  rw [if_neg (ne_true_of_eq_false hjob), hx]
  dsimp only
  rw [habort]
  dsimp only
  rw [if_neg (not_not_intro hstage)]
  rfl

end Lanes

/-! ### The statement -/

/-- Settles O43: each event by what its own section says it finds. -/
theorem recordPath : Obligations.RecordPath := by
  intro s i l k
  refine ⟨fun hclk => ⟨exec_cwySlotIssue_stopped hclk, exec_dtlsRecordReceive_none (.inl hclk), exec_espPacketReceive_none (.inl hclk),
      exec_laneTakeJob_idle (.inl hclk), exec_dtlsRecordVerdict_none (.inl hclk), exec_espPacketVerdict_none (.inl hclk),
      exec_heldRecordRelease_stopped hclk⟩,
    fun h0 h1 h4 => exec_cwySlotIssue_noWork (State.slotSources_eq h0 h1 h4), ?port,
    fun j x hclk h0 h1 hnext hop =>
      exec_cwySlotIssue_lookaside hclk (State.slotSources_eq h0 h1 (State.slotWork_lookaside hnext)) hnext hop,
    fun n r hclk hrec => exec_dtlsRecordReceive_some hclk hrec,
    fun n r x hx h1 h2 => State.dtlsReceive_closed n hx (not_or.mpr ⟨h1, h2⟩),
    fun n r x hx hopen hnone => State.dtlsReceive_unreadable n hx hopen hnone, ?epoch,
    fun n r hclk hrec => exec_espPacketReceive_some hclk hrec, fun n r x hx h => State.espReceive_refused n hx h,
    fun n r x hx hest hlen hspi hesn hnum hold =>
      ⟨r.inWindow x, State.espReceive_replayed n hx hest hlen hspi hesn hnum hold, rfl, rfl⟩,
    ?dtls, ?esp, fun hnone => exec_dtlsRecordVerdict_none (.inr hnone), fun hnone => exec_espPacketVerdict_none (.inr hnone),
    fun x hx hheld => exec_heldRecordRelease_nil hx hheld,
    fun x q more hx hheld hclk hest hring => exec_heldRecordRelease_cons hx hheld hclk hest hring,
    fun hother => exec_laneTakeJob_idle (.inr (.inl hother)), fun hnone => exec_laneTakeJob_idle (.inr (.inr hnone)),
    fun w n hclk hlane hwork hrec hrun => exec_laneTakeJob_record hclk hlane hwork hrec hrun, ?record, ?job,
    fun agree hstop => exec_laneJobComplete_notRunning agree hstop⟩
  case port =>
    intro p hp hclk hwork hother h4
    obtain rfl | rfl : p = 0 ∨ p = 1 := by omega
    · exact exec_cwySlotIssue_port (by decide) hclk (State.slotSources_eq hwork hother h4)
    · exact exec_cwySlotIssue_port (by decide) hclk (State.slotSources_eq hother hwork h4)
  case epoch =>
    intro n r x h hx hopen hparse hcid hwhole hmin hmax hslot
    rw [State.dtlsReceive_passes n hx hopen ⟨hparse, hcid, hwhole, hmin, hmax⟩, State.dtlsNumber_noSlot n h hslot]
  case dtls =>
    intro n r x hclk hdecided
    rw [exec_dtlsRecordVerdict_some hclk hdecided]
    exact ⟨fun hfail => by rw [if_pos hfail], fun hpass => by rw [if_neg hpass]⟩
  case esp =>
    intro n r x hclk hdecided
    rw [exec_espPacketVerdict_some hclk hdecided]
    exact ⟨fun hfail => by rw [if_pos hfail], fun hpass => by rw [if_neg hpass]⟩
  case record =>
    intro w more r hclk hrun hwork hrec hr
    have hw : s.LaneHead l.val w := ⟨hclk, hrun, congrArg List.head? hwork⟩
    exact ⟨exec_laneJobComplete_record true hw hrec hr, exec_laneJobComplete_record false hw hrec hr⟩
  case job =>
    intro w more x hclk hrun hwork hjob hx habort hstage
    exact exec_laneJobComplete_job ⟨hclk, hrun, congrArg List.head? hwork⟩ hjob hx habort hstage

end Sys2Proof.Machine
end

section
/-! Maintenance activities that run: scrubs, the health sweep, the repair map, the shelf, Crosshatch (R468, R659, R661, R685, R686, R690, R693, R695, R698). -/

namespace Sys2Proof.Machine

variable {s : State}

/-! ### Scrub passes (R685, R686) -/

theorem State.passEnds_patrol {a : Nat} (h : (s.act a).started = false) : s.passEnds a = s := if_neg (ne_true_of_eq_false h)

theorem State.passEnds_started {a : Nat} (h : (s.act a).started = true) : s.passEnds a = s.endAct a 0 := if_pos h

/-- A scrub meets no injection where none is armed (R678). -/
theorem State.scrubArmed_nil (h : s.fcl.armed = []) : s.scrubArmed = s := by
  unfold State.scrubArmed
  rw [h]
  rfl

theorem exec_scrubSram_idle {rows : List RowError} (h : s.actRuns 1 = false) : exec (.scrubSram rows) s = .next s := by
  rw [exec_scrubSram]
  unfold execScrubSram
  rw [h]
  rfl

/-- A row error that a scrub reads is handled as a demand error. -/
def State.scrubRow (s : State) (e : RowError) : State := s.memFault e.source.toNat (syndromeCause e.spot.syndrome.toNat) e.spot none true

theorem exec_scrubSram_reads (rows : List RowError) (h : s.actRuns 1 = true) (harmed : s.fcl.armed = []) :
    exec (.scrubSram rows) s = .next ((rows.foldl State.scrubRow s).passEnds 1) := by
  rw [exec_scrubSram]
  unfold execScrubSram
  rw [h, State.scrubArmed_nil harmed]
  rfl

theorem exec_scrubHbm_idle {lines : List LineError} (h : s.actRuns 2 = false) : exec (.scrubHbm lines) s = .next s := by
  rw [exec_scrubHbm]
  unfold execScrubHbm
  rw [h]
  rfl

theorem exec_scrubHbm_clean (h : s.actRuns 2 = true) : exec (.scrubHbm []) s = .next (s.passEnds 2) := by
  rw [exec_scrubHbm]
  unfold execScrubHbm
  rw [h]
  rfl

/-! ### HEALTH_SWEEP (R693) -/

theorem exec_healthSweep_unready {failed : List (BitVec 16)} (h : s.glb.dev ≠ .ready) : exec (.healthSweep failed) s = .next s := by
  rw [exec_healthSweep]
  exact congrArg _ (if_pos h)

theorem State.settleTargeted_nil (h : s.fcl.targeted = []) (failed : List Nat) : s.settleTargeted failed = s := by
  have hfcl : { s.fcl with targeted := [] } = s.fcl := by rw [← h]
  have hbad : failed.filter (fun _ => false) = [] := List.filter_eq_nil_iff.mpr (fun _ _ => Bool.false_ne_true)
  unfold State.settleTargeted
  simp only [h, List.foldl_nil, List.any_nil, hbad, hfcl]

theorem exec_healthSweep_paused {failed : List (BitVec 16)} (hdev : s.glb.dev = .ready) (ht : s.fcl.targeted = []) (h : s.actRuns 3 = false) :
    exec (.healthSweep failed) s = .next s := by
  rw [exec_healthSweep]
  unfold execHealthSweep
  rw [if_neg (not_not_intro hdev)]
  dsimp only
  rw [State.settleTargeted_nil ht, h]
  rfl

theorem exec_healthSweep_clean (hdev : s.glb.dev = .ready) (ht : s.fcl.targeted = []) (h : s.actRuns 3 = true) :
    exec (.healthSweep []) s = .next (s.passEnds 3) := by
  rw [exec_healthSweep]
  unfold execHealthSweep
  rw [if_neg (not_not_intro hdev)]
  dsimp only [List.map_nil]
  rw [State.settleTargeted_nil ht, h]
  rfl

/-! ### Slots of the repair map (R689, R690) -/

/-- Burning `n` bytes of a word from an address on sets its bits there and leaves every other byte. -/
theorem State.otp_foldl_setOtp (s : State) (base w n a : Nat) :
    ((List.range n).foldl (fun t i => t.setOtp (base + i) (t.otp (base + i) ||| BitVec.ofNat 8 (w / 256 ^ i))) s).otp a =
      if base ≤ a ∧ a < base + n then s.otp a ||| BitVec.ofNat 8 (w / 256 ^ (a - base)) else s.otp a := by
  induction n with
  | zero => exact (if_neg (fun h => Nat.not_lt.mpr h.1 h.2)).symm
  | succ n ih =>
    have hlast : ¬(base ≤ base + n ∧ base + n < base + n) := fun h => Nat.lt_irrefl _ h.2
    rw [List.range_succ, List.foldl_append, List.foldl_cons, List.foldl_nil, State.otp_setOtp]
    by_cases ha : base + n = a
    · subst ha
      rw [if_pos rfl, if_pos ⟨Nat.le_add_right .., Nat.lt_succ_self _⟩, ih, if_neg hlast, Nat.add_sub_cancel_left]
    · rw [if_neg ha, ih]
      have hrange : (base ≤ a ∧ a < base + (n + 1)) ↔ (base ≤ a ∧ a < base + n) := by omega
      simp only [hrange]

theorem State.otp_burnSlot_outside (s : State) (c k w : Nat) {a : Nat} (h : a < slotAt c k ∨ slotAt c k + 4 ≤ a) :
    (s.burnSlot c k w).otp a = s.otp a :=
  (s.otp_foldl_setOtp (slotAt c k) w 4 a).trans (if_neg (by omega))

theorem State.otp_burnSlot_byte (s : State) (c k w : Nat) {i : Nat} (h : i < 4) :
    (s.burnSlot c k w).otp (slotAt c k + i) = s.otp (slotAt c k + i) ||| BitVec.ofNat 8 (w / 256 ^ i) := by
  have hin : slotAt c k ≤ slotAt c k + i ∧ slotAt c k + i < slotAt c k + 4 := by omega
  rw [State.burnSlot, State.otp_foldl_setOtp, if_pos hin, Nat.add_sub_cancel_left]

/-- A slot's words of two copies lie apart. -/
theorem slotAt_apart {b c k i : Nat} (hi : i < 4) (h : b ≠ c) :
    slotAt c k + i < slotAt b k ∨ slotAt b k + 4 ≤ slotAt c k + i := by
  unfold slotAt
  omega

/-- A retirement burned into a slot of the three copies (R689). -/
def State.burnCopies (s : State) (k w : Nat) : State := ((s.burnSlot 0 k w).burnSlot 1 k w).burnSlot 2 k w

theorem State.otp_burnCopies_outside (s : State) (k w : Nat) {a : Nat} (h : ∀ c, c < 3 → a < slotAt c k ∨ slotAt c k + 4 ≤ a) :
    (s.burnCopies k w).otp a = s.otp a := by
  rw [State.burnCopies, State.otp_burnSlot_outside _ _ _ _ (h 2 (by decide)), State.otp_burnSlot_outside _ _ _ _ (h 1 (by decide)),
    State.otp_burnSlot_outside _ _ _ _ (h 0 (by decide))]

theorem State.otp_burnCopies_byte (s : State) (w : Nat) {c k i : Nat} (hc : c < 3) (hi : i < 4) :
    (s.burnCopies k w).otp (slotAt c k + i) = s.otp (slotAt c k + i) ||| BitVec.ofNat 8 (w / 256 ^ i) := by
  have hother : ∀ (t : State) b, b ≠ c → (t.burnSlot b k w).otp (slotAt c k + i) = t.otp (slotAt c k + i) :=
    fun t b hb => t.otp_burnSlot_outside b k w (slotAt_apart hi hb)
  obtain rfl | rfl | rfl : c = 0 ∨ c = 1 ∨ c = 2 := by omega
  · rw [State.burnCopies, hother _ 2 (by decide), hother _ 1 (by decide), State.otp_burnSlot_byte _ _ _ _ hi]
  · rw [State.burnCopies, hother _ 2 (by decide), State.otp_burnSlot_byte _ _ _ _ hi, hother _ 0 (by decide)]
  · rw [State.burnCopies, State.otp_burnSlot_byte _ _ _ _ hi, hother _ 1 (by decide), hother _ 0 (by decide)]

theorem leNat_leBytes (n v : Nat) : leNat (leBytes n v) = v % 256 ^ n := by
  induction n generalizing v with
  | zero => exact (Nat.mod_one v).symm
  | succ n ih => rw [leBytes, leNat, ih, BitVec.toNat_ofNat, Nat.pow_succ' (m := 256), Nat.mod_mul]

theorem leBytes_eq_map (n v : Nat) : leBytes n v = (List.range n).map (fun i => BitVec.ofNat 8 (v / 256 ^ i)) := by
  induction n generalizing v with
  | zero => rfl
  | succ n ih =>
    simp only [leBytes, ih, List.range_succ_eq_map, List.map_cons, List.map_map, Nat.pow_zero, Nat.div_one, Nat.div_div_eq_div_mul, ← Nat.pow_succ']
    rfl

theorem leNat_eq_zero {b : Bytes} (h : leNat b = 0) : ∀ x ∈ b, x = 0 := by
  induction b with
  | nil => exact fun x hx => absurd hx List.not_mem_nil
  | cons y r ih =>
    rw [leNat, Nat.add_eq_zero_iff] at h
    obtain ⟨hy, hr⟩ := h
    refine List.forall_mem_cons.mpr ⟨BitVec.eq_of_toNat_eq hy, ih ((Nat.mul_eq_zero.mp hr).resolve_left (by decide))⟩

theorem State.slotWord_eq (s : State) (c k : Nat) : s.slotWord c k = leNat (s.otpBytes (slotAt c k) 4) := rfl

/-- The bytes of a slot that reads 0 are 0. -/
theorem State.otp_of_slotWord_zero {c k i : Nat} (h : s.slotWord c k = 0) (hi : i < 4) : s.otp (slotAt c k + i) = 0 :=
  leNat_eq_zero ((s.slotWord_eq c k).symm.trans h) _ (List.mem_map.mpr ⟨i, List.mem_range.mpr hi, rfl⟩)

/-- A word burned into a slot that reads 0 stands there. -/
theorem State.slotWord_burnCopies {c k w : Nat} (hc : c < 3) (hw : w < 2 ^ 32) (h : s.slotWord c k = 0) :
    (s.burnCopies k w).slotWord c k = w := by
  have hbytes : (s.burnCopies k w).otpBytes (slotAt c k) 4 = leBytes 4 w := by
    rw [leBytes_eq_map]
    refine List.map_congr_left fun i hi => ?_
    have hi4 := List.mem_range.mp hi
    rw [State.otp_burnCopies_byte s w hc hi4, State.otp_of_slotWord_zero h hi4]
    exact BitVec.zero_or
  rw [State.slotWord_eq, hbytes, leNat_leBytes]
  exact Nat.mod_eq_of_lt hw

theorem State.slotWord_of_mem_freeSlots {k : Nat} (h : k ∈ s.freeSlots) (c : Nat) (hc : c < 3) : s.slotWord c k = 0 := by
  have hcopy : c ∈ ([0, 1, 2] : List Nat) := List.mem_range.mpr hc
  exact of_decide_eq_true (List.all_eq_true.mp (List.mem_filter.mp h).2 c hcopy)

/-! ### REPAIR_COMMIT (R690, R698) -/

theorem exec_repairCommit_idle {burned : Bool} (h : s.startedRuns 4 = false ∨ s.glb.dev ≠ .ready) : exec (.repairCommit burned) s = .next s := by
  rw [← Bool.not_eq_true'] at h
  rw [exec_repairCommit]
  exact congrArg _ (if_pos h)

theorem State.commitGoes (hrun : s.startedRuns 4 = true) (hdev : s.glb.dev = .ready) : ¬((!s.startedRuns 4) = true ∨ s.glb.dev ≠ .ready) := by
  rw [hrun]
  exact not_or.mpr ⟨Bool.false_ne_true, not_not_intro hdev⟩

theorem exec_repairCommit_ends {burned : Bool} (hrun : s.startedRuns 4 = true) (hdev : s.glb.dev = .ready)
    (h : s.nextCommit = none ∨ s.freeSlots = []) : exec (.repairCommit burned) s = .next (s.endAct 4 0) := by
  rw [exec_repairCommit]
  unfold execRepairCommit
  rw [if_neg (State.commitGoes hrun hdev)]
  obtain hnone | hfull := h
  · rw [hnone]
  · rw [hfull]
    split
    · cases ‹([] : List Nat) = _›
    · rfl

/-- The repair map notes the retirement `w` as committed into slot `k`. -/
def State.noteCommit (s : State) (k w : Nat) : State :=
  { s with fcl := { s.fcl with slots := KMap.put k w s.fcl.slots, uncommitted := s.fcl.uncommitted.filter (fun x => decide (x ≠ w)) } }

theorem State.otp_noteCommit (s : State) (k w a : Nat) : (s.noteCommit k w).otp a = s.otp a := rfl

theorem State.slotWord_noteCommit (s : State) (c k w l : Nat) : (s.noteCommit l w).slotWord c k = s.slotWord c k := rfl

/-- A commit ends with the last retirement asked for, and with the last free slot. -/
def State.endCommit (s : State) : State := if s.nextCommit.isNone = true ∨ s.freeSlots = [] then s.endAct 4 0 else s

theorem exec_repairCommit_burns {w k : Nat} {more : List Nat} (hrun : s.startedRuns 4 = true) (hdev : s.glb.dev = .ready)
    (hw : s.nextCommit = some w) (hk : s.freeSlots = k :: more) :
    exec (.repairCommit true) s = .next ((s.burnCopies k w).noteCommit k w).endCommit := by
  rw [exec_repairCommit]
  unfold execRepairCommit State.endCommit State.noteCommit State.burnCopies
  rw [if_neg (State.commitGoes hrun hdev), hw, hk]
  simp only [if_true, List.foldl_cons, List.foldl_nil, List.isEmpty_iff]

/-! ### CAISSON_COMPACT (R468) and XH_SELFTEST (R661) -/

theorem exec_caissonCompact_runs (h : s.startedRuns 5 = true ∧ s.glb.dev = .ready) :
    exec .caissonCompact s = .next (s.compactShelf.endAct 5 0) := by
  rw [exec_caissonCompact, execCaissonCompact, if_pos h]

theorem exec_caissonCompact_idle (h : ¬(s.startedRuns 5 = true ∧ s.glb.dev = .ready)) : exec .caissonCompact s = .next s := by
  rw [exec_caissonCompact, execCaissonCompact, if_neg h]

theorem exec_xhSelftest_idle {dets : List (Byte × Detector)} (h : s.startedRuns 6 = false ∨ (s.glb.dev ≠ .ready ∧ s.glb.dev ≠ .falsework)) :
    exec (.xhSelftest dets) s = .next s := by
  rw [← Bool.not_eq_true'] at h
  rw [exec_xhSelftest]
  exact congrArg _ (if_pos h)

/-- A self-test of the detectors that no job waits for. -/
theorem exec_xhSelftest_unasked (dets : List (Byte × Detector)) (hrun : s.startedRuns 6 = true)
    (hdev : s.glb.dev = .ready ∨ s.glb.dev = .falsework) (hjob : (s.act 6).job = none) :
    exec (.xhSelftest dets) s = .next ((s.endAct 6 0).xhTested dets) := by
  have hgoes : ¬((!s.startedRuns 6) = true ∨ (s.glb.dev ≠ .ready ∧ s.glb.dev ≠ .falsework)) := by
    rw [hrun, ← not_or]
    exact not_or.mpr ⟨Bool.false_ne_true, not_not_intro hdev⟩
  rw [exec_xhSelftest]
  unfold execXhSelftest
  rw [if_neg hgoes, hjob]

theorem State.xhTested_nil (s : State) : s.xhTested [] = s := by
  unfold State.xhTested
  simp only [List.filter_nil, List.eraseDups_nil, List.map_nil, List.foldl_nil]

/-! ### The statement -/

/-- Settles O54: each event by whether its activity runs; a commit by the retirement and the slot that are next. -/
theorem maintenanceEvents : Obligations.MaintenanceEvents := by
  intro s rows lines failed dets burned
  refine ⟨exec_scrubSram_idle, exec_scrubHbm_idle, exec_scrubSram_reads [], fun hrun harmed e => exec_scrubSram_reads [e] hrun harmed,
    exec_scrubHbm_clean, fun a h => State.passEnds_patrol h, fun a h => State.passEnds_started h,
    exec_healthSweep_unready, exec_healthSweep_paused, exec_healthSweep_clean,
    exec_repairCommit_idle, exec_repairCommit_ends, ?commit, exec_caissonCompact_runs, exec_caissonCompact_idle, exec_xhSelftest_idle,
    fun hrun hdev hjob => ⟨exec_xhSelftest_unasked dets hrun hdev hjob, ?none⟩⟩
  case commit =>
    intro w k more hrun hdev hw hk hlt u t
    have hu : u = s.burnCopies k w := rfl
    have ht : t = u.noteCommit k w := rfl
    have hfree : ∀ c, c < 3 → s.slotWord c k = 0 := State.slotWord_of_mem_freeSlots (hk ▸ List.mem_cons_self)
    clear_value t
    clear_value u
    subst ht hu
    refine ⟨exec_repairCommit_burns hrun hdev hw hk, fun c hc => ?_, fun a ha => ?_⟩
    · rw [State.slotWord_noteCommit, State.slotWord_burnCopies hc hlt (hfree c hc)]
    · rw [State.otp_noteCommit, State.otp_burnCopies_outside s k w ha]
  case none =>
    rw [exec_xhSelftest_unasked [] hrun hdev hjob, State.xhTested_nil]

end Sys2Proof.Machine
end

section
/-! The SPDM responder: negotiation, identity chain, signatures, sessions (R478, R481, R555). -/

namespace Sys2Proof.Machine

variable {s : State} {r : Bytes} {code n k : Nat}

/-! ### Which requests are taken -/

/-- Outside READY the firmware does not serve the mailbox. -/
theorem State.not_doeServed (h : s.glb.dev ≠ .ready) : (!s.doeServed) = true := by
  rw [State.doeServed, decide_eq_false h]
  rfl

theorem State.spdm_unserved (f : State → State) (h : s.glb.dev ≠ .ready) : s.spdm code n r f = s := if_pos (.inl (State.not_doeServed h))

/-- A request with the command's own code is taken in READY. -/
theorem State.spdmTaken (h : s.glb.dev = .ready) (hcode : rd r 1 1 = code) : ¬((!s.doeServed) = true ∨ rd r 1 1 ≠ code) := by
  rw [State.doeServed, decide_eq_true h]
  exact not_or.mpr ⟨Bool.false_ne_true, not_not_intro hcode⟩

/-- A request of another version, one too short, and one before the negotiation get their errors. -/
theorem exec_spdm_refuses {i : Instr} {f : State → State} (hi : exec i s = .next (s.spdm code n r f)) (h : s.glb.dev = .ready)
    (hcode : rd r 1 1 = code) :
    (rd r 0 1 ≠ s.doe.version → exec i s = .next (s.spdmError 0x41)) ∧
      (rd r 0 1 = s.doe.version → (r.length < n → exec i s = .next (s.spdmError 0x01)) ∧
        (n ≤ r.length → s.doe.phase ≠ .negotiated → exec i s = .next (s.spdmError 0x04))) := by
  rw [hi, State.spdm, if_neg (State.spdmTaken h hcode)]
  refine ⟨fun hver => by rw [if_pos hver], fun hver => ?_⟩
  rw [if_neg (not_not_intro hver)]
  exact ⟨fun hlen => by rw [if_pos hlen], fun hlen hphase => by rw [if_neg (Nat.not_lt.mpr hlen), if_pos hphase]⟩

/-- A whole request of the agreed version after the negotiation, in READY. -/
structure State.Asks (s : State) (r : Bytes) (code n : Nat) : Prop where
  ready : s.glb.dev = .ready
  negotiated : s.doe.phase = .negotiated
  version : rd r 0 1 = s.doe.version
  code : rd r 1 1 = code
  whole : n ≤ r.length

theorem State.Asks.spdm_eq (h : s.Asks r code n) (f : State → State) : s.spdm code n r f = f s := by
  rw [State.spdm, if_neg (State.spdmTaken h.ready h.code), if_neg (not_not_intro h.version), if_neg (Nat.not_lt.mpr h.whole),
    if_neg (not_not_intro h.negotiated)]

/-! ### Negotiation -/

theorem exec_getVersion_unserved (h : s.glb.dev ≠ .ready) : exec (.getVersion r) s = .next s :=
  congrArg _ (if_pos (.inl (State.not_doeServed h)))

theorem exec_getCapabilities_unserved (h : s.glb.dev ≠ .ready) : exec (.getCapabilities r) s = .next s :=
  congrArg _ (if_pos (.inl (State.not_doeServed h)))

theorem exec_negotiateAlgorithms_unserved (h : s.glb.dev ≠ .ready) : exec (.negotiateAlgorithms r) s = .next s :=
  congrArg _ (if_pos (.inl (State.not_doeServed h)))

theorem exec_getVersion_restarts (h : s.glb.dev = .ready) (hcode : rd r 1 1 = 0x84) (hver : rd r 0 1 = 0x10) : ∃ vca o,
    exec (.getVersion r) s = .next ((s.withDoe { s.doe with
      phase := .version, version := 0x10, vca := vca, certMsgs := [], measMsgs := [], sessions := [] }).emit o) :=
  ⟨_, _, congrArg _ ((if_neg (State.spdmTaken h hcode)).trans (if_neg (not_not_intro hver)))⟩

theorem exec_getCapabilities_early (h : s.glb.dev = .ready) (hcode : rd r 1 1 = 0xE1) (hphase : s.doe.phase ≠ .version) :
    exec (.getCapabilities r) s = .next (s.spdmError 0x04) :=
  congrArg _ ((if_neg (State.spdmTaken h hcode)).trans (if_pos hphase))

theorem exec_getCapabilities_agrees (h : s.glb.dev = .ready) (hcode : rd r 1 1 = 0xE1) (hphase : s.doe.phase = .version)
    (hver : rd r 0 1 = 0x12) (hlen : 20 ≤ r.length) : ∃ vca o,
    exec (.getCapabilities r) s = .next ((s.withDoe { s.doe with phase := .capabilities, version := 0x12, vca := vca }).emit o) := by
  have hwhole : ¬(r.length < if (0x12 : Nat) = 0x10 then 4 else if (0x12 : Nat) = 0x11 then 12 else 20) := Nat.not_lt.mpr hlen
  rw [exec_getCapabilities]
  unfold execGetCapabilities
  dsimp only
  rw [hver, if_neg (State.spdmTaken h hcode), if_neg (not_not_intro hphase), if_neg (by decide), if_neg hwhole]
  exact ⟨_, _, rfl⟩

theorem exec_negotiateAlgorithms_agrees (h : s.glb.dev = .ready) (hcode : rd r 1 1 = 0xE3) (hphase : s.doe.phase = .capabilities)
    (hver : rd r 0 1 = s.doe.version) (hlen : 32 ≤ r.length) (hasym : (rd r 8 4).testBit 7 = true) (hhash : (rd r 12 4).testBit 1 = true) :
    ∃ vca o, exec (.negotiateAlgorithms r) s = .next ((s.withDoe { s.doe with phase := .negotiated, vca := vca }).emit o) := by
  have hoffers : ¬(r.length < 32 ∨ (!(rd r 8 4).testBit 7) = true ∨ (!(rd r 12 4).testBit 1) = true) := by
    rw [hasym, hhash]
    exact not_or.mpr ⟨Nat.not_lt.mpr hlen, by decide⟩
  rw [exec_negotiateAlgorithms]
  unfold execNegotiateAlgorithms
  dsimp only
  rw [if_neg (State.spdmTaken h hcode), if_neg (not_not_intro hphase), if_neg (not_not_intro hver), if_neg hoffers]
  exact ⟨_, _, rfl⟩

/-! ### The identity chain (R478) -/

theorem exec_getDigests_asked (h : s.Asks r 0x81 4) : ∃ m, exec (.getDigests r) s = .next (s.certReply r m) ∧
    m.length = if s.spdmChain = [] then 4 else 4 + (sha384 s.spdmChain).length := by
  refine ⟨_, congrArg _ (h.spdm_eq _), ?_⟩
  simp only [List.isEmpty_iff]
  split
  case isTrue => rfl
  case isFalse => exact List.length_append

theorem exec_getCertificate_asked (h : s.Asks r 0x82 8) (hslot : bits (rd r 2 1) 3 0 = 0) (hoff : rd r 4 2 < s.spdmChain.length) :
    exec (.getCertificate r) s = .next (s.certReply r (octets [s.doe.version, 0x02, 0, 0] ++
      leBytes 2 (slice s.spdmChain (rd r 4 2) (rd r 6 2)).length ++
      leBytes 2 (s.spdmChain.length - rd r 4 2 - (slice s.spdmChain (rd r 4 2) (rd r 6 2)).length) ++
      slice s.spdmChain (rd r 4 2) (rd r 6 2))) := by
  rw [exec_getCertificate]
  unfold execGetCertificate
  rw [h.spdm_eq]
  exact congrArg _ (if_neg (not_or.mpr ⟨not_not_intro hslot, Nat.not_le.mpr hoff⟩))

/-! ### Signatures and measurements (R478, R481) -/

theorem State.nextDraw_csn (s : State) : s.nextDraw.csn = s.csn := (congrArg State.csn s.besideDraws_nextDraw :)

@[simp] theorem State.withDoe_draws (s : State) (d : Doe) : (s.withDoe d).draws = s.draws := rfl
@[simp] theorem State.withDoe_csn (s : State) (d : Doe) : (s.withDoe d).csn = s.csn := rfl
@[simp] theorem State.withDoe_jobs (s : State) (d : Doe) : (s.withDoe d).jobs = s.jobs := rfl

theorem exec_challenge_unsigned {h : Bytes} (ha : s.Asks r 0x83 36) (hslot : rd r 2 1 = 0) (hsum : s.summaryHash (rd r 3 1) = some h)
    (hsign : s.canSign = false) : exec (.challenge r) s = .next s.signRefused := by
  rw [exec_challenge]
  unfold execChallenge
  rw [ha.spdm_eq]
  dsimp only
  rw [hsum]
  dsimp only
  rw [if_neg (not_not_intro hslot), hsign]
  rfl

theorem exec_challenge_signed {h : Bytes} (ha : s.Asks r 0x83 36) (hslot : rd r 2 1 = 0) (hsum : s.summaryHash (rd r 3 1) = some h)
    (hsign : s.canSign = true) :
    ∃ m, exec (.challenge r) s = .next ((s.nextDraw.nextDraw.withDoe { s.doe with certMsgs := [] }).emit (.doe m)) := by
  rw [exec_challenge]
  unfold execChallenge
  rw [ha.spdm_eq]
  dsimp only
  rw [hsum]
  dsimp only
  rw [if_neg (not_not_intro hslot), hsign, if_neg (by decide)]
  exact ⟨_, rfl⟩

/-- All measurement blocks, without a signature. -/
theorem exec_getMeasurements_all (ha : s.Asks r 0xE0 4) (hattr : rd r 2 1 = 0) (hop : rd r 3 1 = 0xFF) (hdrbg : s.ent.drbgOk = true) :
    ∃ l m, exec (.getMeasurements r) s = .next ((s.nextDraw.withDoe { s.doe with measMsgs := l }).emit (.doe m)) := by
  have hplain : (0 : Nat).testBit 0 = false := rfl
  rw [exec_getMeasurements]
  unfold execGetMeasurements
  rw [ha.spdm_eq]
  dsimp only
  rw [hattr, hop, hplain, hdrbg]
  exact ⟨_, _, rfl⟩

/-- The number of blocks, signed by slot 0, of a device that cannot sign. -/
theorem exec_getMeasurements_unsigned (ha : s.Asks r 0xE0 4) (hlen : 37 ≤ r.length) (hattr : rd r 2 1 = 1) (hop : rd r 3 1 = 0)
    (hslot : rd r 36 1 = 0) (hsign : s.canSign = false) : exec (.getMeasurements r) s = .next s.signRefused := by
  have hsigned : (1 : Nat).testBit 0 = true := rfl
  rw [exec_getMeasurements]
  unfold execGetMeasurements
  rw [ha.spdm_eq]
  dsimp only
  rw [hattr, hop, hsigned, decide_eq_false (not_not_intro hslot), Bool.and_false, if_neg ?sound, hsign]
  case sound =>
    rintro (⟨-, hop⟩ | hbad | ⟨-, hshort⟩)
    · exact hop rfl
    · exact Bool.false_ne_true hbad
    · split at hshort <;> omega
  exact congrArg _ (if_pos (.inr ⟨rfl, rfl⟩))

/-! ### KEY_EXCHANGE (R555) -/

theorem exec_keyExchange_full (ha : s.Asks r 0xE4 138) (hfree : s.doe.freeSession = none) :
    exec (.keyExchange r) s = .next (s.spdmError 0x03) := by
  rw [exec_keyExchange]
  unfold execKeyExchange
  rw [ha.spdm_eq]
  dsimp only
  rw [hfree]

/-- A session in the free place, not yet open. -/
theorem exec_keyExchange_begins {h : Bytes} (ha : s.Asks r 0xE4 138) (hfree : s.doe.freeSession = some k)
    (hsum : s.summaryHash (rd r 2 1) = some h) (hver : s.doe.version ≠ 0x10) (hslot : rd r 3 1 = 0)
    (hpoint : pointDefect 0x0712 (4 :: slice r 40 96) = none) (hsign : s.canSign = true) : ∃ x m, x.isOpen = false ∧
      exec (.keyExchange r) s = .next ((s.nextDraw.nextDraw.nextDraw.nextDraw.withDoe
        { s.doe with sessions := KMap.put k x s.doe.sessions }).emit (.doe m)) := by
  have hsound : ¬(rd r 3 1 ≠ 0 ∨ (pointDefect 0x0712 (4 :: slice r 40 96)).isSome = true) := by
    rw [hpoint]
    exact not_or.mpr ⟨not_not_intro hslot, Bool.false_ne_true⟩
  rw [exec_keyExchange]
  unfold execKeyExchange
  rw [ha.spdm_eq]
  dsimp only
  rw [hfree, hsum]
  dsimp only
  rw [if_neg hver, if_neg hsound, hsign, if_neg (by decide)]
  exact ⟨_, _, rfl, rfl⟩

/-! ### Secured messages (R555) -/

/-- A state with another responder and other outputs. -/
def State.withMailbox (s : State) (d : Doe) (o : List Out) : State := { s with doe := d, out := o }

theorem State.withMailbox_self (s : State) : s.withMailbox s.doe s.out = s := rfl
theorem State.withMailbox_putSpdm (s : State) (k : Nat) (x : SpdmSession) (d : Doe) (o : List Out) :
    (s.putSpdm k x).withMailbox d o = s.withMailbox d o := rfl
theorem State.withMailbox_dropSpdm (s : State) (k : Nat) (d : Doe) (o : List Out) : (s.dropSpdm k).withMailbox d o = s.withMailbox d o := rfl
theorem State.withMailbox_answer (s : State) (k : Nat) (l : List Nat) (d : Doe) (o : List Out) :
    (s.answer k l).withMailbox d o = s.withMailbox d o := rfl

section Sessions

variable {opened : Bool} {f : State → SpdmSession → State} {x : SpdmSession}

theorem State.inSession_unserved (h : s.glb.dev ≠ .ready) : s.inSession k opened f = s := if_pos (State.not_doeServed h)

theorem State.inSession_none (h : s.glb.dev = .ready) (hk : KMap.get k s.doe.sessions = none) : s.inSession k opened f = s.spdmError 0x02 := by
  rw [State.inSession, State.doeServed, decide_eq_true h, hk]
  rfl

theorem State.inSession_other (h : s.glb.dev = .ready) (hk : KMap.get k s.doe.sessions = some x) (hx : x.isOpen ≠ opened) :
    s.inSession k opened f = s.spdmError 0x02 := by
  rw [State.inSession, State.doeServed, decide_eq_true h, hk]
  exact if_pos hx

/-- A session after one more message in each direction. -/
def SpdmSession.counted (x : SpdmSession) : SpdmSession := { x with reqSeq := x.reqSeq + 1, rspSeq := x.rspSeq + 1 }

theorem State.inSession_acts (h : s.glb.dev = .ready) (hk : KMap.get k s.doe.sessions = some x) (hx : x.isOpen = opened) :
    s.inSession k opened f = f (s.putSpdm k x.counted) x.counted := by
  rw [State.inSession, State.doeServed, decide_eq_true h, hk]
  exact if_neg (not_not_intro hx)

theorem exec_heartbeat_open (h : s.glb.dev = .ready) (hk : KMap.get k s.doe.sessions = some x) (hx : x.isOpen = true) :
    exec (.heartbeat k) s = .next ((s.putSpdm k x.counted).answer k [0x68, 0, 0]) :=
  congrArg _ (State.inSession_acts h hk hx)

theorem exec_endSession_open (h : s.glb.dev = .ready) (hk : KMap.get k s.doe.sessions = some x) (hx : x.isOpen = true) :
    exec (.endSession k) s = .next (((s.putSpdm k x.counted).answer k [0x6C, 0, 0]).dropSpdm k) :=
  congrArg _ (State.inSession_acts h hk hx)

/-- A session whose requester takes its next key. -/
def SpdmSession.requesterUpdated (x : SpdmSession) : SpdmSession := { x with reqGen := x.reqGen + 1, reqSeq := 0 }

theorem exec_keyUpdate_requester (h : s.glb.dev = .ready) (hk : KMap.get k s.doe.sessions = some x) (hx : x.isOpen = true)
    (hr : s.doe.wellMade 0xE9 4 r = true) (hop : rd r 2 1 = 1) : ∃ l, exec (.keyUpdate k r) s =
      .next (((s.putSpdm k x.counted).putSpdm k x.counted.requesterUpdated).answer k l) := by
  have hmade : (s.putSpdm k x.counted).doe.wellMade 0xE9 4 r = true := hr
  rw [exec_keyUpdate]
  unfold execKeyUpdate
  rw [State.inSession_acts h hk hx]
  dsimp only
  rw [hmade, hop]
  exact ⟨_, rfl⟩

theorem exec_finish_refused (h : s.glb.dev = .ready) (hk : KMap.get k s.doe.sessions = some x) (hx : x.isOpen = false)
    (hmac : checkStd .finished 0x0A02 0 [x.secret, x.record ++ r.take 4, slice r 4 48] = false) :
    exec (.finish k r) s = .next (((s.putSpdm k x.counted).dropSpdm k).answer k [0x7F, 0x06, 0]) := by
  rw [exec_finish]
  unfold execFinish
  rw [State.inSession_acts h hk hx]
  exact congrArg _ (if_pos (.inr (congrArg not hmac)))

/-- A session that opens with the FINISH `r`. -/
def SpdmSession.finished (x : SpdmSession) (r : Bytes) : SpdmSession :=
  { x with isOpen := true, record := x.record ++ r, reqSeq := 0, rspSeq := 0 }

theorem exec_finish_opens (h : s.glb.dev = .ready) (hk : KMap.get k s.doe.sessions = some x) (hx : x.isOpen = false)
    (hr : s.doe.wellMade 0xE5 52 r = true) (hmac : checkStd .finished 0x0A02 0 [x.secret, x.record ++ r.take 4, slice r 4 48] = true) :
    exec (.finish k r) s = .next (((s.putSpdm k x.counted).putSpdm k (x.counted.finished r)).answer k [0x65, 0, 0]) := by
  rw [exec_finish]
  unfold execFinish
  rw [State.inSession_acts h hk hx]
  refine congrArg _ (if_neg ?_)
  rintro (hbad | hbad)
  · exact Bool.false_ne_true ((congrArg not hr).symm.trans hbad)
  · exact Bool.false_ne_true ((congrArg not hmac).symm.trans hbad)

end Sessions

/-! ### The statement -/

/-- Settles O46: a request by what makes it well formed, a secured message by the session that it names. -/
theorem spdmRequests : Obligations.SpdmRequests := by
  intro s r k d ready
  refine ⟨fun hno => ?unready, fun h hcode hver => ?version, exec_getCapabilities_early,
    fun h hcode hphase hver hlen => ?capabilities, fun h hcode hphase hver hlen hasym hhash => ?algorithms, ?refused, fun c => rfl,
    fun h hneg hver => ?asked, fun h hk => ?missing, fun x h hk => ?session⟩
  case unready =>
    have hspdm : ∀ code n f, s.spdm code n r f = s := fun code n f => State.spdm_unserved f hno
    exact ⟨exec_getVersion_unserved hno, exec_getCapabilities_unserved hno, exec_negotiateAlgorithms_unserved hno,
      congrArg _ (hspdm ..), congrArg _ (hspdm ..), congrArg _ (hspdm ..), congrArg _ (hspdm ..), congrArg _ (hspdm ..),
      congrArg _ (State.inSession_unserved hno), congrArg _ (State.inSession_unserved hno), congrArg _ (State.inSession_unserved hno),
      congrArg _ (State.inSession_unserved hno)⟩
  case version =>
    obtain ⟨vca, o, ht⟩ := exec_getVersion_restarts h hcode hver
    exact ⟨_, ht, rfl, rfl, rfl, List.length_append, rfl⟩
  case capabilities =>
    obtain ⟨vca, o, ht⟩ := exec_getCapabilities_agrees h hcode hphase hver hlen
    exact ⟨_, ht, rfl, rfl, rfl⟩
  case algorithms =>
    obtain ⟨vca, o, ht⟩ := exec_negotiateAlgorithms_agrees h hcode hphase hver hlen hasym hhash
    exact ⟨_, ht, rfl, rfl, rfl⟩
  case refused =>
    simp only [List.forall_mem_cons, List.not_mem_nil, false_imp_iff, implies_true, and_true]
    exact ⟨exec_spdm_refuses (exec_getDigests s r), exec_spdm_refuses (exec_getCertificate s r), exec_spdm_refuses (exec_challenge s r),
      exec_spdm_refuses (exec_getMeasurements s r), exec_spdm_refuses (exec_keyExchange s r)⟩
  case asked =>
    have asks : ∀ {code n}, rd r 1 1 = code → n ≤ r.length → s.Asks r code n := fun hcode hlen => ⟨h, hneg, hver, hcode, hlen⟩
    refine ⟨fun hcode hlen => exec_getDigests_asked (asks hcode hlen),
      fun hcode hlen hslot hoff => exec_getCertificate_asked (asks hcode hlen) hslot hoff,
      fun hcode hlen hslot hkind hsign => ?_, fun b hcode hlen hslot hsum hsign => ?_, fun hcode hlen hattr hop hdrbg => ?_,
      fun hcode hlen hattr hop hslot hsign =>
        exec_getMeasurements_unsigned (asks hcode (Nat.le_trans (by decide) hlen)) hlen hattr hop hslot hsign,
      fun hcode hlen hfree => exec_keyExchange_full (asks hcode hlen) hfree, fun n b hcode hlen hfree hsum hnew hslot hpoint hsign => ?_⟩
    · exact exec_challenge_unsigned (asks hcode hlen) hslot (hkind ▸ rfl : s.summaryHash (rd r 3 1) = some []) hsign
    · obtain ⟨m, ht⟩ := exec_challenge_signed (asks hcode hlen) hslot hsum hsign
      exact ⟨_, ht, rfl, by simp only [State.emit_draws, State.withDoe_draws, State.nextDraw_draws], by simp [State.nextDraw_csn], by simp⟩
    · obtain ⟨l, m, ht⟩ := exec_getMeasurements_all (asks hcode hlen) hattr hop hdrbg
      exact ⟨_, ht, rfl, by simp only [State.emit_draws, State.withDoe_draws, State.nextDraw_draws], by simp [State.nextDraw_csn], by simp⟩
    · obtain ⟨x, m, hx, ht⟩ := exec_keyExchange_begins (asks hcode hlen) hfree hsum hnew hslot hpoint hsign
      exact ⟨_, x, ht, rfl, hx, by simp [State.nextDraw_csn], by simp⟩
  case missing =>
    exact ⟨congrArg _ (State.inSession_none h hk), congrArg _ (State.inSession_none h hk), congrArg _ (State.inSession_none h hk),
      congrArg _ (State.inSession_none h hk)⟩
  case session =>
    have hframe : ∀ t : State, t.withMailbox d s.out = s.withMailbox d s.out → { t with doe := d, out := s.out } = s :=
      fun t ht => ht.trans s.withMailbox_self
    refine ⟨fun hx => ⟨_, exec_heartbeat_open h hk hx, rfl, KMap.get_put_self .., hframe _ ?_⟩,
      fun hx => ⟨_, exec_endSession_open h hk hx, KMap.get_del_self .., rfl, hframe _ ?_⟩, fun hx hr hop => ?_,
      fun hx => congrArg _ (State.inSession_other h hk (ne_true_of_eq_false hx)), fun hx hr => ?_⟩
    · rw [State.withMailbox_answer, State.withMailbox_putSpdm]
    · rw [State.withMailbox_dropSpdm, State.withMailbox_answer, State.withMailbox_putSpdm]
    · obtain ⟨l, ht⟩ := exec_keyUpdate_requester h hk hx hr hop
      refine ⟨_, _, ht, KMap.get_put_self .., rfl, rfl, rfl, hframe _ ?_⟩
      rw [State.withMailbox_answer, State.withMailbox_putSpdm, State.withMailbox_putSpdm]
    · cases hmac : checkStd .finished 0x0A02 0 [x.secret, x.record ++ r.take 4, slice r 4 48]
      case false =>
        refine ⟨_, exec_finish_refused h hk hx hmac, hframe _ ?_, fun _ => KMap.get_del_self .., fun hgood => absurd hgood Bool.false_ne_true⟩
        rw [State.withMailbox_answer, State.withMailbox_dropSpdm, State.withMailbox_putSpdm]
      case true =>
        refine ⟨_, exec_finish_opens h hk hx hr hmac, hframe _ ?_, fun hbad => absurd hbad.symm Bool.false_ne_true,
          fun _ => ⟨_, KMap.get_put_self .., rfl⟩⟩
        rw [State.withMailbox_answer, State.withMailbox_putSpdm, State.withMailbox_putSpdm]

end Sys2Proof.Machine
end

section
/-! The commands of a digest context and how they complete (R494 to R500). -/

namespace Sys2Proof.Machine

/-! ### What the processor starts (R494, R497) -/

theorem wordBytes_append (l m : List Word) : wordBytes (l ++ m) = wordBytes l ++ wordBytes m := by
  unfold wordBytes
  rw [List.map_append, List.flatten_append]

/-- Starting a block, a FINAL or nothing leaves state, ERR and WORDS alone; a block's words move from the buffer to the bytes absorbed. -/
theorem DgeCtx.begin_keeps (x : DgeCtx) (now : Nat) :
    (x.begin_ now).stage = x.stage ∧ (x.begin_ now).err = x.err ∧ (x.begin_ now).words = x.words ∧
      (x.begin_ now).data ++ wordBytes (x.begin_ now).buf = x.data ++ wordBytes x.buf := by
  unfold DgeCtx.begin_
  dsimp only
  by_cases hbusy : x.op ≠ .none ∨ x.stage ≠ .absorb
  case pos =>
    rw [if_pos hbusy]
    exact ⟨rfl, rfl, rfl, rfl⟩
  case neg =>
    rw [if_neg hbusy]
    by_cases hblock : blockWords x.runAlg ≤ x.buf.length
    case pos =>
      rw [if_pos hblock]
      refine ⟨rfl, rfl, rfl, ?_⟩
      rw [List.append_assoc, ← wordBytes_append, List.take_append_drop]
    case neg =>
      rw [if_neg hblock]
      split
      case isTrue => exact ⟨rfl, rfl, rfl, rfl⟩
      case isFalse => exact ⟨rfl, rfl, rfl, rfl⟩

/-! ### The owner's commands, by the state of the context (R494) -/

section Commands

variable {s : State} {v c : Nat} {x : DgeCtx}

/-- VI `v` reaches context `c`, holds it, and has not released it: its commands act. -/
def State.commandsDge (s : State) (v c : Nat) : Prop :=
  s.dgeLive v = true ∧ (s.dgeNow c).owner = some v ∧ (s.dgeNow c).releasing = false

theorem State.commandsDge.exec_eq {i : Instr} {f : State → DgeCtx → State} {t : State} (h : s.commandsDge v c)
    (hi : exec i s = .next (s.dgeCmd v c f)) (ht : f s (s.dgeNow c) = t) : exec i s = .next t := by
  obtain ⟨hlive, howner, hrel⟩ := h
  have hown : (s.dgeNow c).owner = some v ∧ (!(s.dgeNow c).releasing) = true := ⟨howner, congrArg Bool.not hrel⟩
  rw [hi, ← ht]
  unfold State.dgeCmd
  rw [hlive]
  exact congrArg _ (if_pos hown)

/-- A context that INIT with an accepted set-up and no key has started. -/
def DgeCtx.started (x : DgeCtx) : DgeCtx :=
  { x with stage := .absorb, op := .none, approved := false, err := 0, words := 0, buf := [], lost := false, closed := false, runAlg := x.alg,
           runSoft := x.softPad, runKey := x.key, keyValue := [], kgen := 0, keyApproved := false, base := [], data := [], stream := [], pos := 0 }

theorem State.dgeDoInit_starts (hst : x.stage = .idle ∨ (x.stage = .done ∧ x.op = .none)) (hok : x.setupOk = true) (hkey : x.key = noKey) :
    s.dgeDoInit v c x = s.setDgeCtx c x.started := by
  unfold State.dgeDoInit
  rw [if_pos hst]
  unfold State.dgeInit
  rw [hok]
  exact if_pos hkey

theorem State.dgeDoInit_badSetup (hst : x.stage = .idle ∨ (x.stage = .done ∧ x.op = .none)) (hok : x.setupOk = false) :
    s.dgeDoInit v c x = s.setDgeCtx c { x with stage := .idle, approved := false, err := 7 } := by
  unfold State.dgeDoInit
  rw [if_pos hst]
  unfold State.dgeInit
  rw [hok]
  exact if_pos rfl

theorem State.dgeDoInit_refuses (hidle : x.stage ≠ .idle) (hdone : x.stage ≠ .done) : s.dgeDoInit v c x = s.dgeRefuse c x :=
  if_neg (not_or.mpr ⟨hidle, fun h => hdone h.1⟩)

/-- ABSORB with the message not closed is the state in which DATA, FINAL and SAVE act. -/
theorem DgeCtx.absorbs (hst : x.stage = .absorb) (hcl : x.closed = false) : ¬(x.stage ≠ .absorb ∨ x.closed = true) :=
  not_or.mpr ⟨not_not_intro hst, ne_true_of_eq_false hcl⟩

/-- A context that has taken one more word of DATA. -/
def DgeCtx.withWord (x : DgeCtx) (w : Word) : DgeCtx := { x with buf := x.buf ++ [w], words := (x.words + 1) % 2 ^ 64 }

theorem State.dgeData_takes {w : Word} (hst : x.stage = .absorb) (hcl : x.closed = false) (hroom : x.buf.length < 64) :
    s.dgeData c x w false = s.setDgeCtx c ((x.withWord w).begin_ s.time) := by
  unfold State.dgeData
  rw [if_neg (DgeCtx.absorbs hst hcl), if_neg Bool.false_ne_true]
  exact if_neg (Nat.not_le.mpr hroom)

theorem State.dgeData_loses {w : Word} (hst : x.stage = .absorb) (hcl : x.closed = false) (hfull : 64 ≤ x.buf.length) :
    s.dgeData c x w false = s.setDgeCtx c { x with err := 4, lost := true } := by
  unfold State.dgeData
  rw [if_neg (DgeCtx.absorbs hst hcl), if_neg Bool.false_ne_true, if_pos hfull]

theorem State.dgeData_poisoned {w : Word} (hst : x.stage = .absorb) (hcl : x.closed = false) : s.dgeData c x w true = s.clearDge c 8 := by
  unfold State.dgeData
  rw [if_neg (DgeCtx.absorbs hst hcl), if_pos rfl]

theorem State.dgeData_refuses {w : Word} {p : Bool} (hst : x.stage ≠ .absorb) : s.dgeData c x w p = s.dgeRefuse c x := if_pos (.inl hst)

theorem State.dgeFinal_closes (hst : x.stage = .absorb) (hcl : x.closed = false) :
    s.dgeFinal c x = s.setDgeCtx c (DgeCtx.begin_ { x with closed := true } s.time) := if_neg (DgeCtx.absorbs hst hcl)

theorem State.dgeFinal_refuses (hst : x.stage ≠ .absorb) : s.dgeFinal c x = s.dgeRefuse c x := if_pos (.inl hst)

theorem State.dgeSqueeze_moves (hst : x.stage = .done) (hop : x.op = .none) (hxof : xof x.runAlg = true) (hleft : x.pos + 64 < x.stream.length) :
    s.dgeSqueeze c x = s.setDgeCtx c { x with pos := x.pos + 64, op := .squeeze } := by
  unfold State.dgeSqueeze
  rw [hxof]
  refine if_neg ?_
  rintro (h | h | h | h)
  · exact h hst
  · exact h hop
  · exact Bool.false_ne_true h
  · exact Nat.not_le.mpr hleft h

theorem State.dgeSqueeze_refuses (hend : x.stream.length ≤ x.pos + 64) : s.dgeSqueeze c x = s.dgeRefuse c x := if_pos (.inr (.inr (.inr hend)))

theorem State.dgeSave_starts (hst : x.stage = .absorb) (hcl : x.closed = false) (hbuf : x.buf = []) :
    s.dgeSave c x = s.setDgeCtx c { x with stage := .saving, op := .save } := by
  refine if_neg ?_
  rintro (h | h | h)
  · exact h hst
  · exact ne_true_of_eq_false hcl h
  · rw [hbuf] at h
    exact Bool.false_ne_true h

theorem State.dgeRestore_starts (hst : x.stage = .idle) : s.dgeRestore v c x =
    (s.setDgeCtx c { x with stage := .restoring, op := .restore }).emit (.hostRead v (s.via v) x.saveAddr 512) := if_neg (not_not_intro hst)

theorem State.dgeRestore_refuses (hst : x.stage ≠ .idle) : s.dgeRestore v c x = s.dgeRefuse c x := if_pos hst

/-! ### FINAL completes (R496, R498) -/

theorem exec_dgeOperationComplete_final {c : Fin 8} (o : ReadOutcome) (hlive : s.dgeLive 0 = true) (hrel : (s.dgeCtx c.val).releasing = false)
    (howner : (s.dgeNow c.val).owner = some v) (hop : (s.dgeNow c.val).op = .final) :
    exec (.dgeOperationComplete c o) s = .next (s.dgeFinish c.val (s.dgeNow c.val)) := by
  rw [exec_dgeOperationComplete]
  unfold execDgeOperationComplete State.dgeComplete
  rw [hlive, hrel]
  dsimp only
  rw [howner, hop]
  rfl

/-- The digest stands: DONE with the output. -/
theorem State.dgeFinish_done (hlost : x.lost = false) (hwords : x.words = (x.total + 3) / 4 + x.custWords) (hsoft : x.runSoft = false) :
    s.dgeFinish c x = s.setDgeCtx c
      { x with stage := .done, op := .none, closed := false, approved := s.lcs.lstate = .edition && (decide (x.runKey = noKey) || x.keyApproved),
               stream := x.finish, pos := 0, buf := [], data := [] } := by
  unfold State.dgeFinish
  rw [hlost, hsoft, if_neg (not_or.mpr ⟨Bool.false_ne_true, not_not_intro hwords⟩), if_neg (fun h => Bool.false_ne_true h.1)]
  simp only [Bool.not_false, Bool.and_true]

theorem State.dgeFinish_miscounted (hwords : x.words ≠ (x.total + 3) / 4 + x.custWords) :
    s.dgeFinish c x = (s.clearDge c 3).bump Reg.dgeFinalFail := if_pos (.inr hwords)

theorem State.dgeCtx_setDgeCtx_self (s : State) (c : Nat) (x : DgeCtx) : (s.setDgeCtx c x).dgeCtx c = x :=
  (State.dgeCtx_setDgeCtx ..).trans (if_pos rfl)

theorem State.setDgeCtx_frame (s : State) (c : Nat) (x : DgeCtx) : { s.setDgeCtx c x with dge := s.dge } = s := rfl

end Commands

/-! ### The statement -/

/-- Settles O20: each command by the state of the context as it is now. -/
theorem dgeCommands : Obligations.DgeCommands := by
  intro s v c w x refused hlive howner hrel
  have own : s.commandsDge v.val c.val := ⟨hlive, howner, hrel⟩
  refine ⟨fun hst hok hkey => ?init, fun hst hok => own.exec_eq (exec_dgeInit ..) (State.dgeDoInit_badSetup hst hok),
    fun hidle hdone => own.exec_eq (exec_dgeInit ..) (State.dgeDoInit_refuses hidle hdone), fun hst hcl hroom => ?data,
    fun hst hcl hfull => own.exec_eq (exec_dgeDataWrite ..) (State.dgeData_loses hst hcl hfull),
    fun hst hcl => own.exec_eq (exec_dgeDataWrite ..) (State.dgeData_poisoned hst hcl),
    fun p hst => own.exec_eq (exec_dgeDataWrite ..) (State.dgeData_refuses hst),
    fun hst hcl => own.exec_eq (exec_dgeFinal ..) (State.dgeFinal_closes hst hcl),
    fun hst => own.exec_eq (exec_dgeFinal ..) (State.dgeFinal_refuses hst),
    fun hst hop hxof hleft => own.exec_eq (exec_dgeSqueeze ..) (State.dgeSqueeze_moves hst hop hxof hleft),
    fun _ hend => own.exec_eq (exec_dgeSqueeze ..) (State.dgeSqueeze_refuses hend),
    fun hst hcl hbuf => own.exec_eq (exec_dgeSave ..) (State.dgeSave_starts hst hcl hbuf),
    fun hst => own.exec_eq (exec_dgeRestore ..) (State.dgeRestore_starts hst),
    fun hst => own.exec_eq (exec_dgeRestore ..) (State.dgeRestore_refuses hst), fun o hkept hlive0 hop hlost hwords hsoft => ?done,
    fun o hkept hlive0 hop hwords => ?miscounted⟩
  case init =>
    refine ⟨_, own.exec_eq (exec_dgeInit ..) (State.dgeDoInit_starts hst hok hkey), ?_⟩
    rw [State.dgeCtx_setDgeCtx_self]
    exact ⟨rfl, rfl, rfl, rfl, rfl, howner, State.setDgeCtx_frame .., fun k hk =>
      (State.dgeCtx_setDgeCtx ..).trans (if_neg (Fin.val_ne_of_ne hk.symm))⟩
  case data =>
    obtain ⟨hstage, herr, hwords, hbytes⟩ := (x.withWord w).begin_keeps s.time
    refine ⟨_, own.exec_eq (exec_dgeDataWrite ..) (State.dgeData_takes hst hcl hroom), ?_⟩
    rw [State.dgeCtx_setDgeCtx_self]
    exact ⟨hwords, herr, hstage.trans hst, State.setDgeCtx_frame .., .inr hbytes⟩
  case done => exact (exec_dgeOperationComplete_final o hlive0 hkept howner hop).trans (congrArg _ (State.dgeFinish_done hlost hwords hsoft))
  case miscounted => exact (exec_dgeOperationComplete_final o hlive0 hkept howner hop).trans (congrArg _ (State.dgeFinish_miscounted hwords))

end Sys2Proof.Machine
end

section
/-! The entropy source, the DRBG and raw capture (R504, R505, R507 to R510, R513). -/

namespace Sys2Proof.Machine

/-! ### What reporting a fault and acknowledging it can change (R669 to R675) -/

/-- A state with the fault collector, registers and outputs blotted out. -/
def State.besideFcl (s : State) : State := { s with fcl := Fcl.reset, regs := [], out := [] }

theorem State.noteClass_keeps (s : State) (r : Report) :
    (s.noteClass r).besideFcl = s.besideFcl ∧ (s.noteClass r).fcl.pending = s.fcl.pending := by
  unfold State.noteClass
  cases r.cls
  case corrected =>
    dsimp only
    split
    case isTrue => exact ⟨rfl, rfl⟩
    case isFalse => exact ⟨rfl, rfl⟩
  case contained => exact ⟨rfl, rfl⟩
  case fatal => exact ⟨rfl, rfl⟩

theorem State.record_keeps (s : State) (r : Report) : (s.record r).besideFcl = s.besideFcl ∧ (s.record r).fcl.pending = s.fcl.pending := by
  have hnote := (s.appendLog (s.logEntry r)).noteClass_keeps r
  unfold State.record
  dsimp only
  split
  case isTrue => exact hnote
  case isFalse => exact hnote

/-- A report that is not FATAL, with room in the pending table, stays within the fault collector and takes at most one place of it. -/
theorem State.reportAs_contained {s : State} {r : Report} (hcls : r.cls ≠ .fatal) (hroom : s.fcl.pending.length < 32) :
    (s.reportAs r).besideFcl = s.besideFcl ∧ (s.reportAs r).fcl.pending.length ≤ s.fcl.pending.length + 1 := by
  obtain ⟨hbeside, hpending⟩ := s.record_keeps r
  unfold State.reportAs
  cases h : r.cls
  case corrected => exact ⟨hbeside, Nat.le_succ_of_le (Nat.le_of_eq (congrArg List.length hpending))⟩
  case contained =>
    have hlength : ((s.record r).fcl.pending ++ [s.logEntry r]).length = s.fcl.pending.length + 1 := by
      rw [List.length_append, hpending]
      rfl
    dsimp only
    rw [if_neg (Nat.not_le.mpr hroom)]
    exact ⟨hbeside, Nat.le_of_eq hlength⟩
  case fatal => exact absurd h hcls

theorem State.raised_corrected_ne_fatal (s : State) (u : Nat) : s.raised u .corrected ≠ .fatal := by
  unfold State.raised
  split
  case isTrue => exact FaultClass.noConfusion
  case isFalse => exact FaultClass.noConfusion

theorem State.ackSeq_contained (s : State) (seq : Nat) :
    (s.ackSeq seq).besideFcl = s.besideFcl ∧ (s.ackSeq seq).fcl.pending.length ≤ s.fcl.pending.length := by
  unfold State.ackSeq
  split
  case isTrue => exact ⟨rfl, List.length_filter_le ..⟩
  case isFalse => exact ⟨rfl, Nat.le_refl _⟩

theorem State.foldl_ackSeq_contained (l : List LogEntry) (s : State) :
    (l.foldl (fun t e => t.ackSeq e.seq) s).besideFcl = s.besideFcl ∧
      (l.foldl (fun t e => t.ackSeq e.seq) s).fcl.pending.length ≤ s.fcl.pending.length := by
  induction l generalizing s with
  | nil => exact ⟨rfl, Nat.le_refl _⟩
  | cons e l ih =>
    obtain ⟨hbeside, hpending⟩ := s.ackSeq_contained e.seq
    obtain ⟨hbesides, hpendings⟩ := ih (s.ackSeq e.seq)
    exact ⟨hbesides.trans hbeside, Nat.le_trans hpendings hpending⟩

theorem State.ackSource_contained (s : State) (source : Nat) (causes : List Nat) :
    (s.ackSource source causes).besideFcl = s.besideFcl ∧ (s.ackSource source causes).fcl.pending.length ≤ s.fcl.pending.length :=
  State.foldl_ackSeq_contained _ s

theorem State.ackEnt_contained (s : State) (b : Bool) :
    (s.ackEnt b).besideFcl = s.besideFcl ∧ (s.ackEnt b).fcl.pending.length ≤ s.fcl.pending.length := by
  unfold State.ackEnt
  split
  case isTrue => exact s.ackSource_contained ..
  case isFalse => exact ⟨rfl, Nat.le_refl _⟩

/-! ### The two sources (R509, R510) -/

@[simp] theorem Ent.stateOf_setState_self (e : Ent) (b : Bool) (n : Nat) : (e.setState b n).stateOf b = n := by cases b <;> rfl
@[simp] theorem Ent.stateOf_setState_not (e : Ent) (b : Bool) (n : Nat) : (e.setState b n).stateOf (!b) = e.stateOf (!b) := by cases b <;> rfl
@[simp] theorem Ent.stateOf_setFails (e : Ent) (b d : Bool) (n : Nat) : (e.setFails b n).stateOf d = e.stateOf d := by cases b <;> rfl
@[simp] theorem Ent.failsOf_setFails_self (e : Ent) (b : Bool) (n : Nat) : (e.setFails b n).failsOf b = n := by cases b <;> rfl
@[simp] theorem Ent.failsOf_setState (e : Ent) (b d : Bool) (n : Nat) : (e.setState b n).failsOf d = e.failsOf d := by cases b <;> rfl

/-- What the sources are and how often each failed: the entropy unit without capture, DRBG and NO_ENTROPY. -/
def Ent.sources (e : Ent) : Ent := { e with capture := false, noEntropy := false, drbgOk := false }

/-- A state whose entropy unit shows its sources alone, and nothing of the fault collector. -/
def State.besideAlarms (s : State) : State := (s.withEnt s.ent.sources).besideFcl

/-- A state with the entropy unit, its draws and the fault collector blotted out. -/
def State.besideEntropy (s : State) : State := s.besideDraws.besideFcl

/-- What only the entropy unit and the fault collector show changed has left keys, jobs and sessions alone. -/
theorem State.keys_jobs_sessions_of_besideEntropy {s t : State} (h : t.besideEntropy = s.besideEntropy) :
    t.csn = s.csn ∧ t.jobs = s.jobs ∧ t.cwy = s.cwy :=
  ⟨(congrArg State.csn h :), (congrArg State.jobs h :), (congrArg State.cwy h :)⟩

theorem State.besideEntropy_of_besideAlarms {s t : State} (h : t.besideAlarms = s.besideAlarms) : t.besideEntropy = s.besideEntropy :=
  congrArg State.besideDraws h

theorem State.sources_of_besideAlarms {s t : State} (h : t.besideAlarms = s.besideAlarms) (b : Bool) :
    t.ent.stateOf b = s.ent.stateOf b ∧ t.ent.failsOf b = s.ent.failsOf b :=
  have hent : t.ent.sources = s.ent.sources := congrArg State.ent h
  ⟨(congrArg (Ent.stateOf · b) hent :), (congrArg (Ent.failsOf · b) hent :)⟩

/-- `t` is `s` but for alarms that the entropy unit raised and answered, with at most `n` more CONTAINED reports pending. -/
structure State.Alarmed (s t : State) (n : Nat) : Prop where
  beside : t.besideAlarms = s.besideAlarms
  pending : t.fcl.pending.length ≤ s.fcl.pending.length + n

section Alarms

variable {s t u : State} {n m : Nat}

theorem State.Alarmed.trans (h : s.Alarmed t n) (k : t.Alarmed u m) : s.Alarmed u (n + m) :=
  ⟨k.beside.trans h.beside, Nat.le_trans k.pending (Nat.add_assoc .. ▸ Nat.add_le_add_right h.pending m)⟩

theorem State.Alarmed.of_besideFcl (h : t.besideFcl = s.besideFcl) (hp : t.fcl.pending.length ≤ s.fcl.pending.length + n) : s.Alarmed t n :=
  ⟨congrArg (fun u : State => u.withEnt u.ent.sources) h, hp⟩

theorem State.alarmed_withEnt (s : State) {e f : Ent} (h : f.sources = e.sources) : (s.withEnt e).Alarmed (s.withEnt f) 0 :=
  ⟨congrArg (fun g => (s.withEnt g).besideFcl) h, Nat.le_refl _⟩

theorem State.alarmed_reportAs {r : Report} (hcls : r.cls ≠ .fatal) (hroom : s.fcl.pending.length < 32) : s.Alarmed (s.reportAs r) 1 :=
  have ⟨hbeside, hpending⟩ := State.reportAs_contained hcls hroom
  .of_besideFcl hbeside hpending

theorem State.alarmed_ackEnt (s : State) (b : Bool) : s.Alarmed (s.ackEnt b) 0 :=
  have ⟨hbeside, hpending⟩ := s.ackEnt_contained b
  .of_besideFcl hbeside hpending

/-- That neither source serves is an alarm. -/
theorem State.alarmed_checkEntropy (hroom : s.fcl.pending.length < 32) : s.Alarmed s.checkEntropy 1 := by
  unfold State.checkEntropy
  split
  case isTrue =>
    refine State.Alarmed.trans (n := 0) ?_ (State.alarmed_reportAs ?_ ?_)
    · exact s.alarmed_withEnt (e := s.ent) rfl
    · exact FaultClass.noConfusion
    · exact hroom
  case isFalse => exact ⟨rfl, Nat.le_succ _⟩

/-- The end of a source is an alarm beside its state. -/
theorem State.alarmed_disableSource (b injected : Bool) (hroom : s.fcl.pending.length < 32) :
    (s.withEnt (s.ent.setState b 2)).Alarmed (s.disableSource b injected) 1 := by
  refine State.Alarmed.trans (n := 1) (State.Alarmed.trans (n := 0) ?_ (State.alarmed_reportAs ?_ ?_)) (State.alarmed_ackEnt _ b)
  · exact s.alarmed_withEnt rfl
  · exact FaultClass.noConfusion
  · exact hroom

theorem three_le_satAdd (k : Nat) : 3 ≤ satAdd 8 k 1 ↔ ¬k < 2 := by
  unfold satAdd
  rw [Nat.le_min]
  omega

/-- A source in service fails: it awaits a retest, the third time it is disabled (R509). -/
theorem State.sourceFails_inService {b : Bool} (injected : Bool) (hst : s.ent.stateOf b = 0) (hroom : s.fcl.pending.length < 31) :
    (s.sourceFails b injected).besideAlarms =
      (s.withEnt ((s.ent.setFails b (satAdd 8 (s.ent.failsOf b) 1)).setState b (if s.ent.failsOf b < 2 then 1 else 2))).besideAlarms := by
  have hfirst : s.fcl.pending.length < 32 := Nat.lt_succ_of_lt hroom
  have last : ∀ {t u : State}, t.Alarmed u 1 → t.fcl.pending = s.fcl.pending → u.checkEntropy.besideAlarms = t.besideAlarms := by
    intro t u h hp
    have hsecond : u.fcl.pending.length < 32 := Nat.lt_of_le_of_lt h.pending (hp ▸ Nat.succ_lt_succ hroom)
    exact (h.trans (State.alarmed_checkEntropy hsecond)).beside
  unfold State.sourceFails
  dsimp only
  rw [hst, if_neg (by decide : ¬(0 : Nat) = 2)]
  by_cases hfew : s.ent.failsOf b < 2
  case pos =>
    rw [if_neg (fun h => (three_le_satAdd _).mp h hfew), if_pos hfew, if_neg (by decide : ¬(0 : Nat) = 3)]
    refine last (State.alarmed_reportAs ?_ ?_) rfl
    · exact State.raised_corrected_ne_fatal _ _
    · exact hfirst
  case neg =>
    rw [if_pos ((three_le_satAdd _).mpr hfew), if_neg hfew]
    exact last (State.alarmed_disableSource (s := s.withEnt (s.ent.setFails b (satAdd 8 (s.ent.failsOf b) 1))) b injected hfirst) rfl

end Alarms

/-! ### ENT_HEALTH_FAILURE (R505, R509) -/

section Events

variable {s : State} {b : Bool}

theorem exec_entHealthFailure_ready (adaptive : Bool) (h : s.ent.ready = true) : exec (.entHealthFailure b adaptive) s =
    .next ((s.bump (if adaptive then Reg.entAptFail else Reg.entRctFail)).sourceFails b false) := by
  rw [exec_entHealthFailure]
  exact congrArg _ (if_pos h)

theorem exec_entHealthFailure_unready (adaptive : Bool) (h : s.ent.ready = false) : exec (.entHealthFailure b adaptive) s = .next s := by
  rw [exec_entHealthFailure]
  exact congrArg _ (if_neg (ne_true_of_eq_false h))

theorem State.sourceFails_disabled (injected : Bool) (h : s.ent.stateOf b = 2) :
    s.sourceFails b injected = s.withEnt (s.ent.setFails b (satAdd 8 (s.ent.failsOf b) 1)) := if_pos h

@[simp] theorem State.withEnt_fcl (s : State) (e : Ent) : (s.withEnt e).fcl = s.fcl := rfl
@[simp] theorem State.withEnt_out (s : State) (e : Ent) : (s.withEnt e).out = s.out := rfl

theorem State.bump_withEnt_frame (s : State) (a : Nat) (e : Ent) : { (s.bump a).withEnt e with ent := s.ent, regs := s.regs } = s := by
  unfold State.withEnt State.bump State.setReg
  rfl

/-! ### ENT_RETEST (R509, R510) -/

theorem exec_entRetest_ready (passed : Bool) (h : s.ent.ready = true) : exec (.entRetest b passed) s = .next (s.retest b passed) := by
  rw [exec_entRetest]
  exact congrArg _ (if_pos h)

theorem exec_entRetest_unready (passed : Bool) (h : s.ent.ready = false) : exec (.entRetest b passed) s = .next s := by
  rw [exec_entRetest]
  exact congrArg _ (if_neg (ne_true_of_eq_false h))

theorem State.retest_ignored (passed : Bool) (h : s.ent.stateOf b ≠ 1) : s.retest b passed = s := if_pos h

theorem State.retest_fails (h : s.ent.stateOf b = 1) : s.retest b false = (s.disableSource b false).checkEntropy := by
  unfold State.retest
  rw [if_neg (not_not_intro h)]
  rfl

/-- A reseed touches the entropy unit's reserve, request count and stamp alone. -/
theorem State.reseed_ent (s : State) : ∃ r q a, s.reseed.ent = { s.ent with reserve := r, requests := q, reseedAt := a } := by
  unfold State.reseed State.takeBlock
  dsimp only
  split
  case isTrue => exact ⟨_, _, _, rfl⟩
  case isFalse => exact ⟨_, _, _, rfl⟩

theorem State.besideEntropy_of_besideFcl {s t : State} (h : t.besideFcl = s.besideFcl) : t.besideEntropy = s.besideEntropy :=
  congrArg State.besideDraws h

theorem State.besideEntropy_reseed (s : State) : s.reseed.besideEntropy = s.besideEntropy := congrArg State.besideFcl s.besideDraws_reseed

theorem State.besideEntropy_withEnt (s : State) (e : Ent) : (s.withEnt e).besideEntropy = s.besideEntropy := rfl

/-- The DRBG serves again: reseeded, with its alarm acknowledged. -/
def State.restartDrbg (s : State) : State := ((s.withEnt { s.ent with noEntropy := false, drbgOk := true }).reseed).ackSource entBoth [8]

theorem State.besideEntropy_restartDrbg (s : State) : s.restartDrbg.besideEntropy = s.besideEntropy :=
  (State.besideEntropy_of_besideFcl (State.ackSource_contained _ entBoth [8]).1).trans (State.besideEntropy_reseed _)

theorem State.restartDrbg_ent (s : State) : ∃ r q a,
    s.restartDrbg.ent = { s.ent with noEntropy := false, drbgOk := true, reserve := r, requests := q, reseedAt := a } := by
  obtain ⟨r, q, a, hent⟩ := State.reseed_ent (s.withEnt { s.ent with noEntropy := false, drbgOk := true })
  exact ⟨r, q, a, (congrArg State.ent (State.ackSource_contained _ entBoth [8]).1).trans hent⟩

/-- The source back in service, before a DRBG that stood still restarts. -/
def State.sourceReturned (s : State) (b : Bool) : State := (s.withEnt (s.ent.setState b 0)).ackEnt (!b)

theorem State.sourceReturned_ent (s : State) (b : Bool) : (s.sourceReturned b).ent = s.ent.setState b 0 :=
  congrArg State.ent (State.ackEnt_contained (s.withEnt (s.ent.setState b 0)) (!b)).1

theorem State.besideEntropy_sourceReturned (s : State) (b : Bool) : (s.sourceReturned b).besideEntropy = s.besideEntropy :=
  (State.besideEntropy_of_besideFcl (State.ackEnt_contained _ (!b)).1).trans (s.besideEntropy_withEnt _)

theorem State.retest_passes (h : s.ent.stateOf b = 1) :
    s.retest b true = if s.ent.noEntropy then (s.sourceReturned b).restartDrbg else s.sourceReturned b := by
  unfold State.retest
  rw [if_neg (not_not_intro h)]
  rfl

/-! ### ENT_BLOCK_CONDITIONED (R504) -/

theorem exec_entBlockConditioned_refills (hready : s.ent.ready = true) (hroom : s.ent.reserve < 4) (hno : s.ent.noEntropy = false) :
    exec .entBlockConditioned s = .next ((s.withEnt { s.ent with reserve := s.ent.reserve + 1 }).bump Reg.entBlocks) := by
  rw [exec_entBlockConditioned]
  unfold execEntBlockConditioned
  rw [hready, hno, decide_eq_true hroom]
  rfl

theorem exec_entBlockConditioned_idle (h : s.ent.ready = false ∨ 4 ≤ s.ent.reserve ∨ s.ent.noEntropy = true) :
    exec .entBlockConditioned s = .next s := by
  rw [exec_entBlockConditioned]
  refine congrArg _ (if_neg ?_)
  simp only [Bool.and_eq_true, decide_eq_true_eq, Bool.not_eq_true']
  rintro ⟨⟨hready, hroom⟩, hno⟩
  rcases h with h | h | h
  · exact Bool.false_ne_true (h.symm.trans hready)
  · exact Nat.not_le.mpr hroom h
  · exact Bool.false_ne_true (hno.symm.trans h)

/-! ### The DRBG (R507, R508) -/

theorem exec_drbgReseed_serving (h : s.ent.drbgOk = true) : exec .drbgReseed s = .next s.reseed := by
  rw [exec_drbgReseed]
  exact congrArg _ (if_pos h)

theorem exec_drbgReseed_stopped (h : s.ent.drbgOk = false) : exec .drbgReseed s = .next s := by
  rw [exec_drbgReseed]
  exact congrArg _ (if_neg (ne_true_of_eq_false h))

theorem exec_drbgRequest_serving (h : s.ent.drbgOk = true) : exec .drbgRequest s = .next s.serveRequest := by
  rw [exec_drbgRequest]
  exact congrArg _ (if_pos h)

theorem exec_drbgRequest_stopped (h : s.ent.drbgOk = false) : exec .drbgRequest s = .next s := by
  rw [exec_drbgRequest]
  exact congrArg _ (if_neg (ne_true_of_eq_false h))

theorem State.reseed_waiting (s : State) : s.reseed.ent.waiting = s.ent.waiting := by
  obtain ⟨r, q, a, hent⟩ := s.reseed_ent
  exact (congrArg Ent.waiting hent :)

theorem State.nextDraw_waiting (s : State) : s.nextDraw.ent.waiting = s.ent.waiting := by
  unfold State.nextDraw
  dsimp only
  split
  case isTrue => exact State.reseed_waiting _
  case isFalse => rfl

theorem State.serveRequest_none (h : s.ent.waiting = []) : s.serveRequest = s := by
  unfold State.serveRequest
  rw [h]
  rfl

/-- The request that is due leaves the queue with one draw; a stipple generator's seed stands in its pier. -/
theorem State.serveRequest_some {u : Nat × DrbgUse} (h : nextRequest s.ent.waiting = some u) :
    ∃ bur, s.serveRequest = { (s.withEnt { s.ent with waiting := s.ent.waiting.erase u }).nextDraw with bur := bur } := by
  unfold State.serveRequest
  rw [h]
  obtain ⟨p, use⟩ := u
  cases use with
  | stipple pier => exact ⟨_, rfl⟩
  | job j => exact ⟨_, rfl⟩
  | firmware => exact ⟨_, rfl⟩

/-! ### ENT_RAW_CTL (R513) -/

theorem exec_entRawCtlWrite_forbidden (w : Word) (h : s.rawAllowed = false ∨ s.glb.dev ≠ .ready) : exec (.entRawCtlWrite w) s = .next s := by
  rw [exec_entRawCtlWrite]
  refine congrArg _ (if_neg ?_)
  rw [Bool.and_eq_true, decide_eq_true_eq]
  rintro ⟨hraw, hdev⟩
  rcases h with h | h
  · exact Bool.false_ne_true (h.symm.trans hraw)
  · exact h hdev

/-- A capture in progress ends: its source returns to service. -/
def Ent.captureEnded (e : Ent) : Ent := if e.capture ∧ e.stateOf e.sourceB = 3 then e.setState e.sourceB 0 else e

/-- The choice of a source, with its capture on or off: a source in service leaves it for the capture. -/
def Ent.captureFrom (e : Ent) (b on : Bool) : Ent :=
  let chosen : Ent := { e with capture := on, sourceB := b }
  if on ∧ chosen.stateOf b = 0 then chosen.setState b 3 else chosen

theorem Ent.captureFrom_fields (e : Ent) (b on : Bool) : (e.captureFrom b on).sourceB = b ∧ (e.captureFrom b on).capture = on ∧
    (e.captureFrom b on).stateOf (!b) = e.stateOf (!b) := by
  unfold Ent.captureFrom
  dsimp only
  split
  case isTrue => cases b <;> exact ⟨rfl, rfl, rfl⟩
  case isFalse => exact ⟨rfl, rfl, rfl⟩

theorem exec_entRawCtlWrite_allowed (w : Word) (hraw : s.rawAllowed = true) (hdev : s.glb.dev = .ready) : exec (.entRawCtlWrite w) s =
    .next (s.withEnt (s.ent.captureEnded.captureFrom (w.getLsbD 30)
      (w.getLsbD 31 && decide (s.ent.captureEnded.stateOf (!(w.getLsbD 30)) = 0)))) := by
  rw [exec_entRawCtlWrite]
  unfold execEntRawCtlWrite
  rw [hraw, hdev]
  rfl

end Events

/-! ### The statement -/

/-- Settles O45: each event by the state of the unit and of the source it names. -/
theorem entropyCommands : Obligations.EntropyCommands := by
  intro s b adaptive passed w
  refine ⟨fun h => ⟨exec_entHealthFailure_unready adaptive h, exec_entRetest_unready passed h, exec_entBlockConditioned_idle (.inl h)⟩,
    exec_entHealthFailure_ready adaptive, fun h hst hroom => ?fails, fun h hst => ?disabled,
    fun h hst => (exec_entRetest_ready passed h).trans (congrArg _ (State.retest_ignored passed hst)),
    fun h hst => ⟨(exec_entRetest_ready false h).trans (congrArg _ (State.retest_fails hst)), ?retest⟩,
    fun h hroom hno => ⟨_, exec_entBlockConditioned_refills h hroom hno, rfl, rfl⟩, fun h => exec_entBlockConditioned_idle (.inr h),
    exec_drbgReseed_serving, fun h => ⟨exec_drbgReseed_stopped h, exec_drbgRequest_stopped h⟩, fun u h hu => ?served,
    fun h hw => (exec_drbgRequest_serving h).trans (congrArg _ (State.serveRequest_none hw)), exec_entRawCtlWrite_forbidden w,
    fun hraw hdev => ?raw⟩
  case fails =>
    have hleft := State.sourceFails_inService (s := s.bump (if adaptive then Reg.entAptFail else Reg.entRctFail)) (b := b) false hst hroom
    obtain ⟨hstate, hfails⟩ := State.sources_of_besideAlarms hleft b
    exact ⟨_, exec_entHealthFailure_ready adaptive h, hstate.trans (Ent.stateOf_setState_self ..),
      hfails.trans ((Ent.failsOf_setState ..).trans (Ent.failsOf_setFails_self ..)),
      (State.keys_jobs_sessions_of_besideEntropy (State.besideEntropy_of_besideAlarms hleft) :)⟩
  case disabled =>
    refine ⟨_, (exec_entHealthFailure_ready adaptive h).trans (congrArg _ (State.sourceFails_disabled false hst)), ?_, ?_, ?_, ?_, ?_,
      State.bump_withEnt_frame ..⟩
    · exact Ent.failsOf_setFails_self ..
    · exact (Ent.stateOf_setFails ..).trans hst
    · exact Ent.stateOf_setFails ..
    · rw [State.withEnt_fcl, State.bump_fcl]
    · rw [State.withEnt_out, State.bump_out]
  case retest =>
    refine ⟨_, (exec_entRetest_ready true h).trans (congrArg _ (State.retest_passes hst)), ?_⟩
    have hback := s.besideEntropy_sourceReturned b
    have hstate : (s.sourceReturned b).ent.stateOf b = 0 := (congrArg (Ent.stateOf · b) (s.sourceReturned_ent b)).trans (Ent.stateOf_setState_self ..)
    cases hno : s.ent.noEntropy
    case false =>
      exact ⟨hstate, fun hyes => absurd hyes Bool.false_ne_true, State.keys_jobs_sessions_of_besideEntropy hback⟩
    case true =>
      obtain ⟨r, q, a, hent⟩ := (s.sourceReturned b).restartDrbg_ent
      have hrest := (s.sourceReturned b).besideEntropy_restartDrbg.trans hback
      exact ⟨(congrArg (Ent.stateOf · b) hent).trans hstate, fun _ => ⟨congrArg Ent.noEntropy hent, congrArg Ent.drbgOk hent⟩,
        State.keys_jobs_sessions_of_besideEntropy hrest⟩
  case served =>
    obtain ⟨bur, ht⟩ := State.serveRequest_some hu
    have hdraw := State.besideDraws_nextDraw (s.withEnt { s.ent with waiting := s.ent.waiting.erase u })
    exact ⟨_, (exec_drbgRequest_serving h).trans (congrArg _ ht), State.nextDraw_waiting _, State.nextDraw_draws _,
      (State.keys_jobs_sessions_of_besideEntropy (congrArg State.besideFcl hdraw) :)⟩
  case raw =>
    obtain ⟨hsource, hcapture, hother⟩ := s.ent.captureEnded.captureFrom_fields (w.getLsbD 30)
      (w.getLsbD 31 && decide (s.ent.captureEnded.stateOf (!(w.getLsbD 30)) = 0))
    refine ⟨_, exec_entRawCtlWrite_allowed w hraw hdev, hsource, fun hoff => ?_, fun hon => ?_, rfl⟩
    · exact hcapture.trans (congrArg (· && _) hoff)
    · have hfree := hcapture.symm.trans hon
      rw [Bool.and_eq_true, decide_eq_true_eq] at hfree
      exact (congrArg (fun d => Ent.stateOf _ (!d)) hsource).trans (hother.trans hfree.2)

end Sys2Proof.Machine
end

section
/-! What a burn may do to the table of OTP bytes, and the operations that leave the table as it is (R605, R607). -/

namespace Sys2Proof.Machine

/-- What a burn may do to the table of OTP bytes: it keeps the table's form and every burned bit (R605, R607). -/
def BurnsOnly (m n : SMap Byte) : Prop :=
  (SMap.wf otpDef m = true → SMap.wf otpDef n = true) ∧ ∀ a i, (SMap.get otpDef a m).getLsbD i = true → (SMap.get otpDef a n).getLsbD i = true

@[simp] theorem BurnsOnly.refl (m : SMap Byte) : BurnsOnly m m := ⟨id, fun _ _ h => h⟩

theorem BurnsOnly.of_eq {m n : SMap Byte} (h : n = m) : BurnsOnly m n := h ▸ BurnsOnly.refl _

theorem BurnsOnly.trans {l m n : SMap Byte} (h : BurnsOnly l m) (k : BurnsOnly m n) : BurnsOnly l n :=
  ⟨fun hl => k.1 (h.1 hl), fun a i hl => k.2 a i (h.2 a i hl)⟩

/-- A meaning that burns OTP at most: whatever state it answers. -/
def BurnsAll (s : State) (o : Host.Outcome State Fault Refusal) : Prop := ∀ t, o = .next t → BurnsOnly s.lcs.otp t.lcs.otp

@[simp] theorem BurnsAll.next_iff (s t : State) : BurnsAll s (.next t) ↔ BurnsOnly s.lcs.otp t.lcs.otp :=
  ⟨fun h => h t rfl, fun h _ e => by cases e; exact h⟩

@[simp] theorem State.otpTable_ite (c : Prop) [Decidable c] (a b : State) : (if c then a else b).lcs.otp = if c then a.lcs.otp else b.lcs.otp :=
  apply_ite (fun t : State => t.lcs.otp) c a b

@[simp] theorem State.otpTable_foldl {β : Type} (f : State → β → State) (l : List β) (s : State) (h : ∀ t b, (f t b).lcs.otp = t.lcs.otp) :
    (l.foldl f s).lcs.otp = s.lcs.otp := State.foldl_keeps (fun t => t.lcs.otp) f h l s

theorem BurnsAll.next {s t : State} (h : BurnsOnly s.lcs.otp t.lcs.otp) : BurnsAll s (.next t) := (BurnsAll.next_iff s t).mpr h

theorem BurnsAll.of_eq {s t : State} (h : t.lcs.otp = s.lcs.otp) : BurnsAll s (.next t) := BurnsAll.next (.of_eq h)

theorem State.otpTable_getD {o : Option State} {s : State} {m : SMap Byte} (ho : ∀ t, o = some t → t.lcs.otp = m) (hs : s.lcs.otp = m) :
    (o.getD s).lcs.otp = m := by
  cases o with
  | none => exact hs
  | some t => exact ho t rfl

/-! ### Operations that leave the OTP table, in the order of the model's files -/

/-! #### Named operations over the state -/

@[simp] theorem State.sendMsix_otpTable (s : State) (v vec : Nat) : (s.sendMsix v vec).lcs.otp = s.lcs.otp := by simp [State.sendMsix]

@[simp] theorem State.flushMsix_otpTable (s : State) (v : Nat) : (s.flushMsix v).lcs.otp = s.lcs.otp := by
  unfold State.flushMsix
  split
  · exact State.otpTable_foldl _ _ _ fun _ _ => rfl
  · rfl

@[simp] theorem State.raiseStatus_otpTable (s : State) (v b : Nat) : (s.raiseStatus v b).lcs.otp = s.lcs.otp := by simp [State.raiseStatus]

@[simp] theorem State.ringError_otpTable (s : State) (v cause kind ring value : Nat) : (s.ringError v cause kind ring value).lcs.otp = s.lcs.otp := by
  simp [State.ringError]

@[simp] theorem State.countEntry_otpTable (s : State) (v k : Nat) (notify : Bool) : (s.countEntry v k notify).lcs.otp = s.lcs.otp := by
  simp [State.countEntry]

@[simp] theorem State.writeEntry_otpTable (s : State) (v k : Nat) (base : BitVec 64) (phAt : Nat) (e : Bytes) (notify : Bool) :
    (s.writeEntry v k base phAt e notify).lcs.otp = s.lcs.otp := by
  simp [State.writeEntry]

@[simp] theorem State.ringLoss_otpTable (s : State) (v k : Nat) : (s.ringLoss v k).lcs.otp = s.lcs.otp := rfl
@[simp] theorem State.loseEvent_otpTable (s : State) (v : Nat) : (s.loseEvent v).lcs.otp = s.lcs.otp := by simp [State.loseEvent]

@[simp] theorem State.event_otpTable (s : State) (v code session d0 d1 tag : Nat) : (s.event v code session d0 d1 tag).lcs.otp = s.lcs.otp := by
  simp [State.event]

/-! #### The registers of PF BAR0 that are held as words -/

@[simp] theorem State.takeBlock_otpTable (s : State) : s.takeBlock.lcs.otp = s.lcs.otp := by simp [State.takeBlock]
@[simp] theorem State.reseed_otpTable (s : State) : s.reseed.lcs.otp = s.lcs.otp := by simp [State.reseed]
@[simp] theorem State.nextDraw_otpTable (s : State) : s.nextDraw.lcs.otp = s.lcs.otp := by simp [State.nextDraw]

/-! #### Frames that the device builds and the transmit queues of the line ports -/

@[simp] theorem State.queueOnLink_otpTable (s : State) (p k : Nat) (f : Bytes) : (s.queueOnLink p k f).lcs.otp = s.lcs.otp := rfl

@[simp] theorem State.queueFrame_otpTable (s : State) (p i : Nat) (f : Bytes) : (s.queueFrame p i f).lcs.otp = s.lcs.otp := by
  unfold State.queueFrame
  split <;> simp

@[simp] theorem State.sendPacket_otpTable (s : State) (p i : Nat) (v6 : Bool) (proto : Nat) (pa : Path) (payload : Bytes) :
    (s.sendPacket p i v6 proto pa payload).lcs.otp = s.lcs.otp := by
  simp [State.sendPacket]

@[simp] theorem State.sendUdp_otpTable (s : State) (p i : Nat) (v6 : Bool) (pa : Path) (payload : Bytes) :
    (s.sendUdp p i v6 pa payload).lcs.otp = s.lcs.otp := by
  simp [State.sendUdp]

/-! #### The span link and the messages on it -/

@[simp] theorem State.sendSpan_otpTable (s : State) (typ chan : Nat) (payload : Bytes) : (s.sendSpan typ chan payload).lcs.otp = s.lcs.otp := rfl

@[simp] theorem State.pumpSpan_otpTable (s : State) : s.pumpSpan.lcs.otp = s.lcs.otp := by
  unfold State.pumpSpan
  split
  · rfl
  · exact State.otpTable_foldl _ _ _ fun _ _ => rfl

@[simp] theorem State.spanMessage_otpTable (s : State) (chan : Nat) : (s.spanMessage chan).lcs.otp = s.lcs.otp := by simp [State.spanMessage]

@[simp] theorem State.mirror_otpTable (s : State) (w : MirrorWait) (items : List MirrorItem) : (s.mirror w items).lcs.otp = s.lcs.otp := by
  simp [State.mirror]

@[simp] theorem State.mirrorOnly_otpTable (s : State) (items : List MirrorItem) : (s.mirrorOnly items).lcs.otp = s.lcs.otp := by
  simp [State.mirrorOnly]

@[simp] theorem State.mirrorAck_otpTable (s : State) (id : Nat) : (s.mirrorAck id).lcs.otp = s.lcs.otp := by simp [State.mirrorAck]

/-! #### Operations on sessions -/

@[simp] theorem State.sendRecord_otpTable (s : State) (i content : Nat) (msg : Bytes) : (s.sendRecord i content msg).lcs.otp = s.lcs.otp := by
  unfold State.sendRecord
  split <;> simp

@[simp] theorem State.sendAlert_otpTable (s : State) (i level desc : Nat) : (s.sendAlert i level desc).lcs.otp = s.lcs.otp := by
  simp [State.sendAlert]

@[simp] theorem State.dropSession_otpTable (s : State) (i : Nat) : (s.dropSession i).lcs.otp = s.lcs.otp := by simp [State.dropSession]

@[simp] theorem State.dropMirrored_otpTable (s : State) (i : Nat) : (s.dropMirrored i).lcs.otp = s.lcs.otp := by
  unfold State.dropMirrored
  split <;> simp

@[simp] theorem State.removeSession_otpTable (s : State) (i cause : Nat) : (s.removeSession i cause).lcs.otp = s.lcs.otp := by
  unfold State.removeSession
  split <;> simp

@[simp] theorem State.limitSession_otpTable (s : State) (i cause : Nat) : (s.limitSession i cause).lcs.otp = s.lcs.otp := by
  unfold State.limitSession
  split <;> simp

@[simp] theorem State.closeFatal_otpTable (s : State) (i desc : Nat) : (s.closeFatal i desc).lcs.otp = s.lcs.otp := by simp [State.closeFatal]

/-! #### Operations of the Caisson -/

theorem State.allocHandle_otpTable {s : State} {v : Nat} {p : Nat × State} (h : s.allocHandle v = some p) : p.2.lcs.otp = s.lcs.otp := by
  unfold State.allocHandle at h
  dsimp only at h
  split at h
  · cases h; rfl
  · cases h

@[simp] theorem State.allocHandles_otpTable (s : State) (v n : Nat) : (s.allocHandles v n).2.lcs.otp = s.lcs.otp := by
  induction n generalizing s with
  | zero => rfl
  | succ n ih =>
    unfold State.allocHandles
    split
    · rename_i ha; exact (ih _).trans (State.allocHandle_otpTable ha)
    · rfl

@[simp] theorem State.sweepMatrix_otpTable (s : State) : s.sweepMatrix.lcs.otp = s.lcs.otp := rfl

@[simp] theorem State.evict_otpTable (s : State) (fuel : Nat) : (s.evict fuel).lcs.otp = s.lcs.otp := by
  induction fuel generalizing s with
  | zero => rfl
  | succ fuel ih =>
    unfold State.evict
    split
    · rfl
    · dsimp only
      split
      · rfl
      · simp [ih]

@[simp] theorem State.putShelf_otpTable (s : State) (r : ShelfRec) : (s.putShelf r).lcs.otp = s.lcs.otp := rfl

@[simp] theorem State.shelfRecord_otpTable (s : State) (rtype h kgen : Nat) (key : Option KeyRec) (body : Bytes) (epoch : Nat) :
    (s.shelfRecord rtype h kgen key body epoch).lcs.otp = s.lcs.otp := rfl

@[simp] theorem State.publicRecord_otpTable (s : State) (kind : Nat) (body : Bytes) (epoch : Nat) :
    (s.publicRecord kind body epoch).lcs.otp = s.lcs.otp := rfl

/-! #### The lease log and the leases of stateful keys -/

@[simp] theorem State.putLeaseRec_otpTable (s : State) (rtype h kgen first stop aux : Nat) :
    (s.putLeaseRec rtype h kgen first stop aux).lcs.otp = s.lcs.otp := by
  unfold State.putLeaseRec
  split <;> simp

@[simp] theorem State.leaseRecord_otpTable (s : State) (rtype h kgen first stop aux : Nat) :
    (s.leaseRecord rtype h kgen first stop aux).lcs.otp = s.lcs.otp := by
  unfold State.leaseRecord
  dsimp only
  rw [State.putLeaseRec_otpTable]
  split
  · rfl
  · refine (State.otpTable_foldl _ _ _ fun t p => ?_).trans rfl
    split
    · exact State.putLeaseRec_otpTable ..
    · rfl

@[simp] theorem State.raiseLeaseSeq_otpTable (s : State) : s.raiseLeaseSeq.lcs.otp = s.lcs.otp := rfl

@[simp] theorem State.modStateful_otpTable (s : State) (h : Nat) (f : Stateful → Stateful) : (s.modStateful h f).lcs.otp = s.lcs.otp := by
  simp [State.modStateful]

@[simp] theorem State.storeStateful_otpTable (s : State) (h : Nat) (k : KeyRec) : (s.storeStateful h k).lcs.otp = s.lcs.otp := by
  unfold State.storeStateful
  split <;> simp

@[simp] theorem State.zeroiseKey_otpTable (s : State) (h : Nat) : (s.zeroiseKey h).lcs.otp = s.lcs.otp := by
  unfold State.zeroiseKey
  split <;> simp

@[simp] theorem State.storeKey_otpTable (s : State) (h : Nat) (k : KeyRec) : (s.storeKey h k).lcs.otp = s.lcs.otp := by simp [State.storeKey]

@[simp] theorem State.swapStaged_otpTable (s : State) (h : Nat) : (s.swapStaged h).lcs.otp = s.lcs.otp := by
  unfold State.swapStaged
  (repeat' split) <;> simp

/-! #### The Tollhouse -/

@[simp] theorem State.ask_otpTable (s : State) (kind u : Nat) : (s.ask kind u).lcs.otp = s.lcs.otp := rfl
@[simp] theorem State.unask_otpTable (s : State) (kind u : Nat) : (s.unask kind u).lcs.otp = s.lcs.otp := rfl
@[simp] theorem State.releaseToken_otpTable (s : State) (k u : Nat) : (s.releaseToken k u).lcs.otp = s.lcs.otp := rfl
@[simp] theorem State.recall_otpTable (s : State) : s.recall.lcs.otp = s.lcs.otp := by simp [State.recall]

/-! #### Burins, Graver cores and lanes as places where jobs stand -/

@[simp] theorem State.idleBurin_otpTable (s : State) (p b : Nat) : (s.idleBurin p b).lcs.otp = s.lcs.otp := rfl

@[simp] theorem State.freeBurin_otpTable (s : State) (j : Nat) : (s.freeBurin j).lcs.otp = s.lcs.otp := by
  unfold State.freeBurin
  split <;> simp

@[simp] theorem State.freeCore_otpTable (s : State) (j : Nat) : (s.freeCore j).lcs.otp = s.lcs.otp := by
  unfold State.freeCore
  split <;> simp

@[simp] theorem State.freeLane_otpTable (s : State) (j : Nat) : (s.freeLane j).lcs.otp = s.lcs.otp := rfl
@[simp] theorem State.unpark_otpTable (s : State) (j : Nat) : (s.unpark j).lcs.otp = s.lcs.otp := rfl
@[simp] theorem State.dropVerifiers_otpTable (s : State) (j : Nat) : (s.dropVerifiers j).lcs.otp = s.lcs.otp := by simp [State.dropVerifiers]

/-! #### The key shelf as a whole -/

@[simp] theorem State.moveRecord_otpTable (s : State) (kept : Nat) (r : ShelfRec) : (s.moveRecord kept r).lcs.otp = s.lcs.otp := rfl

@[simp] theorem State.compactShelf_otpTable (s : State) : s.compactShelf.lcs.otp = s.lcs.otp :=
  State.otpTable_foldl _ _ _ fun _ _ => rfl

@[simp] theorem State.keyRecord_otpTable (s : State) (h : Nat) (k : KeyRec) : (s.keyRecord h k).lcs.otp = s.lcs.otp := rfl

@[simp] theorem State.rewriteShelf_otpTable (s : State) : s.rewriteShelf.lcs.otp = s.lcs.otp := by
  refine (State.otpTable_foldl _ _ _ fun t p => ?_).trans (State.otpTable_foldl _ _ _ fun _ _ => rfl)
  dsimp only
  split <;> simp

@[simp] theorem State.clearRollback_otpTable (s : State) : s.clearRollback.lcs.otp = s.lcs.otp := by simp [State.clearRollback]

/-! #### The pair -/

@[simp] theorem State.twinLinkEvents_otpTable (s : State) : s.twinLinkEvents.lcs.otp = s.lcs.otp := by simp [State.twinLinkEvents]
@[simp] theorem State.setPair_otpTable (s : State) (p : PairState) : (s.setPair p).lcs.otp = s.lcs.otp := by simp [State.setPair]
@[simp] theorem State.sendHello_otpTable (s : State) : s.sendHello.lcs.otp = s.lcs.otp := by simp [State.sendHello]
@[simp] theorem State.writePairing_otpTable (s : State) (n : Nat) : (s.writePairing n).lcs.otp = s.lcs.otp := rfl

@[simp] theorem State.setRoles_otpTable (s : State) (vs : List Nat) (p : Bool) (auto : Option Bool) (cause : Nat) :
    (s.setRoles vs p auto cause).lcs.otp = s.lcs.otp := by
  have hv : ∀ f : State → Nat → Vi → Vi, (vs.foldl (fun t v => t.modVi v (f t v)) s).lcs.otp = s.lcs.otp :=
    fun f => State.otpTable_foldl _ _ _ fun _ _ => rfl
  unfold State.setRoles
  dsimp only
  rw [State.otpTable_foldl _ _ _ fun _ _ => State.event_otpTable ..]
  split <;> split <;> simp [hv]

@[simp] theorem State.dropPendingOf_otpTable (s : State) (vs : List Nat) : (s.dropPendingOf vs).lcs.otp = s.lcs.otp := by simp [State.dropPendingOf]

@[simp] theorem State.takeRoles_otpTable (s : State) (vs : List Nat) (cause : Nat) : (s.takeRoles vs cause).lcs.otp = s.lcs.otp := by
  simp [State.takeRoles]

@[simp] theorem State.drainHandovers_otpTable (s : State) : s.drainHandovers.lcs.otp = s.lcs.otp := by simp [State.drainHandovers]
@[simp] theorem State.standDown_otpTable (s : State) (vs : List Nat) : (s.standDown vs).lcs.otp = s.lcs.otp := rfl
@[simp] theorem State.ledgerFrom_otpTable (s : State) (vs : List Nat) : (s.ledgerFrom vs).lcs.otp = s.lcs.otp := rfl

@[simp] theorem State.handRole_otpTable (s : State) (v : Nat) (p : Bool) (auto : Option Bool) : (s.handRole v p auto).lcs.otp = s.lcs.otp := by
  simp [State.handRole]

@[simp] theorem State.recordRange_otpTable (s : State) (h : Nat) (k : KeyRec) (t : Stateful) : (s.recordRange h k t).lcs.otp = s.lcs.otp := by
  unfold State.recordRange
  exact (State.leaseRecord_otpTable ..).trans (State.modStateful_otpTable ..)

@[simp] theorem State.copyStateful_otpTable (s : State) (h : Nat) (k : KeyRec) (t : Stateful) : (s.copyStateful h k t).lcs.otp = s.lcs.otp := by
  unfold State.copyStateful
  split
  · exact (State.mirrorOnly_otpTable ..).trans (State.recordRange_otpTable ..)
  · exact State.mirrorOnly_otpTable ..

@[simp] theorem State.askRanges_otpTable (s : State) : s.askRanges.lcs.otp = s.lcs.otp := by
  refine State.otpTable_foldl _ _ _ fun t p => ?_
  split
  · split
    · exact State.mirrorOnly_otpTable ..
    · rfl
  · rfl

@[simp] theorem State.copyOut_otpTable (s : State) : s.copyOut.lcs.otp = s.lcs.otp := by
  have hi : ∀ (l : List MirrorItem) (t : State), (if l.isEmpty then t else t.mirrorOnly l).lcs.otp = t.lcs.otp := fun l t => by
    split
    · rfl
    · exact State.mirrorOnly_otpTable ..
  unfold State.copyOut
  dsimp only
  rw [State.otpTable_foldl, State.otpTable_foldl, hi, hi]
  · intro t p
    split
    · exact State.copyStateful_otpTable ..
    · rfl
  · exact fun t p => (State.mirror_otpTable ..).trans (State.mirrorOnly_otpTable ..)

@[simp] theorem State.settleSync_otpTable (s : State) : s.settleSync.lcs.otp = s.lcs.otp := by
  unfold State.settleSync
  split <;> simp

@[simp] theorem State.enterSyncing_otpTable (s : State) : s.enterSyncing.lcs.otp = s.lcs.otp := by simp [State.enterSyncing]
@[simp] theorem State.endPairing_otpTable (s : State) : s.endPairing.lcs.otp = s.lcs.otp := rfl
@[simp] theorem State.dropCopy_otpTable (s : State) (v : Nat) : (s.dropCopy v).lcs.otp = s.lcs.otp := by simp [State.dropCopy]
@[simp] theorem State.unpair_otpTable (s : State) : s.unpair.lcs.otp = s.lcs.otp := by simp [State.unpair]

@[simp] theorem State.pairedUp_otpTable (s : State) (source : Bool) : (s.pairedUp source).lcs.otp = s.lcs.otp := by
  unfold State.pairedUp
  split <;> simp

@[simp] theorem State.redrawPairNonce_otpTable (s : State) : s.redrawPairNonce.lcs.otp = s.lcs.otp := by simp [State.redrawPairNonce]

/-! #### Virtual instances -/

@[simp] theorem State.resetWindow_otpTable (s : State) (v : Nat) (st : ViState) : (s.resetWindow v st).lcs.otp = s.lcs.otp := rfl
@[simp] theorem State.viGone_otpTable (s : State) (v : Nat) : (s.viGone v).lcs.otp = s.lcs.otp := rfl
@[simp] theorem State.destroyVi_otpTable (s : State) (v : Nat) : (s.destroyVi v).lcs.otp = s.lcs.otp := by simp [State.destroyVi]
@[simp] theorem State.wipeVi_otpTable (s : State) (v : Nat) : (s.wipeVi v).lcs.otp = s.lcs.otp := by simp [State.wipeVi]
@[simp] theorem State.mirrorReset_otpTable (s : State) (v : Nat) : (s.mirrorReset v).lcs.otp = s.lcs.otp := by simp [State.mirrorReset]

@[simp] theorem State.endReset_otpTable (s : State) (v : Nat) (attached : Bool) : (s.endReset v attached).lcs.otp = s.lcs.otp := by
  simp [State.endReset]

@[simp] theorem State.scrubVi_otpTable (s : State) (v : Nat) : (s.scrubVi v).lcs.otp = s.lcs.otp := rfl
@[simp] theorem State.freezeDone_otpTable (s : State) (v : Nat) : (s.freezeDone v).lcs.otp = s.lcs.otp := rfl
@[simp] theorem State.savedVi_otpTable (s : State) (v : Nat) : (s.savedVi v).lcs.otp = s.lcs.otp := by simp [State.savedVi]

@[simp] theorem State.restoredVi_otpTable (s : State) (v gen : Nat) (sessions : List (Nat × Session)) (rings : List (Nat × Ring)) (ie iv : Nat)
    (msix : SMap Word) (cursor : Nat) : (s.restoredVi v gen sessions rings ie iv msix cursor).lcs.otp = s.lcs.otp := by
  unfold State.restoredVi
  dsimp only
  rw [State.modVi_lcs, State.otpTable_foldl, State.otpTable_foldl] <;> exact fun _ _ => rfl

/-! #### What a job changes when it passes its commit point -/

@[simp] theorem State.pinIn_otpTable (s : State) (h kgen p : Nat) : (s.pinIn h kgen p).lcs.otp = s.lcs.otp := rfl

@[simp] theorem State.pinMatrix_otpTable (s : State) (h kgen mask : Nat) (on : Bool) : (s.pinMatrix h kgen mask on).lcs.otp = s.lcs.otp := by
  simp [State.pinMatrix]

@[simp] theorem State.fillMatrix_otpTable (s : State) (p h kgen : Nat) : (s.fillMatrix p h kgen).lcs.otp = s.lcs.otp := by
  unfold State.fillMatrix
  split <;> simp

@[simp] theorem State.lookMatrix_otpTable (s : State) (p : Nat) (x : Job) : (s.lookMatrix p x).lcs.otp = s.lcs.otp := by simp [State.lookMatrix]
@[simp] theorem State.putPolicy_otpTable (s : State) (rec : Bytes) : (s.putPolicy rec).lcs.otp = s.lcs.otp := rfl
@[simp] theorem State.setAttr_otpTable (s : State) (h : Nat) (a : BitVec 32) : (s.setAttr h a).lcs.otp = s.lcs.otp := rfl

@[simp] theorem State.loadImage_otpTable (s : State) (mask : Nat) (image : Bytes) : (s.loadImage mask image).lcs.otp = s.lcs.otp :=
  State.otpTable_foldl _ _ _ fun _ _ => rfl

@[simp] theorem State.installSa_otpTable (s : State) (i v : Nat) (rec key : Bytes) : (s.installSa i v rec key).lcs.otp = s.lcs.otp := by
  simp [State.installSa]

@[simp] theorem State.setFunction_otpTable (s : State) (kind v unit : Nat) (on : Bool) : (s.setFunction kind v unit on).lcs.otp = s.lcs.otp := by
  unfold State.setFunction
  dsimp only
  split <;> simp

@[simp] theorem State.placeKey_otpTable (s : State) (h : Nat) (k : KeyRec) : (s.placeKey h k).lcs.otp = s.lcs.otp := by
  unfold State.placeKey
  split <;> simp

@[simp] theorem State.putQuota_otpTable (s : State) (v : Nat) (q : Quota) : (s.putQuota v q).lcs.otp = s.lcs.otp := by simp [State.putQuota]
@[simp] theorem State.unmirrored_otpTable (s : State) (h : Nat) : (s.unmirrored h).lcs.otp = s.lcs.otp := by simp [State.unmirrored]

@[simp] theorem State.putArchive_otpTable (s : State) (k : KeyRec) (isNew : Bool) (seq : Nat) (shares : List (Nat × Bytes)) :
    (s.putArchive k isNew seq shares).lcs.otp = s.lcs.otp := by
  simp [State.putArchive]

@[simp] theorem State.restoreKey_otpTable (s : State) (h : Nat) (k : KeyRec) (replaces : Bool) : (s.restoreKey h k replaces).lcs.otp = s.lcs.otp := by
  unfold State.restoreKey
  split <;> simp

@[simp] theorem State.applyEffect_otpTable (s : State) (e : Effect) : (s.applyEffect e).lcs.otp = s.lcs.otp := by
  unfold State.applyEffect
  (repeat' split) <;> simp

/-! #### The course of a job -/

@[simp] theorem State.pushOutcome_otpTable (s : State) (j : Nat) (x : Job) : (s.pushOutcome j x).lcs.otp = s.lcs.otp := by simp [State.pushOutcome]
@[simp] theorem State.countOutcome_otpTable (s : State) (x : Job) : (s.countOutcome x).lcs.otp = s.lcs.otp := by simp [State.countOutcome]
@[simp] theorem State.settleAbort_otpTable (s : State) (j : Nat) (x : Job) : (s.settleAbort j x).lcs.otp = s.lcs.otp := by simp [State.settleAbort]

@[simp] theorem State.noteDecided_otpTable (s : State) (j : Nat) (aborted : Bool) : (s.noteDecided j aborted).lcs.otp = s.lcs.otp := by
  simp [State.noteDecided]

@[simp] theorem State.dropWaits_otpTable (s : State) (j : Nat) : (s.dropWaits j).lcs.otp = s.lcs.otp := rfl

@[simp] theorem State.fillNew_otpTable (s : State) (x : Job) : (s.fillNew x).lcs.otp = s.lcs.otp := by
  unfold State.fillNew
  split <;> simp

@[simp] theorem State.reachCommit_otpTable (s : State) (j : Nat) : (s.reachCommit j).lcs.otp = s.lcs.otp := by
  unfold State.reachCommit
  split <;> simp

@[simp] theorem State.undoJob_otpTable (s : State) (j : Nat) : (s.undoJob j).lcs.otp = s.lcs.otp := by
  unfold State.undoJob
  (repeat' split) <;> simp

@[simp] theorem State.startNeed_otpTable (s : State) (j : Nat) : (s.startNeed j).lcs.otp = s.lcs.otp := by
  unfold State.startNeed
  split <;> simp

@[simp] theorem State.runParts_otpTable (s : State) (j : Nat) (p : RestorePlan) (l : List RestorePart) (n : Nat) :
    (s.runParts j p l n).lcs.otp = s.lcs.otp := by
  induction l generalizing s n with
  | nil => simp [State.runParts]
  | cons a r ih =>
    unfold State.runParts
    split
    · exact (ih _ _).trans (State.otpTable_foldl _ _ _ fun t e => State.applyEffect_otpTable ..)
    · simp

@[simp] theorem State.needsMet_otpTable (s : State) (j : Nat) (x : Job) : (s.needsMet j x).lcs.otp = s.lcs.otp := by
  unfold State.needsMet
  split <;> simp

@[simp] theorem State.popNeed_otpTable (s : State) (j : Nat) (n : Need) : (s.popNeed j n).lcs.otp = s.lcs.otp := by
  unfold State.popNeed
  split <;> simp

@[simp] theorem State.settleDrains_otpTable (s : State) : s.settleDrains.lcs.otp = s.lcs.otp := by
  unfold State.settleDrains
  rw [State.otpTable_foldl]
  · exact State.drainHandovers_otpTable s
  · intro t p
    split
    · rfl
    · split
      · exact State.popNeed_otpTable ..
      · rfl

@[simp] theorem State.addHsJob_otpTable (s : State) (h v : Nat) (desc input : Bytes) (key : Option KeyRec) :
    (s.addHsJob h v desc input key).lcs.otp = s.lcs.otp := rfl

@[simp] theorem State.modHs_otpTable (s : State) (h : Nat) (f : Handshake → Handshake) : (s.modHs h f).lcs.otp = s.lcs.otp := rfl
@[simp] theorem State.delHs_otpTable (s : State) (h : Nat) : (s.delHs h).lcs.otp = s.lcs.otp := rfl

@[simp] theorem State.handshakeStep_otpTable (s : State) (h : Nat) (x : Job) : (s.handshakeStep h x).lcs.otp = s.lcs.otp := by
  unfold State.handshakeStep
  dsimp only
  (repeat' split) <;> simp

@[simp] theorem State.settle_otpTable (s : State) (j : Nat) : (s.settle j).lcs.otp = s.lcs.otp := by
  unfold State.settle
  (repeat' split) <;> simp

@[simp] theorem State.abandon_otpTable (s : State) (j st : Nat) : (s.abandon j st).lcs.otp = s.lcs.otp := by simp [State.abandon]
@[simp] theorem State.failJob_otpTable (s : State) (j st det : Nat) : (s.failJob j st det).lcs.otp = s.lcs.otp := by simp [State.failJob]
@[simp] theorem State.sweepRekey_otpTable (s : State) : s.sweepRekey.lcs.otp = s.lcs.otp := by simp [State.sweepRekey]

@[simp] theorem State.finishJob_otpTable (s : State) (j : Nat) (r : Result) (needs : List Need) : (s.finishJob j r needs).lcs.otp = s.lcs.otp := by
  unfold State.finishJob
  (repeat' split) <;> simp

@[simp] theorem State.requestAbort_otpTable (s : State) (j st : Nat) : (s.requestAbort j st).lcs.otp = s.lcs.otp := by
  unfold State.requestAbort
  (repeat' split) <;> simp

@[simp] theorem State.readInput_otpTable (s : State) (j : Nat) (x : Job) (n : Nat) : (s.readInput j x n).lcs.otp = s.lcs.otp := rfl

@[simp] theorem State.inputFails_otpTable (s : State) (j : Nat) (r : Result) : (s.inputFails j r).lcs.otp = s.lcs.otp := by
  unfold State.inputFails
  split <;> simp

@[simp] theorem State.nextInput_otpTable (s : State) (j : Nat) : (s.nextInput j).lcs.otp = s.lcs.otp := by
  unfold State.nextInput
  (repeat' split) <;> simp

@[simp] theorem State.startInput_otpTable (s : State) (j : Nat) : (s.startInput j).lcs.otp = s.lcs.otp := by
  unfold State.startInput
  split <;> simp

@[simp] theorem State.beginInput_otpTable (s : State) (j : Nat) : (s.beginInput j).lcs.otp = s.lcs.otp := by
  unfold State.beginInput
  split <;> simp

@[simp] theorem State.noteWait_otpTable (s : State) (j op : Nat) : (s.noteWait j op).lcs.otp = s.lcs.otp := by
  unfold State.noteWait
  split <;> simp

@[simp] theorem State.computed_otpTable (s : State) (j : Nat) (r : Result) : (s.computed j r).lcs.otp = s.lcs.otp := by simp [State.computed]

@[simp] theorem State.runJob_otpTable (s : State) (j op : Nat) (f : State → Job → State × Result × List Need) (h : ∀ x, (f s x).1.lcs.otp = s.lcs.otp) :
    (s.runJob j op f).lcs.otp = s.lcs.otp := by
  unfold State.runJob
  split <;> simp [h]

@[simp] theorem State.runEngine_otpTable (s : State) (j op : Nat) (f : State → Job → State × Result) (h : ∀ x, (f s x).1.lcs.otp = s.lcs.otp) :
    (s.runEngine j op f).lcs.otp = s.lcs.otp := by
  unfold State.runEngine
  split <;> simp [h]

/-! #### The host interface -/

@[simp] theorem State.rejected_otpTable (s : State) (v : Nat) : (s.rejected v).lcs.otp = s.lcs.otp := by simp [State.rejected]

@[simp] theorem State.windowed_otpTable (s : State) (v : Nat) (f : State → State) (h : (f s).lcs.otp = s.lcs.otp) :
    (s.windowed v f).lcs.otp = s.lcs.otp := by
  unfold State.windowed
  split <;> simp [h]

@[simp] theorem State.bellError_otpTable (s : State) (v cause : Nat) (id : RingId) (index : Nat) :
    (s.bellError v cause id index).lcs.otp = s.lcs.otp := by
  simp [State.bellError]

@[simp] theorem State.tailBell_otpTable (s : State) (v : Nat) (id : RingId) (index : Nat) : (s.tailBell v id index).lcs.otp = s.lcs.otp := by
  simp [State.tailBell]

@[simp] theorem State.headBell_otpTable (s : State) (v : Nat) (id : RingId) (index : Nat) : (s.headBell v id index).lcs.otp = s.lcs.otp := by
  simp [State.headBell]

@[simp] theorem State.writeCtl_otpTable (s : State) (v : Nat) (id : RingId) (w : Nat) : (s.writeCtl v id w).lcs.otp = s.lcs.otp := by
  unfold State.writeCtl
  dsimp only
  (repeat' split) <;> simp

@[simp] theorem State.clearStatus_otpTable (s : State) (v : Nat) (w : Word) : (s.clearStatus v w).lcs.otp = s.lcs.otp := rfl

@[simp] theorem execViIntStatusClear_burns (v : Fin 256) (w : Word) (s : State) : BurnsAll s (execViIntStatusClear v w s) :=
  BurnsAll.of_eq (State.windowed_otpTable _ _ _ rfl)

@[simp] theorem State.writeIntEnable_otpTable (s : State) (v : Nat) (w : Word) : (s.writeIntEnable v w).lcs.otp = s.lcs.otp := by
  simp [State.writeIntEnable]

@[simp] theorem State.takeDescriptor_otpTable (s : State) (v ring : Nat) (b : Bytes) : (s.takeDescriptor v ring b).lcs.otp = s.lcs.otp := by
  unfold State.takeDescriptor
  split <;> simp

theorem execDescriptorFetch_burns (vi : Fin 256) (ring : Fin 16) (entries : List Bytes) (readError : Bool) (s : State) :
    BurnsAll s (execDescriptorFetch vi ring entries readError s) := by
  have hread : ∀ (f : Nat → Out) (u : State), ((List.range entries.length).foldl (fun t i => t.emit (f i)) u).lcs.otp = u.lcs.otp :=
    fun f u => State.otpTable_foldl _ _ _ fun _ _ => rfl
  unfold execDescriptorFetch
  dsimp only
  split
  · simp
  · split <;> simp [hread]

@[simp] theorem State.queueBurin_otpTable (s : State) (j : Nat) : (s.queueBurin j).lcs.otp = s.lcs.otp := by
  unfold State.queueBurin
  (repeat' split) <;> simp

@[simp] theorem State.queueGraver_otpTable (s : State) (j : Nat) : (s.queueGraver j).lcs.otp = s.lcs.otp := by
  unfold State.queueGraver
  split <;> simp

@[simp] theorem State.findLease_otpTable (s : State) (j : Nat) : (s.findLease j).lcs.otp = s.lcs.otp := by
  unfold State.findLease
  dsimp only
  (repeat' split) <;> simp

@[simp] theorem State.toEngine_otpTable (s : State) (j : Nat) (e : Engine) : (s.toEngine j e).lcs.otp = s.lcs.otp := by
  unfold State.toEngine
  split <;> simp

@[simp] theorem State.refuseJob_otpTable (s : State) (j : Nat) (r : Refused) : (s.refuseJob j r).lcs.otp = s.lcs.otp := by simp [State.refuseJob]

@[simp] theorem execJobDispatch_burns (j : Nat) (s : State) : BurnsAll s (execJobDispatch j s) := by
  unfold execJobDispatch
  dsimp only
  (repeat' split) <;> simp

@[simp] theorem execCompletionRequest_burns (j : Nat) (s : State) : BurnsAll s (execCompletionRequest j s) := by
  unfold execCompletionRequest
  split <;> simp

/-! #### The whole device -/

@[simp] theorem State.switchPd_otpTable (s : State) (pd : Nat) : (s.switchPd pd).lcs.otp = s.lcs.otp := rfl
@[simp] theorem State.dropDgeCtx_otpTable (s : State) (c err : Nat) : (s.dropDgeCtx c err).lcs.otp = s.lcs.otp := by simp [State.dropDgeCtx]
@[simp] theorem State.dropDge_otpTable (s : State) : s.dropDge.lcs.otp = s.lcs.otp := by simp [State.dropDge]
@[simp] theorem State.redrawSaveKey_otpTable (s : State) : s.redrawSaveKey.lcs.otp = s.lcs.otp := by simp [State.redrawSaveKey]
@[simp] theorem State.clearBbram_otpTable (s : State) : s.clearBbram.lcs.otp = s.lcs.otp := rfl
@[simp] theorem State.zeroiseKeys_otpTable (s : State) : s.zeroiseKeys.lcs.otp = s.lcs.otp := rfl
@[simp] theorem State.dropPair_otpTable (s : State) : s.dropPair.lcs.otp = s.lcs.otp := by simp [State.dropPair]

@[simp] theorem State.shutJobs_otpTable (s : State) : s.shutJobs.lcs.otp = s.lcs.otp :=
  State.otpTable_foldl _ _ _ fun t p => by
    split
    · rfl
    · split <;> simp

@[simp] theorem State.offUnits_otpTable (s : State) : s.offUnits.lcs.otp = s.lcs.otp := rfl

@[simp] theorem State.enterFalsework_otpTable (s : State) (cause : Nat) : (s.enterFalsework cause).lcs.otp = s.lcs.otp := by
  simp [State.enterFalsework]

@[simp] theorem State.purge_otpTable (s : State) (cause : Nat) : (s.purge cause).lcs.otp = s.lcs.otp := by simp [State.purge]
@[simp] theorem State.enterHalted_otpTable (s : State) (next : DevState) : (s.enterHalted next).lcs.otp = s.lcs.otp := by simp [State.enterHalted]

@[simp] theorem State.restartJob_otpTable (s : State) (j : Nat) : (s.restartJob j).lcs.otp = s.lcs.otp := by
  unfold State.restartJob
  split <;> simp

@[simp] theorem State.startPair_otpTable (s : State) : s.startPair.lcs.otp = s.lcs.otp := by simp [State.startPair]
@[simp] theorem State.resume_otpTable (s : State) : s.resume.lcs.otp = s.lcs.otp := by simp [State.resume]

/-! #### The fault collector -/

@[simp] theorem State.settlePower_otpTable (s : State) : s.settlePower.lcs.otp = s.lcs.otp := by simp [State.settlePower]
@[simp] theorem State.appendLog_otpTable (s : State) (e : LogEntry) : (s.appendLog e).lcs.otp = s.lcs.otp := rfl

@[simp] theorem State.noteClass_otpTable (s : State) (r : Report) : (s.noteClass r).lcs.otp = s.lcs.otp := by
  unfold State.noteClass
  split <;> simp

@[simp] theorem State.record_otpTable (s : State) (r : Report) : (s.record r).lcs.otp = s.lcs.otp := by simp [State.record]
@[simp] theorem State.fatalShutdown_otpTable (s : State) : s.fatalShutdown.lcs.otp = s.lcs.otp := by simp [State.fatalShutdown]
@[simp] theorem State.escalate_otpTable (s : State) (seq : Nat) : (s.escalate seq).lcs.otp = s.lcs.otp := by simp [State.escalate]

@[simp] theorem State.reportAs_otpTable (s : State) (r : Report) : (s.reportAs r).lcs.otp = s.lcs.otp := by
  unfold State.reportAs
  split <;> simp

@[simp] theorem State.report_otpTable (s : State) (u i cause : Nat) : (s.report u i cause).lcs.otp = s.lcs.otp := by
  unfold State.report
  split <;> simp

@[simp] theorem State.ackSeq_otpTable (s : State) (seq : Nat) : (s.ackSeq seq).lcs.otp = s.lcs.otp := by simp [State.ackSeq]

@[simp] theorem State.ackSource_otpTable (s : State) (source : Nat) (causes : List Nat) : (s.ackSource source causes).lcs.otp = s.lcs.otp := by
  simp [State.ackSource]

@[simp] theorem State.testLater_otpTable (s : State) (seq : Nat) (sources : List Nat) : (s.testLater seq sources).lcs.otp = s.lcs.otp := rfl

@[simp] theorem State.noteRetired_otpTable (s : State) (word : Nat) (injected : Bool) : (s.noteRetired word injected).lcs.otp = s.lcs.otp := by
  simp [State.noteRetired]

/-! #### Maintenance activities -/

@[simp] theorem State.settlePatrols_otpTable (s : State) : s.settlePatrols.lcs.otp = s.lcs.otp := by simp [State.settlePatrols]

@[simp] theorem State.startAct_otpTable (s : State) (a arg : Nat) (job : Option Nat) : (s.startAct a arg job).lcs.otp = s.lcs.otp := by
  simp [State.startAct]

@[simp] theorem State.startWanted_otpTable (s : State) : s.startWanted.lcs.otp = s.lcs.otp := by simp [State.startWanted]
@[simp] theorem State.wantAct_otpTable (s : State) (a : Nat) : (s.wantAct a).lcs.otp = s.lcs.otp := by simp [State.wantAct]
@[simp] theorem State.stopReplies_otpTable (s : State) (a : Nat) : (s.stopReplies a).lcs.otp = s.lcs.otp := by simp [State.stopReplies]
@[simp] theorem State.idleAct_otpTable (s : State) (a m status : Nat) : (s.idleAct a m status).lcs.otp = s.lcs.otp := by simp [State.idleAct]
@[simp] theorem State.endAct_otpTable (s : State) (a status : Nat) : (s.endAct a status).lcs.otp = s.lcs.otp := by simp [State.endAct]

/-! #### The burin array -/

@[simp] theorem State.fillQueues_otpTable (s : State) : s.fillQueues.lcs.otp = s.lcs.otp := by simp [State.fillQueues]

@[simp] theorem State.rehome_otpTable (s : State) : s.rehome.lcs.otp = s.lcs.otp :=
  State.otpTable_foldl _ _ _ fun t p => by
    split
    · rfl
    · split
      · rfl
      · split
        · split <;> simp
        · split <;> simp

@[simp] theorem State.take_otpTable (s : State) (p b j : Nat) : (s.take p b j).lcs.otp = s.lcs.otp := rfl

@[simp] theorem State.pick_otpTable (s : State) (p b : Nat) : (s.pick p b).lcs.otp = s.lcs.otp := by
  unfold State.pick
  (repeat' split) <;> simp

@[simp] theorem State.sendProof_otpTable (s : State) (j : Nat) (x : Job) : (s.sendProof j x).lcs.otp = s.lcs.otp := by simp [State.sendProof]
@[simp] theorem State.parkJob_otpTable (s : State) (p b j : Nat) (x : Job) : (s.parkJob p b j x).lcs.otp = s.lcs.otp := by simp [State.parkJob]

@[simp] theorem State.tryPark_otpTable (s : State) (p b j : Nat) : (s.tryPark p b j).lcs.otp = s.lcs.otp := by
  unfold State.tryPark
  split <;> simp

@[simp] theorem State.burinComputed_otpTable (s : State) (j : Nat) (r : Result) : (s.burinComputed j r).lcs.otp = s.lcs.otp := by
  unfold State.burinComputed
  dsimp only
  split <;> simp

@[simp] theorem State.runBurin_otpTable (s : State) (j op : Nat) (f : State → Job → State × Result) (h : ∀ x, (f s x).1.lcs.otp = s.lcs.otp) :
    (s.runBurin j op f).lcs.otp = s.lcs.otp := by
  unfold State.runBurin
  split <;> simp [h]

@[simp] theorem State.restartBurinPart_otpTable (s : State) (j : Nat) (x : Job) : (s.restartBurinPart j x).lcs.otp = s.lcs.otp := by
  simp [State.restartBurinPart]

@[simp] theorem State.restartBurinJob_otpTable (s : State) (j : Nat) (counted : Bool) : (s.restartBurinJob j counted).lcs.otp = s.lcs.otp := by
  unfold State.restartBurinJob
  (repeat' split) <;> simp

@[simp] theorem State.faultEnds_otpTable (s : State) (j : Nat) : (s.faultEnds j).lcs.otp = s.lcs.otp := by
  unfold State.faultEnds
  (repeat' split) <;> simp

@[simp] theorem State.hitBurinJob_otpTable (s : State) (p b : Nat) (counted : Bool) : (s.hitBurinJob p b counted).lcs.otp = s.lcs.otp := by
  unfold State.hitBurinJob
  (repeat' split) <;> simp

@[simp] theorem State.pierLost_otpTable (s : State) (p : Nat) : (s.pierLost p).lcs.otp = s.lcs.otp := by simp [State.pierLost]

@[simp] theorem State.bringSpare_otpTable (s : State) (p : Nat) : (s.bringSpare p).lcs.otp = s.lcs.otp := by
  unfold State.bringSpare
  split <;> simp

@[simp] theorem State.retireBurin_otpTable (s : State) (p b : Nat) (injected : Bool) : (s.retireBurin p b injected).lcs.otp = s.lcs.otp := by
  simp [State.retireBurin]

@[simp] theorem State.countBurinFault_otpTable (s : State) (p b : Nat) (injected : Bool) : (s.countBurinFault p b injected).lcs.otp = s.lcs.otp := by
  simp [State.countBurinFault]

/-! #### Meanings of the burin and microcode commands -/

@[simp] theorem State.useStipple_otpTable (s : State) (p n : Nat) : (s.useStipple p n).lcs.otp = s.lcs.otp := by simp [State.useStipple]
@[simp] theorem State.invariantEnds_otpTable (s : State) (j : Nat) : (s.invariantEnds j).lcs.otp = s.lcs.otp := by simp [State.invariantEnds]

@[simp] theorem State.issueNano_otpTable (s : State) (p b j : Nat) (m : Micro) (n w : Nat) (f : Micro → Micro) :
    (s.issueNano p b j m n w f).lcs.otp = s.lcs.otp := by
  simp [State.issueNano]

@[simp] theorem execMicrowordIssue_burns (p : Fin 8) (b : Fin 9) (s : State) : BurnsAll s (execMicrowordIssue p b s) := by
  unfold execMicrowordIssue
  (repeat' split) <;> simp

@[simp] theorem State.applyAtCommit_otpTable (s : State) (j : Nat) (x : Job) : (s.applyAtCommit j x).lcs.otp = s.lcs.otp := by
  simp [State.applyAtCommit]

@[simp] theorem execCommit_burns (p : Fin 8) (b : Fin 9) (s : State) : BurnsAll s (execCommit p b s) := by
  unfold execCommit
  (repeat' split) <;> simp

@[simp] theorem execEnd_burns (p : Fin 8) (b : Fin 9) (s : State) : BurnsAll s (execEnd p b s) := by
  unfold execEnd
  dsimp only
  (repeat' split) <;> simp

@[simp] theorem State.yieldBurin_otpTable (s : State) (p b j : Nat) (x : Job) : (s.yieldBurin p b j x).lcs.otp = s.lcs.otp := by
  unfold State.yieldBurin
  split <;> simp

@[simp] theorem execYield_burns (p : Fin 8) (b : Fin 9) (s : State) : BurnsAll s (execYield p b s) := by
  unfold execYield
  (repeat' split) <;> simp

@[simp] theorem State.control_otpTable (s : State) (p b : Nat) (code : Nat → Bool) (f : Micro → Nat → Micro) :
    (s.control p b code f).lcs.otp = s.lcs.otp := by
  unfold State.control
  (repeat' split) <;> simp

@[simp] theorem execYieldHoldPreemption_burns (p : Fin 8) (b : Fin 9) (s : State) : BurnsAll s (execYieldHoldPreemption p b s) := by
  unfold execYieldHoldPreemption
  (repeat' split) <;> simp

theorem execParkBufferRoom_burns (p : Fin 8) (s : State) : BurnsAll s (execParkBufferRoom p s) := by
  unfold execParkBufferRoom
  refine BurnsAll.of_eq ?_
  split
  · rfl
  · exact State.otpTable_foldl _ _ _ fun t b => by split <;> simp

@[simp] theorem State.mismatch_otpTable (s : State) (j signer verifier : Nat) (injected : Bool) :
    (s.mismatch j signer verifier injected).lcs.otp = s.lcs.otp := by
  simp [State.mismatch]

@[simp] theorem execCounterproofVerdict_burns (j : Nat) (valid : Bool) (s : State) : BurnsAll s (execCounterproofVerdict j valid s) := by
  unfold execCounterproofVerdict
  (repeat' split) <;> simp

@[simp] theorem State.stippleFails_otpTable (s : State) (p : Nat) (injected : Bool) : (s.stippleFails p injected).lcs.otp = s.lcs.otp := by
  unfold State.stippleFails
  dsimp only
  split
  · rfl
  · rw [State.rehome_otpTable, State.otpTable_foldl]
    · exact (State.reportAs_otpTable ..).trans rfl
    · intro t b
      split
      · split <;> simp
      · rfl

@[simp] theorem State.ackRetired_otpTable (s : State) (p : Nat) : (s.ackRetired p).lcs.otp = s.lcs.otp := by simp [State.ackRetired]

theorem execUcodeLoad_burns (j : Nat) (sound : Bool) (s : State) : BurnsAll s (execUcodeLoad j sound s) := by
  unfold execUcodeLoad
  refine BurnsAll.of_eq ?_
  split
  · rfl
  · dsimp only
    split
    · simp
    · split
      · simp
      · split
        · simp
        · split
          · exact (State.finishJob_otpTable ..).trans (State.otpTable_foldl _ _ _ fun _ _ => rfl)
          · rfl

@[simp] theorem execUcodeInvoke_burns (j : Nat) (s : State) : BurnsAll s (execUcodeInvoke j s) := by
  unfold execUcodeInvoke
  (repeat' split) <;> simp

@[simp] theorem execUcodeLoadTimeout_burns (j : Nat) (s : State) : BurnsAll s (execUcodeLoadTimeout j s) := by
  unfold execUcodeLoadTimeout
  split <;> simp

/-! #### Crosshatch -/

@[simp] theorem State.setXhCfg_otpTable (s : State) (id w : Nat) : (s.setXhCfg id w).lcs.otp = s.lcs.otp := by simp [State.setXhCfg]
@[simp] theorem State.setXhSrc_otpTable (s : State) (id : Nat) (x : XhSrc) : (s.setXhSrc id x).lcs.otp = s.lcs.otp := by simp [State.setXhSrc]

@[simp] theorem State.alarmLog_otpTable (s : State) (sec sub source flags tick : Nat) : (s.alarmLog sec sub source flags tick).lcs.otp = s.lcs.otp :=
  rfl

@[simp] theorem State.logHit_otpTable (s : State) (h : XhHit) (resp : Nat) : (s.logHit h resp).lcs.otp = s.lcs.otp := rfl
@[simp] theorem State.defer_otpTable (s : State) (sev source : Nat) : (s.defer sev source).lcs.otp = s.lcs.otp := by simp [State.defer]
@[simp] theorem State.startCancel_otpTable (s : State) (source : Nat) : (s.startCancel source).lcs.otp = s.lcs.otp := by simp [State.startCancel]

@[simp] theorem State.haltLcs_otpTable (s : State) : s.haltLcs.lcs.otp = s.lcs.otp := by
  unfold State.haltLcs
  (repeat' split) <;> simp

@[simp] theorem State.noteHits_otpTable (s : State) (hits : List XhHit) : (s.noteHits hits).lcs.otp = s.lcs.otp := by simp [State.noteHits]

/-! #### The life cycle -/

@[simp] theorem State.enterLstate_otpTable (s : State) (l : LState) : (s.enterLstate l).lcs.otp = s.lcs.otp := rfl
@[simp] theorem State.enterUnexplained_otpTable (s : State) : s.enterUnexplained.lcs.otp = s.lcs.otp := rfl
@[simp] theorem State.newBbram_otpTable (s : State) : s.newBbram.lcs.otp = s.lcs.otp := by simp [State.newBbram]
@[simp] theorem State.restrikeKeys_otpTable (s : State) : s.restrikeKeys.lcs.otp = s.lcs.otp := by simp [State.restrikeKeys]
@[simp] theorem State.cancelKeys_otpTable (s : State) : s.cancelKeys.lcs.otp = s.lcs.otp := rfl

@[simp] theorem State.runActions_otpTable (s : State) (l : List BurnStep) : (s.runActions l).1.lcs.otp = s.lcs.otp := by
  fun_induction State.runActions s l with
  | case1 s r ih => rw [ih, State.restrikeKeys_otpTable]
  | case2 s r ih => rw [ih, State.cancelKeys_otpTable]
  | case3 => rfl

@[simp] theorem State.clearCrossed_otpTable (s : State) : s.clearCrossed.lcs.otp = s.lcs.otp := by simp [State.clearCrossed]
@[simp] theorem State.clearRings_otpTable (s : State) : s.clearRings.lcs.otp = s.lcs.otp := rfl

@[simp] theorem State.afterCrossing_otpTable (s : State) (a : AfterReply) : (s.afterCrossing a).lcs.otp = s.lcs.otp := by
  unfold State.afterCrossing
  split <;> simp

@[simp] theorem State.answerBurn_otpTable (s : State) (b : Burn) (ok : Bool) : (s.answerBurn b ok).lcs.otp = s.lcs.otp := by
  unfold State.answerBurn
  split <;> simp

@[simp] theorem State.crossed_otpTable (s : State) (b : Burn) : (s.crossed b).lcs.otp = s.lcs.otp := by
  unfold State.crossed
  (repeat' split) <;> simp

@[simp] theorem State.crossFailed_otpTable (s : State) (b : Burn) : (s.crossFailed b).lcs.otp = s.lcs.otp := by
  unfold State.crossFailed
  dsimp only
  split <;> simp

@[simp] theorem State.goOn_otpTable (s : State) (b : Burn) (l : List BurnStep) : (s.goOn b l).lcs.otp = s.lcs.otp := by simp [State.goOn]

@[simp] theorem State.startBurn_otpTable (s : State) (l : LState) (code : Bytes) (steps : List BurnStep) (asker : BurnFor) :
    (s.startBurn l code steps asker).lcs.otp = s.lcs.otp := by
  simp [State.startBurn]

/-! #### The Graver -/

@[simp] theorem State.fillGraver_otpTable (s : State) : s.fillGraver.lcs.otp = s.lcs.otp := by simp [State.fillGraver]
@[simp] theorem State.loadSlot_otpTable (s : State) (c j : Nat) : (s.loadSlot c j).lcs.otp = s.lcs.otp := by simp [State.loadSlot]
@[simp] theorem State.switchCore_otpTable (s : State) (c j k : Nat) : (s.switchCore c j k).lcs.otp = s.lcs.otp := by simp [State.switchCore]

@[simp] theorem State.restartGraverJob_otpTable (s : State) (j : Nat) (counted : Bool) : (s.restartGraverJob j counted).lcs.otp = s.lcs.otp := by
  unfold State.restartGraverJob
  split <;> simp

@[simp] theorem State.hitGraverJob_otpTable (s : State) (j : Nat) (counted : Bool) : (s.hitGraverJob j counted).lcs.otp = s.lcs.otp := by
  unfold State.hitGraverJob
  split <;> simp

@[simp] theorem State.graverLost_otpTable (s : State) : s.graverLost.lcs.otp = s.lcs.otp :=
  State.otpTable_foldl _ _ _ fun t p => by
    split
    · split <;> simp
    · rfl

@[simp] theorem State.bringCore_otpTable (s : State) : s.bringCore.lcs.otp = s.lcs.otp := by
  unfold State.bringCore
  split <;> simp

@[simp] theorem State.retireCore_otpTable (s : State) (c : Nat) (hit : Option Nat) (injected : Bool) :
    (s.retireCore c hit injected).lcs.otp = s.lcs.otp := by
  simp [State.retireCore]

@[simp] theorem State.countCoreFault_otpTable (s : State) (c : Nat) (injected : Bool) : (s.countCoreFault c injected).lcs.otp = s.lcs.otp := by
  simp [State.countCoreFault]

@[simp] theorem State.invariantFails_otpTable (s : State) (j : Nat) : (s.invariantFails j).lcs.otp = s.lcs.otp := by
  unfold State.invariantFails
  split <;> simp

@[simp] theorem State.runGraver_otpTable (s : State) (j op : Nat) (sound : Bool) (f : State → Job → State × Result × List Need)
    (h : ∀ x, (f s x).1.lcs.otp = s.lcs.otp) : (s.runGraver j op sound f).lcs.otp = s.lcs.otp := by
  unfold State.runGraver
  split <;> simp [h]

/-! #### Meanings of KDF, group 0x06 and the Caisson's own commands -/

@[simp] theorem doKdf_otpTable (s : State) (x : Job) : (doKdf s x).1.lcs.otp = s.lcs.otp := by
  unfold doKdf
  dsimp only
  (repeat' split) <;> simp

@[simp] theorem doGenerate_otpTable (s : State) (x : Job) : (doGenerate s x).1.lcs.otp = s.lcs.otp := by simp [doGenerate]
@[simp] theorem doDerive_otpTable (s : State) (x : Job) : (doDerive s x).1.lcs.otp = s.lcs.otp := rfl

@[simp] theorem execKeyDerive_burns (j : Nat) (s : State) : BurnsAll s (execKeyDerive j s) :=
  BurnsAll.of_eq (State.runJob_otpTable _ _ _ _ fun _ => rfl)

@[simp] theorem importPublic_otpTable (s : State) (x : Job) : (importPublic s x).1.lcs.otp = s.lcs.otp := by
  unfold importPublic
  dsimp only
  (repeat' split) <;> simp

@[simp] theorem importWrapped_otpTable (sound : Bool) (s : State) (x : Job) : (importWrapped sound s x).1.lcs.otp = s.lcs.otp := by
  unfold importWrapped
  dsimp only
  (repeat' split) <;> simp

@[simp] theorem doImport_otpTable (sound : Bool) (s : State) (x : Job) : (doImport sound s x).1.lcs.otp = s.lcs.otp := by
  unfold doImport
  (repeat' split) <;> simp

@[simp] theorem doExport_otpTable (s : State) (x : Job) : (doExport s x).1.lcs.otp = s.lcs.otp := by
  unfold doExport
  dsimp only
  (repeat' split) <;> simp

@[simp] theorem doStage_otpTable (sound : Bool) (s : State) (x : Job) : (doStage sound s x).1.lcs.otp = s.lcs.otp := by
  unfold doStage
  dsimp only
  (repeat' split) <;> simp

@[simp] theorem doReplaceCommit_otpTable (s : State) (x : Job) : (doReplaceCommit s x).1.lcs.otp = s.lcs.otp := by
  unfold doReplaceCommit
  dsimp only
  (repeat' split) <;> simp

@[simp] theorem execKeyDestroy_burns (j : Nat) (s : State) : BurnsAll s (execKeyDestroy j s) := by
  unfold execKeyDestroy
  dsimp only
  (repeat' split) <;> simp

@[simp] theorem execKeyZeroise_burns (h : Word) (s : State) : BurnsAll s (execKeyZeroise h s) := by
  unfold execKeyZeroise
  split <;> simp

@[simp] theorem doAttr_otpTable (s : State) (x : Job) : (doAttr s x).1.lcs.otp = s.lcs.otp := by
  unfold doAttr
  dsimp only
  (repeat' split) <;> simp

@[simp] theorem State.writeShelf_otpTable (s : State) (i : ShelfItem) : (s.writeShelf i).lcs.otp = s.lcs.otp := by
  unfold State.writeShelf
  split <;> simp

@[simp] theorem State.compactIfLow_otpTable (s : State) : s.compactIfLow.lcs.otp = s.lcs.otp := by simp [State.compactIfLow]

@[simp] theorem execShelfRecordWrite_burns (j : Nat) (programmed : Bool) (s : State) : BurnsAll s (execShelfRecordWrite j programmed s) := by
  unfold execShelfRecordWrite
  dsimp only
  (repeat' split) <;> simp

@[simp] theorem State.failLeaseWaiters_otpTable (s : State) (h : Nat) : (s.failLeaseWaiters h).lcs.otp = s.lcs.otp := by simp [State.failLeaseWaiters]

@[simp] theorem execKeyCounterLeaseWrite_burns (h : Word) (programmed : Bool) (s : State) : BurnsAll s (execKeyCounterLeaseWrite h programmed s) := by
  unfold execKeyCounterLeaseWrite
  split <;> simp

@[simp] theorem State.overflowLost_otpTable (s : State) (h : Nat) : (s.overflowLost h).lcs.otp = s.lcs.otp := by
  unfold State.overflowLost
  split <;> simp

@[simp] theorem execOverflowKeyFetch_burns (h : Word) (intact : Bool) (s : State) : BurnsAll s (execOverflowKeyFetch h intact s) := by
  unfold execOverflowKeyFetch
  split <;> simp

/-! #### The register contexts of the digest engine -/

@[simp] theorem State.clearDge_otpTable (s : State) (c err : Nat) : (s.clearDge c err).lcs.otp = s.lcs.otp := rfl

@[simp] theorem State.dgeInit_otpTable (s : State) (c v : Nat) (x : DgeCtx) : (s.dgeInit c v x).lcs.otp = s.lcs.otp := by
  unfold State.dgeInit
  (repeat' split) <;> simp

@[simp] theorem State.dgeFinish_otpTable (s : State) (c : Nat) (x : DgeCtx) : (s.dgeFinish c x).lcs.otp = s.lcs.otp := by simp [State.dgeFinish]

@[simp] theorem State.dgeRestored_otpTable (s : State) (c v : Nat) (x : DgeCtx) (b : Bytes) : (s.dgeRestored c v x b).lcs.otp = s.lcs.otp := by
  simp [State.dgeRestored]

@[simp] theorem State.setClaim_otpTable (s : State) (v result owner c : Nat) : (s.setClaim v result owner c).lcs.otp = s.lcs.otp := rfl

@[simp] theorem State.dgeClaim_otpTable (s : State) (v c : Nat) : (s.dgeClaim v c).lcs.otp = s.lcs.otp := by
  unfold State.dgeClaim
  split <;> simp

@[simp] theorem State.dgeRefuse_otpTable (s : State) (c : Nat) (x : DgeCtx) : (s.dgeRefuse c x).lcs.otp = s.lcs.otp := rfl

@[simp] theorem State.dgeCmd_otpTable (s : State) (v c : Nat) (f : State → DgeCtx → State) (h : ∀ x, (f s x).lcs.otp = s.lcs.otp) :
    (s.dgeCmd v c f).lcs.otp = s.lcs.otp := by
  unfold State.dgeCmd
  split
  · simp
  · dsimp only; split <;> simp [h]

@[simp] theorem State.dgeData_otpTable (s : State) (c : Nat) (x : DgeCtx) (w : Word) (poisoned : Bool) :
    (s.dgeData c x w poisoned).lcs.otp = s.lcs.otp := by
  simp [State.dgeData]

@[simp] theorem State.dgeFinal_otpTable (s : State) (c : Nat) (x : DgeCtx) : (s.dgeFinal c x).lcs.otp = s.lcs.otp := by simp [State.dgeFinal]
@[simp] theorem State.dgeSqueeze_otpTable (s : State) (c : Nat) (x : DgeCtx) : (s.dgeSqueeze c x).lcs.otp = s.lcs.otp := by simp [State.dgeSqueeze]
@[simp] theorem State.dgeSave_otpTable (s : State) (c : Nat) (x : DgeCtx) : (s.dgeSave c x).lcs.otp = s.lcs.otp := by simp [State.dgeSave]

@[simp] theorem State.dgeRestore_otpTable (s : State) (v c : Nat) (x : DgeCtx) : (s.dgeRestore v c x).lcs.otp = s.lcs.otp := by
  simp [State.dgeRestore]

@[simp] theorem State.dgeDoInit_otpTable (s : State) (v c : Nat) (x : DgeCtx) : (s.dgeDoInit v c x).lcs.otp = s.lcs.otp := by simp [State.dgeDoInit]
@[simp] theorem State.dgeRelease_otpTable (s : State) (c : Nat) (x : DgeCtx) : (s.dgeRelease c x).lcs.otp = s.lcs.otp := rfl

@[simp] theorem State.dgeComplete_otpTable (s : State) (c : Nat) (o : ReadOutcome) : (s.dgeComplete c o).lcs.otp = s.lcs.otp := by
  unfold State.dgeComplete
  dsimp only
  (repeat' split) <;> simp

/-! #### Meanings of the digest-engine commands, and of HASH and MAC -/

@[simp] theorem execDgeRelease_burns (v : Fin 256) (c : Fin 8) (s : State) : BurnsAll s (execDgeRelease v c s) :=
  BurnsAll.of_eq (State.dgeCmd_otpTable _ _ _ _ fun _ => rfl)

@[simp] theorem execDgeAbandon_burns (v : Fin 256) (c : Fin 8) (s : State) : BurnsAll s (execDgeAbandon v c s) :=
  BurnsAll.of_eq (State.dgeCmd_otpTable _ _ _ _ fun _ => rfl)

@[simp] theorem execDgeZeroiseComplete_burns (c : Fin 8) (s : State) : BurnsAll s (execDgeZeroiseComplete c s) := by
  unfold execDgeZeroiseComplete
  split <;> simp

@[simp] theorem execDgeReclaim_burns (w : Word) (s : State) : BurnsAll s (execDgeReclaim w s) := by simp [execDgeReclaim]

@[simp] theorem doHash_otpTable (s : State) (x : Job) : (doHash s x).1.lcs.otp = s.lcs.otp := by
  unfold doHash
  dsimp only
  (repeat' split) <;> simp

@[simp] theorem doMac_otpTable (s : State) (x : Job) : (doMac s x).1.lcs.otp = s.lcs.otp := by
  unfold doMac
  dsimp only
  split <;> simp

/-! #### Frames as the parser and the classifier read them, and DTLS record headers -/

theorem State.writeData_otpTable (s : State) (v k : Nat) (data : Bytes) (entry : Nat → Bytes) :
    ∀ t, s.writeData v k data entry = some t → t.lcs.otp = s.lcs.otp := by
  unfold State.writeData
  dsimp only
  split <;> simp

/-! #### Cipher lanes -/

@[simp] theorem State.enqueueLane_otpTable (s : State) (w : LaneWork) : (s.enqueueLane w).lcs.otp = s.lcs.otp := rfl
@[simp] theorem State.modRec_otpTable (s : State) (n : Nat) (f : Rec → Rec) : (s.modRec n f).lcs.otp = s.lcs.otp := rfl
@[simp] theorem State.delRec_otpTable (s : State) (n : Nat) : (s.delRec n).lcs.otp = s.lcs.otp := rfl
@[simp] theorem State.countDrop_otpTable (s : State) (i : Nat) : (s.countDrop i).lcs.otp = s.lcs.otp := rfl

@[simp] theorem State.dropRec_otpTable (s : State) (n reg : Nat) : (s.dropRec n reg).lcs.otp = s.lcs.otp := by
  unfold State.dropRec
  split <;> simp

@[simp] theorem State.requeueLane_otpTable (s : State) (w : LaneWork) : (s.requeueLane w).lcs.otp = s.lcs.otp := by simp [State.requeueLane]

@[simp] theorem State.restartLane_otpTable (s : State) (w : LaneWork) (counted : Bool) : (s.restartLane w counted).lcs.otp = s.lcs.otp := by
  unfold State.restartLane
  (repeat' split) <;> simp

@[simp] theorem State.lanesLost_otpTable (s : State) : s.lanesLost.lcs.otp = s.lcs.otp := by simp [State.lanesLost]

@[simp] theorem State.bringLane_otpTable (s : State) : s.bringLane.lcs.otp = s.lcs.otp := by
  unfold State.bringLane
  split <;> simp

@[simp] theorem State.emptyLane_otpTable (s : State) (l : Nat) : (s.emptyLane l).lcs.otp = s.lcs.otp := State.otpTable_foldl _ _ _ fun _ _ => by simp

@[simp] theorem State.retireLane_otpTable (s : State) (l : Nat) (injected : Bool) : (s.retireLane l injected).lcs.otp = s.lcs.otp := by
  simp [State.retireLane]

@[simp] theorem State.countLaneFault_otpTable (s : State) (l : Nat) (injected : Bool) : (s.countLaneFault l injected).lcs.otp = s.lcs.otp := by
  simp [State.countLaneFault]

@[simp] theorem State.ackLanes_otpTable (s : State) : s.ackLanes.lcs.otp = s.lcs.otp := by simp [State.ackLanes]

/-! #### Meanings of AEAD and record jobs, BATCH, and the cipher-lane events -/

/-- An item of a BATCH leaves both of its runs' OTP tables as they were. -/
theorem BatchRun.item_otpTable (r : BatchRun) (x : Job) (raw : Bytes) (got : Option Bytes) :
    (r.item x raw got).real.lcs.otp = r.real.lcs.otp := by
  unfold BatchRun.item
  dsimp only
  split
  · rfl
  · dsimp only
    split
    · exact congrArg Lcs.otp (State.modKey_lcs ..)
    · rfl

@[simp] theorem doBatch_otpTable (inputs : List Bytes) (s : State) (x : Job) : (doBatch inputs s x).1.lcs.otp = s.lcs.otp := by
  have hitems : ∀ (f : BatchRun → Nat → BatchRun) (l : List Nat) (r : BatchRun), (∀ t i, (f t i).real.lcs.otp = t.real.lcs.otp) →
      (l.foldl f r).real.lcs.otp = r.real.lcs.otp := fun f l => by
    induction l with
    | nil => exact fun r _ => rfl
    | cons i l ih => exact fun r hf => (ih _ hf).trans (hf r i)
  unfold doBatch
  dsimp only
  rw [hitems _ _ _ fun t i => BatchRun.item_otpTable ..]
  exact State.otpTable_foldl _ _ _ fun t b => by split <;> rfl

@[simp] theorem State.setGranted_otpTable (s : State) (g : SMap Nat) : (s.setGranted g).lcs.otp = s.lcs.otp := rfl

theorem State.takeSlots_otpTable (s : State) (src n : Nat) : ∀ t, s.takeSlots src n = some t → t.lcs.otp = s.lcs.otp := by
  unfold State.takeSlots
  split <;> simp

@[simp] theorem State.receiveSlot_otpTable (s : State) (p : Nat) : (s.receiveSlot p).lcs.otp = s.lcs.otp := by
  unfold State.receiveSlot
  dsimp only
  (repeat' split) <;> simp

@[simp] theorem State.lookasideSlot_otpTable (s : State) (j : Nat) (x : Job) : (s.lookasideSlot j x).lcs.otp = s.lcs.otp := rfl

theorem execCwySlotIssue_burns (s : State) : BurnsAll s (execCwySlotIssue s) := by
  have hslot : ∀ k n, ((s.takeSlots k n).getD s).lcs.otp = s.lcs.otp := fun k n => State.otpTable_getD (State.takeSlots_otpTable _ _ _) rfl
  unfold execCwySlotIssue
  refine BurnsAll.of_eq ?_
  split
  · rfl
  · split
    · rfl
    · split <;> simp [hslot]
    · simp [hslot]

@[simp] theorem execLaneTakeJob_burns (l : Fin 8) (s : State) : BurnsAll s (execLaneTakeJob l s) := by
  unfold execLaneTakeJob
  (repeat' split) <;> simp

@[simp] theorem State.laneEnds_otpTable (s : State) (l : Nat) : (s.laneEnds l).lcs.otp = s.lcs.otp := by simp [State.laneEnds]

@[simp] theorem State.laneFault_otpTable (s : State) (l : Nat) (w : LaneWork) (injected : Bool) : (s.laneFault l w injected).lcs.otp = s.lcs.otp := by
  simp [State.laneFault]

@[simp] theorem State.popLane_otpTable (s : State) (l : Nat) : (s.popLane l).lcs.otp = s.lcs.otp := rfl

@[simp] theorem execLaneJobComplete_burns (l : Fin 8) (agree : Bool) (s : State) : BurnsAll s (execLaneJobComplete l agree s) := by
  unfold execLaneJobComplete
  (repeat' split) <;> simp

/-! #### Leases, checkpoints, the replay window, delivery and key updates -/

@[simp] theorem State.requestLease_otpTable (s : State) (i : Nat) : (s.requestLease i).lcs.otp = s.lcs.otp := by
  unfold State.requestLease
  (repeat' split) <;> simp

@[simp] theorem State.touchHead_otpTable (s : State) (i : Nat) : (s.touchHead i).lcs.otp = s.lcs.otp := rfl

@[simp] theorem State.sendCheckpoint_otpTable (s : State) (i num : Nat) : (s.sendCheckpoint i num).lcs.otp = s.lcs.otp := by
  simp [State.sendCheckpoint]

@[simp] theorem State.countCheckpoint_otpTable (s : State) (i : Nat) (raised swapped : Bool) :
    (s.countCheckpoint i raised swapped).lcs.otp = s.lcs.otp := by
  unfold State.countCheckpoint
  (repeat' split) <;> simp

@[simp] theorem State.spend_otpTable (s : State) (i n : Nat) : (s.spend i n).lcs.otp = s.lcs.otp := by
  unfold State.spend
  split <;> simp

theorem State.postRecord_otpTable {s t : State} {i : Nat} {x : Session} {h : HeldRec} (hp : s.postRecord i x h = some t) : t.lcs.otp = s.lcs.otp := by
  unfold State.postRecord at hp
  dsimp only at hp
  split at hp
  · cases hp
  · rename_i hw
    cases hp
    simp [State.writeData_otpTable _ _ _ _ _ _ hw]

@[simp] theorem State.deliver_otpTable (s : State) (i : Nat) (h : HeldRec) : (s.deliver i h).lcs.otp = s.lcs.otp := by
  unfold State.deliver
  split
  · rfl
  · dsimp only
    split
    · simp
    · split
      · simp
      · exact State.otpTable_getD (fun t ht => State.postRecord_otpTable ht) (by simp)

@[simp] theorem State.sendKeyUpdate_otpTable (s : State) (i : Nat) (request : Bool) : (s.sendKeyUpdate i request).lcs.otp = s.lcs.otp := by
  simp [State.sendKeyUpdate]

@[simp] theorem State.startKeyUpdate_otpTable (s : State) (i : Nat) (job : Option Nat) : (s.startKeyUpdate i job).lcs.otp = s.lcs.otp := by
  unfold State.startKeyUpdate
  split <;> simp

@[simp] theorem State.applyTxKeys_otpTable (s : State) (i : Nat) : (s.applyTxKeys i).lcs.otp = s.lcs.otp := by
  unfold State.applyTxKeys
  (repeat' split) <;> simp

@[simp] theorem State.sendAck_otpTable (s : State) (i recnum : Nat) : (s.sendAck i recnum).lcs.otp = s.lcs.otp := by simp [State.sendAck]

/-! #### Meanings of the line-port events -/

@[simp] theorem State.toException_otpTable (s : State) (p reason vi : Nat) (f : Bytes) : (s.toException p reason vi f).lcs.otp = s.lcs.otp := by
  simp [State.toException]

@[simp] theorem State.toIntake_otpTable (s : State) (p vi rule : Nat) (old : Option Nat) (f : Bytes) :
    (s.toIntake p vi rule old f).lcs.otp = s.lcs.otp := by
  simp [State.toIntake]

@[simp] theorem State.toCarriageway_otpTable (s : State) (p i : Nat) (f : Bytes) : (s.toCarriageway p i f).lcs.otp = s.lcs.otp := by
  unfold State.toCarriageway
  split <;> simp

@[simp] theorem State.byRule_otpTable (s : State) (p : Nat) (e : Eth) (d : Ip) (old : Option Nat) (f : Bytes) :
    (s.byRule p e d old f).lcs.otp = s.lcs.otp := by
  unfold State.byRule
  split <;> simp

@[simp] theorem State.classify_otpTable (s : State) (p : Nat) (e : Eth) (d : Ip) (f : Bytes) : (s.classify p e d f).lcs.otp = s.lcs.otp := by
  unfold State.classify
  (repeat' split) <;> simp

@[simp] theorem State.parseFrame_otpTable (s : State) (p link : Nat) (f : Bytes) : (s.parseFrame p link f).lcs.otp = s.lcs.otp := by
  unfold State.parseFrame
  dsimp only
  (repeat' split) <;> simp

@[simp] theorem State.countFec_otpTable (s : State) (p link : Nat) (fec : FecReport) : (s.countFec p link fec).lcs.otp = s.lcs.otp := by
  simp [State.countFec]

@[simp] theorem State.macReceive_otpTable (s : State) (p link : Nat) (f : Bytes) : (s.macReceive p link f).lcs.otp = s.lcs.otp := by
  simp [State.macReceive]

@[simp] theorem execFrameTransmit_burns (p : Fin 2) (link : Fin 4) (s : State) : BurnsAll s (execFrameTransmit p link s) := by
  unfold execFrameTransmit
  split <;> simp

@[simp] theorem State.linkChanged_otpTable (s : State) (p k : Nat) : (s.linkChanged p k).lcs.otp = s.lcs.otp := by simp [State.linkChanged]
@[simp] theorem State.setPhase_otpTable (s : State) (p k ph : Nat) : (s.setPhase p k ph).lcs.otp = s.lcs.otp := rfl
@[simp] theorem State.linkFalls_otpTable (s : State) (p k ph : Nat) : (s.linkFalls p k ph).lcs.otp = s.lcs.otp := by simp [State.linkFalls]

@[simp] theorem State.writePortCtl_otpTable (s : State) (p w : Nat) : (s.writePortCtl p w).lcs.otp = s.lcs.otp := by
  unfold State.writePortCtl
  dsimp only
  split
  · exact State.otpTable_foldl _ _ _ fun _ _ => rfl
  · split
    · exact State.otpTable_foldl _ _ _ fun _ _ => State.linkFalls_otpTable ..
    · rfl

@[simp] theorem execLptPortCtlWrite_burns (p : Fin 2) (w : Word) (s : State) : BurnsAll s (execLptPortCtlWrite p w s) := by simp [execLptPortCtlWrite]

@[simp] theorem execLptTxeqWrite_burns (p : Fin 2) (lane : Fin 4) (w : Word) (s : State) : BurnsAll s (execLptTxeqWrite p lane w s) := by
  simp [execLptTxeqWrite]

@[simp] theorem State.writeAddress_otpTable (s : State) (p e : Nat) (w : Word) : (s.writeAddress p e w).lcs.otp = s.lcs.otp := rfl

@[simp] theorem execLocalAddressWrite_burns (p : Fin 2) (e : Fin 16) (w : Word) (s : State) : BurnsAll s (execLocalAddressWrite p e w s) := by
  simp [execLocalAddressWrite]

theorem execExceptionDelivery_burns (s : State) : BurnsAll s (execExceptionDelivery s) := by
  unfold execExceptionDelivery
  refine BurnsAll.of_eq ?_
  split
  · rfl
  · dsimp only
    split
    · simp
    · exact State.otpTable_getD (fun t ht => (State.writeData_otpTable _ _ _ _ _ _ ht).trans rfl) (by simp)

/-! #### Meanings of the Carriageway events -/

@[simp] theorem State.dropRest_otpTable (s : State) (n : Nat) (r : Rec) : (s.dropRest n r).lcs.otp = s.lcs.otp := by
  have hd : ∀ l : List Nat, (l.foldl (fun t k => t.dropRec k Reg.headerDrop) (s.dropRec n Reg.headerDrop)).lcs.otp = s.lcs.otp :=
    fun l => (State.otpTable_foldl _ _ _ fun _ _ => State.dropRec_otpTable ..).trans (State.dropRec_otpTable ..)
  unfold State.dropRest
  dsimp only
  split
  · split
    · exact (State.otpTable_foldl _ _ _ fun t _ => by simp).trans (hd _)
    · exact hd _
  · exact hd _

@[simp] theorem State.holdPending_otpTable (s : State) (n : Nat) (r : Rec) (x : Session) : (s.holdPending n r x).lcs.otp = s.lcs.otp := by
  simp [State.holdPending]

@[simp] theorem State.recToLane_otpTable (s : State) (n : Nat) (r : Rec) (cost : Nat) : (s.recToLane n r cost).lcs.otp = s.lcs.otp := by
  simp [State.recToLane]

@[simp] theorem State.bodyRead_otpTable (s : State) (x : Session) (r : Rec) : (s.bodyRead x r).lcs.otp = s.lcs.otp := by simp [State.bodyRead]

@[simp] theorem State.replayFails_otpTable (s : State) (n : Nat) (r : Rec) (bound : Bool) : (s.replayFails n r bound).lcs.otp = s.lcs.otp := by
  simp [State.replayFails]

@[simp] theorem State.dtlsNumber_otpTable (s : State) (n : Nat) (r : Rec) (x : Session) (h : DtlsHead) : (s.dtlsNumber n r x h).lcs.otp = s.lcs.otp := by
  unfold State.dtlsNumber
  split
  · exact State.dropRec_otpTable ..
  · split
    · exact State.holdPending_otpTable ..
    · dsimp only; split <;> simp

@[simp] theorem State.dtlsReceive_otpTable (s : State) (n : Nat) (r : Rec) : (s.dtlsReceive n r).lcs.otp = s.lcs.otp := by
  unfold State.dtlsReceive
  (repeat' split) <;> simp

@[simp] theorem execDtlsRecordReceive_burns (s : State) : BurnsAll s (execDtlsRecordReceive s) := by
  unfold execDtlsRecordReceive
  split <;> simp

@[simp] theorem State.espReceive_otpTable (s : State) (n : Nat) (r : Rec) : (s.espReceive n r).lcs.otp = s.lcs.otp := by
  unfold State.espReceive
  split
  · simp
  · dsimp only
    split
    · simp
    · split
      · simp
      · split
        · simp
        · split
          · simp
          · split <;> simp

@[simp] theorem execEspPacketReceive_burns (s : State) : BurnsAll s (execEspPacketReceive s) := by
  unfold execEspPacketReceive
  split <;> simp

@[simp] theorem State.tagFails_otpTable (s : State) (n : Nat) (r : Rec) : (s.tagFails n r).lcs.otp = s.lcs.otp := by
  unfold State.tagFails
  dsimp only
  split <;> simp

@[simp] theorem State.takePath_otpTable (s : State) (i : Nat) (p : Path) : (s.takePath i p).lcs.otp = s.lcs.otp := by
  unfold State.takePath
  split <;> simp

theorem State.passWindow_otpTable {s : State} {i : Nat} {x : Session} {num : Nat} {p : State × Bool} (h : s.passWindow i x num = some p) :
    p.1.lcs.otp = s.lcs.otp := by
  unfold State.passWindow at h
  split at h <;> cases h
  rfl

@[simp] theorem State.alertReceived_otpTable (s : State) (i : Nat) (x : Session) (msg : Bytes) : (s.alertReceived i x msg).lcs.otp = s.lcs.otp := by
  simp [State.alertReceived]

@[simp] theorem State.toInbox_otpTable (s : State) (i num content : Nat) (msg : Bytes) : (s.toInbox i num content msg).lcs.otp = s.lcs.otp := rfl

@[simp] theorem State.dispatchHead_otpTable (s : State) (i : Nat) (x : Session) (r : Rec) (content : Nat) (msg : Bytes) :
    (s.dispatchHead i x r content msg).lcs.otp = s.lcs.otp := by
  simp [State.dispatchHead]

@[simp] theorem State.dtlsDispatch_otpTable (s : State) (i : Nat) (r : Rec) (older : Bool) (pt : Bytes) :
    (s.dtlsDispatch i r older pt).lcs.otp = s.lcs.otp := by
  unfold State.dtlsDispatch
  split <;> simp

@[simp] theorem State.dtlsVerdict_otpTable (s : State) (i n : Nat) (r : Rec) (x : Session) : (s.dtlsVerdict i n r x).lcs.otp = s.lcs.otp := by
  unfold State.dtlsVerdict
  dsimp only
  split
  · split
    · simp
    · rename_i hp
      have hpass := State.passWindow_otpTable hp
      split <;> simp_all
  · split
    · split <;> simp
    · simp

@[simp] theorem execDtlsRecordVerdict_burns (i : BitVec 24) (s : State) : BurnsAll s (execDtlsRecordVerdict i s) := by
  unfold execDtlsRecordVerdict
  split <;> simp

@[simp] theorem State.espDeliver_otpTable (s : State) (i : Nat) (r : Rec) (pt : Bytes) : (s.espDeliver i r pt).lcs.otp = s.lcs.otp := by
  unfold State.espDeliver
  split <;> simp

@[simp] theorem State.espVerdict_otpTable (s : State) (i n : Nat) (r : Rec) (x : Session) : (s.espVerdict i n r x).lcs.otp = s.lcs.otp := by
  unfold State.espVerdict
  dsimp only
  split
  · split
    · simp
    · rename_i hp
      have hpass := State.passWindow_otpTable hp
      simp_all
  · split <;> simp

@[simp] theorem execEspPacketVerdict_burns (i : BitVec 24) (s : State) : BurnsAll s (execEspPacketVerdict i s) := by
  unfold execEspPacketVerdict
  split <;> simp

theorem execHeldRecordRelease_burns (i : BitVec 24) (s : State) : BurnsAll s (execHeldRecordRelease i s) := by
  unfold execHeldRecordRelease
  refine BurnsAll.of_eq ?_
  split
  · rfl
  · split
    · rfl
    · split
      · rfl
      · exact (State.sweepRekey_otpTable _).trans (State.otpTable_getD (fun t ht => (State.postRecord_otpTable ht).trans rfl) rfl)

@[simp] theorem execPeerKeyupdate_burns (i : BitVec 24) (s : State) : BurnsAll s (execPeerKeyupdate i s) := by
  unfold execPeerKeyupdate
  dsimp only
  (repeat' split) <;> simp

@[simp] theorem execPeerKeyupdateAck_burns (i : BitVec 24) (s : State) : BurnsAll s (execPeerKeyupdateAck i s) := by
  unfold execPeerKeyupdateAck
  dsimp only
  (repeat' split) <;> simp

@[simp] theorem execKeyupdateTimeout_burns (i : BitVec 24) (s : State) : BurnsAll s (execKeyupdateTimeout i s) := by
  unfold execKeyupdateTimeout
  dsimp only
  split <;> simp

@[simp] theorem execEpoch2HoldExpiry_burns (i : BitVec 24) (s : State) : BurnsAll s (execEpoch2HoldExpiry i s) := by
  unfold execEpoch2HoldExpiry
  split <;> simp

@[simp] theorem execSessionTimeLimit_burns (i : BitVec 24) (s : State) : BurnsAll s (execSessionTimeLimit i s) := by
  unfold execSessionTimeLimit
  split <;> simp

@[simp] theorem execCheckpointDue_burns (i : BitVec 24) (s : State) : BurnsAll s (execCheckpointDue i s) := by
  unfold execCheckpointDue
  split <;> simp

@[simp] theorem State.txAdvance_otpTable (s : State) (v k : Nat) : (s.txAdvance v k).lcs.otp = s.lcs.otp := by simp [State.txAdvance]

@[simp] theorem State.txReject_otpTable (s : State) (v ring : Nat) (e : Bytes) (st : Nat) : (s.txReject v ring e st).lcs.otp = s.lcs.otp := by
  simp [State.txReject]

@[simp] theorem State.txFrame_otpTable (s : State) (v ring i : Nat) (x : Session) (e msg : Bytes) :
    (s.txFrame v ring i x e msg).lcs.otp = s.lcs.otp := by
  simp [State.txFrame]

@[simp] theorem State.txTake_otpTable (s : State) (v ring i : Nat) (x : Session) (e : Bytes) (message : ReadOutcome) :
    (s.txTake v ring i x e message).lcs.otp = s.lcs.otp := by
  unfold State.txTake
  dsimp only
  split <;> simp

@[simp] theorem State.txStall_otpTable (s : State) (i : Nat) (x : Session) : (s.txStall i x).lcs.otp = s.lcs.otp := by simp [State.txStall]

theorem execTransmitEntryFetch_burns (v : Fin 256) (ring : Fin 16) (entry : Option Bytes) (message : ReadOutcome) (s : State) :
    BurnsAll s (execTransmitEntryFetch v ring entry message s) := by
  unfold execTransmitEntryFetch
  refine BurnsAll.of_eq ?_
  dsimp only
  split
  · rfl
  · split
    · simp
    · split
      · simp
      · split
        · simp
        · split
          · rename_i ht; simp [State.takeSlots_otpTable _ _ _ _ ht]
          · rfl
      · rfl

@[simp] theorem execSendLeaseGrant_burns (i : BitVec 24) (s : State) : BurnsAll s (execSendLeaseGrant i s) := by
  unfold execSendLeaseGrant
  (repeat' split) <;> simp

/-! #### Meanings of the VI manager -/

@[simp] theorem State.runAction_otpTable (s : State) (j op : Nat) (f : State → Job → State × Result × List Need)
    (h : ∀ x, (f s x).1.lcs.otp = s.lcs.otp) :
    (s.runAction j op f).lcs.otp = s.lcs.otp := by
  unfold State.runAction
  split
  · split
    · exact State.abandon_otpTable ..
    · exact (State.settleDrains_otpTable _).trans (State.runJob_otpTable _ _ _ _ h)
  · rfl

@[simp] theorem doQuotaSet_otpTable (s : State) (x : Job) : (doQuotaSet s x).1.lcs.otp = s.lcs.otp := by
  unfold doQuotaSet
  dsimp only
  split <;> simp

@[simp] theorem doViQuery_otpTable (s : State) (x : Job) : (doViQuery s x).1.lcs.otp = s.lcs.otp := rfl
@[simp] theorem execViQuery_burns (j : Nat) (s : State) : BurnsAll s (execViQuery j s) := BurnsAll.of_eq (State.runJob_otpTable _ _ _ _ fun _ => rfl)
@[simp] theorem State.stopJobs_otpTable (s : State) (v : Nat) : (s.stopJobs v).lcs.otp = s.lcs.otp := by simp [State.stopJobs]
@[simp] theorem State.dropDgeOf_otpTable (s : State) (v : Nat) : (s.dropDgeOf v).lcs.otp = s.lcs.otp := by simp [State.dropDgeOf]
@[simp] theorem State.localReset_otpTable (s : State) (v : Nat) : (s.localReset v).lcs.otp = s.lcs.otp := by simp [State.localReset]
@[simp] theorem State.startReset_otpTable (s : State) (v : Nat) : (s.startReset v).lcs.otp = s.lcs.otp := by simp [State.startReset]
@[simp] theorem State.detach_otpTable (s : State) (v : Nat) (final : ViState) : (s.detach v final).lcs.otp = s.lcs.otp := by simp [State.detach]

@[simp] theorem execViReset_burns (j : Nat) (s : State) : BurnsAll s (execViReset j s) :=
  BurnsAll.of_eq (State.runAction_otpTable _ _ _ _ fun _ => by simp)

@[simp] theorem State.lowerVfs_otpTable (s : State) (n : Nat) : (s.lowerVfs n).lcs.otp = s.lcs.otp := by simp [State.lowerVfs]
@[simp] theorem State.resetReplies_otpTable (s : State) (v : Nat) : (s.resetReplies v).lcs.otp = s.lcs.otp := by simp [State.resetReplies]

@[simp] theorem State.answerStop_otpTable (s : State) (v : Nat) : (s.answerStop v).lcs.otp = s.lcs.otp := by
  unfold State.answerStop
  split <;> simp

@[simp] theorem State.beginFreeze_otpTable (s : State) (v : Nat) : (s.beginFreeze v).lcs.otp = s.lcs.otp := by simp [State.beginFreeze]

@[simp] theorem execViFreeze_burns (j : Nat) (s : State) : BurnsAll s (execViFreeze j s) :=
  BurnsAll.of_eq (State.runAction_otpTable _ _ _ _ fun _ => by dsimp only; (repeat' split) <;> simp)

@[simp] theorem State.shiftTimers_otpTable (s : State) (v t : Nat) : (s.shiftTimers v t).lcs.otp = s.lcs.otp := rfl
@[simp] theorem State.thaw_otpTable (s : State) (v : Nat) : (s.thaw v).lcs.otp = s.lcs.otp := by simp [State.thaw]

theorem execViThaw_burns (j : Nat) (s : State) : BurnsAll s (execViThaw j s) :=
  BurnsAll.of_eq (State.runAction_otpTable _ _ _ _ fun x => by dsimp only; split <;> simp)

@[simp] theorem doSave_otpTable (s : State) (x : Job) : (doSave s x).1.lcs.otp = s.lcs.otp := by
  unfold doSave
  dsimp only
  (repeat' split) <;> simp

@[simp] theorem execViSave_burns (j : Nat) (s : State) : BurnsAll s (execViSave j s) := by
  unfold execViSave
  split <;> simp

@[simp] theorem doRestore_otpTable (sound : Bool) (s : State) (x : Job) : (doRestore sound s x).1.lcs.otp = s.lcs.otp := by
  fun_cases doRestore sound s x
  case case7 => exact (State.mirrorReset_otpTable ..).trans (State.wipeVi_otpTable ..)
  all_goals rfl

@[simp] theorem execViRestore_burns (j : Nat) (sound : Bool) (s : State) : BurnsAll s (execViRestore j sound s) := by
  unfold execViRestore
  split <;> simp

@[simp] theorem State.disablePier_otpTable (s : State) (p : Nat) : (s.disablePier p).lcs.otp = s.lcs.otp := by simp [State.disablePier]

@[simp] theorem doFunctionSet_otpTable (s : State) (x : Job) : (doFunctionSet s x).1.lcs.otp = s.lcs.otp := by
  unfold doFunctionSet
  dsimp only
  (repeat' split) <;> simp

@[simp] theorem execFunctionSet_burns (j : Nat) (s : State) : BurnsAll s (execFunctionSet j s) :=
  BurnsAll.of_eq (State.runAction_otpTable _ _ _ _ fun _ => by simp)

theorem execDrainTimeout_burns (s : State) : BurnsAll s (execDrainTimeout s) := by
  have habort : ∀ l : List Nat, (l.foldl (fun t k => t.requestAbort k St.functionDisabled) s).lcs.otp = s.lcs.otp :=
    fun l => State.otpTable_foldl _ _ _ fun t k => State.requestAbort_otpTable ..
  unfold execDrainTimeout
  refine BurnsAll.of_eq ?_
  split
  · rfl
  · dsimp only
    rw [State.settleDrains_otpTable]
    split
    · exact (State.otpTable_foldl _ _ _ fun t w => State.restartLane_otpTable ..).trans (habort _)
    · exact habort _

/-! #### Firmware images and slots -/

@[simp] theorem State.putSlot_otpTable (s : State) (b : Bool) (im : Bytes) : (s.putSlot b im).lcs.otp = s.lcs.otp := rfl
@[simp] theorem State.bootRecord_otpTable (s : State) (activeB : Bool) (trial : Option Bool) : (s.bootRecord activeB trial).lcs.otp = s.lcs.otp := rfl

@[simp] theorem State.beginStage_otpTable (s : State) (j : Nat) (im : Bytes) (activate : Bool) :
    (s.beginStage j im activate).lcs.otp = s.lcs.otp := by
  simp [State.beginStage]

@[simp] theorem execFwStage_burns (j : Nat) (s : State) : BurnsAll s (execFwStage j s) := by
  unfold execFwStage
  (repeat' split) <;> simp

@[simp] theorem State.endStage_otpTable (s : State) (status : Nat) : (s.endStage status).lcs.otp = s.lcs.otp := by simp [State.endStage]

@[simp] theorem State.staged_otpTable (s : State) (j : Nat) (b : Bool) (im : Bytes) (activate : Bool) :
    (s.staged j b im activate).lcs.otp = s.lcs.otp := by
  simp [State.staged]

@[simp] theorem execFwSlotBlockWrite_burns (good : Bool) (s : State) : BurnsAll s (execFwSlotBlockWrite good s) := by
  unfold execFwSlotBlockWrite
  split <;> simp

/-! #### Meanings of the entropy commands -/

@[simp] theorem State.withEnt_otpTable (s : State) (e : Ent) : (s.withEnt e).lcs.otp = s.lcs.otp := rfl
@[simp] theorem State.ackEnt_otpTable (s : State) (b : Bool) : (s.ackEnt b).lcs.otp = s.lcs.otp := by simp [State.ackEnt]
@[simp] theorem State.checkEntropy_otpTable (s : State) : s.checkEntropy.lcs.otp = s.lcs.otp := by simp [State.checkEntropy]

@[simp] theorem State.disableSource_otpTable (s : State) (b injected : Bool) : (s.disableSource b injected).lcs.otp = s.lcs.otp := by
  simp [State.disableSource]

@[simp] theorem State.sourceFails_otpTable (s : State) (b injected : Bool) : (s.sourceFails b injected).lcs.otp = s.lcs.otp := by
  simp [State.sourceFails]

@[simp] theorem State.healthFails_otpTable (s : State) (b adaptive : Bool) : (s.healthFails b adaptive).lcs.otp = s.lcs.otp := by
  simp [State.healthFails]

@[simp] theorem State.retest_otpTable (s : State) (b passed : Bool) : (s.retest b passed).lcs.otp = s.lcs.otp := by simp [State.retest]

@[simp] theorem State.serveRequest_otpTable (s : State) : s.serveRequest.lcs.otp = s.lcs.otp := by
  unfold State.serveRequest
  (repeat' split) <;> simp

@[simp] theorem State.writeRawCtl_otpTable (s : State) (w : Nat) : (s.writeRawCtl w).lcs.otp = s.lcs.otp := rfl
@[simp] theorem execEntRawCtlWrite_burns (w : Word) (s : State) : BurnsAll s (execEntRawCtlWrite w s) := by simp [execEntRawCtlWrite]

/-! #### Meanings of the Graver commands -/

@[simp] theorem execGraverSlotLoad_burns (c : Fin 18) (s : State) : BurnsAll s (execGraverSlotLoad c s) := by
  unfold execGraverSlotLoad
  dsimp only
  (repeat' split) <;> simp

@[simp] theorem execGraverYieldPoint_burns (c : Fin 18) (ran : Nat) (s : State) : BurnsAll s (execGraverYieldPoint c ran s) := by
  unfold execGraverYieldPoint
  (repeat' split) <;> simp

@[simp] theorem State.ackCores_otpTable (s : State) : s.ackCores.lcs.otp = s.lcs.otp := by simp [State.ackCores]

@[simp] theorem execPublicKeyRegeneration_burns (h : Word) (good : Bool) (s : State) : BurnsAll s (execPublicKeyRegeneration h good s) := by
  unfold execPublicKeyRegeneration
  split <;> simp

@[simp] theorem execDerivationJob_burns (h : Word) (s : State) : BurnsAll s (execDerivationJob h s) := by
  unfold execDerivationJob
  split <;> simp

/-! #### Meanings of the inline handshake -/

@[simp] theorem State.acceptHello_otpTable (s : State) (x : Intake) (policy : Bytes) (v6 : Bool) (p : Path) (c : ClientHello) (share : Nat × Bytes) :
    (s.acceptHello x policy v6 p c share).lcs.otp = s.lcs.otp := by
  simp [State.acceptHello]

@[simp] theorem State.takeHello_otpTable (s : State) (x : Intake) (policy : Bytes) (v6 : Bool) (p : Path) (c : ClientHello) :
    (s.takeHello x policy v6 p c).lcs.otp = s.lcs.otp := by
  unfold State.takeHello
  (repeat' split) <;> simp

@[simp] theorem State.takeIntake_otpTable (s : State) (x : Intake) : (s.takeIntake x).lcs.otp = s.lcs.otp := by
  unfold State.takeIntake
  dsimp only
  (repeat' split) <;> simp

@[simp] theorem execHandshakeIntake_burns (s : State) : BurnsAll s (execHandshakeIntake s) := by
  unfold execHandshakeIntake
  split <;> simp

@[simp] theorem execCookieKeyRotation_burns (s : State) : BurnsAll s (execCookieKeyRotation s) := by
  unfold execCookieKeyRotation
  split <;> simp

@[simp] theorem State.sendFlight_otpTable (s : State) (i : Nat) : (s.sendFlight i).lcs.otp = s.lcs.otp := by
  unfold State.sendFlight
  split <;> simp

@[simp] theorem State.writePending_otpTable (s : State) (h : Nat) (y : Handshake) (suite i : Nat) :
    (s.writePending h y suite i).lcs.otp = s.lcs.otp := by
  unfold State.writePending
  split <;> simp

@[simp] theorem execSessionPending_burns (h : Nat) (suite : BitVec 16) (s : State) : BurnsAll s (execSessionPending h suite s) := by
  unfold execSessionPending
  (repeat' split) <;> simp

@[simp] theorem State.reenter_otpTable (s : State) (i : Nat) (x : Session) : (s.reenter i x).lcs.otp = s.lcs.otp := rfl

@[simp] theorem State.finishEstablish_otpTable (s : State) (i : Nat) : (s.finishEstablish i).lcs.otp = s.lcs.otp := by
  unfold State.finishEstablish
  split <;> simp

@[simp] theorem execSessionEstablished_burns (i : BitVec 24) (s : State) : BurnsAll s (execSessionEstablished i s) := by
  unfold execSessionEstablished
  dsimp only
  split <;> simp

@[simp] theorem State.failHandshake_otpTable (s : State) (i alert : Nat) : (s.failHandshake i alert).lcs.otp = s.lcs.otp := by
  unfold State.failHandshake
  (repeat' split) <;> simp

@[simp] theorem execHandshakeFailed_burns (i : BitVec 24) (alert : Byte) (s : State) : BurnsAll s (execHandshakeFailed i alert s) := by
  unfold execHandshakeFailed
  split <;> simp

/-! #### What waits for the twin and how the wait ends, the loss of the peer, claims and fencing -/

@[simp] theorem State.restoreRecord_otpTable (s : State) (i : ShelfItem) : (s.restoreRecord i).lcs.otp = s.lcs.otp := by
  unfold State.restoreRecord
  dsimp only
  (repeat' split) <;> simp

@[simp] theorem State.twinFails_otpTable (s : State) (j : Nat) : (s.twinFails j).lcs.otp = s.lcs.otp := by
  unfold State.twinFails
  split <;> simp

@[simp] theorem State.ackKeyUpdate_otpTable (s : State) (i : Nat) : (s.ackKeyUpdate i).lcs.otp = s.lcs.otp := by
  unfold State.ackKeyUpdate
  (repeat' split) <;> simp

@[simp] theorem State.rekeyFails_otpTable (s : State) (i : Nat) : (s.rekeyFails i).lcs.otp = s.lcs.otp := by
  unfold State.rekeyFails
  (repeat' split) <;> simp

@[simp] theorem State.waitMet_otpTable (s : State) (w : MirrorWait) : (s.waitMet w).lcs.otp = s.lcs.otp := by
  unfold State.waitMet
  split <;> simp

@[simp] theorem State.keepRoles_otpTable (s : State) (vis : List (Nat × Bool)) : (s.keepRoles vis).lcs.otp = s.lcs.otp :=
  State.otpTable_foldl _ _ _ fun _ _ => rfl

@[simp] theorem State.noteReset_otpTable (s : State) (v : Nat) : (s.noteReset v).lcs.otp = s.lcs.otp := rfl

@[simp] theorem State.waitLost_otpTable (s : State) (w : MirrorWait) : (s.waitLost w).lcs.otp = s.lcs.otp := by
  unfold State.waitLost
  (repeat' split) <;> simp

@[simp] theorem State.waitFenced_otpTable (s : State) (w : MirrorWait) : (s.waitFenced w).lcs.otp = s.lcs.otp := by
  unfold State.waitFenced
  split <;> simp

@[simp] theorem State.endWaits_otpTable (s : State) (f : State → MirrorWait → State) (h : ∀ t m, (f t m).lcs.otp = t.lcs.otp) :
    (s.endWaits f).lcs.otp = s.lcs.otp := by
  unfold State.endWaits
  exact State.otpTable_foldl _ _ _ fun t p => h t p.2

@[simp] theorem State.doubtLeases_otpTable (s : State) : s.doubtLeases.lcs.otp = s.lcs.otp := rfl
@[simp] theorem State.enterLost_otpTable (s : State) : s.enterLost.lcs.otp = s.lcs.otp := by simp [State.enterLost]
@[simp] theorem State.losePeer_otpTable (s : State) : s.losePeer.lcs.otp = s.lcs.otp := by simp [State.losePeer]

@[simp] theorem State.claimWon_otpTable (s : State) : s.claimWon.lcs.otp = s.lcs.otp := by
  unfold State.claimWon
  split <;> simp

@[simp] theorem State.claimLost_otpTable (s : State) : s.claimLost.lcs.otp = s.lcs.otp := by
  unfold State.claimLost
  split <;> simp

@[simp] theorem State.enterFenced_otpTable (s : State) : s.enterFenced.lcs.otp = s.lcs.otp := by simp [State.enterFenced]

@[simp] theorem State.reachPeer_otpTable (s : State) : s.reachPeer.lcs.otp = s.lcs.otp := by
  unfold State.reachPeer
  (repeat' split) <;> simp

@[simp] theorem State.refusedByPeer_otpTable (s : State) : s.refusedByPeer.lcs.otp = s.lcs.otp := by simp [State.refusedByPeer]

/-! #### Meanings of the span link and the heartbeat -/

@[simp] theorem State.realign_otpTable (s : State) : s.realign.lcs.otp = s.lcs.otp := by simp [State.realign]

@[simp] theorem State.spanLaneFails_otpTable (s : State) (l : Nat) (injected : Bool) : (s.spanLaneFails l injected).lcs.otp = s.lcs.otp := by
  simp [State.spanLaneFails]

@[simp] theorem State.spanTagFails_otpTable (s : State) : s.spanTagFails.lcs.otp = s.lcs.otp := by simp [State.spanTagFails]

@[simp] theorem State.resend_otpTable (s : State) (seq : Nat) : (s.resend seq).lcs.otp = s.lcs.otp :=
  State.otpTable_foldl _ _ _ fun _ _ => rfl

@[simp] theorem State.takeFrame_otpTable (s : State) (f : Bytes) : (s.takeFrame f).lcs.otp = s.lcs.otp := by simp [State.takeFrame]

@[simp] theorem execSpanLinkSilence_burns (s : State) : BurnsAll s (execSpanLinkSilence s) := by
  unfold execSpanLinkSilence
  (repeat' split) <;> simp

@[simp] theorem State.heedWord_otpTable (s : State) : s.heedWord.lcs.otp = s.lcs.otp := by simp [State.heedWord]

@[simp] theorem execHeartbeatWordReceive_burns (w : Bytes) (s : State) : BurnsAll s (execHeartbeatWordReceive w s) := by
  unfold execHeartbeatWordReceive
  (repeat' split) <;> simp

@[simp] theorem execHeartbeatSilence_burns (s : State) : BurnsAll s (execHeartbeatSilence s) := by
  unfold execHeartbeatSilence
  (repeat' split) <;> simp

/-! #### Meanings of group 0x0B and of the pairing exchange -/

@[simp] theorem doTwinStatus_otpTable (s : State) (x : Job) : (doTwinStatus s x).1.lcs.otp = s.lcs.otp := rfl

@[simp] theorem execTwinStatus_burns (j : Nat) (s : State) : BurnsAll s (execTwinStatus j s) :=
  BurnsAll.of_eq (State.runJob_otpTable _ _ _ _ fun _ => rfl)

@[simp] theorem doRoleSet_otpTable (s : State) (x : Job) : (doRoleSet s x).1.lcs.otp = s.lcs.otp := by
  unfold doRoleSet
  split <;> simp

@[simp] theorem doTakeover_otpTable (j : Nat) (s : State) (x : Job) : (doTakeover j s x).1.lcs.otp = s.lcs.otp := by
  unfold doTakeover
  dsimp only
  (repeat' split) <;> simp

@[simp] theorem doUnpair_otpTable (s : State) (x : Job) : (doUnpair s x).1.lcs.otp = s.lcs.otp := by
  unfold doUnpair
  (repeat' split) <;> simp

@[simp] theorem State.sendPair_otpTable (s : State) (step : Nat) (source : Bool) (data : Bytes) :
    (s.sendPair step source data).lcs.otp = s.lcs.otp := State.otpTable_foldl _ _ _ fun _ _ => rfl

@[simp] theorem State.pairFails_otpTable (s : State) (p : Pairing) (st det : Nat) : (s.pairFails p st det).lcs.otp = s.lcs.otp := by
  simp [State.pairFails]

@[simp] theorem State.pairInvalid_otpTable (s : State) (p : Pairing) : (s.pairInvalid p).lcs.otp = s.lcs.otp := by simp [State.pairInvalid]
@[simp] theorem State.setPairing_otpTable (s : State) (p : Pairing) : (s.setPairing p).lcs.otp = s.lcs.otp := rfl
@[simp] theorem State.pairDone_otpTable (s : State) (p : Pairing) : (s.pairDone p).lcs.otp = s.lcs.otp := by simp [State.pairDone]
@[simp] theorem State.pairSign_otpTable (s : State) (t : Bytes) : (s.pairSign t).2.lcs.otp = s.lcs.otp := by simp [State.pairSign]

@[simp] theorem State.pairStep_otpTable (s : State) (p : Pairing) (step : Nat) (source : Bool) (data : Bytes) :
    (s.pairStep p step source data).lcs.otp = s.lcs.otp := by
  unfold State.pairStep
  (repeat' split) <;> simp

@[simp] theorem State.takePair_otpTable (s : State) : s.takePair.lcs.otp = s.lcs.otp := by
  unfold State.takePair
  split <;> simp

@[simp] theorem execPairFrame_burns (frame : Bytes) (s : State) : BurnsAll s (execPairFrame frame s) := by
  unfold execPairFrame
  (repeat' split) <;> simp

@[simp] theorem doPair_otpTable (j : Nat) (s : State) (x : Job) : (doPair j s x).1.lcs.otp = s.lcs.otp := by
  unfold doPair
  dsimp only
  (repeat' split) <;> simp

@[simp] theorem execTwinPairTimeout_burns (s : State) : BurnsAll s (execTwinPairTimeout s) := by
  unfold execTwinPairTimeout
  split <;> simp

/-! #### Meanings of the Crosshatch and island commands -/

@[simp] theorem State.settleSplits_otpTable (s : State) : s.settleSplits.lcs.otp = s.lcs.otp := by simp [State.settleSplits]

@[simp] theorem State.noteReport_otpTable (s : State) (source : Nat) (detB : Bool) : (s.noteReport source detB).lcs.otp = s.lcs.otp := by
  simp [State.noteReport]

@[simp] theorem State.aloneLog_otpTable (s : State) (h : XhHit) (resp : Nat) : (s.aloneLog h resp).lcs.otp = s.lcs.otp := rfl
@[simp] theorem State.aloneFire_otpTable (s : State) (h : XhHit) : (s.aloneFire h).lcs.otp = s.lcs.otp := by simp [State.aloneFire]
@[simp] theorem State.eraseRegion_otpTable (s : State) : s.eraseRegion.lcs.otp = s.lcs.otp := rfl

@[simp] theorem State.aloneDecide_otpTable (s : State) (agree : Bool) (h : XhHit) : (s.aloneDecide agree h).lcs.otp = s.lcs.otp := by
  simp [State.aloneDecide]

@[simp] theorem execXhResume_burns (value : Word) (s : State) : BurnsAll s (execXhResume value s) := by simp [execXhResume]

@[simp] theorem execXhSrcCfgWrite_burns (source : Byte) (value : Word) (s : State) : BurnsAll s (execXhSrcCfgWrite source value s) := by
  unfold execXhSrcCfgWrite
  dsimp only
  split <;> simp

@[simp] theorem execXhWarnClear_burns (s : State) : BurnsAll s (execXhWarnClear s) := by simp [execXhWarnClear]
@[simp] theorem execXhLock_burns (s : State) : BurnsAll s (execXhLock s) := by simp [execXhLock]
@[simp] theorem execXhiRtcSecWrite_burns (value : Word) (s : State) : BurnsAll s (execXhiRtcSecWrite value s) := by simp [execXhiRtcSecWrite]
@[simp] theorem execXhiLoopCtlWrite_burns (value : Word) (s : State) : BurnsAll s (execXhiLoopCtlWrite value s) := by simp [execXhiLoopCtlWrite]

/-! #### A report reaches the fault collector and is handled as the table of R669 states -/

@[simp] theorem State.handshakeLost_otpTable (s : State) (h : Nat) : (s.handshakeLost h).lcs.otp = s.lcs.otp := by
  unfold State.handshakeLost
  (repeat' split) <;> simp

@[simp] theorem State.bringPair_otpTable (s : State) : s.bringPair.lcs.otp = s.lcs.otp := by
  unfold State.bringPair
  split <;> simp

@[simp] theorem State.retirePair_otpTable (s : State) (p : Nat) (injected : Bool) : (s.retirePair p injected).lcs.otp = s.lcs.otp := by
  simp [State.retirePair]

@[simp] theorem State.dataLost_otpTable (s : State) (job : Option Nat) : (s.dataLost job).lcs.otp = s.lcs.otp := by
  unfold State.dataLost
  (repeat' split) <;> simp

@[simp] theorem State.tileLost_otpTable (s : State) (h : Nat) : (s.tileLost h).lcs.otp = s.lcs.otp := rfl

@[simp] theorem State.lineLost_otpTable (s : State) (place : FaultPlace) (item job : Option Nat) :
    (s.lineLost place item job).lcs.otp = s.lcs.otp := by
  unfold State.lineLost
  split <;> simp

@[simp] theorem State.retirePage_otpTable (s : State) (page : Nat) (injected : Bool) : (s.retirePage page injected).lcs.otp = s.lcs.otp := by
  simp [State.retirePage]

@[simp] theorem State.storeFails_otpTable (s : State) (p : Nat) (job : Option Nat) : (s.storeFails p job).lcs.otp = s.lcs.otp := by
  unfold State.storeFails
  dsimp only
  (repeat' split) <;> simp

@[simp] theorem State.matrixFails_otpTable (s : State) (p : Nat) (item job : Option Nat) : (s.matrixFails p item job).lcs.otp = s.lcs.otp := by
  unfold State.matrixFails
  dsimp only
  split <;> simp

@[simp] theorem State.parkFails_otpTable (s : State) (p : Nat) (job : Option Nat) : (s.parkFails p job).lcs.otp = s.lcs.otp := by
  unfold State.parkFails
  split <;> simp

@[simp] theorem State.coreInvariant_otpTable (s : State) (c : Nat) (job : Option Nat) (seq : Nat) (injected : Bool) :
    (s.coreInvariant c job seq injected).lcs.otp = s.lcs.otp := by
  unfold State.coreInvariant
  split <;> simp

@[simp] theorem State.handle_otpTable (s : State) (u i cause : Nat) (spot : FaultSpot) (job : Option Nat) (seq : Nat) (injected : Bool) :
    (s.handle u i cause spot job seq injected).lcs.otp = s.lcs.otp := by
  have hshake : ∀ o : Option Nat, (match o with | some h => s.handshakeLost h | none => s).lcs.otp = s.lcs.otp := fun o => by
    cases o <;> simp
  fun_cases State.handle s u i cause spot job seq injected
  case case10 =>
    rw [State.settleDrains_otpTable]
    split
    · split <;> simp
    · simp
  case case14 => exact (State.ackSeq_otpTable ..).trans ((State.retirePage_otpTable ..).trans (State.lineLost_otpTable ..))
  case case15 => exact (State.retirePage_otpTable ..).trans (State.lineLost_otpTable ..)
  case case19 => exact (State.ackSeq_otpTable ..).trans ((State.dataLost_otpTable ..).trans (hshake _))
  case case20 => exact (State.retirePair_otpTable ..).trans (hshake _)
  all_goals simp

@[simp] theorem State.countKind_otpTable (s : State) (u i cause : Nat) (place : FaultPlace) : (s.countKind u i cause place).lcs.otp = s.lcs.otp := by
  simp [State.countKind]

@[simp] theorem State.rowDisabled_otpTable (s : State) (u i : Nat) (place : FaultPlace) (injected : Bool) :
    (s.rowDisabled u i place injected).lcs.otp = s.lcs.otp := by
  simp [State.rowDisabled]

@[simp] theorem State.spareRow_otpTable (s : State) (u i : Nat) (place : FaultPlace) (m row : Nat) (injected : Bool) :
    (s.spareRow u i place m row injected).lcs.otp = s.lcs.otp := by
  simp [State.spareRow]

@[simp] theorem State.noteRow_otpTable (s : State) (u i cause : Nat) (spot : FaultSpot) (scrub injected : Bool) :
    (s.noteRow u i cause spot scrub injected).lcs.otp = s.lcs.otp := by
  unfold State.noteRow
  split <;> simp

/-! #### Meanings of the commands of the fault collector and of maintenance passes -/

@[simp] theorem execEscalationTimeout_burns (s : State) : BurnsAll s (execEscalationTimeout s) := by
  unfold execEscalationTimeout
  split <;> simp

@[simp] theorem execFclAck_burns (value : Word) (s : State) : BurnsAll s (execFclAck value s) := by simp [execFclAck]

@[simp] theorem execFclStickyClear_burns (map : Fin 3) (value : Word) (s : State) : BurnsAll s (execFclStickyClear map value s) := by
  unfold execFclStickyClear
  (repeat' split) <;> simp

@[simp] theorem State.arm_otpTable (s : State) (mode : Nat) (value : Word) : (s.arm mode value).lcs.otp = s.lcs.otp := by simp [State.arm]

@[simp] theorem execFclInjectWriteCheck_burns (value : Word) (s : State) : BurnsAll s (execFclInjectWriteCheck value s) := by
  simp [execFclInjectWriteCheck]

@[simp] theorem execFclInjectReadCheck_burns (value : Word) (s : State) : BurnsAll s (execFclInjectReadCheck value s) := by
  simp [execFclInjectReadCheck]

@[simp] theorem State.passEnds_otpTable (s : State) (a : Nat) : (s.passEnds a).lcs.otp = s.lcs.otp := by simp [State.passEnds]

@[simp] theorem State.selftestDone_otpTable (s : State) (j : Nat) (bad : Bool) : (s.selftestDone j bad).lcs.otp = s.lcs.otp := by
  simp [State.selftestDone]

/-! #### Meanings of the life-cycle commands -/

@[simp] theorem State.askBurn_otpTable (s : State) (j det : Nat) (l : LState) (code : Bytes) (steps : List BurnStep) :
    (s.askBurn j det l code steps).lcs.otp = s.lcs.otp := by
  simp [State.askBurn]

@[simp] theorem execLcsChallenge_burns (j : Nat) (s : State) : BurnsAll s (execLcsChallenge j s) := by
  unfold execLcsChallenge
  split <;> simp

@[simp] theorem State.openDebug_otpTable (s : State) : s.openDebug.lcs.otp = s.lcs.otp := by simp [State.openDebug]
@[simp] theorem State.acceptPermit_otpTable (s : State) (j kind : Nat) : (s.acceptPermit j kind).lcs.otp = s.lcs.otp := by simp [State.acceptPermit]

@[simp] theorem execLcsDrainTimeout_burns (s : State) : BurnsAll s (execLcsDrainTimeout s) := by
  unfold execLcsDrainTimeout
  split <;> simp

@[simp] theorem State.loadIr_otpTable (s : State) (code : Byte) (decoded : Bool) : (s.loadIr code decoded).lcs.otp = s.lcs.otp := rfl

/-! #### The custody card -/

@[simp] theorem State.setRuling_otpTable (s : State) (r : Option (Bytes × Bool)) : (s.setRuling r).lcs.otp = s.lcs.otp := rfl
@[simp] theorem State.setOp_otpTable (s : State) (o : Option CardOp) : (s.setOp o).lcs.otp = s.lcs.otp := rfl

@[simp] theorem State.sendXfer_otpTable (s : State) (o : CardOp) : (s.sendXfer o).lcs.otp = s.lcs.otp := by
  unfold State.sendXfer
  split <;> simp

@[simp] theorem State.beginOp_otpTable (s : State) (o : CardOp) : (s.beginOp o).lcs.otp = s.lcs.otp := by simp [State.beginOp]

@[simp] theorem State.moveRange_otpTable (s : State) (h stop : Nat) : (s.moveRange h stop).lcs.otp = s.lcs.otp := by
  unfold State.moveRange
  (repeat' split) <;> simp

@[simp] theorem State.dropOp_otpTable (s : State) (o : CardOp) : (s.dropOp o).lcs.otp = s.lcs.otp := by simp [State.dropOp]

@[simp] theorem State.failOp_otpTable (s : State) (o : CardOp) (st det : Nat) : (s.failOp o st det).lcs.otp = s.lcs.otp := by
  unfold State.failOp
  split <;> simp

@[simp] theorem State.opRemoved_otpTable (s : State) (o : CardOp) : (s.opRemoved o).lcs.otp = s.lcs.otp := by simp [State.opRemoved]

@[simp] theorem State.beginExport_otpTable (s : State) (key : Bytes) (arg : Nat) : (s.beginExport key arg).lcs.otp = s.lcs.otp := by
  simp [State.beginExport]

@[simp] theorem State.runRestore_otpTable (s : State) (j : Nat) (parts : List RestorePart) (status detail : Nat) :
    (s.runRestore j parts status detail).lcs.otp = s.lcs.otp := by
  simp [State.runRestore]

@[simp] theorem State.restoreRead_otpTable (s : State) (o : CardOp) (j : Nat) (x : Job) : (s.restoreRead o j x).lcs.otp = s.lcs.otp := by
  unfold State.restoreRead
  dsimp only
  (repeat' split) <;> simp

@[simp] theorem State.restoreMarked_otpTable (s : State) (o : CardOp) (j : Nat) (x : Job) : (s.restoreMarked o j x).lcs.otp = s.lcs.otp := by
  simp [State.restoreMarked]

@[simp] theorem State.opDone_otpTable (s : State) (o : CardOp) : (s.opDone o).lcs.otp = s.lcs.otp := by
  unfold State.opDone
  (repeat' split) <;> simp

@[simp] theorem State.xferDone_otpTable (s : State) (o : CardOp) (data : Bytes) : (s.xferDone o data).lcs.otp = s.lcs.otp := by
  unfold State.xferDone
  split <;> simp

@[simp] theorem State.xferFailed_otpTable (s : State) (o : CardOp) : (s.xferFailed o).lcs.otp = s.lcs.otp := by simp [State.xferFailed]

theorem State.opAbort_otpTable {s t : State} {o : CardOp} (h : s.opAbort o = some t) : t.lcs.otp = s.lcs.otp := by
  have hend : ∀ j, ((s.job j).bind (·.abortBy)).map (fun st => (s.dropOp o).abandon j st) = some t → t.lcs.otp = s.lcs.otp := fun j hj => by
    obtain ⟨st, -, rfl⟩ := Option.map_eq_some_iff.mp hj
    exact (State.abandon_otpTable ..).trans (State.dropOp_otpTable ..)
  unfold State.opAbort at h
  split at h
  · exact hend _ h
  · exact hend _ h
  · cases h

/-! #### Officer cards -/

@[simp] theorem State.modOcd_otpTable (s : State) (i : Nat) (f : OcdSlot → OcdSlot) : (s.modOcd i f).lcs.otp = s.lcs.otp := rfl
@[simp] theorem State.setExch_otpTable (s : State) (x : Option Exch) : (s.setExch x).lcs.otp = s.lcs.otp := rfl
@[simp] theorem State.toCard_otpTable (s : State) (x : Exch) (b : Bytes) : (s.toCard x b).lcs.otp = s.lcs.otp := rfl
@[simp] theorem State.sendI_otpTable (s : State) (x : Exch) : (s.sendI x).lcs.otp = s.lcs.otp := rfl
@[simp] theorem State.sendApdu_otpTable (s : State) (x : Exch) (apdu : Bytes) : (s.sendApdu x apdu).lcs.otp = s.lcs.otp := rfl
@[simp] theorem State.sendR_otpTable (s : State) (x : Exch) (err : Nat) : (s.sendR x err).lcs.otp = s.lcs.otp := rfl
@[simp] theorem State.deactivate_otpTable (s : State) (x : Exch) (error : Bool) : (s.deactivate x error).lcs.otp = s.lcs.otp := rfl
@[simp] theorem State.beginExch_otpTable (s : State) (slot job : Nat) (login : Bool) : (s.beginExch slot job login).lcs.otp = s.lcs.otp := rfl
@[simp] theorem State.refuseLogin_otpTable (s : State) (j st det : Nat) : (s.refuseLogin j st det).lcs.otp = s.lcs.otp := by simp [State.refuseLogin]
@[simp] theorem State.readView_otpTable (s : State) (o : CardOp) : (s.readView o).lcs.otp = s.lcs.otp := by simp [State.readView]

@[simp] theorem State.combine_otpTable (s : State) (o : CardOp) : (s.combine o).lcs.otp = s.lcs.otp := by
  unfold State.combine
  dsimp only
  split <;> simp

@[simp] theorem State.nextShare_otpTable (s : State) (o : CardOp) (j : Nat) : (s.nextShare o j).lcs.otp = s.lcs.otp := by
  unfold State.nextShare
  split <;> simp

@[simp] theorem State.shareRead_otpTable (s : State) (x : Exch) (share : Option Bytes) : (s.shareRead x share).lcs.otp = s.lcs.otp := by
  unfold State.shareRead
  dsimp only
  split <;> simp

@[simp] theorem State.exchFails_otpTable (s : State) (x : Exch) (det : Nat) : (s.exchFails x det).lcs.otp = s.lcs.otp := by simp [State.exchFails]
@[simp] theorem State.loggedIn_otpTable (s : State) (x : Exch) : (s.loggedIn x).lcs.otp = s.lcs.otp := by simp [State.loggedIn]

@[simp] theorem State.sendShare_otpTable (s : State) (x : Exch) (p1 : Nat) (pubkey share : Bytes) :
    (s.sendShare x p1 pubkey share).lcs.otp = s.lcs.otp := by
  simp [State.sendShare]

@[simp] theorem State.afterSign_otpTable (s : State) (x : Exch) : (s.afterSign x).lcs.otp = s.lcs.otp := by
  unfold State.afterSign
  dsimp only
  split <;> simp

@[simp] theorem State.shareDelivered_otpTable (s : State) (i : Nat) : (s.shareDelivered i).lcs.otp = s.lcs.otp := by
  unfold State.shareDelivered
  dsimp only
  split <;> simp

@[simp] theorem State.answered_otpTable (s : State) (x : Exch) (data : Bytes) (sw : Nat) : (s.answered x data sw).lcs.otp = s.lcs.otp := by
  unfold State.answered
  split <;> simp

@[simp] theorem State.announce_otpTable (s : State) (x : Exch) : (s.announce x).lcs.otp = s.lcs.otp := rfl
@[simp] theorem State.t1Error_otpTable (s : State) (x : Exch) (err : Nat) : (s.t1Error x err).lcs.otp = s.lcs.otp := by simp [State.t1Error]

@[simp] theorem State.t1Take_otpTable (s : State) (x : Exch) (pcb : Nat) (inf : Bytes) : (s.t1Take x pcb inf).lcs.otp = s.lcs.otp := by
  unfold State.t1Take
  (repeat' split) <;> simp

@[simp] theorem State.takeAtr_otpTable (s : State) (x : Exch) (classB again : Bool) (b : Bytes) :
    (s.takeAtr x classB again b).lcs.otp = s.lcs.otp := by
  simp [State.takeAtr]

@[simp] theorem State.ppsRejected_otpTable (s : State) (x : Exch) : (s.ppsRejected x).lcs.otp = s.lcs.otp := rfl

@[simp] theorem State.cardBlock_otpTable (s : State) (x : Exch) (b : Bytes) : (s.cardBlock x b).lcs.otp = s.lcs.otp := by
  unfold State.cardBlock
  split <;> simp

@[simp] theorem State.cardSilent_otpTable (s : State) (x : Exch) : (s.cardSilent x).lcs.otp = s.lcs.otp := by
  unfold State.cardSilent
  split <;> simp

@[simp] theorem State.officerCardGone_otpTable (s : State) (i : Nat) : (s.officerCardGone i).lcs.otp = s.lcs.otp := by
  unfold State.officerCardGone
  dsimp only
  (repeat' split) <;> simp

@[simp] theorem State.cardGone_otpTable (s : State) : s.cardGone.lcs.otp = s.lcs.otp := by
  unfold State.cardGone
  split <;> simp

@[simp] theorem State.custodyOff_otpTable (s : State) : s.custodyOff.lcs.otp = s.lcs.otp := by simp [State.custodyOff]

/-! #### Meanings of group 0x0A, ARCHIVE_EXPORT and the events of the custody interfaces -/

@[simp] theorem execArchiveScan_burns (j : Nat) (s : State) : BurnsAll s (execArchiveScan j s) := by
  unfold execArchiveScan
  (repeat' split) <;> simp

@[simp] theorem execArchiveRestore_burns (j : Nat) (s : State) : BurnsAll s (execArchiveRestore j s) := by
  unfold execArchiveRestore
  (repeat' split) <;> simp

@[simp] theorem execArchiveExport_burns (s : State) : BurnsAll s (execArchiveExport s) := by
  unfold execArchiveExport
  (repeat' split) <;> simp

@[simp] theorem State.onCard_otpTable (s : State) (f : CardOp → State) (h : ∀ o, (f o).lcs.otp = s.lcs.otp) : (s.onCard f).lcs.otp = s.lcs.otp := by
  unfold State.onCard
  split
  · rfl
  · split
    · rename_i ha; exact State.opAbort_otpTable ha
    · split <;> simp [h]

@[simp] theorem execSdTransferEnd_burns (ended : XferEnd) (data : Bytes) (s : State) : BurnsAll s (execSdTransferEnd ended data s) :=
  BurnsAll.of_eq (State.onCard_otpTable _ _ fun _ => by split <;> simp)

@[simp] theorem execSdResponseTimeout_burns (s : State) : BurnsAll s (execSdResponseTimeout s) :=
  BurnsAll.of_eq (State.onCard_otpTable _ _ fun _ => by simp)

@[simp] theorem execSdBusyTimeout_burns (s : State) : BurnsAll s (execSdBusyTimeout s) :=
  BurnsAll.of_eq (State.onCard_otpTable _ _ fun _ => by split <;> simp)

@[simp] theorem execOfficerLogin_burns (j : Nat) (present : BitVec 8) (s : State) : BurnsAll s (execOfficerLogin j present s) := by
  unfold execOfficerLogin
  dsimp only
  (repeat' split) <;> simp

@[simp] theorem State.onExch_otpTable (s : State) (f : Exch → State) (h : ∀ x, (f x).lcs.otp = s.lcs.otp) : (s.onExch f).lcs.otp = s.lcs.otp := by
  unfold State.onExch
  split
  · rfl
  · split
    · dsimp only; split <;> simp
    · exact h _

@[simp] theorem execT1BlockReceive_burns (block : Bytes) (s : State) : BurnsAll s (execT1BlockReceive block s) :=
  BurnsAll.of_eq (State.onExch_otpTable _ _ fun _ => by simp)

@[simp] theorem execT1BlockTimeout_burns (s : State) : BurnsAll s (execT1BlockTimeout s) :=
  BurnsAll.of_eq (State.onExch_otpTable _ _ fun _ => by simp)

@[simp] theorem State.archiveSplit_otpTable (s : State) (b : Bytes) : (s.archiveSplit b).1.lcs.otp = s.lcs.otp := by
  unfold State.archiveSplit
  split <;> simp

@[simp] theorem doQuorumSet_otpTable (s : State) (x : Job) : (doQuorumSet s x).1.lcs.otp = s.lcs.otp := by
  unfold doQuorumSet
  dsimp only
  (repeat' split) <;> simp

/-! #### Impressions -/

@[simp] theorem State.runImpression_otpTable (s : State) (j op : Nat) (sound keyed : Bool) :
    (s.runImpression j op sound keyed).lcs.otp = s.lcs.otp := by
  unfold State.runImpression
  split <;> simp

theorem execImpressionChain_burns (j : Nat) (s : State) : BurnsAll s (execImpressionChain j s) :=
  BurnsAll.of_eq (State.runJob_otpTable _ _ _ _ fun x => by split <;> rfl)

/-! #### The SPDM responder on the PF's DOE mailbox -/

@[simp] theorem State.withDoe_otpTable (s : State) (d : Doe) : (s.withDoe d).lcs.otp = s.lcs.otp := rfl
@[simp] theorem State.spdmError_otpTable (s : State) (code : Nat) : (s.spdmError code).lcs.otp = s.lcs.otp := rfl

@[simp] theorem State.spdm_otpTable (s : State) (code n : Nat) (r : Bytes) (f : State → State) (h : (f s).lcs.otp = s.lcs.otp) :
    (s.spdm code n r f).lcs.otp = s.lcs.otp := by
  simp [State.spdm, h]

@[simp] theorem State.certReply_otpTable (s : State) (r m : Bytes) : (s.certReply r m).lcs.otp = s.lcs.otp := rfl
@[simp] theorem execGetDigests_burns (r : Bytes) (s : State) : BurnsAll s (execGetDigests r s) := BurnsAll.of_eq (State.spdm_otpTable _ _ _ _ _ rfl)
@[simp] theorem State.signRefused_otpTable (s : State) : s.signRefused.lcs.otp = s.lcs.otp := rfl

theorem execChallenge_burns (r : Bytes) (s : State) : BurnsAll s (execChallenge r s) :=
  BurnsAll.of_eq (State.spdm_otpTable _ _ _ _ _ (by dsimp only; (repeat' split) <;> simp))

theorem execKeyExchange_burns (r : Bytes) (s : State) : BurnsAll s (execKeyExchange r s) :=
  BurnsAll.of_eq (State.spdm_otpTable _ _ _ _ _ (by dsimp only; (repeat' split) <;> simp))

@[simp] theorem State.inSession_otpTable (s : State) (k : Nat) (opened : Bool) (f : State → SpdmSession → State)
    (h : ∀ t x, (f t x).lcs.otp = t.lcs.otp) : (s.inSession k opened f).lcs.otp = s.lcs.otp := by
  unfold State.inSession
  split
  · rfl
  · split
    · simp
    · split <;> simp [h]

@[simp] theorem State.putSpdm_otpTable (s : State) (k : Nat) (x : SpdmSession) : (s.putSpdm k x).lcs.otp = s.lcs.otp := rfl
@[simp] theorem State.dropSpdm_otpTable (s : State) (k : Nat) : (s.dropSpdm k).lcs.otp = s.lcs.otp := rfl
@[simp] theorem State.answer_otpTable (s : State) (k : Nat) (l : List Nat) : (s.answer k l).lcs.otp = s.lcs.otp := rfl

@[simp] theorem execHeartbeat_burns (k : Nat) (s : State) : BurnsAll s (execHeartbeat k s) :=
  BurnsAll.of_eq (State.inSession_otpTable _ _ _ _ fun _ _ => rfl)

@[simp] theorem execEndSession_burns (k : Nat) (s : State) : BurnsAll s (execEndSession k s) :=
  BurnsAll.of_eq (State.inSession_otpTable _ _ _ _ fun _ _ => rfl)

/-! #### Meanings of group 0x02 -/

@[simp] theorem State.burinTestFails_otpTable (s : State) (j : Nat) : (s.burinTestFails j).lcs.otp = s.lcs.otp := by
  unfold State.burinTestFails
  split <;> simp

@[simp] theorem genKem_otpTable (s : State) (x : Job) : (genKem s x).1.lcs.otp = s.lcs.otp := by simp [genKem]

@[simp] theorem execKemKeygen_burns (j : Nat) (sound core : Bool) (s : State) : BurnsAll s (execKemKeygen j sound core s) := by
  unfold execKemKeygen
  split <;> simp

@[simp] theorem doEncaps_otpTable (s : State) (x : Job) : (doEncaps s x).1.lcs.otp = s.lcs.otp := by
  unfold doEncaps
  dsimp only
  (repeat' split) <;> simp

@[simp] theorem execKemEncaps_burns (j : Nat) (sound : Bool) (s : State) : BurnsAll s (execKemEncaps j sound s) := by
  unfold execKemEncaps
  split <;> simp

@[simp] theorem State.countDummy_otpTable (s : State) (alg : Nat) (peer : Bytes) : (s.countDummy alg peer).lcs.otp = s.lcs.otp := by
  simp [State.countDummy]

@[simp] theorem doDecaps_otpTable (s : State) (x : Job) : (doDecaps s x).1.lcs.otp = s.lcs.otp := by
  unfold doDecaps
  dsimp only
  (repeat' split) <;> simp

@[simp] theorem execKemDecaps_burns (j : Nat) (sound : Bool) (s : State) : BurnsAll s (execKemDecaps j sound s) := by
  unfold execKemDecaps
  split <;> simp

@[simp] theorem doPin_otpTable (s : State) (x : Job) : (doPin s x).1.lcs.otp = s.lcs.otp := by
  unfold doPin
  dsimp only
  split <;> simp

@[simp] theorem doKex_otpTable (s : State) (x : Job) : (doKex s x).1.lcs.otp = s.lcs.otp := by
  unfold doKex
  dsimp only
  split <;> simp

/-! #### Meanings of group 0x08 -/

@[simp] theorem doMaintStart_otpTable (s : State) (x : Job) : (doMaintStart s x).1.lcs.otp = s.lcs.otp := by
  unfold doMaintStart
  dsimp only
  split <;> simp

@[simp] theorem State.selftestStopped_otpTable (s : State) (j : Nat) : (s.selftestStopped j).lcs.otp = s.lcs.otp := by simp [State.selftestStopped]

@[simp] theorem State.stopAct_otpTable (s : State) (a : Nat) : (s.stopAct a).lcs.otp = s.lcs.otp := by
  unfold State.stopAct
  split <;> simp

@[simp] theorem doMaintStop_otpTable (s : State) (x : Job) : (doMaintStop s x).1.lcs.otp = s.lcs.otp := by
  unfold doMaintStop
  dsimp only
  (repeat' split) <;> simp

@[simp] theorem execMaintStop_burns (j : Nat) (s : State) : BurnsAll s (execMaintStop j s) :=
  BurnsAll.of_eq (State.runAction_otpTable _ _ _ _ fun _ => by simp)

@[simp] theorem doSelftest_otpTable (j : Nat) (failed : BitVec 8) (kat : BitVec 16) (s : State) (x : Job) :
    (doSelftest j failed kat s x).1.lcs.otp = s.lcs.otp := by
  unfold doSelftest
  dsimp only
  (repeat' split) <;> simp

/-! #### Meanings of mirror messages, acknowledgements and their timeouts, and the end of a synchronisation -/

@[simp] theorem State.takeKey_otpTable (s : State) (h : Word) (alg modBits : Nat) (attr : Word) (kgen : Nat) (value pub nonceField : Bytes)
    (isPrivate : Bool) :
    (s.takeKey h alg modBits attr kgen value pub nonceField isPrivate).lcs.otp = s.lcs.otp := by
  simp [State.takeKey]

@[simp] theorem State.takeDestroy_otpTable (s : State) (h : Nat) : (s.takeDestroy h).lcs.otp = s.lcs.otp := by
  unfold State.takeDestroy
  split <;> simp

@[simp] theorem State.takeCounter_otpTable (s : State) (h e r : Nat) : (s.takeCounter h e r).lcs.otp = s.lcs.otp := rfl
@[simp] theorem State.takeWindow_otpTable (s : State) (i top window : Nat) : (s.takeWindow i top window).lcs.otp = s.lcs.otp := rfl
@[simp] theorem State.takeLease_otpTable (s : State) (i e : Nat) : (s.takeLease i e).lcs.otp = s.lcs.otp := rfl
@[simp] theorem State.takeCheckpoint_otpTable (s : State) (i n : Nat) : (s.takeCheckpoint i n).lcs.otp = s.lcs.otp := rfl
@[simp] theorem State.takeSessionKeys_otpTable (s : State) (i : Nat) (entry : Bytes) : (s.takeSessionKeys i entry).lcs.otp = s.lcs.otp := rfl

@[simp] theorem State.takeIndexLease_otpTable (s : State) (h first stop : Nat) : (s.takeIndexLease h first stop).lcs.otp = s.lcs.otp := by
  unfold State.takeIndexLease
  split <;> simp

@[simp] theorem State.takeRange_otpTable (s : State) (h set total first stop : Nat) : (s.takeRange h set total first stop).lcs.otp = s.lcs.otp := by
  unfold State.takeRange
  (repeat' split) <;> simp

@[simp] theorem State.takeItem_otpTable (s : State) (i : MirrorItem) : (s.takeItem i).lcs.otp = s.lcs.otp := by
  unfold State.takeItem
  split <;> simp

@[simp] theorem State.takeRolesIn_otpTable (s : State) (id : Nat) (items : List MirrorItem) : (s.takeRolesIn id items).lcs.otp = s.lcs.otp := by
  have hroles : ∀ (l : List (Nat × Bool)) (p : Bool) (t : State), (l.foldl (fun t v => t.handRole v.1 p (some v.2)) t).lcs.otp = t.lcs.otp :=
    fun l p t => State.otpTable_foldl _ _ _ fun t v => State.handRole_otpTable ..
  unfold State.takeRolesIn
  dsimp only
  split
  · rw [State.mirrorAck_otpTable, hroles, hroles]
  · rw [State.settleDrains_otpTable]
    show (List.foldl _ (List.foldl _ (List.foldl _ s _) _) _).lcs.otp = s.lcs.otp
    rw [State.otpTable_foldl, hroles, hroles]
    exact fun _ _ => rfl

@[simp] theorem execMirrorAckReceive_burns (id : Nat) (s : State) : BurnsAll s (execMirrorAckReceive id s) := by
  unfold execMirrorAckReceive
  (repeat' split) <;> simp

@[simp] theorem State.waitTimesOut_otpTable (s : State) (id : Nat) (w : MirrorWait) : (s.waitTimesOut id w).lcs.otp = s.lcs.otp := by
  unfold State.waitTimesOut
  split <;> simp

@[simp] theorem execMirrorWaitTimeout_burns (id : Nat) (s : State) : BurnsAll s (execMirrorWaitTimeout id s) := by
  unfold execMirrorWaitTimeout
  split <;> simp

@[simp] theorem State.dropOwn_otpTable (s : State) : s.dropOwn.lcs.otp = s.lcs.otp := by simp [State.dropOwn]
@[simp] theorem State.inStepNow_otpTable (s : State) : s.inStepNow.lcs.otp = s.lcs.otp := by simp [State.inStepNow]

/-! #### The Tollhouse -/

@[simp] theorem State.countMs_otpTable (s : State) (on : Bool) (n reg : Nat) : (s.countMs on n reg).2.lcs.otp = s.lcs.otp := by
  unfold State.countMs
  (repeat' split) <;> simp

@[simp] theorem State.writeRw_otpTable (s : State) (a w : Nat) : (s.writeRw a w).lcs.otp = s.lcs.otp := rfl
@[simp] theorem execTolBudgetWrite_burns (value : Word) (s : State) : BurnsAll s (execTolBudgetWrite value s) := by simp [execTolBudgetWrite]
@[simp] theorem execTolShareWrite_burns (value : Word) (s : State) : BurnsAll s (execTolShareWrite value s) := by simp [execTolShareWrite]
@[simp] theorem execTolPdReqWrite_burns (value : Word) (s : State) : BurnsAll s (execTolPdReqWrite value s) := by simp [execTolPdReqWrite]
@[simp] theorem State.resetRegs_otpTable (s : State) (a n : Nat) : (s.resetRegs a n).lcs.otp = s.lcs.otp := rfl

@[simp] theorem State.pdLost_otpTable (s : State) (d : Nat) : (s.pdLost d).lcs.otp = s.lcs.otp := by
  unfold State.pdLost
  split
  · rw [State.resetRegs_otpTable, State.setPort_lcs, State.otpTable_foldl]
    exact fun t k => State.linkFalls_otpTable ..
  · split
    · rfl
    · split
      · exact State.custodyOff_otpTable s
      · split
        · rw [State.resetRegs_otpTable, State.modPier_lcs, State.otpTable_foldl]
          intro t b
          rw [State.modBurin_lcs, State.unask_otpTable, State.releaseToken_otpTable]
        · split
          · rw [State.otpTable_foldl]
            intro t l
            rw [State.modLane_lcs, State.unask_otpTable, State.releaseToken_otpTable]
          · rfl

@[simp] theorem State.pdGained_otpTable (s : State) (d : Nat) : (s.pdGained d).lcs.otp = s.lcs.otp := by
  unfold State.pdGained
  split
  · simp
  · split
    · exact State.otpTable_foldl _ _ _ fun _ _ => rfl
    · split
      · exact State.otpTable_foldl _ _ _ fun _ _ => rfl
      · rfl

@[simp] theorem execCsnCtlWrite_burns (value : Word) (s : State) : BurnsAll s (execCsnCtlWrite value s) := by simp [execCsnCtlWrite]

@[simp] theorem State.retirePredicted_otpTable (s : State) (source : Nat) : (s.retirePredicted source).lcs.otp = s.lcs.otp := by
  simp [State.retirePredicted]

@[simp] theorem State.readSentinels_otpTable (s : State) (low : List Nat) : (s.readSentinels low).lcs.otp = s.lcs.otp := by simp [State.readSentinels]
@[simp] theorem State.askMv_otpTable (s : State) (mv : Nat) : (s.askMv mv).lcs.otp = s.lcs.otp := rfl

@[simp] theorem execAvsAck_burns (s : State) : BurnsAll s (execAvsAck s) := by
  unfold execAvsAck
  split <;> simp

@[simp] theorem execAvsRetry_burns (s : State) : BurnsAll s (execAvsRetry s) := by
  unfold execAvsRetry
  split <;> simp

@[simp] theorem State.smbus_otpTable (s : State) (b : Bytes) : (s.smbus b).lcs.otp = s.lcs.otp := by simp [State.smbus]

/-! #### Power, main reset and the ROM's part of the start-up -/

@[simp] theorem State.islandLost_otpTable (s : State) : s.islandLost.lcs.otp = s.lcs.otp := rfl
@[simp] theorem State.railFires_otpTable (s : State) (id : Nat) : (s.railFires id).lcs.otp = s.lcs.otp := by simp [State.railFires]
@[simp] theorem State.toRomBoot_otpTable (s : State) : s.toRomBoot.lcs.otp = s.lcs.otp := by simp [State.toRomBoot]
@[simp] theorem State.runDeferred_otpTable (s : State) (d : Deferred) : (s.runDeferred d).lcs.otp = s.lcs.otp := by simp [State.runDeferred]

@[simp] theorem State.deferredStep_otpTable (s : State) : s.deferredStep.lcs.otp = s.lcs.otp := by
  unfold State.deferredStep
  split <;> simp

@[simp] theorem State.dutyDrf_otpTable (s : State) (retired : Nat) : (s.dutyDrf retired).lcs.otp = s.lcs.otp := rfl
@[simp] theorem State.mapRows_otpTable (s : State) : s.mapRows.lcs.otp = s.lcs.otp := by simp [State.mapRows]

@[simp] theorem State.readFlash_otpTable (s : State) : s.readFlash.lcs.otp = s.lcs.otp := by
  unfold State.readFlash
  (repeat' split) <;> simp

/-! #### Register accesses -/

@[simp] theorem State.afterRegRead_otpTable (s : State) (a : Nat) : (s.afterRegRead a).lcs.otp = s.lcs.otp := by simp [State.afterRegRead]
@[simp] theorem State.afterBar0Read_otpTable (s : State) (a : Nat) : (s.afterBar0Read a).lcs.otp = s.lcs.otp := by simp [State.afterBar0Read]

@[simp] theorem State.afterWindowRead_otpTable (s : State) (v o : Nat) : (s.afterWindowRead v o).lcs.otp = s.lcs.otp := by
  unfold State.afterWindowRead
  (repeat' split) <;> simp

@[simp] theorem execRcRead_burns (acc : RegAccess) (s : State) : BurnsAll s (execRcRead acc s) := by
  unfold execRcRead
  (repeat' split) <;> simp

@[simp] theorem State.writeAvs_otpTable (s : State) (w : Nat) : (s.writeAvs w).lcs.otp = s.lcs.otp := by simp [State.writeAvs]
@[simp] theorem State.writeRaise_otpTable (s : State) (w : Nat) : (s.writeRaise w).lcs.otp = s.lcs.otp := rfl

theorem writeXhStatus_burns (w : Word) (s : State) : BurnsAll s (writeXhStatus w s) := by
  have hw : BurnsAll s (if w.getLsbD 28 then execXhWarnClear s else .next s) := by
    split
    · exact execXhWarnClear_burns s
    · simp
  unfold writeXhStatus
  split
  · rename_i t ht
    split
    · exact fun u hu => (hw t ht).trans (execXhLock_burns t u hu)
    · exact fun u hu => by cases hu; exact hw t ht
  · exact hw

@[simp] theorem writePort_burns (p : Fin 2) (o : Nat) (w : Word) (s : State) : BurnsAll s (writePort p o w s) := by
  unfold writePort
  dsimp only
  (repeat' split) <;> simp

theorem writeLpt_burns (o : Nat) (w : Word) (s : State) : BurnsAll s (writeLpt o w s) := by
  unfold writeLpt
  (repeat' split) <;> simp

@[simp] theorem State.writeSpn_otpTable (s : State) (o : Nat) (w : Word) : (s.writeSpn o w).lcs.otp = s.lcs.otp := by simp [State.writeSpn]

@[simp] theorem writeTol_burns (o : Nat) (w : Word) (s : State) : BurnsAll s (writeTol o w s) := by
  unfold writeTol
  split <;> simp

@[simp] theorem State.writeRing_otpTable (s : State) (v : Nat) (id : RingId) (o : Nat) (w : Word) : (s.writeRing v id o w).lcs.otp = s.lcs.otp := by
  have hw : ∀ (c : Prop) [Decidable c] r, (if c then s else s.setRing v id.key r).lcs.otp = s.lcs.otp := fun c _ r => by
    split <;> rfl
  unfold State.writeRing
  dsimp only
  split
  · rfl
  · split
    case h_5 => simp
    case h_6 => rfl
    case h_7 => rfl
    all_goals exact hw ..

@[simp] theorem State.writeBell_otpTable (s : State) (v o : Nat) (w : Word) : (s.writeBell v o w).lcs.otp = s.lcs.otp := by simp [State.writeBell]

@[simp] theorem State.dgeDo_otpTable (s : State) (v c cmd : Nat) : (s.dgeDo v c cmd).lcs.otp = s.lcs.otp := by
  unfold State.dgeDo
  split
  case h_1 => split <;> simp
  case h_9 => rfl
  all_goals exact State.dgeCmd_otpTable _ _ _ _ fun x => by simp

@[simp] theorem State.writeDge_otpTable (s : State) (v c o : Nat) (w : Word) : (s.writeDge v c o w).lcs.otp = s.lcs.otp := by
  have hset : ∀ f : DgeCtx → DgeCtx, (s.dgeCmd v c (fun t x => t.setDgeCtx c (f x))).lcs.otp = s.lcs.otp :=
    fun f => State.dgeCmd_otpTable _ _ _ _ fun x => State.setDgeCtx_lcs s c (f x) ▸ rfl
  unfold State.writeDge
  dsimp only
  split
  case h_1 => exact (State.dgeDo_otpTable ..).trans (hset _)
  case h_6 => exact State.dgeCmd_otpTable _ _ _ _ fun x => State.dgeData_otpTable ..
  case h_10 => rfl
  all_goals exact hset _

@[simp] theorem State.writeMsix_otpTable (s : State) (v i : Nat) (w : Word) : (s.writeMsix v i w).lcs.otp = s.lcs.otp := by simp [State.writeMsix]

@[simp] theorem State.writeInstance_otpTable (s : State) (v o : Nat) (w : Word) : (s.writeInstance v o w).lcs.otp = s.lcs.otp := by
  unfold State.writeInstance
  (repeat' split) <;> simp

@[simp] theorem State.scanTarget_otpTable (s : State) (hi : Bool) (w : Word) : (s.scanTarget hi w).lcs.otp = s.lcs.otp := by simp [State.scanTarget]

/-! #### The host interface's own opcodes, input from host memory, and the writing of replies -/

@[simp] theorem execAbort_burns (j : Nat) (s : State) : BurnsAll s (execAbort j s) := by
  unfold execAbort
  (repeat' split) <;> simp

@[simp] theorem State.checkStaged_otpTable (s : State) (j : Nat) : (s.checkStaged j).lcs.otp = s.lcs.otp := by
  unfold State.checkStaged
  (repeat' split) <;> simp

@[simp] theorem execHostReadCompletion_burns (j : Nat) (o : ReadOutcome) (s : State) : BurnsAll s (execHostReadCompletion j o s) := by
  unfold execHostReadCompletion
  (repeat' split) <;> simp

@[simp] theorem State.writeOutputs_otpTable (s : State) (v : Nat) (l : List (Nat × Bytes)) : (s.writeOutputs v l).lcs.otp = s.lcs.otp := by
  simp [State.writeOutputs]

@[simp] theorem State.sendReply_otpTable (s : State) (r : Reply) : (s.sendReply r).lcs.otp = s.lcs.otp := by simp [State.sendReply]

@[simp] theorem execReplyWrite_burns (v : Fin 256) (k : Fin 16) (s : State) : BurnsAll s (execReplyWrite v k s) := by
  unfold execReplyWrite
  (repeat' split) <;> simp

/-! #### Meanings of the session and flow-rule opcodes -/

@[simp] theorem doPolicySet_otpTable (s : State) (x : Job) : (doPolicySet s x).1.lcs.otp = s.lcs.otp := by
  unfold doPolicySet
  split <;> simp

@[simp] theorem doInstall_otpTable (j : Nat) (s : State) (x : Job) : (doInstall j s x).1.lcs.otp = s.lcs.otp := by
  unfold doInstall
  dsimp only
  (repeat' split) <;> simp

@[simp] theorem doRekey_otpTable (j : Nat) (s : State) (x : Job) : (doRekey j s x).1.lcs.otp = s.lcs.otp := by
  unfold doRekey
  dsimp only
  (repeat' split) <;> simp

@[simp] theorem doRemove_otpTable (s : State) (x : Job) : (doRemove s x).1.lcs.otp = s.lcs.otp := by
  unfold doRemove
  split <;> simp

@[simp] theorem doQuery_otpTable (s : State) (x : Job) : (doQuery s x).1.lcs.otp = s.lcs.otp := by
  unfold doQuery
  split <;> simp

@[simp] theorem doRuleSet_otpTable (s : State) (x : Job) : (doRuleSet s x).1.lcs.otp = s.lcs.otp := by
  unfold doRuleSet
  split <;> simp

/-! #### Meanings of group 0x03 and of the lease commands -/

@[simp] theorem execSigKeygen_burns (j : Nat) (sound : Bool) (s : State) : BurnsAll s (execSigKeygen j sound s) := by
  unfold execSigKeygen
  split <;> simp

@[simp] theorem doSign_otpTable (pre : Bool) (s : State) (x : Job) : (doSign pre s x).1.lcs.otp = s.lcs.otp := by
  unfold doSign
  dsimp only
  (repeat' split) <;> simp

@[simp] theorem State.signJob_otpTable (s : State) (j op : Nat) (pre sound : Bool) : (s.signJob j op pre sound).lcs.otp = s.lcs.otp := by
  unfold State.signJob
  split
  · simp
  · split
    · exact State.runBurin_otpTable _ _ _ _ fun y => by split <;> simp
    · exact State.runGraver_otpTable _ _ _ _ _ fun y => doSign_otpTable ..

@[simp] theorem doVerify_otpTable (s : State) (x : Job) : (doVerify s x).1.lcs.otp = s.lcs.otp := by
  unfold doVerify
  dsimp only
  split <;> simp

@[simp] theorem execSigVerify_burns (j : Nat) (sound : Bool) (s : State) : BurnsAll s (execSigVerify j sound s) := by
  unfold execSigVerify
  split <;> simp

@[simp] theorem doLeaseQuery_otpTable (s : State) (x : Job) : (doLeaseQuery s x).1.lcs.otp = s.lcs.otp := by
  unfold doLeaseQuery
  split <;> simp

@[simp] theorem State.grantLease_otpTable (s : State) (h : Nat) (k : KeyRec) (t : Stateful) (programmed : Bool) :
    (s.grantLease h k t programmed).lcs.otp = s.lcs.otp := by
  simp [State.grantLease]

@[simp] theorem execHbsLeaseGrant_burns (h : Word) (programmed : Bool) (s : State) : BurnsAll s (execHbsLeaseGrant h programmed s) := by
  unfold execHbsLeaseGrant
  (repeat' split) <;> simp

@[simp] theorem execLeaseLogErase_burns (i : Nat) (good : Bool) (s : State) : BurnsAll s (execLeaseLogErase i good s) := by
  unfold execLeaseLogErase
  dsimp only
  split <;> simp

@[simp] theorem execLeaseWaitTimeout_burns (j : Nat) (s : State) : BurnsAll s (execLeaseWaitTimeout j s) := by
  unfold execLeaseWaitTimeout
  (repeat' split) <;> simp

/-! #### FW_VERIFY and POST -/

@[simp] theorem State.assignDuty_otpTable (s : State) : s.assignDuty.lcs.otp = s.lcs.otp := rfl

@[simp] theorem execFirmwareVerified_burns (s : State) : BurnsAll s (execFirmwareVerified s) := by
  unfold execFirmwareVerified
  dsimp only
  (repeat' split) <;> simp

@[simp] theorem State.testFails_otpTable (s : State) (source : Nat) : (s.testFails source).lcs.otp = s.lcs.otp := by simp [State.testFails]
@[simp] theorem State.fillPools_otpTable (s : State) : s.fillPools.lcs.otp = s.lcs.otp := rfl
@[simp] theorem State.ackPool_otpTable (s : State) (source : Nat) : (s.ackPool source).lcs.otp = s.lcs.otp := by simp [State.ackPool]

@[simp] theorem State.testStipple_otpTable (s : State) (passed : BitVec 8) : (s.testStipple passed).lcs.otp = s.lcs.otp :=
  State.otpTable_foldl _ _ _ fun _ _ => by simp

@[simp] theorem State.repairPages_otpTable (s : State) (pages : List (Nat × BitVec 28)) : (s.repairPages pages).lcs.otp = s.lcs.otp := by
  simp [State.repairPages]

@[simp] theorem State.testUnits_otpTable (s : State) (units : List (BitVec 16)) (stipple : BitVec 8) (pages : List (Nat × BitVec 28)) :
    (s.testUnits units stipple pages).lcs.otp = s.lcs.otp := by
  simp [State.testUnits]

@[simp] theorem State.startEntropy_otpTable (s : State) : s.startEntropy.lcs.otp = s.lcs.otp := by simp [State.startEntropy]
@[simp] theorem State.identity_otpTable (s : State) (seed : Bytes) : (s.identity seed).lcs.otp = s.lcs.otp := by simp [State.identity]

@[simp] theorem State.loadAnchors_otpTable (s : State) : s.loadAnchors.lcs.otp = s.lcs.otp := by
  unfold State.loadAnchors
  split <;> simp

@[simp] theorem State.checkAnchors_otpTable (s : State) : s.checkAnchors.lcs.otp = s.lcs.otp := by simp [State.checkAnchors]

@[simp] theorem State.loadShelf_otpTable (s : State) : s.loadShelf.lcs.otp = s.lcs.otp := by
  unfold State.loadShelf
  split
  · rfl
  · refine (State.evict_otpTable ..).trans (State.otpTable_foldl _ _ _ fun t r => ?_)
    split
    · rfl
    · dsimp only
      split <;> split <;> simp

@[simp] theorem State.loadPairing_otpTable (s : State) : s.loadPairing.lcs.otp = s.lcs.otp := by
  unfold State.loadPairing
  split <;> simp

@[simp] theorem State.rejoin_otpTable (s : State) : s.rejoin.lcs.otp = s.lcs.otp := by simp [State.rejoin]
@[simp] theorem State.drawCookieKey_otpTable (s : State) : s.drawCookieKey.lcs.otp = s.lcs.otp := by simp [State.drawCookieKey]

@[simp] theorem State.loadEdition_otpTable (s : State) : s.loadEdition.lcs.otp = s.lcs.otp := by
  unfold State.loadEdition
  split
  · rfl
  · dsimp only
    split <;> simp

@[simp] theorem State.startPatrols_otpTable (s : State) : s.startPatrols.lcs.otp = s.lcs.otp := rfl

theorem State.postStep_cases (s : State) (f : State → State) : s.postStep f = f s ∨ s.postStep f = s := by
  unfold State.postStep
  split
  · exact .inl rfl
  · exact .inr rfl

/-! #### IDE key management and TDISP in a secured SPDM session -/

@[simp] theorem State.ideAnswer_otpTable (s : State) (k : Nat) (b : Bytes) : (s.ideAnswer k b).lcs.otp = s.lcs.otp := rfl

@[simp] theorem execIdeKmQuery_burns (k port : Nat) (s : State) : BurnsAll s (execIdeKmQuery k port s) :=
  BurnsAll.of_eq (State.inSession_otpTable _ _ _ _ fun _ _ => rfl)

@[simp] theorem execKSetStop_burns (k : Nat) (stream : Fin 5) (set tx : Bool) (sub : Fin 3) (s : State) :
    BurnsAll s (execKSetStop k stream set tx sub s) := BurnsAll.of_eq (State.inSession_otpTable _ _ _ _ fun _ _ => rfl)

@[simp] theorem State.tdisp_otpTable (s : State) (k v : Nat) (f : State → State) (h : ∀ t, (f t).lcs.otp = t.lcs.otp) :
    (s.tdisp k v f).lcs.otp = s.lcs.otp := State.inSession_otpTable _ _ _ _ fun t x => by simp [h]

@[simp] theorem State.tdiError_otpTable (s : State) (k v code : Nat) : (s.tdiError k v code).lcs.otp = s.lcs.otp := rfl
@[simp] theorem State.tdiAnswer_otpTable (s : State) (k typ v : Nat) (payload : Bytes) : (s.tdiAnswer k typ v payload).lcs.otp = s.lcs.otp := rfl

@[simp] theorem execGetTdispVersion_burns (k : Nat) (v : Fin 256) (s : State) : BurnsAll s (execGetTdispVersion k v s) :=
  BurnsAll.of_eq (State.tdisp_otpTable _ _ _ _ fun _ => rfl)

@[simp] theorem execGetTdispCapabilities_burns (k : Nat) (v : Fin 256) (s : State) : BurnsAll s (execGetTdispCapabilities k v s) :=
  BurnsAll.of_eq (State.tdisp_otpTable _ _ _ _ fun _ => rfl)

@[simp] theorem execGetDeviceInterfaceState_burns (k : Nat) (v : Fin 256) (s : State) : BurnsAll s (execGetDeviceInterfaceState k v s) :=
  BurnsAll.of_eq (State.tdisp_otpTable _ _ _ _ fun _ => rfl)

@[simp] theorem execStopInterfaceRequest_burns (k : Nat) (v : Fin 256) (s : State) : BurnsAll s (execStopInterfaceRequest k v s) :=
  BurnsAll.of_eq (State.tdisp_otpTable _ _ _ _ fun _ => by simp)

/-! #### Phase tokens -/

@[simp] theorem State.wake_otpTable (s : State) (kind : PhaseKind) (u : Nat) : (s.wake kind u).lcs.otp = s.lcs.otp := by
  unfold State.wake
  dsimp only
  (repeat' split) <;> simp

@[simp] theorem execTokenGrant_burns (kind : PhaseKind) (s : State) : BurnsAll s (execTokenGrant kind s) := by
  unfold execTokenGrant
  (repeat' split) <;> simp

end Sys2Proof.Machine
end

section
/-! The operations and meanings that burn OTP: each only adds bits (R604, R607, R609, R613, R629, R690, R725). -/

namespace Sys2Proof.Machine

/-! ### Operations that burn -/

/-- A byte written as itself with more bits is a burn. -/
theorem State.burnsOnly_setOtp (s : State) (a : Nat) (v : Byte) : BurnsOnly s.lcs.otp (s.setOtp a (s.otp a ||| v)).lcs.otp := by
  refine ⟨SMap.wf_set _ _ _ _, fun b i hb => ?_⟩
  show (SMap.get otpDef b (SMap.set otpDef a _ s.lcs.otp)).getLsbD i = true
  rw [SMap.get_set]
  split
  · rename_i hab
    subst hab
    exact (BitVec.getLsbD_or ..).trans (Bool.or_eq_true_iff.mpr (.inl hb))
  · exact hb

theorem BurnsOnly.foldl {β : Type} {f : State → β → State} (h : ∀ t b, BurnsOnly t.lcs.otp (f t b).lcs.otp) (l : List β) (s : State) :
    BurnsOnly s.lcs.otp (l.foldl f s).lcs.otp := by
  induction l generalizing s with
  | nil => exact .refl _
  | cons b l ih => exact (h s b).trans (ih _)

theorem BurnsOnly.ite {m : SMap Byte} {c : Prop} [Decidable c] {a b : State} (ha : BurnsOnly m a.lcs.otp) (hb : BurnsOnly m b.lcs.otp) :
    BurnsOnly m (if c then a else b).lcs.otp := by
  split
  · exact ha
  · exact hb

/-- A step of the start-up that is left out keeps the table. -/
theorem State.burnsOnly_postStep (s : State) {f : State → State} (h : BurnsOnly s.lcs.otp (f s).lcs.otp) :
    BurnsOnly s.lcs.otp (s.postStep f).lcs.otp := BurnsOnly.ite h (.refl _)

theorem State.burnsOnly_burnByte (s : State) (a : Nat) (v readBack second : Byte) : BurnsOnly s.lcs.otp (s.burnByte a v readBack second).lcs.otp := by
  have h2 := s.burnsOnly_setOtp a ((v &&& readBack) ||| (v &&& second))
  rw [← BitVec.or_assoc] at h2
  exact BurnsOnly.ite (s.burnsOnly_setOtp ..) (BurnsOnly.ite h2 h2)

theorem State.burnsOnly_burnSlot (s : State) (c k w : Nat) : BurnsOnly s.lcs.otp (s.burnSlot c k w).lcs.otp :=
  BurnsOnly.foldl (fun t _ => t.burnsOnly_setOtp ..) _ s

theorem State.burnsOnly_burnCopy (s : State) (t : Bytes) (c : Nat) : BurnsOnly s.lcs.otp (s.burnCopy t c).lcs.otp :=
  BurnsOnly.foldl (fun t _ => t.burnsOnly_setOtp ..) _ s

theorem State.burnsOnly_burnBytes (s : State) (a : Nat) (b : Bytes) : BurnsOnly s.lcs.otp (s.burnBytes a b).lcs.otp := by
  unfold State.burnBytes
  rw [State.bump_lcs]
  exact BurnsOnly.foldl (fun t _ => t.burnsOnly_setOtp ..) _ s

/-! ### Main reset, and a transition that an alarm cuts (R613, R642, R725) -/

theorem State.burnsOnly_cutPulse (s : State) : BurnsOnly s.lcs.otp s.cutPulse.lcs.otp := by
  unfold State.cutPulse
  split
  · exact .refl _
  · split
    · exact s.burnsOnly_setOtp ..
    · exact .refl _

theorem State.burnsOnly_mainReset (s : State) (cause : BitVec 3) : BurnsOnly s.lcs.otp (s.mainReset cause).lcs.otp := s.burnsOnly_cutPulse

theorem State.burnsOnly_cutBurnForAlarm (s : State) : BurnsOnly s.lcs.otp s.cutBurnForAlarm.lcs.otp := by
  unfold State.cutBurnForAlarm
  split
  · exact .refl _
  · rename_i b _
    have hpulse : BurnsOnly s.lcs.otp (match b.draining, b.steps with
        | false, .byte a v :: _ => s.setOtp a (s.otp a ||| v)
        | _, _ => s).lcs.otp := by
      split
      · exact s.burnsOnly_setOtp ..
      · exact .refl _
    dsimp only
    split
    · rw [State.settle_otpTable, State.failJob_otpTable]
      exact hpulse
    · exact hpulse

/-! ### Crosshatch responses (R642 to R651) -/

theorem State.burnsOnly_respond (s : State) (hits : List XhHit) (resp : Nat) : BurnsOnly s.lcs.otp (s.respond hits resp).lcs.otp := by
  unfold State.respond
  extract_lets last logged _ s0 _ s1 t2 _ s2 s3 t4 _ s4 t5 _ s5
  have h1 : s1.lcs.otp = s.lcs.otp := by
    have hlogged : logged.lcs.otp = s.lcs.otp :=
      (State.otpTable_foldl _ _ _ fun t h => by split <;> simp).trans (State.noteHits_otpTable ..)
    simpa [s1, s0] using hlogged
  have h2 : s2.lcs.otp = s1.lcs.otp := by simp [s2, t2]
  have h3 : BurnsOnly s2.lcs.otp s3.lcs.otp := by
    unfold s3
    split
    · exact s2.burnsOnly_cutBurnForAlarm
    · exact .refl _
  have h4 : s4.lcs.otp = s3.lcs.otp := by simp [s4, t4]
  have h5 : s5.lcs.otp = s4.lcs.otp := by simp [s5, t5]
  have hs : BurnsOnly s.lcs.otp s5.lcs.otp := by rwa [h5, h4, ← h1, ← h2]
  clear_value s5
  split <;> simpa using hs

theorem State.burnsOnly_splitDecision (s : State) (hits : List XhHit) (resp : Nat) : BurnsOnly s.lcs.otp (s.splitDecision hits resp).lcs.otp := by
  unfold State.splitDecision
  extract_lets h _ s1 s2 _ s3 t4 _ s4
  have hresp : ∀ u : State, u.lcs.otp = s.lcs.otp → BurnsOnly s.lcs.otp (u.respond (hits ++ [h]) 2).lcs.otp := fun u hu =>
    hu ▸ u.burnsOnly_respond (hits ++ [h]) 2
  have h1 : BurnsOnly s.lcs.otp s1.lcs.otp := hresp _ rfl
  clear_value s1
  have h3 : s3.lcs.otp = s1.lcs.otp := by simp [s3, s2]
  clear_value s3
  have hcut := s3.burnsOnly_cutBurnForAlarm
  have h4 : BurnsOnly s3.lcs.otp s4.lcs.otp := by
    unfold s4
    split
    · simpa [t4] using hcut
    · exact .refl _
  clear_value s4
  rw [h3] at h4
  have hs := h1.trans h4
  split <;> simpa using hs

theorem State.burnsOnly_fire (s : State) (h : XhHit) : BurnsOnly s.lcs.otp (s.fire h).lcs.otp := by
  unfold State.fire
  extract_lets cfg soft resp p
  exact BurnsOnly.ite (s.burnsOnly_respond ..) (.refl _)

theorem State.burnsOnly_xhEvent (s : State) (h : XhHit) : BurnsOnly s.lcs.otp (s.xhEvent h).lcs.otp := by
  unfold State.xhEvent
  extract_lets f s1
  have h1 : s1.lcs.otp = s.lcs.otp := State.setXhSrc_otpTable ..
  split
  · exact h1 ▸ s1.burnsOnly_fire _
  · exact .of_eq h1

theorem State.burnsOnly_islandEvent (s : State) (id : Nat) (injected : Bool) : BurnsOnly s.lcs.otp (s.islandEvent id injected).lcs.otp := by
  unfold State.islandEvent
  dsimp only
  split
  · exact .refl _
  · split
    · exact s.burnsOnly_xhEvent _
    · split <;> simp

theorem State.burnsOnly_detectorEvent (s : State) (id : Nat) (detB injected : Bool) :
    BurnsOnly s.lcs.otp (s.detectorEvent id detB injected).lcs.otp := by
  refine BurnsOnly.ite (.refl _) ?_
  rw [← State.noteReport_otpTable s id detB]
  exact State.burnsOnly_xhEvent ..

theorem State.burnsOnly_treatFired (s : State) (id : Nat) : BurnsOnly s.lcs.otp (s.treatFired id).lcs.otp :=
  BurnsOnly.ite (s.burnsOnly_fire _) (.of_eq (State.aloneFire_otpTable ..))

theorem State.burnsOnly_xhTested (s : State) (failed : List (Byte × Detector)) : BurnsOnly s.lcs.otp (s.xhTested failed).lcs.otp := by
  unfold State.xhTested
  extract_lets l s1 gone
  have h1 : s1.lcs.otp = s.lcs.otp := State.otpTable_foldl _ _ _ fun t p => by simp
  exact h1 ▸ BurnsOnly.foldl (fun t i => t.burnsOnly_treatFired _) _ s1

/-! ### Fault reports (R651, R667) -/

theorem State.burnsOnly_ownFault {s t : State} {u i cause : Nat} {job : Option Nat} {injected : Bool} (h : s.ownFault u i cause job injected = some t) :
    BurnsOnly s.lcs.otp t.lcs.otp := by
  unfold State.ownFault at h
  split at h
  · obtain ⟨w, -, rfl⟩ := Option.map_eq_some_iff.mp h
    simp
  · split at h
    · obtain ⟨j, -, hj⟩ := Option.bind_eq_some_iff.mp h
      split at hj
      · split at hj
        · rw [← Option.some.inj hj]
          simp
        · cases hj
      · cases hj
    · split at h
      · cases h; simp
      · split at h
        · cases h; split <;> simp
        · split at h
          · cases h; simp
          · split at h
            · cases h; exact s.burnsOnly_splitDecision ..
            · cases h

theorem State.burnsOnly_fault (s : State) (source cause : Nat) (spot : FaultSpot) (job : Option Nat) (injected armFatal : Bool) :
    BurnsOnly s.lcs.otp (s.fault source cause spot job injected armFatal).lcs.otp := by
  unfold State.fault
  dsimp only
  split
  · exact .refl _
  · split
    · rename_i ht; exact State.burnsOnly_ownFault ht
    · split
      · exact .refl _
      · split <;> simp

theorem State.burnsOnly_memFault (s : State) (source cause : Nat) (spot : FaultSpot) (job : Option Nat) (scrub : Bool) :
    BurnsOnly s.lcs.otp (s.memFault source cause spot job scrub).lcs.otp := by
  unfold State.memFault
  extract_lets a _ s1 live s2
  have h1 : s1.lcs.otp = s.lcs.otp := (State.otpTable_ite ..).trans (ite_self _)
  have h2 : BurnsOnly s.lcs.otp s2.lcs.otp := h1 ▸ s1.burnsOnly_fault ..
  exact BurnsOnly.ite (h2.trans (.of_eq (State.noteRow_otpTable ..))) h2

theorem State.burnsOnly_scrubArmed (s : State) : BurnsOnly s.lcs.otp s.scrubArmed.lcs.otp :=
  BurnsOnly.foldl (fun t p => by dsimp only; exact BurnsOnly.ite (.refl _) (t.burnsOnly_memFault ..)) _ s

theorem State.burnsOnly_sweepFails (s : State) (source : Nat) : BurnsOnly s.lcs.otp (s.sweepFails source).lcs.otp := s.burnsOnly_fault ..

theorem State.burnsOnly_settleTargeted (s : State) (failed : List Nat) : BurnsOnly s.lcs.otp (s.settleTargeted failed).lcs.otp := by
  unfold State.settleTargeted
  extract_lets l _ s1 bad
  have h1 : s1.lcs.otp = s.lcs.otp := State.otpTable_foldl _ _ _ fun t p => by split <;> simp
  exact h1 ▸ BurnsOnly.foldl State.burnsOnly_sweepFails _ s1

/-! ### The start-up (R605, R609, R690, R729) -/

theorem State.burnsOnly_forwardActions (s : State) (t : Bytes) : BurnsOnly s.lcs.otp (s.forwardActions t).lcs.otp := by
  unfold State.forwardActions
  split
  · rw [State.restrikeKeys_otpTable]
    split
    · exact s.burnsOnly_setOtp ..
    · exact .refl _
  · simp
  · exact .refl _

theorem State.burnsOnly_rollForward (s : State) (t : Bytes) (stuck : BitVec 3) : BurnsOnly s.lcs.otp (s.rollForward t stuck).lcs.otp := by
  have hcopy : ∀ u : State, ∀ c, BurnsOnly u.lcs.otp
      (if u.copy c = t then u else if stuck.getLsbD c then u.bump Reg.lcsBurnFail else u.burnCopy t c).lcs.otp :=
    fun u c => BurnsOnly.ite (.refl _) (BurnsOnly.ite (.refl _) (u.burnsOnly_burnCopy t c))
  have h2 := (s.burnsOnly_forwardActions t).trans (BurnsOnly.foldl hcopy [0, 1, 2] ((s.forwardActions t).bump Reg.tolPdSwitch 2))
  unfold State.rollForward
  dsimp only
  split
  · split
    · rename_i l _ _
      exact h2.trans (.of_eq (State.enterLstate_otpTable _ l))
    · exact h2.trans (.of_eq (State.enterUnexplained_otpTable _))
  · exact h2.trans (.of_eq (State.enterUnexplained_otpTable _))

theorem State.burnsOnly_decodeState (s : State) (stuck : BitVec 3) : BurnsOnly s.lcs.otp (s.decodeState stuck).lcs.otp := by
  unfold State.decodeState
  split
  · exact .of_eq (State.enterLstate_otpTable ..)
  · exact s.burnsOnly_rollForward ..
  · exact .of_eq (State.enterUnexplained_otpTable _)

theorem State.burnsOnly_voteSlot (s : State) (k : Nat) : BurnsOnly s.lcs.otp (s.voteSlot k).lcs.otp := by
  unfold State.voteSlot
  dsimp only
  split
  · exact .refl _
  · split
    · rename_i w _
      refine BurnsOnly.foldl (f := fun t c => (t.burnSlot c k w).bump Reg.tolPdSwitch 2) (fun t c => ?_) _ s
      rw [State.bump_lcs]
      exact t.burnsOnly_burnSlot c k w
    · exact .of_eq (State.report_otpTable ..)

theorem State.burnsOnly_voteMap (s : State) : BurnsOnly s.lcs.otp s.voteMap.lcs.otp := by
  refine BurnsOnly.ite (.refl _) ?_
  have hvotes := BurnsOnly.foldl State.burnsOnly_voteSlot (List.range 128) s
  rw [State.dutyDrf_otpTable]
  dsimp only
  rwa [State.mapRows_otpTable]

theorem State.burnsOnly_romGoesOn (s : State) : BurnsOnly s.lcs.otp s.romGoesOn.lcs.otp := by
  unfold State.romGoesOn
  refine s.burnsOnly_voteMap.trans ?_
  dsimp only
  split
  · exact .refl _
  · split <;> simp

theorem State.burnsOnly_newSeed (s : State) : BurnsOnly s.lcs.otp s.newSeed.lcs.otp := by
  unfold State.newSeed
  split
  · exact .refl _
  · split
    · dsimp only
      rw [State.nextDraw_otpTable]
      exact s.burnsOnly_burnBytes _ _
    · exact .refl _

theorem State.burnsOnly_startBbram (s : State) : BurnsOnly s.lcs.otp s.startBbram.lcs.otp := by
  unfold State.startBbram
  dsimp only
  split
  · exact .refl _
  · rw [State.newBbram_otpTable]
    split
    · exact s.burnsOnly_burnBytes ..
    · exact .refl _

theorem State.burnsOnly_startCaisson (s : State) (identityFails : Bool) : BurnsOnly s.lcs.otp (s.startCaisson identityFails).lcs.otp := by
  unfold State.startCaisson
  refine (s.burnsOnly_startBbram.trans (State.burnsOnly_newSeed _)).trans (.of_eq ?_)
  dsimp only
  split
  · rfl
  · split
    · simp
    · split
      · simp
      · split <;> simp

theorem State.burnsOnly_raiseFloor (s : State) (n : Nat) : BurnsOnly s.lcs.otp (s.raiseFloor n).lcs.otp :=
  BurnsOnly.ite (.refl _) (BurnsOnly.foldl (fun t _ => t.burnsOnly_setOtp ..) _ s)

theorem State.burnsOnly_settleFloor (s : State) : BurnsOnly s.lcs.otp s.settleFloor.lcs.otp := BurnsOnly.ite (s.burnsOnly_raiseFloor _) (.refl _)

theorem State.burnsOnly_ready (s : State) : BurnsOnly s.lcs.otp s.ready.lcs.otp := by
  unfold State.ready
  refine s.burnsOnly_settleFloor.trans (.of_eq ?_)
  dsimp only
  rw [State.startPatrols_otpTable]
  split <;> simp

/-! ### Meanings that burn -/

theorem execKeyExportWrapped_burns (j : Nat) (agree : Bool) (s : State) : BurnsAll s (execKeyExportWrapped j agree s) := by
  refine BurnsAll.next ?_
  split
  · simp
  · split
    · exact .of_eq (State.runJob_otpTable _ _ _ _ fun x => doExport_otpTable ..)
    · exact s.burnsOnly_splitDecision ..

theorem execLcsRequest_burns (j : Nat) (agree : Bool) (s : State) : BurnsAll s (execLcsRequest j agree s) := by
  refine BurnsAll.next ?_
  split
  · exact .refl _
  · split
    · exact .refl _
    · split
      · exact s.burnsOnly_splitDecision ..
      · split <;> simp

theorem execLcsPermit_burns (j : Nat) (agree : Bool) (s : State) : BurnsAll s (execLcsPermit j agree s) := by
  have hsplit : ∀ u : State, u.lcs.otp = s.lcs.otp → BurnsOnly s.lcs.otp (u.splitDecision [] 0).lcs.otp := fun u hu => by
    rw [← hu]
    exact u.burnsOnly_splitDecision [] 0
  refine BurnsAll.next ?_
  split
  · exact .refl _
  · split
    · exact .refl _
    · dsimp only
      split
      · exact hsplit _ rfl
      · split <;> simp

theorem execGlbReset_burns (w : Word) (s : State) : BurnsAll s (execGlbReset w s) := BurnsAll.next (BurnsOnly.ite (s.burnsOnly_mainReset _) (.refl _))

theorem execFclInjectReport_burns (w : Word) (s : State) : BurnsAll s (execFclInjectReport w s) :=
  BurnsAll.next (BurnsOnly.ite (.refl _) (s.burnsOnly_fault ..))

theorem writeInject_burns (w : Word) (s : State) : BurnsAll s (writeInject w s) := by
  unfold writeInject
  split
  · exact execFclInjectReport_burns w s
  · exact execFclInjectWriteCheck_burns w s
  · exact execFclInjectReadCheck_burns w s
  · exact BurnsAll.next (.refl _)

theorem writeFcl_burns (o : Nat) (w : Word) (s : State) : BurnsAll s (writeFcl o w s) := by
  unfold writeFcl
  split
  case h_4 => simp
  case h_5 => exact execFclAck_burns w s
  case h_6 => exact writeInject_burns w s
  case h_7 => simp
  all_goals exact execFclStickyClear_burns _ w s

theorem execXhInject_burns (w : Word) (s : State) : BurnsAll s (execXhInject w s) :=
  BurnsAll.next (BurnsOnly.ite (.refl _) (BurnsOnly.ite (BurnsOnly.ite (s.burnsOnly_islandEvent ..) (.refl _)) (s.burnsOnly_detectorEvent ..)))

theorem writeXh_burns (o : Nat) (w : Word) (s : State) : BurnsAll s (writeXh o w s) := by
  unfold writeXh
  split
  · exact execXhSrcCfgWrite_burns _ w s
  · split
    · exact execXhSrcCfgWrite_burns _ w s
    · split
      · exact writeXhStatus_burns w s
      · exact execXhResume_burns w s
      · exact execXhInject_burns w s
      · exact execXhiRtcSecWrite_burns w s
      · exact execXhiLoopCtlWrite_burns w s
      · exact BurnsAll.next (.refl _)

theorem writeWindow_burns (win o : Nat) (w : Word) (s : State) : BurnsAll s (writeWindow win o w s) := by
  have hkeep : BurnsAll s (.next s) := BurnsAll.next (.refl _)
  unfold writeWindow
  split
  case h_10 => exact BurnsAll.next (BurnsOnly.ite (.of_eq (State.writeRw_otpTable ..)) (.refl _))
  case h_8 => simp
  · split
    · exact execGlbReset_burns w s
    · exact hkeep
  · split
    · exact execDgeReclaim_burns w s
    · exact hkeep
  · split
    · exact execEntRawCtlWrite_burns w s
    · simp
  · split
    · exact execCsnCtlWrite_burns w s
    · exact hkeep
  · exact writeTol_burns o w s
  · exact writeFcl_burns o w s
  · exact writeXh_burns o w s
  · exact writeLpt_burns o w s

theorem writeBar0_burns (a : Nat) (w : Word) (s : State) : BurnsAll s (writeBar0 a w s) := by
  unfold writeBar0
  dsimp only
  split
  · exact writeWindow_burns _ _ w s
  · exact BurnsAll.next (.refl _)

theorem execRegisterWrite_burns (acc : RegAccess) (w : Word) (s : State) : BurnsAll s (execRegisterWrite acc w s) := by
  unfold execRegisterWrite
  split
  · exact BurnsAll.next (.refl _)
  · simp
  · split
    · exact writeBar0_burns _ w s
    · simp

theorem execOtpByteBurn_burns (readBack second : Byte) (s : State) : BurnsAll s (execOtpByteBurn readBack second s) := by
  refine BurnsAll.next ?_
  split
  · exact .refl _
  · rename_i b _
    have hact := s.runActions_otpTable b.steps
    dsimp only
    split
    · exact .refl _
    · split
      · rw [State.goOn_otpTable, ← hact]
        exact State.burnsOnly_burnByte ..
      · exact .of_eq ((State.goOn_otpTable ..).trans hact)

theorem execLcsReqConfirm_burns (w : Word) (agree : Bool) (s : State) : BurnsAll s (execLcsReqConfirm w agree s) := by
  refine BurnsAll.next ?_
  split
  · exact .refl _
  · split
    · exact .refl _
    · split
      · exact .refl _
      · split
        · exact s.burnsOnly_splitDecision ..
        · split <;> simp

theorem execExtest_burns (s : State) : BurnsAll s (execExtest s) := by
  have hir := State.loadIr_otpTable s 0x00 true
  refine BurnsAll.next (BurnsOnly.ite (.refl _) (BurnsOnly.ite ?_ (.of_eq hir)))
  rw [← hir]
  exact State.burnsOnly_xhEvent ..

theorem execVendorScan_burns (code : Byte) (reg : Nat) (value : Option Word) (s : State) : BurnsAll s (execVendorScan code reg value s) := by
  unfold execVendorScan
  split
  · exact BurnsAll.next (.refl _)
  · extract_lets on s1
    have h1 : s1.lcs.otp = s.lcs.otp := State.loadIr_otpTable ..
    split
    · exact BurnsAll.of_eq h1
    · split
      · split
        · exact BurnsAll.of_eq h1
        · split
          · exact BurnsAll.of_eq ((State.afterRegRead_otpTable ..).trans h1)
          · exact BurnsAll.of_eq h1
      · split
        · exact BurnsAll.of_eq ((State.scanTarget_otpTable ..).trans h1)
        · exact fun t ht => h1 ▸ writeBar0_burns _ _ s1 t ht

theorem execVendorOtpProgramming_burns (a : Nat) (v : Byte) (s : State) : BurnsAll s (execVendorOtpProgramming a v s) := by
  have hir := State.loadIr_otpTable s 0x80 s.testOpen
  refine BurnsAll.next (BurnsOnly.ite (.refl _) (BurnsOnly.ite ?_ (.of_eq hir)))
  rw [← hir]
  exact State.burnsOnly_setOtp ..

theorem execXhSourceEvent_burns (source : Byte) (det : Detector) (s : State) : BurnsAll s (execXhSourceEvent source det s) := by
  have hdet := s.burnsOnly_detectorEvent source.toNat (decide (det = .b)) false
  exact BurnsAll.next (BurnsOnly.ite (BurnsOnly.ite (s.burnsOnly_islandEvent ..) (.refl _)) (BurnsOnly.ite hdet hdet))

theorem execXhSecondDecision_burns (agree : Bool) (s : State) : BurnsAll s (execXhSecondDecision agree s) := by
  have hresp : ∀ u : State, ∀ hits resp, u.lcs.otp = s.lcs.otp → BurnsOnly s.lcs.otp (u.respond hits resp).lcs.otp := fun u _ _ hu =>
    hu ▸ u.burnsOnly_respond ..
  refine BurnsAll.next ?_
  split
  · exact .refl _
  · split
    · exact hresp _ _ _ rfl
    · exact s.burnsOnly_splitDecision ..

theorem execXhDecisionTimeout_burns (s : State) : BurnsAll s (execXhDecisionTimeout s) := by
  refine BurnsAll.next ?_
  split
  · exact .refl _
  · exact s.burnsOnly_splitDecision ..

theorem execXhTableCompare_burns (s : State) : BurnsAll s (execXhTableCompare s) :=
  BurnsAll.next (BurnsOnly.ite (s.burnsOnly_splitDecision ..) (.refl _))

theorem execMeshChange_burns (m : BitVec 8) (s : State) : BurnsAll s (execMeshChange m s) :=
  BurnsAll.next (BurnsOnly.ite (.refl _) (BurnsOnly.foldl (f := fun t g => if m.getLsbD g then t else t.detectorEvent (g + 1) false false)
    (fun t _ => BurnsOnly.ite (.refl _) (t.burnsOnly_detectorEvent ..)) (List.range 8) { s with xh := { s.xh with mesh := s.xh.mesh.map (meshStep 64) } }))

theorem execLoopWord_burns (m : BitVec 4) (s : State) : BurnsAll s (execLoopWord m s) :=
  BurnsAll.next (BurnsOnly.foldl (fun t _ => BurnsOnly.ite (t.burnsOnly_islandEvent ..) (.refl _)) (List.range 4) s)

theorem execIslandMeasurement_burns (temp : Int) (mv : Nat) (ok : Bool) (s : State) : BurnsAll s (execIslandMeasurement temp mv ok s) := by
  have hstep : ∀ (c : Bool) (u : State) id, BurnsOnly u.lcs.otp (if c then u.islandEvent id false else u).lcs.otp :=
    fun c u id => BurnsOnly.ite (u.burnsOnly_islandEvent ..) (.refl _)
  refine BurnsAll.next (BurnsOnly.ite (.refl _) ?_)
  extract_lets _ s0 cold hot low s1 s2 s3
  have h0 : s0.lcs.otp = s.lcs.otp := rfl
  have h3 : BurnsOnly s.lcs.otp s3.lcs.otp := h0 ▸ ((hstep cold s0 0x44).trans (hstep hot s1 0x45)).trans (hstep low s2 0x46)
  exact BurnsOnly.ite h3 (h3.trans (s3.burnsOnly_islandEvent ..))

theorem execIslandSelftest_burns (failed : List Byte) (s : State) : BurnsAll s (execIslandSelftest failed s) :=
  BurnsAll.next (BurnsOnly.ite (.refl _) (BurnsOnly.foldl (fun t _ => t.burnsOnly_treatFired _) _ s))

theorem execFaultReport_burns (source : BitVec 16) (cause : Byte) (spot : FaultSpot) (job : Option Nat) (s : State) :
    BurnsAll s (execFaultReport source cause spot job s) := BurnsAll.next (s.burnsOnly_memFault ..)

theorem execScrubSram_burns (found : List RowError) (s : State) : BurnsAll s (execScrubSram found s) := by
  refine BurnsAll.next (BurnsOnly.ite (.refl _) ?_)
  dsimp only
  rw [State.passEnds_otpTable]
  exact s.burnsOnly_scrubArmed.trans (BurnsOnly.foldl (fun t e => t.burnsOnly_memFault ..) _ _)

theorem execScrubHbm_burns (found : List LineError) (s : State) : BurnsAll s (execScrubHbm found s) := by
  refine BurnsAll.next (BurnsOnly.ite (.refl _) ?_)
  dsimp only
  rw [State.passEnds_otpTable]
  refine BurnsOnly.foldl (fun t e => ?_) _ s
  have hmem := fun p => t.burnsOnly_memFault (src uVdt e.channel.val) 9 p none true
  exact BurnsOnly.ite ((hmem _).trans (State.burnsOnly_memFault ..)) (hmem _)

theorem execHealthSweep_burns (failed : List (BitVec 16)) (s : State) : BurnsAll s (execHealthSweep failed s) := by
  refine BurnsAll.next (BurnsOnly.ite (.refl _) ?_)
  have hset := s.burnsOnly_settleTargeted (failed.map BitVec.toNat)
  dsimp only
  split
  · exact hset
  · rw [State.passEnds_otpTable]
    exact hset.trans (BurnsOnly.foldl State.burnsOnly_sweepFails _ _)

theorem execRepairCommit_burns (burned : Bool) (s : State) : BurnsAll s (execRepairCommit burned s) := by
  refine BurnsAll.next (BurnsOnly.ite (.refl _) ?_)
  split
  · rename_i w k _ _ _
    split
    · have hslots := BurnsOnly.foldl (fun t c => State.burnsOnly_burnSlot t c k w) [0, 1, 2] s
      dsimp only
      split
      · rw [State.endAct_otpTable]
        exact hslots
      · exact hslots
    · dsimp only
      rw [State.endAct_otpTable, State.reportAs_otpTable]
      refine BurnsOnly.foldl (fun t c => ?_) [0, 1, 2] s
      rw [State.nextFree_lcs]
      exact t.burnsOnly_burnSlot c k _
  · exact .of_eq (State.endAct_otpTable ..)

theorem execXhSelftest_burns (failed : List (Byte × Detector)) (s : State) : BurnsAll s (execXhSelftest failed s) := by
  refine BurnsAll.next (BurnsOnly.ite (.refl _) ?_)
  extract_lets asker s1 s2
  have hdone : ∀ o : Option Nat, (match o with | some j => s1.selftestDone j (!failed.isEmpty) | none => s1).lcs.otp = s1.lcs.otp := fun o => by
    cases o <;> simp
  have h2 : s2.lcs.otp = s.lcs.otp := (hdone asker).trans (State.endAct_otpTable ..)
  rw [← h2]
  exact s2.burnsOnly_xhTested _

theorem execMainResetAssert_burns (perst : Bool) (s : State) : BurnsAll s (execMainResetAssert perst s) :=
  BurnsAll.next (BurnsOnly.ite (BurnsOnly.ite (.refl _) (s.burnsOnly_mainReset _)) (BurnsOnly.ite (s.burnsOnly_mainReset _) (.refl _)))

theorem execRomBoot_burns (stuck : BitVec 3) (s : State) : BurnsAll s (execRomBoot stuck s) := by
  refine BurnsAll.next (BurnsOnly.ite (.refl _) ?_)
  have h1 : BurnsOnly s.lcs.otp (s.decodeState stuck).deferredStep.lcs.otp := by
    rw [State.deferredStep_otpTable]
    exact s.burnsOnly_decodeState stuck
  dsimp only
  rw [State.settlePower_otpTable]
  exact h1.trans (BurnsOnly.ite (.refl _) (State.burnsOnly_romGoesOn _))

theorem execMainPowerLoss_burns (s : State) : BurnsAll s (execMainPowerLoss s) := by
  refine BurnsAll.next (BurnsOnly.ite (.refl _) ?_)
  extract_lets s1 m _ _ s2
  have h1 : s1.lcs.otp = s.lcs.otp := by
    unfold s1
    split
    · simp
    · rfl
  have h2 : BurnsOnly s.lcs.otp s2.lcs.otp := by
    rw [← h1]
    exact s1.burnsOnly_mainReset 0
  clear_value s2
  split
  · exact h2.trans (.of_eq (State.otpTable_foldl _ _ _ State.aloneFire_otpTable))
  · exact h2.trans (.of_eq (State.islandLost_otpTable _))

theorem execPostComplete_burns (failed : List PostTest) (units : List (BitVec 16)) (stipple : BitVec 8) (detectors : List (Byte × Detector))
    (pages : List (Nat × BitVec 28)) (s : State) : BurnsAll s (execPostComplete failed units stipple detectors pages s) := by
  refine BurnsAll.next (BurnsOnly.ite (.refl _) ?_)
  extract_lets _ s1 s2 s3 s4 s5 s6
  have h1 : s1.lcs.otp = s.lcs.otp := by
    unfold s1
    split <;> simp
  have h2 : BurnsOnly s1.lcs.otp s2.lcs.otp := s1.burnsOnly_postStep (by split <;> simp)
  have h3 : BurnsOnly s2.lcs.otp s3.lcs.otp := s2.burnsOnly_postStep (by split <;> simp)
  have h4 : BurnsOnly s3.lcs.otp s4.lcs.otp := s3.burnsOnly_postStep (by split <;> simp)
  have h5 : BurnsOnly s4.lcs.otp s5.lcs.otp := s4.burnsOnly_postStep (s4.burnsOnly_xhTested _)
  have h6 : BurnsOnly s5.lcs.otp s6.lcs.otp := s5.burnsOnly_postStep (s5.burnsOnly_startCaisson _)
  have hready : BurnsOnly s6.lcs.otp (s6.postStep State.ready).lcs.otp := s6.burnsOnly_postStep s6.burnsOnly_ready
  rw [State.settlePower_otpTable, ← h1]
  exact ((((h2.trans h3).trans h4).trans h5).trans h6).trans hready

end Sys2Proof.Machine
end

section
/-! Burned bits over every step (R607, R725). -/

namespace Sys2Proof.Machine

/-! ### Every command -/

theorem exec_burns (c : Instr) (s : State) : BurnsAll s (exec c s) :=
  match c with
  | .sessionPolicySet job => by simp [exec_sessionPolicySet, execSessionPolicySet]
  | .sessionInstall job => by simp [exec_sessionInstall, execSessionInstall]
  | .sessionRekey job => by simp [exec_sessionRekey, execSessionRekey]
  | .sessionRemove job => by simp [exec_sessionRemove, execSessionRemove]
  | .sessionQuery job => by simp [exec_sessionQuery, execSessionQuery]
  | .flowRuleSet job => by simp [exec_flowRuleSet, execFlowRuleSet]
  | .kemKeygen job sound core => execKemKeygen_burns job sound core s
  | .kemEncaps job sound => execKemEncaps_burns job sound s
  | .kemDecaps job sound => execKemDecaps_burns job sound s
  | .matrixPin job => by simp [exec_matrixPin, execMatrixPin]
  | .kexDerive job sound => by simp [exec_kexDerive, execKexDerive]
  | .sigKeygen job sound => execSigKeygen_burns job sound s
  | .sigSign job sound => by simp [exec_sigSign, execSigSign]
  | .sigSignPrehash job sound => by simp [exec_sigSignPrehash, execSigSignPrehash]
  | .sigVerify job sound => execSigVerify_burns job sound s
  | .hbsLeaseQuery job => by simp [exec_hbsLeaseQuery, execHbsLeaseQuery]
  | .hash job => by simp [exec_hash, execHash]
  | .mac job => by simp [exec_mac, execMac]
  | .kdf job => by simp [exec_kdf, execKdf]
  | .aeadSeal job => by simp [exec_aeadSeal, execAeadSeal]
  | .aeadOpen job => by simp [exec_aeadOpen, execAeadOpen]
  | .recordSeal job => by simp [exec_recordSeal, execRecordSeal]
  | .recordOpen job => by simp [exec_recordOpen, execRecordOpen]
  | .batch job inputs => by simp [exec_batch, execBatch]
  | .keyGenerate job => by simp [exec_keyGenerate, execKeyGenerate]
  | .keyImport job sound => by simp [exec_keyImport, execKeyImport]
  | .keyExportWrapped job agree => execKeyExportWrapped_burns job agree s
  | .keyReplaceStage job sound => by simp [exec_keyReplaceStage, execKeyReplaceStage]
  | .keyReplaceCommit job => by simp [exec_keyReplaceCommit, execKeyReplaceCommit]
  | .keyDestroy job => execKeyDestroy_burns job s
  | .keyAttr job => by simp [exec_keyAttr, execKeyAttr]
  | .keyDerive job => execKeyDerive_burns job s
  | .impressionDevice job sound => by simp [exec_impressionDevice, execImpressionDevice]
  | .impressionKey job sound => by simp [exec_impressionKey, execImpressionKey]
  | .impressionChain job => execImpressionChain_burns job s
  | .maintStart job => by simp [exec_maintStart, execMaintStart]
  | .maintStatus job => by simp [exec_maintStatus, execMaintStatus]
  | .maintStop job => execMaintStop_burns job s
  | .repairQuery job => by simp [exec_repairQuery, execRepairQuery]
  | .selftestRun job failed kat => by simp [exec_selftestRun, execSelftestRun]
  | .lcsQuery job => by simp [exec_lcsQuery, execLcsQuery]
  | .lcsRequest job agree => execLcsRequest_burns job agree s
  | .lcsChallenge job => execLcsChallenge_burns job s
  | .lcsPermit job agree => execLcsPermit_burns job agree s
  | .cardStatus job => by simp [exec_cardStatus, execCardStatus]
  | .archiveScan job => execArchiveScan_burns job s
  | .archiveRestore job => execArchiveRestore_burns job s
  | .officerLogin job present => execOfficerLogin_burns job present s
  | .officerLogout job => by simp [exec_officerLogout, execOfficerLogout]
  | .quorumSet job => by simp [exec_quorumSet, execQuorumSet]
  | .twinPair job => by simp [exec_twinPair, execTwinPair]
  | .twinStatus job => execTwinStatus_burns job s
  | .twinRoleSet job => by simp [exec_twinRoleSet, execTwinRoleSet]
  | .twinTakeover job => by simp [exec_twinTakeover, execTwinTakeover]
  | .twinUnpair job => by simp [exec_twinUnpair, execTwinUnpair]
  | .viQuotaSet job => by simp [exec_viQuotaSet, execViQuotaSet]
  | .viReset job => execViReset_burns job s
  | .viFreeze job => execViFreeze_burns job s
  | .viSave job => execViSave_burns job s
  | .viRestore job sound => execViRestore_burns job sound s
  | .viThaw job => execViThaw_burns job s
  | .functionSet job => execFunctionSet_burns job s
  | .viQuery job => execViQuery_burns job s
  | .ucodeLoad job sound => execUcodeLoad_burns job sound s
  | .ucodeInvoke job => execUcodeInvoke_burns job s
  | .ucodeQuery job => by simp [exec_ucodeQuery, execUcodeQuery]
  | .nop job => by simp [exec_nop, execNop]
  | .echo job => by simp [exec_echo, execEcho]
  | .abort job => execAbort_burns job s
  | .getInfo job => by simp [exec_getInfo, execGetInfo]
  | .fwStage job => execFwStage_burns job s
  | .descriptorFetch vi ring entries readError => execDescriptorFetch_burns vi ring entries readError s
  | .jobDispatch job => execJobDispatch_burns job s
  | .completionRequest job => execCompletionRequest_burns job s
  | .replyWrite vi ring => execReplyWrite_burns vi ring s
  | .interruptTimer vi ring => by simp [exec_interruptTimer, execInterruptTimer]
  | .sqDoorbell vi n index => by simp [exec_sqDoorbell, execSqDoorbell]
  | .cqDoorbell vi n index => by simp [exec_cqDoorbell, execCqDoorbell]
  | .rxDoorbell vi n index => by simp [exec_rxDoorbell, execRxDoorbell]
  | .txDoorbell vi n index => by simp [exec_txDoorbell, execTxDoorbell]
  | .evDoorbell vi index => by simp [exec_evDoorbell, execEvDoorbell]
  | .xqDoorbell index => by simp [exec_xqDoorbell, execXqDoorbell]
  | .ringEnable vi ring value => by simp [exec_ringEnable, execRingEnable]
  | .ringDisable vi ring value => by simp [exec_ringDisable, execRingDisable]
  | .viIntStatusClear vi value => execViIntStatusClear_burns vi value s
  | .viIntEnableWrite vi value => by simp [exec_viIntEnableWrite, execViIntEnableWrite]
  | .rcRead acc => execRcRead_burns acc s
  | .registerWrite acc value => execRegisterWrite_burns acc value s
  | .burinPick pier burin => by simp [exec_burinPick, execBurinPick]
  | .tokenGrant kind => execTokenGrant_burns kind s
  | .microwordIssue pier burin => execMicrowordIssue_burns pier burin s
  | .commit pier burin => execCommit_burns pier burin s
  | .end_ pier burin => execEnd_burns pier burin s
  | .yield_ pier burin => execYield_burns pier burin s
  | .maskRefresh pier burin => by simp [exec_maskRefresh, execMaskRefresh]
  | .setLc pier burin => by simp [exec_setLc, execSetLc]
  | .baseLoad pier burin => by simp [exec_baseLoad, execBaseLoad]
  | .wait pier burin => by simp [exec_wait, execWait]
  | .yieldHoldPreemption pier burin => execYieldHoldPreemption_burns pier burin s
  | .parkBufferRoom pier => execParkBufferRoom_burns pier s
  | .counterproofVerdict job valid => execCounterproofVerdict_burns job valid s
  | .stippleReseed pier => by simp [exec_stippleReseed, execStippleReseed]
  | .stippleFailure pier => by simp [exec_stippleFailure, execStippleFailure]
  | .burinSpareReady pier burin passed => by simp [exec_burinSpareReady, execBurinSpareReady]
  | .leaseSubtreeBuilt handle => by simp [exec_leaseSubtreeBuilt, execLeaseSubtreeBuilt]
  | .hbsLeaseGrant handle programmed => execHbsLeaseGrant_burns handle programmed s
  | .leaseLogErase block good => execLeaseLogErase_burns block good s
  | .graverSlotLoad core => execGraverSlotLoad_burns core s
  | .graverYieldPoint core ran => execGraverYieldPoint_burns core ran s
  | .graverSpareReady core passed => by simp [exec_graverSpareReady, execGraverSpareReady]
  | .publicKeyRegeneration handle good => execPublicKeyRegeneration_burns handle good s
  | .frameReceive port link frame fec => by simp [exec_frameReceive, execFrameReceive]
  | .frameTransmit port link => execFrameTransmit_burns port link s
  | .linkUp port link => by simp [exec_linkUp, execLinkUp]
  | .linkDown port link => by simp [exec_linkDown, execLinkDown]
  | .lptPortCtlWrite port value => execLptPortCtlWrite_burns port value s
  | .lptTxeqWrite port lane value => execLptTxeqWrite_burns port lane value s
  | .localAddressWrite port entry value => execLocalAddressWrite_burns port entry value s
  | .excLimitInterval => by simp [exec_excLimitInterval, execExcLimitInterval]
  | .exceptionDelivery => execExceptionDelivery_burns s
  | .handshakeIntake => execHandshakeIntake_burns s
  | .cookieKeyRotation => execCookieKeyRotation_burns s
  | .sessionPending hs suite => execSessionPending_burns hs suite s
  | .sessionEstablished session => execSessionEstablished_burns session s
  | .handshakeFailed session alert => execHandshakeFailed_burns session alert s
  | .cwySlotIssue => execCwySlotIssue_burns s
  | .dtlsRecordReceive => execDtlsRecordReceive_burns s
  | .espPacketReceive => execEspPacketReceive_burns s
  | .laneTakeJob lane => execLaneTakeJob_burns lane s
  | .laneJobComplete lane checksAgree => execLaneJobComplete_burns lane checksAgree s
  | .dtlsRecordVerdict session => execDtlsRecordVerdict_burns session s
  | .espPacketVerdict session => execEspPacketVerdict_burns session s
  | .heldRecordRelease session => execHeldRecordRelease_burns session s
  | .peerKeyupdate session => execPeerKeyupdate_burns session s
  | .peerKeyupdateAck session => execPeerKeyupdateAck_burns session s
  | .keyupdateTimeout session => execKeyupdateTimeout_burns session s
  | .epoch2HoldExpiry session => execEpoch2HoldExpiry_burns session s
  | .sessionTimeLimit session => execSessionTimeLimit_burns session s
  | .checkpointDue session => execCheckpointDue_burns session s
  | .transmitEntryFetch vi ring entry message => execTransmitEntryFetch_burns vi ring entry message s
  | .sendLeaseGrant session => execSendLeaseGrant_burns session s
  | .keyCounterLeaseWrite handle programmed => execKeyCounterLeaseWrite_burns handle programmed s
  | .laneSpareReady lane passed => by simp [exec_laneSpareReady, execLaneSpareReady]
  | .laneIdleTokenRelease lane => by simp [exec_laneIdleTokenRelease, execLaneIdleTokenRelease]
  | .draftTokenRelease pair => by simp [exec_draftTokenRelease, execDraftTokenRelease]
  | .shelfRecordWrite job programmed => execShelfRecordWrite_burns job programmed s
  | .overflowKeyFetch handle intact => execOverflowKeyFetch_burns handle intact s
  | .derivationJob handle => execDerivationJob_burns handle s
  | .keyZeroise handle => execKeyZeroise_burns handle s
  | .storeRewrite pier good => by simp [exec_storeRewrite, execStoreRewrite]
  | .dgeClaim vi ctx => by simp [exec_dgeClaim, execDgeClaim]
  | .dgeRelease vi ctx => execDgeRelease_burns vi ctx s
  | .dgeInit vi ctx => by simp [exec_dgeInit, execDgeInit]
  | .dgeDataWrite vi ctx value poisoned => by simp [exec_dgeDataWrite, execDgeDataWrite]
  | .dgeFinal vi ctx => by simp [exec_dgeFinal, execDgeFinal]
  | .dgeSqueeze vi ctx => by simp [exec_dgeSqueeze, execDgeSqueeze]
  | .dgeSave vi ctx => by simp [exec_dgeSave, execDgeSave]
  | .dgeRestore vi ctx => by simp [exec_dgeRestore, execDgeRestore]
  | .dgeAbandon vi ctx => execDgeAbandon_burns vi ctx s
  | .dgeOperationComplete ctx saved => by simp [exec_dgeOperationComplete, execDgeOperationComplete]
  | .dgeZeroiseComplete ctx => execDgeZeroiseComplete_burns ctx s
  | .dgeReclaim value => execDgeReclaim_burns value s
  | .entHealthFailure sourceB adaptive => by simp [exec_entHealthFailure, execEntHealthFailure]
  | .entRetest sourceB passed => by simp [exec_entRetest, execEntRetest]
  | .entBlockConditioned => by simp [exec_entBlockConditioned, execEntBlockConditioned]
  | .drbgReseed => by simp [exec_drbgReseed, execDrbgReseed]
  | .drbgRequest => by simp [exec_drbgRequest, execDrbgRequest]
  | .entRawCtlWrite value => execEntRawCtlWrite_burns value s
  | .flrVf vi => by simp [exec_flrVf, execFlrVf]
  | .flrPf => by simp [exec_flrPf, execFlrPf]
  | .vfEnableSet numVfs => by simp [exec_vfEnableSet, execVfEnableSet]
  | .vfEnableClear numVfs => by simp [exec_vfEnableClear, execVfEnableClear]
  | .busMasterEnableChange vi on => by simp [exec_busMasterEnableChange, execBusMasterEnableChange]
  | .viResetComplete vi => by simp [exec_viResetComplete, execViResetComplete]
  | .viScrubComplete vi => by simp [exec_viScrubComplete, execViScrubComplete]
  | .getVersion request => by simp [exec_getVersion, execGetVersion]
  | .getCapabilities request => by simp [exec_getCapabilities, execGetCapabilities]
  | .negotiateAlgorithms request => by simp [exec_negotiateAlgorithms, execNegotiateAlgorithms]
  | .getDigests request => execGetDigests_burns request s
  | .getCertificate request => by simp [exec_getCertificate, execGetCertificate]
  | .challenge request => execChallenge_burns request s
  | .getMeasurements request => by simp [exec_getMeasurements, execGetMeasurements]
  | .keyExchange request => execKeyExchange_burns request s
  | .finish session request => by simp [exec_finish, execFinish]
  | .heartbeat session => execHeartbeat_burns session s
  | .keyUpdate session request => by simp [exec_keyUpdate, execKeyUpdate]
  | .endSession session => execEndSession_burns session s
  | .ideKmQuery session port => execIdeKmQuery_burns session port s
  | .keyProg session stream keySet tx sub key => by simp [exec_keyProg, execKeyProg]
  | .kSetGo session stream keySet tx sub => by simp [exec_kSetGo, execKSetGo]
  | .kSetStop session stream keySet tx sub => execKSetStop_burns session stream keySet tx sub s
  | .getTdispVersion session vi => execGetTdispVersion_burns session vi s
  | .getTdispCapabilities session vi => execGetTdispCapabilities_burns session vi s
  | .lockInterfaceRequest session vi stream => by simp [exec_lockInterfaceRequest, execLockInterfaceRequest]
  | .getDeviceInterfaceReport session vi off len => by simp [exec_getDeviceInterfaceReport, execGetDeviceInterfaceReport]
  | .getDeviceInterfaceState session vi => execGetDeviceInterfaceState_burns session vi s
  | .startInterfaceRequest session vi nonce => by simp [exec_startInterfaceRequest, execStartInterfaceRequest]
  | .stopInterfaceRequest session vi => execStopInterfaceRequest_burns session vi s
  | .spanFrameReceive frame => by simp [exec_spanFrameReceive, execSpanFrameReceive]
  | .spanHello frame => by simp [exec_spanHello, execSpanHello]
  | .spanRetransmitTimeout => by simp [exec_spanRetransmitTimeout, execSpanRetransmitTimeout]
  | .spanIdleTimer => by simp [exec_spanIdleTimer, execSpanIdleTimer]
  | .spanLinkSilence => execSpanLinkSilence_burns s
  | .spanLaneFailure lane => by simp [exec_spanLaneFailure, execSpanLaneFailure]
  | .heartbeatWordSend => by simp [exec_heartbeatWordSend, execHeartbeatWordSend]
  | .heartbeatWordReceive word => execHeartbeatWordReceive_burns word s
  | .heartbeatSilence => execHeartbeatSilence_burns s
  | .rejoinTimeout => by simp [exec_rejoinTimeout, execRejoinTimeout]
  | .pairFrame frame => execPairFrame_burns frame s
  | .pairRefusal => by simp [exec_pairRefusal, execPairRefusal]
  | .mirrorMessageReceive id items => by simp [exec_mirrorMessageReceive, execMirrorMessageReceive]
  | .mirrorAckReceive id => execMirrorAckReceive_burns id s
  | .mirrorWaitTimeout id => execMirrorWaitTimeout_burns id s
  | .syncComplete => by simp [exec_syncComplete, execSyncComplete]
  | .otpByteBurn readBack second => execOtpByteBurn_burns readBack second s
  | .challengeExpiry => by simp [exec_challengeExpiry, execChallengeExpiry]
  | .restrikeHalfExpiry => by simp [exec_restrikeHalfExpiry, execRestrikeHalfExpiry]
  | .lcsDrainTimeout => execLcsDrainTimeout_burns s
  | .lcsReqConfirm value agree => execLcsReqConfirm_burns value agree s
  | .extest => execExtest_burns s
  | .idcode => by simp [exec_idcode, execIdcode]
  | .samplePreload => by simp [exec_samplePreload, execSamplePreload]
  | .vendorScan code reg value => execVendorScan_burns code reg value s
  | .vendorOtpProgramming addr value => execVendorOtpProgramming_burns addr value s
  | .bypass => by simp [exec_bypass, execBypass]
  | .xhSourceEvent source det => execXhSourceEvent_burns source det s
  | .xhSecondDecision agree => execXhSecondDecision_burns agree s
  | .xhDecisionTimeout => execXhDecisionTimeout_burns s
  | .xhTableCompare => execXhTableCompare_burns s
  | .meshChange matching => execMeshChange_burns matching s
  | .loopWord matching => execLoopWord_burns matching s
  | .islandMeasurement temp vbatMv clockOk => execIslandMeasurement_burns temp vbatMv clockOk s
  | .islandSecondDecision agree => by simp [exec_islandSecondDecision, execIslandSecondDecision]
  | .islandSelftest failed => execIslandSelftest_burns failed s
  | .xhResume value => execXhResume_burns value s
  | .xhInject value => execXhInject_burns value s
  | .xhSrcCfgWrite source value => execXhSrcCfgWrite_burns source value s
  | .xhWarnClear => execXhWarnClear_burns s
  | .xhLock => execXhLock_burns s
  | .xhiRtcSecWrite value => execXhiRtcSecWrite_burns value s
  | .xhiLoopCtlWrite value => execXhiLoopCtlWrite_burns value s
  | .faultReport source cause spot job => execFaultReport_burns source cause spot job s
  | .draftingSpareTakeover pair passed => by simp [exec_draftingSpareTakeover, execDraftingSpareTakeover]
  | .escalationTimeout => execEscalationTimeout_burns s
  | .fclAck value => execFclAck_burns value s
  | .fclStickyClear map value => execFclStickyClear_burns map value s
  | .fclInjectReport value => execFclInjectReport_burns value s
  | .fclInjectWriteCheck value => execFclInjectWriteCheck_burns value s
  | .fclInjectReadCheck value => execFclInjectReadCheck_burns value s
  | .scrubSram found => execScrubSram_burns found s
  | .scrubHbm found => execScrubHbm_burns found s
  | .healthSweep failed => execHealthSweep_burns failed s
  | .repairCommit burned => execRepairCommit_burns burned s
  | .caissonCompact => by simp [exec_caissonCompact, execCaissonCompact]
  | .xhSelftest failed => execXhSelftest_burns failed s
  | .archiveExport => execArchiveExport_burns s
  | .avsRecal slacks => by simp [exec_avsRecal, execAvsRecal]
  | .avsRecalDue => by simp [exec_avsRecalDue, execAvsRecalDue]
  | .tjSample tj => by simp [exec_tjSample, execTjSample]
  | .avsSample slack low => by simp [exec_avsSample, execAvsSample]
  | .avsAck => execAvsAck_burns s
  | .avsRetry => execAvsRetry_burns s
  | .tolBudgetWrite value => execTolBudgetWrite_burns value s
  | .tolShareWrite value => execTolShareWrite_burns value s
  | .tolPdReqWrite value => execTolPdReqWrite_burns value s
  | .csnCtlWrite value => execCsnCtlWrite_burns value s
  | .domainSwitchComplete domain => by simp [exec_domainSwitchComplete, execDomainSwitchComplete]
  | .rootPllLock => by simp [exec_rootPllLock, execRootPllLock]
  | .pllLockRestored => by simp [exec_pllLockRestored, execPllLockRestored]
  | .mainResetAssert perst => execMainResetAssert_burns perst s
  | .glbReset value => execGlbReset_burns value s
  | .mainResetRelease clkMode smb1 smb0 => by simp [exec_mainResetRelease, execMainResetRelease]
  | .romBoot stuck => execRomBoot_burns stuck s
  | .firmwareVerified => execFirmwareVerified_burns s
  | .postComplete failed units stipple detectors pages => execPostComplete_burns failed units stipple detectors pages s
  | .mainPowerLoss => execMainPowerLoss_burns s
  | .vbatApplied => by simp [exec_vbatApplied, execVbatApplied]
  | .vbatLoss => by simp [exec_vbatLoss, execVbatLoss]
  | .vddIoSwitchover onVbat => by simp [exec_vddIoSwitchover, execVddIoSwitchover]
  | .sdCardInsertion sdsc initOk speed width4 lbas => by simp [exec_sdCardInsertion, execSdCardInsertion]
  | .sdCardRemoval => by simp [exec_sdCardRemoval, execSdCardRemoval]
  | .sdBusyTimeout => execSdBusyTimeout_burns s
  | .officerCardRemoval slot => by simp [exec_officerCardRemoval, execOfficerCardRemoval]
  | .officerLoginExpiry officer => by simp [exec_officerLoginExpiry, execOfficerLoginExpiry]
  | .drainTimeout => execDrainTimeout_burns s
  | .leaseWaitTimeout job => execLeaseWaitTimeout_burns job s
  | .viFreezeTimeout vi => by simp [exec_viFreezeTimeout, execViFreezeTimeout]
  | .ucodeLoadTimeout job => execUcodeLoadTimeout_burns job s
  | .twinPairTimeout => execTwinPairTimeout_burns s
  | .smbusDeviceState => by simp [exec_smbusDeviceState, execSmbusDeviceState]
  | .smbusTj => by simp [exec_smbusTj, execSmbusTj]
  | .smbusTjMax => by simp [exec_smbusTjMax, execSmbusTjMax]
  | .smbusStatusFlags => by simp [exec_smbusStatusFlags, execSmbusStatusFlags]
  | .smbusVddMv => by simp [exec_smbusVddMv, execSmbusVddMv]
  | .smbusBudget => by simp [exec_smbusBudget, execSmbusBudget]
  | .smbusIdentity => by simp [exec_smbusIdentity, execSmbusIdentity]
  | .hostReadCompletion job outcome => execHostReadCompletion_burns job outcome s
  | .pcieLinkStateChange link => by simp [exec_pcieLinkStateChange, execPcieLinkStateChange]
  | .vfBarWrite vi => by simp [exec_vfBarWrite, execVfBarWrite]
  | .sdTransferEnd ended data => execSdTransferEnd_burns ended data s
  | .sdResponseTimeout => execSdResponseTimeout_burns s
  | .t1BlockReceive block => execT1BlockReceive_burns block s
  | .t1BlockTimeout => execT1BlockTimeout_burns s
  | .shelfBlockErase block => by simp [exec_shelfBlockErase, execShelfBlockErase]
  | .fwSlotBlockWrite good => execFwSlotBlockWrite_burns good s

/-- An idle tick burns nothing. -/
theorem State.idle_otpTable (s : State) : s.idle.lcs.otp = s.lcs.otp := by
  simp [State.idle]

/-- A step burns OTP at most, whatever stands at the front of the queue. -/
theorem step_burns (s : State) : BurnsAll s (step s) := by
  cases hq : s.pending with
  | nil =>
    unfold step
    rw [hq]
    exact BurnsAll.of_eq s.idle_otpTable
  | cons c rest =>
    unfold step
    rw [hq]
    exact exec_burns c { s with pending := rest }

/-- Settles O60: a step burns OTP at most, whatever command is at the front. -/
theorem burnedBitsStay : Obligations.BurnedBitsStay := by
  unfold Obligations.BurnedBitsStay
  intro s t hform hstep
  obtain ⟨hwf, hbits⟩ := step_burns s t hstep
  exact ⟨hwf hform, hbits⟩

/-- Settles O59: the table is empty at reset. -/
theorem otpFormAtReset : Obligations.OtpFormAtReset := rfl

end Sys2Proof.Machine
end

section
/-! Virtual instances: resets, detachment, Bus Master Enable, BARs, freeze and drain limits (R516, R518, R534 to R539, R558). -/

namespace Sys2Proof.Machine

/-- A table from which every index of a class is dropped reads its default on that class. -/
theorem SMap.get_filter_drop (d : Nat → α) (p : Nat → Bool) (i : Nat) (h : p i = false) (m : SMap α) :
    SMap.get d i (m.filter (fun q => p q.1)) = d i := by
  induction m with
  | nil => rfl
  | cons q r ih =>
    obtain ⟨a, x⟩ := q
    by_cases ha : p a = true
    · have hne : a ≠ i := fun e => by rw [e, h] at ha; exact absurd ha (by decide)
      simp [ha, SMap.get, hne, ih]
    · simp [ha, ih]

section Window
variable (s : State) (v : Nat) (st : ViState)

/-- What a reset of its window leaves of a VI: its generation counts one, its rings, policies and errors go, its quota and cursor stay. -/
def Vi.windowReset (x : Vi) (st : ViState) : Vi :=
  { x with gen := x.gen + 1, state := st, freezing := false, noBuffer := false, intStatus := 0, intEnable := 0, intVector := 0, ringErr := 0,
           lostBefore := false, claimResult := 0, msix := [], pba := [] }

theorem State.vi_resetWindow (u : Nat) :
    (s.resetWindow v st).vi u = if v = u then (s.vi v).windowReset st else s.vi u :=
  State.vi_modVi s v u fun x => x.windowReset st

theorem State.ring_resetWindow {k : Nat} (hk : k < 64) : (s.resetWindow v st).ring v k = Ring.reset :=
  SMap.get_filter_drop ringDef (fun a => decide (a / 64 ≠ v)) (v * 64 + k) (by simp; omega) _

end Window

theorem State.foldl_emit_eq (f : Nat → Out) (l : List Nat) (s : State) :
    l.foldl (fun t n => t.emit (f n)) s = { s with out := s.out ++ l.map f } := by
  induction l generalizing s with
  | nil => simp
  | cons a l ih => rw [List.foldl_cons, ih]; simp [State.emit]

/-- Delivering the waiting messages of a VI touches its pending bits and the output alone. -/
theorem State.flushMsix_frame (s : State) (v : Nat) : { s.flushMsix v with vis := s.vis, out := s.out } = s := by
  unfold State.flushMsix
  split
  · dsimp only
    rw [State.foldl_emit_eq]; rfl
  · rfl

theorem State.vi_flushMsix (s : State) (v u : Nat) :
    ∃ pba, (s.flushMsix v).vi u = { s.vi u with pba := pba } ∧ (u ≠ v → pba = (s.vi u).pba) := by
  unfold State.flushMsix
  split
  · dsimp only
    rw [State.foldl_emit_eq]
    by_cases h : v = u
    · subst h
      exact ⟨_, by rw [State.vi_modVi, if_pos rfl]; rfl, fun h => absurd rfl h⟩
    · exact ⟨(s.vi u).pba, by rw [State.vi_modVi, if_neg h]; rfl, fun _ => rfl⟩
  · exact ⟨(s.vi u).pba, rfl, fun _ => rfl⟩

theorem State.vi_flushMsix_ne (s : State) {v u : Nat} (h : u ≠ v) : (s.flushMsix v).vi u = s.vi u := by
  obtain ⟨pba, hu, hp⟩ := s.vi_flushMsix v u
  rw [hu, hp h]

theorem State.vi_sendMsix (s : State) (v vec u : Nat) : ∃ pba, (s.sendMsix v vec).vi u = { s.vi u with pba := pba } := by
  unfold State.sendMsix
  split
  · exact ⟨(s.vi u).pba, rfl⟩
  · rw [State.vi_modVi]
    split
    · rename_i h; subst h; exact ⟨_, rfl⟩
    · exact ⟨(s.vi u).pba, rfl⟩

/-- What raising a status bit leaves of a VI: nothing but its status and its pending messages changes. -/
theorem State.vi_raiseStatus (s : State) (v b u : Nat) : ∃ st pba, (s.raiseStatus v b).vi u = { s.vi u with intStatus := st, pba := pba } := by
  have written : ∃ st, (s.setVi v { s.vi v with intStatus := (s.vi v).intStatus ||| BitVec.ofNat 4 (2 ^ b) }).vi u =
      { s.vi u with intStatus := st } := by
    rw [State.vi_setVi]
    split
    · rename_i h; subst h; exact ⟨_, rfl⟩
    · exact ⟨(s.vi u).intStatus, rfl⟩
  obtain ⟨st, hst⟩ := written
  unfold State.raiseStatus
  dsimp only
  split
  · obtain ⟨pba, hp⟩ := State.vi_sendMsix (s.setVi v _) v (s.vi v).intVector.toNat u
    exact ⟨st, pba, by rw [hp, hst]⟩
  · exact ⟨st, (s.vi u).pba, hst⟩

theorem State.endReset_vi (s : State) (v : Nat) (on : Bool) :
    let t := s.endReset v on
    (t.vi v).state = (if on then .running else .detached) ∧ (t.vi v).tdi = .unlocked ∧ (t.vi v).intStatus.getLsbD 1 = true ∧
      (t.vi v).resetPending = false := by
  intro t
  let s1 := s.modVi v (fun x => { x with state := if on then .running else .detached, resetPending := false, tdi := .unlocked, stream := none })
  have h1 : s1.vi v = { s.vi v with state := if on then .running else .detached, resetPending := false, tdi := .unlocked, stream := none } := by
    simp [s1]
  obtain ⟨hst, -⟩ := s1.raiseStatus_self v 1
  obtain ⟨st, pba, h2⟩ := s1.vi_raiseStatus v 1 v
  obtain ⟨pba', h3, -⟩ := (s1.raiseStatus v 1).vi_flushMsix v v
  have ht : t.vi v = _ := h3
  have hbit : (t.vi v).intStatus.getLsbD 1 = true := by
    rw [ht]; show ((s1.raiseStatus v 1).vi v).intStatus.getLsbD 1 = true
    rw [hst]; simp
  rw [h2, h1] at ht
  exact ⟨by rw [ht], by rw [ht], hbit, by rw [ht]⟩

/-- What VF_ENABLE_SET does to one VI. -/
def State.attachVi (t : State) (v : Nat) : State :=
  if (t.vi v).state = .detached then t.modVi v (fun x => { x with state := .running }) else t

theorem State.vi_attachVi (t : State) (v u : Nat) :
    (t.attachVi v).vi u = if v = u ∧ (t.vi u).state = .detached then { t.vi u with state := .running } else t.vi u := by
  unfold State.attachVi
  by_cases hvu : v = u
  · subst hvu; split <;> rename_i h <;> simp [h]
  · split <;> simp [hvu]

theorem State.vi_foldl_attachVi (l : List Nat) (t : State) (u : Nat) :
    (l.foldl State.attachVi t).vi u = if u ∈ l ∧ (t.vi u).state = .detached then { t.vi u with state := .running } else t.vi u := by
  induction l generalizing t with
  | nil => simp
  | cons a l ih =>
    rw [List.foldl_cons, ih, State.vi_attachVi]
    by_cases hd : (t.vi u).state = .detached
    · by_cases ha : a = u
      · simp [hd, ha]
      · simp [hd, ha, Ne.symm ha]
    · simp [hd]

theorem State.foldl_attachVi_frame (l : List Nat) (t : State) (m : SMap Vi) : { l.foldl State.attachVi t with vis := m } = { t with vis := m } :=
  State.foldl_keeps (fun t : State => { t with vis := m }) _ (fun t v => by unfold State.attachVi; split <;> rfl) l t

theorem exec_vfEnableSet_attaches (s : State) (n : Nat) (hp : s.pcieUp = true) (hn : n ≤ 255) :
    exec (.vfEnableSet n) s = .next (((List.range (Nat.max s.glb.numVfs n)).map (· + 1)).foldl State.attachVi
      { s with glb := { s.glb with numVfs := Nat.max s.glb.numVfs n } }) := by
  show execVfEnableSet n s = _
  simp only [execVfEnableSet, hp, if_true, Nat.min_eq_left hn]
  rfl

/-- Bus Master Enable of a VI becomes `on` (R518, R558): a locked or running TDI goes to ERROR. -/
def Vi.withBme (on : Bool) (x : Vi) : Vi := { x with bme := on, tdi := if x.tdi = .locked ∨ x.tdi = .run then .error else x.tdi }

theorem exec_busMasterEnableChange_of_ne (s : State) (v : Fin 256) (on : Bool) (h : on ≠ (s.vi v.val).bme) :
    exec (.busMasterEnableChange v on) s = .next ((s.modVi v.val (Vi.withBme on)).flushMsix v.val) :=
  congrArg Host.Outcome.next (if_neg (Ne.symm h))

/-- Settles O32, from what the reset of a window, the end of a reset and the attachment of VFs do to each VI. -/
theorem viEvents : Obligations.ViEvents := by
  unfold Obligations.ViEvents
  intro s v x
  refine ⟨fun h1 h2 h3 => ?_, fun h => ?_, ?_, fun h => ?_, fun n h => ?_, fun n hp hn => ?_, ?_, fun on hon => ?_, fun h1 h2 => ?_, fun h => ?_, ?_,
    fun h1 h2 => ?_, fun h => ?_, fun h1 h2 => ?_, fun h => ?_, fun h => ?_, fun h => ?_, fun h => ?_, fun j y h1 h2 => ?_⟩
  · exact congrArg _ (if_pos ⟨h1, h2, h3⟩)
  · exact congrArg _ (if_neg fun ⟨h1, h2, h3⟩ => by rcases h with h | h | h <;> simp_all; omega)
  · have hv : (s.resetWindow v.val .resetting).vi v.val = x.windowReset .resetting := by rw [State.vi_resetWindow, if_pos rfl]
    dsimp only
    rw [hv]
    exact ⟨rfl, rfl, rfl, rfl, rfl, rfl, rfl, rfl, fun k hk => s.ring_resetWindow _ _ hk,
      fun u hu => by rw [State.vi_resetWindow, if_neg (Ne.symm hu)], rfl⟩
  · exact congrArg _ (if_pos h)
  · exact congrArg _ (if_pos h)
  · refine ⟨_, exec_vfEnableSet_attaches s n hp hn, ?_, fun u h1 hk => ?_, fun u hu => ?_, ?_⟩
    · exact congrArg (fun t : State => t.glb.numVfs) (State.foldl_attachVi_frame _ _ s.vis)
    · have hu : u ∈ (List.range (Nat.max s.glb.numVfs n)).map (· + 1) := List.mem_map.2 ⟨u - 1, List.mem_range.2 (by omega), by omega⟩
      rw [State.vi_foldl_attachVi]
      simp only [hu, true_and]; rfl
    · have hu : u ∉ (List.range (Nat.max s.glb.numVfs n)).map (· + 1) := fun hm => by
        obtain ⟨i, hi, rfl⟩ := List.mem_map.1 hm
        have := List.mem_range.1 hi
        omega
      rw [State.vi_foldl_attachVi, if_neg (fun h => hu h.1)]; rfl
    · exact congrArg (fun t : State => { t with glb := s.glb }) (State.foldl_attachVi_frame _ _ s.vis)
  · exact congrArg _ (if_pos rfl)
  · obtain ⟨pba, hvi, -⟩ := (s.modVi v.val (Vi.withBme on)).vi_flushMsix v.val v.val
    rw [State.vi_modVi, if_pos rfl] at hvi
    refine ⟨_, exec_busMasterEnableChange_of_ne s v on hon, by rw [hvi]; rfl, by rw [hvi]; rfl, fun u hu => ?_,
      congrArg (fun t : State => { t with vis := s.vis }) (State.flushMsix_frame (s.modVi v.val (Vi.withBme on)) v.val)⟩
    rw [State.vi_flushMsix_ne _ hu, State.vi_modVi, if_neg (Ne.symm hu)]
  · exact congrArg _ (if_pos ⟨h1, by rw [h2]; rfl⟩)
  · exact congrArg _ (if_neg fun h' => by simp [x] at h; simp [h] at h')
  · have := s.endReset_vi v.val (decide (v.val ≤ s.glb.numVfs))
    simpa using this
  · exact congrArg _ (if_pos ⟨h1, by simp [x] at h2; simp [h2]⟩)
  · exact congrArg _ (if_neg fun h' => by simp [x] at h; simp [h] at h')
  · exact congrArg _ (if_pos ⟨h1, h2⟩)
  · exact congrArg _ (if_neg fun ⟨h1, h2⟩ => by rcases h with h | ⟨h, h'⟩; exact h1 h; exact h2.elim h h')
  · exact congrArg _ (if_neg (by simp [x] at h; simp [h]))
  · exact congrArg _ (if_pos h)
  · show execDrainTimeout s = _
    simp only [execDrainTimeout, h]
  · show execDrainTimeout s = _
    simp only [execDrainTimeout, h1, h2, if_false]
end Sys2Proof.Machine
end

section
/-! IDE keys and TEE device interfaces (R554, R556, R557, R559, R560). -/

namespace Sys2Proof.Machine

theorem mem_insertNat (n a : Nat) (l : List Nat) : a ∈ insertNat n l ↔ a = n ∨ a ∈ l := by
  induction l with
  | nil => simp [insertNat]
  | cons b r ih =>
    unfold insertNat
    split
    · rename_i h; subst h; simp
    · split
      · simp
      · rw [List.mem_cons, ih, List.mem_cons]; tauto

theorem idePlace_set_ne (stream : Nat) (tx set : Bool) (sub : Nat) : idePlace stream tx sub (!set) ≠ idePlace stream tx sub set := by
  cases set <;> simp [idePlace, bitAt]

section TeeDevice
variable {s : State} {k v : Nat} {x : SpdmSession} {f : State → State}

theorem State.tdisp_open (h : s.glb.dev = .ready) (hk : KMap.get k s.doe.sessions = some x) (hx : x.isOpen = true)
    (hv : v ≠ 0) (hn : v ≤ s.glb.numVfs) : s.tdisp k v f = f (s.putSpdm k x.counted) := by
  rw [State.tdisp, State.inSession_acts h hk hx]
  exact if_neg fun hno => hno.elim hv (Nat.not_lt.mpr hn)

/-- The PF and a VF that is not enabled are no interface (R559). -/
theorem State.tdisp_noInterface (h : s.glb.dev = .ready) (hk : KMap.get k s.doe.sessions = some x) (hx : x.isOpen = true)
    (hv : v = 0 ∨ s.glb.numVfs < v) : s.tdisp k v f = (s.putSpdm k x.counted).tdiError k v 0x101 := by
  rw [State.tdisp, State.inSession_acts h hk hx]
  exact if_pos hv

end TeeDevice

section IdeKeys
variable {s : State} {k : Nat} {x : SpdmSession} {stream : Fin 5} {set tx : Bool} {sub : Fin 3}

/-- The acknowledgement of KEY_PROG with status `st`. -/
def progAck (stream : Fin 5) (set tx : Bool) (sub : Fin 3) (st : Nat) : Bytes := octets [3, 0, 0, stream.val, st, ideFlags set tx sub.val, 0]

theorem exec_keyProg_open (key : Bytes) (h : s.glb.dev = .ready) (hk : KMap.get k s.doe.sessions = some x) (hx : x.isOpen = true) :
    let p := idePlace stream.val tx sub.val set
    let t := s.putSpdm k x.counted
    exec (.keyProg k stream set tx sub key) s = .next (
      if key.length ≠ 40 then t.ideAnswer k (progAck stream set tx sub 1)
      else if s.doe.going.contains p then t.ideAnswer k (progAck stream set tx sub 4)
      else (t.withDoe { t.doe with keys := KMap.put p key t.doe.keys }).ideAnswer k (progAck stream set tx sub 0)) :=
  congrArg _ (State.inSession_acts h hk hx)

theorem exec_kSetGo_stored {b : Bytes} (h : s.glb.dev = .ready) (hk : KMap.get k s.doe.sessions = some x) (hx : x.isOpen = true)
    (hkey : KMap.get (idePlace stream.val tx sub.val set) s.doe.keys = some b) :
    let p := idePlace stream.val tx sub.val set
    let q := idePlace stream.val tx sub.val (!set)
    let t := s.putSpdm k x.counted
    exec (.kSetGo k stream set tx sub) s = .next ((t.withDoe { t.doe with going := insertNat p (s.doe.going.filter (fun x => decide (x ≠ q))) }).ideAnswer k
      (goAck stream.val (ideFlags set tx sub.val))) := by
  have hkeys : (KMap.get (idePlace stream.val tx sub.val set) (s.putSpdm k x.counted).doe.keys).isSome = true :=
    congrArg Option.isSome hkey
  refine congrArg Host.Outcome.next ((State.inSession_acts h hk hx).trans ?_)
  dsimp only
  rw [if_pos hkeys]
  rfl

theorem exec_kSetStop_open (h : s.glb.dev = .ready) (hk : KMap.get k s.doe.sessions = some x) (hx : x.isOpen = true) :
    let p := idePlace stream.val tx sub.val set
    let t := s.putSpdm k x.counted
    exec (.kSetStop k stream set tx sub) s = .next ((t.withDoe { t.doe with
      keys := KMap.del p t.doe.keys, going := t.doe.going.filter (fun x => decide (x ≠ p)) }).ideAnswer k (goAck stream.val (ideFlags set tx sub.val))) :=
  congrArg _ (State.inSession_acts h hk hx)

end IdeKeys

/-! ### The interfaces and their nonces -/

/-- The interface of `v` is bound to a stream. -/
def State.lockTdi (s : State) (v stream : Nat) : State := s.modVi v (fun y => { y with tdi := .locked, stream := some stream })

/-- The interface of `v` runs. -/
def State.runTdi (s : State) (v : Nat) : State := s.modVi v (fun y => { y with tdi := .run })

/-- A state with other nonces of its interfaces. -/
def State.withNonces (s : State) (m : KMap Bytes) : State := s.withDoe { s.doe with nonces := m }

section Nonces
variable (s : State) (v stream w k typ : Nat) (m : KMap Bytes) (b : Bytes)

theorem State.vi_lockTdi : (s.lockTdi v stream).vi w = if v = w then { s.vi v with tdi := .locked, stream := some stream } else s.vi w :=
  State.vi_modVi s v w _

theorem State.vi_runTdi : (s.runTdi v).vi w = if v = w then { s.vi v with tdi := .run } else s.vi w := State.vi_modVi s v w _

theorem State.vi_answerNonces : ((s.withNonces m).tdiAnswer k typ v b).vi w = s.vi w := rfl

end Nonces

section Binding
variable {s : State} {k : Nat} {x : SpdmSession} {v : Fin 256} {stream : Fin 5}

theorem exec_lockInterfaceRequest_bound (h : s.glb.dev = .ready) (hk : KMap.get k s.doe.sessions = some x) (hx : x.isOpen = true)
    (hv : v.val ≠ 0) (hn : v.val ≤ s.glb.numVfs) :
    let t := s.putSpdm k x.counted
    let n := drawBytes s.draws 32
    exec (.lockInterfaceRequest k v stream) s = .next (
      if (s.vi v.val).tdi ≠ .unlocked then t.tdiError k v.val 0x04
      else if stream.val = 4 ∨ !(s.doe.streamSet stream.val) then t.tdiError k v.val 0x01
      else if !s.ent.drbgOk then t.tdiError k v.val 0x103
      else ((t.nextDraw.lockTdi v.val stream.val).withNonces (KMap.put v.val n t.nextDraw.doe.nonces)).tdiAnswer k 0x03 v.val n) :=
  congrArg _ (State.tdisp_open h hk hx hv hn)

theorem exec_startInterfaceRequest_bound {nonce : Bytes} (h : s.glb.dev = .ready) (hk : KMap.get k s.doe.sessions = some x)
    (hx : x.isOpen = true) (hv : v.val ≠ 0) (hn : v.val ≤ s.glb.numVfs) :
    let t := s.putSpdm k x.counted
    exec (.startInterfaceRequest k v nonce) s = .next (
      if (s.vi v.val).tdi ≠ .locked then t.tdiError k v.val 0x04
      else if KMap.get v.val s.doe.nonces ≠ some nonce then t.tdiError k v.val 0x102
      else ((t.runTdi v.val).withNonces (KMap.del v.val t.doe.nonces)).tdiAnswer k 0x06 v.val []) :=
  congrArg _ (State.tdisp_open h hk hx hv hn)

theorem exec_stopInterfaceRequest_bound (h : s.glb.dev = .ready) (hk : KMap.get k s.doe.sessions = some x) (hx : x.isOpen = true)
    (hv : v.val ≠ 0) (hn : v.val ≤ s.glb.numVfs) :
    let t := s.putSpdm k x.counted
    exec (.stopInterfaceRequest k v) s = .next (
      if (s.vi v.val).tdi = .unlocked then t.tdiAnswer k 0x07 v.val []
      else (t.withDoe { t.doe with stops := KMap.put v.val k t.doe.stops, nonces := KMap.del v.val t.doe.nonces }).startReset v.val) :=
  congrArg _ (State.tdisp_open h hk hx hv hn)

theorem exec_getDeviceInterfaceReport_bound {off len : Nat} (h : s.glb.dev = .ready) (hk : KMap.get k s.doe.sessions = some x)
    (hx : x.isOpen = true) (hv : v.val ≠ 0) (hn : v.val ≤ s.glb.numVfs) :
    let t := s.putSpdm k x.counted
    let r := t.interfaceReport v.val
    let part := slice r off len
    exec (.getDeviceInterfaceReport k v off len) s = .next (
      if (s.vi v.val).tdi ≠ .locked ∧ (s.vi v.val).tdi ≠ .run then t.tdiError k v.val 0x04
      else if r.length ≤ off then t.tdiError k v.val 0x01
      else t.tdiAnswer k 0x04 v.val (leBytes 2 part.length ++ leBytes 2 (r.length - off - part.length) ++ part)) :=
  congrArg _ (State.tdisp_open h hk hx hv hn)

end Binding

/-- Settles O47, with what each message does in an open session stated once. -/
theorem ideAndTdisp : Obligations.IdeAndTdisp := by
  unfold Obligations.IdeAndTdisp
  intro s k v stream set tx sub key port off len p
  refine ⟨fun hno => ?unready, fun h hclosed => ?closed, fun x h hk hx => ?opened⟩
  case unready =>
    have quiet : ∀ f, s.inSession k true f = s := fun f => State.inSession_unserved hno
    exact ⟨congrArg _ (quiet _), congrArg _ (quiet _), congrArg _ (quiet _), congrArg _ (quiet _), congrArg _ (quiet _), congrArg _ (quiet _),
      congrArg _ (quiet _), congrArg _ (quiet _), congrArg _ (quiet _), congrArg _ (quiet _), congrArg _ (quiet _)⟩
  case closed =>
    have refused : ∀ f, s.inSession k true f = s.spdmError 0x02 := fun f => by
      cases hk : KMap.get k s.doe.sessions with
      | none => exact State.inSession_none h hk
      | some x => exact State.inSession_other h hk (by rw [hclosed x hk]; decide)
    simp only [List.forall_mem_cons, List.not_mem_nil, false_imp_iff, implies_true, and_true]
    exact ⟨congrArg _ (refused _), congrArg _ (refused _), congrArg _ (refused _), congrArg _ (refused _), congrArg _ (refused _),
      congrArg _ (refused _), congrArg _ (refused _), congrArg _ (refused _), congrArg _ (refused _), congrArg _ (refused _), congrArg _ (refused _)⟩
  case opened =>
    intro y t
    have ht : t = s.putSpdm k x.counted := rfl
    clear_value t
    subst ht
    clear y
    refine ⟨congrArg _ (State.inSession_acts h hk hx), fun hlen hgo => ?stored, fun hbad => ?notStored, fun b hb => ?go, ?stop, fun hv => ?nobody,
      fun hv hn => ?bound⟩
    case stored =>
      have hprog := exec_keyProg_open (stream := stream) (set := set) (tx := tx) (sub := sub) key h hk hx
      dsimp only at hprog
      rw [if_neg (not_not_intro hlen), if_neg (ne_true_of_eq_false hgo)] at hprog
      exact ⟨_, hprog, rfl, rfl⟩
    case notStored =>
      have hprog := exec_keyProg_open (stream := stream) (set := set) (tx := tx) (sub := sub) key h hk hx
      dsimp only at hprog
      by_cases hlen : key.length = 40
      · rw [if_neg (not_not_intro hlen), if_pos (hbad.resolve_left (not_not_intro hlen))] at hprog
        exact ⟨_, hprog, rfl, rfl⟩
      · rw [if_pos hlen] at hprog
        exact ⟨_, hprog, rfl, rfl⟩
    case go =>
      refine ⟨_, exec_kSetGo_stored h hk hx hb, (mem_insertNat _ _ _).mpr (.inl rfl), fun hq => ?_, rfl, rfl⟩
      rcases (mem_insertNat _ _ _).mp hq with hq | hq
      · exact idePlace_set_ne _ _ _ _ hq
      · exact of_decide_eq_true (List.mem_filter.mp hq).2 rfl
    case stop => exact ⟨_, exec_kSetStop_open h hk hx, fun hp => of_decide_eq_true (List.mem_filter.mp hp).2 rfl, KMap.get_del_self _ _, rfl⟩
    case nobody =>
      have none : ∀ f, s.tdisp k v.val f = (s.putSpdm k x.counted).tdiError k v.val 0x101 := fun f => State.tdisp_noInterface h hk hx hv
      exact ⟨_, congrArg _ (none _), congrArg _ (none _), congrArg _ (none _), congrArg _ (none _)⟩
    case bound =>
      have acts : ∀ f, s.tdisp k v.val f = f (s.putSpdm k x.counted) := fun f => State.tdisp_open h hk hx hv hn
      have hlock := exec_lockInterfaceRequest_bound (stream := stream) h hk hx hv hn
      have hstart := exec_startInterfaceRequest_bound (nonce := key) h hk hx hv hn
      have hstop := exec_stopInterfaceRequest_bound h hk hx hv hn
      have hreport := exec_getDeviceInterfaceReport_bound (off := off) (len := len) h hk hx hv hn
      dsimp only at hlock hstart hstop hreport
      refine ⟨congrArg _ (acts _), ⟨_, congrArg _ (acts _)⟩, congrArg _ (acts _), fun h1 h2 => hreport.trans (by rw [if_pos ⟨h1, h2⟩]),
        fun h1 hoff => hreport.trans ?_, fun h1 => hlock.trans (by rw [if_pos h1]), fun h1 h2 => hlock.trans ?_, fun h1 h2 h3 h4 => ?locks,
        fun h1 => hstart.trans (by rw [if_pos h1]), fun h1 h2 => hstart.trans (by rw [if_neg (not_not_intro h1), if_pos h2]),
        fun h1 h2 => ?starts, fun h1 => hstop.trans (by rw [if_pos h1]), fun h1 => hstop.trans (by rw [if_neg h1])⟩
      · rw [if_neg (fun hh => h1.elim hh.1 hh.2), if_neg (Nat.not_le.mpr hoff)]
      · rw [if_neg (not_not_intro h1), if_pos (h2.imp id fun h2 => by rw [h2]; rfl)]
      case locks =>
        have hfree : ¬(stream.val = 4 ∨ (!s.doe.streamSet stream.val) = true) := by rw [h3]; exact not_or.mpr ⟨h2, Bool.false_ne_true⟩
        have hvi : ∀ n, (s.putSpdm k x.counted).nextDraw.vi n = s.vi n := fun n =>
          congrArg (SMap.get Vi.reset n) (congrArg State.vis (State.besideDraws_nextDraw (s.putSpdm k x.counted)) :)
        rw [if_neg (not_not_intro h1), if_neg hfree, if_neg (by rw [h4]; decide)] at hlock
        refine ⟨_, hlock, ?_, ?_, KMap.get_put_self _ _ _, fun n hne => ?_, State.nextDraw_draws _⟩
        · rw [State.vi_answerNonces, State.vi_lockTdi, if_pos rfl]
        · rw [State.vi_answerNonces, State.vi_lockTdi, if_pos rfl]
        · rw [State.vi_answerNonces, State.vi_lockTdi, if_neg hne.symm, hvi]
      case starts =>
        rw [if_neg (not_not_intro h1), if_neg (not_not_intro h2)] at hstart
        refine ⟨_, hstart, ?_, KMap.get_del_self _ _, fun n hne => ?_⟩
        · rw [State.vi_answerNonces, State.vi_runTdi, if_pos rfl]
        · rw [State.vi_answerNonces, State.vi_runTdi, if_neg hne.symm]
          rfl
end Sys2Proof.Machine
end

section
/-! The span link: frames, HELLO, timers, silence and lane failures (R562 to R567, R570, R577). -/

namespace Sys2Proof.Machine

/-! ### What sending a frame leaves alone -/

/-- The nonces and the receive number of the span, and what a frame never touches: keys, jobs and sessions. -/
def State.spanView (s : State) : Option Bytes × Option Bytes × Nat × Csn × KMap Job × Cwy :=
  (s.spn.ourNonce, s.spn.peerNonce, s.spn.rxSeq, s.csn, s.jobs, s.cwy)

theorem State.spanView_sendSpan (s : State) (typ chan : Nat) (b : Bytes) : (s.sendSpan typ chan b).spanView = s.spanView := rfl

theorem State.spanView_pumpSpan (s : State) : s.pumpSpan.spanView = s.spanView := by
  unfold State.pumpSpan
  split
  · rfl
  · exact State.foldl_keeps State.spanView _ (fun t m => t.spanView_sendSpan _ _ _) _ _

theorem State.spanView_ackSource (s : State) (source : Nat) (causes : List Nat) : (s.ackSource source causes).spanView = s.spanView :=
  (congrArg State.spanView (s.ackSource_contained source causes).1 :)

theorem State.spanView_nextDraw (s : State) : s.nextDraw.spanView = s.spanView :=
  (congrArg State.spanView s.besideDraws_nextDraw :)

/-- HELLO goes out with a fresh nonce (R564). -/
theorem State.spanView_sendHello (s : State) :
    s.sendHello.spanView = (some (drawBytes s.draws 32), s.spn.peerNonce, s.spn.rxSeq, s.csn, s.jobs, s.cwy) :=
  State.spanView_nextDraw { s with spn := { s.spn with ourNonce := some (drawBytes s.draws 32) } }

/-! ### HELLO -/

/-- The state that answers a HELLO of the peer: a link that was aligned starts again, and a HELLO of its own goes out where none stands. -/
def State.helloHeard (s : State) : State :=
  let s1 : State := if s.spn.peerNonce.isSome then { s with spn := s.spn.unalign } else s
  if s1.spn.ourNonce.isNone then s1.sendHello else s1

/-- The peer's nonce is noted, and frames go out on the link that this aligns. -/
def State.helloTaken (s : State) (nonce : Bytes) : State :=
  let t := ({ s with spn := { s.spn with peerNonce := some nonce } } : State).ackSource (src uSpn 0xFF) [0x0B]
  if t.aligned then (t.sendSpan tIdle 0 []).pumpSpan else t

theorem State.spanView_helloTaken (s : State) (nonce : Bytes) :
    (s.helloTaken nonce).spanView = (s.spn.ourNonce, some nonce, s.spn.rxSeq, s.csn, s.jobs, s.cwy) := by
  have hack := State.spanView_ackSource ({ s with spn := { s.spn with peerNonce := some nonce } } : State) (src uSpn 0xFF) [0x0B]
  unfold State.helloTaken
  dsimp only
  split
  · rw [State.spanView_pumpSpan, State.spanView_sendSpan]; exact hack
  · exact hack

theorem State.spanView_helloHeard_aligned (s : State) (h : s.spn.peerNonce.isSome = true) :
    s.helloHeard.spanView = (some (drawBytes s.draws 32), none, 0, s.csn, s.jobs, s.cwy) := by
  unfold State.helloHeard
  rw [if_pos h]
  exact (congrArg State.spanView (if_pos rfl)).trans (State.spanView_sendHello _)

theorem State.spanView_helloHeard_first (s : State) (h : s.spn.peerNonce = none) :
    s.helloHeard.spanView = (some (s.spn.ourNonce.getD (drawBytes s.draws 32)), none, s.spn.rxSeq, s.csn, s.jobs, s.cwy) := by
  have hheard : s.helloHeard = if s.spn.ourNonce.isNone then s.sendHello else s := by
    unfold State.helloHeard
    rw [h]
    rfl
  rw [hheard]
  cases ho : s.spn.ourNonce with
  | none => exact (State.spanView_sendHello s).trans (by rw [h]; rfl)
  | some n => show s.spanView = _; rw [State.spanView, ho, h]; rfl

section Frames
variable {s : State} {f : Bytes}

theorem State.listens (h : ¬(s.spanOn = false ∨ s.spn.dead = true)) : ¬((!s.spanOn) = true ∨ s.spn.dead = true) := by
  cases hon : s.spanOn <;> simp [hon] at h ⊢; exact h

theorem State.deaf (h : s.spanOn = false ∨ s.spn.dead = true) : (!s.spanOn) = true ∨ s.spn.dead = true :=
  h.imp_left fun hoff => by rw [hoff]; rfl

/-- What a whole frame of the data types leads to, where the span listens. -/
theorem exec_spanFrameReceive_whole (hl : ¬(s.spanOn = false ∨ s.spn.dead = true)) (hw : frameWhole f = true)
    (ht : frameOf f [tIdle, tData, tNak] = true) :
    exec (.spanFrameReceive f) s = .next (
      if !s.paired then (s.emit (.span refusalFrame)).bump (Reg.spn 0x200)
      else if !s.aligned then s
      else if !(s.spanTagOk f) then s.spanTagFails
      else if rd f 8 8 ≠ s.spn.rxSeq then (({ s with spn := { s.spn with linkRx := s.time } } : State)).sendSpan tNak 0 []
      else s.takeFrame f) := by
  refine congrArg Host.Outcome.next ((if_neg (State.listens hl)).trans ?_)
  rw [hw, ht]
  rfl

theorem exec_spanHello_whole (hl : ¬(s.spanOn = false ∨ s.spn.dead = true)) (hw : frameWhole f = true)
    (ht : frameOf f [tHello] = true) (hn : rd f 4 2 = 32) :
    exec (.spanHello f) s = .next (s.helloHeard.helloTaken (slice f 32 32)) := by
  refine congrArg Host.Outcome.next ((if_neg (State.listens hl)).trans ?_)
  rw [hw, ht, hn]
  rfl

end Frames

/-- Settles O48: each command by the guards of its definition, HELLO by what its two steps leave of the nonces. -/
theorem spanLink : Obligations.SpanLink := by
  unfold Obligations.SpanLink
  intro s f l deaf
  refine ⟨fun hoff => ?off, fun hd => ?deaf, fun hl hw => ?broken, fun hl hw ht => ?otherType, fun hl hw ht hp => ?unpaired, fun hl hw ht ha => ?data,
    fun hl hw ht => ?noHello, fun hl hw ht hn => ?hello, fun hon ha => ?aligned, fun ha => ?unaligned, fun hp => ?alone, fun hon hp hst => ?silence,
    fun hb => ?badLane, fun hon hb => ?goodLane⟩
  case off =>
    have hno : (!s.spanOn) = true := by rw [hoff]; rfl
    have hon : ¬s.spanOn = true := ne_true_of_eq_false hoff
    exact ⟨congrArg _ (if_pos (.inl hno)), congrArg _ (if_pos (.inl hno)), congrArg _ (if_neg fun h => hon h.1), congrArg _ (if_neg fun h => hon h.1),
      congrArg _ (if_pos (.inl hno)), congrArg _ (if_pos (.inl hno))⟩
  case deaf => exact ⟨congrArg _ (if_pos (State.deaf hd)), congrArg _ (if_pos (State.deaf hd))⟩
  case broken =>
    have hno : (!frameWhole f) = true := by rw [hw]; rfl
    exact ⟨_, congrArg Host.Outcome.next ((if_neg (State.listens hl)).trans (if_pos hno)),
      congrArg Host.Outcome.next ((if_neg (State.listens hl)).trans (if_pos hno)), rfl, rfl⟩
  case otherType =>
    refine congrArg Host.Outcome.next ((if_neg (State.listens hl)).trans ?_)
    rw [hw, ht]
    rfl
  case unpaired =>
    have hframe := exec_spanFrameReceive_whole hl hw ht
    rw [hp] at hframe
    exact ⟨_, hframe, rfl, rfl⟩
  case data =>
    have hp : s.paired = true := by
      unfold State.aligned at ha
      cases h : s.paired
      · rw [h] at ha; exact absurd ha (by simp)
      · rfl
    have hframe := exec_spanFrameReceive_whole hl hw ht
    rw [hp, ha] at hframe
    refine ⟨fun htag => ?_, fun htag hseq => ?_, fun htag hseq => ?_⟩
    · rw [hframe, htag]; rfl
    · rw [hframe, htag, if_pos hseq]; rfl
    · rw [hframe, htag, if_neg (not_not_intro hseq)]; rfl
  case noHello =>
    refine congrArg Host.Outcome.next ((if_neg (State.listens hl)).trans ?_)
    rw [hw]
    exact if_pos (ht.imp_left fun h => by rw [h]; rfl)
  case hello =>
    have hview := s.helloHeard.spanView_helloTaken (slice f 32 32)
    simp only [State.spanView, Prod.mk.injEq] at hview
    obtain ⟨hour, hpeer, hseq, hcsn, hjobs, hcwy⟩ := hview
    refine ⟨_, exec_spanHello_whole hl hw ht hn, hpeer, fun hs => ?_, fun hn ho => ?_, ?_⟩
    · have h1 := s.spanView_helloHeard_aligned hs
      simp only [State.spanView, Prod.mk.injEq] at h1
      exact ⟨hour.trans h1.1, hseq.trans h1.2.2.1⟩
    · have h1 := s.spanView_helloHeard_first hn
      simp only [State.spanView, Prod.mk.injEq] at h1
      obtain ⟨n, hn⟩ := Option.isSome_iff_exists.mp ho
      rw [hour, h1.1, hn]
      rfl
    · have h1 : s.helloHeard.csn = s.csn ∧ s.helloHeard.jobs = s.jobs ∧ s.helloHeard.cwy = s.cwy := by
        cases hp : s.spn.peerNonce with
        | none =>
          have h1 := s.spanView_helloHeard_first hp
          simp only [State.spanView, Prod.mk.injEq] at h1
          exact h1.2.2.2
        | some n =>
          have h1 := s.spanView_helloHeard_aligned (by rw [hp]; rfl)
          simp only [State.spanView, Prod.mk.injEq] at h1
          exact h1.2.2.2
      exact ⟨hcsn.trans h1.1, hjobs.trans h1.2.1, hcwy.trans h1.2.2⟩
  case aligned =>
    exact ⟨congrArg _ (if_pos ⟨hon, ha⟩), fun hw => ⟨congrArg _ (if_pos ⟨hon, ha, hw⟩), rfl⟩,
      fun hw => congrArg _ (if_neg fun h => Nat.not_lt.mpr hw h.2.2)⟩
  case unaligned =>
    have hno : ¬s.aligned = true := ne_true_of_eq_false ha
    exact ⟨congrArg _ (if_neg fun h => hno h.2), congrArg _ (if_neg fun h => hno h.2.1)⟩
  case alone => exact congrArg _ (if_pos (.inr (by rw [hp]; rfl)))
  case silence =>
    have hact : ¬((!s.spanOn) = true ∨ (!s.paired) = true) := by rw [hon, hp]; decide
    have hexec : exec .spanLinkSilence s = .next (if s.spn.hbAlive then ({ s with spn := s.spn.unalign } : State).setPair .linkDown
        else ({ s with spn := s.spn.unalign } : State).losePeer) := by
      refine congrArg Host.Outcome.next ((if_neg hact).trans ?_)
      rcases hst with h | h <;> rw [h]
    exact ⟨fun h => hexec.trans (by rw [h]; rfl), fun h => hexec.trans (by rw [h]; rfl)⟩
  case badLane => exact congrArg _ (if_pos (.inr hb))
  case goodLane => rfl

end Sys2Proof.Machine
end

section
/-! The twin: heartbeat words, mirror messages and acknowledgements, the end of a synchronisation (R566 to R597). -/

namespace Sys2Proof.Machine

section TwinMessages
variable {s : State} {w : Bytes} {id : Nat} {items : List MirrorItem}

/-- A device that can say and check heartbeat words (R568): its span works, it is paired and its key stands. -/
theorem State.notMute (h : s.spanOn = true ∧ s.paired = true ∧ (KMap.get 7 s.csn.keys).isSome = true) :
    ¬((!s.spanOn) = true ∨ (!s.paired) = true ∨ (KMap.get 7 s.csn.keys).isNone = true) := by
  obtain ⟨hon, hp, hk⟩ := h
  rw [hon, hp]
  cases hg : KMap.get 7 s.csn.keys with
  | none => rw [hg] at hk; exact absurd hk (by decide)
  | some k => simp

theorem State.mute (h : ¬(s.spanOn = true ∧ s.paired = true ∧ (KMap.get 7 s.csn.keys).isSome = true)) :
    (!s.spanOn) = true ∨ (!s.paired) = true ∨ (KMap.get 7 s.csn.keys).isNone = true := by
  by_contra hc
  refine h ⟨?_, ?_, ?_⟩
  · simpa using fun h => hc (.inl h)
  · cases hp : s.paired <;> simp_all
  · cases hk : KMap.get 7 s.csn.keys <;> simp_all

/-- The heartbeat counters after one more word: the count wraps at 2³² (R568). -/
def Spn.wordSent (x : Spn) : Spn :=
  let last := decide (x.hbCounter = 2 ^ 32 - 1)
  { x with hbCounter := if last then 0 else x.hbCounter + 1, hbWraps := if last then x.hbWraps + 1 else x.hbWraps }

theorem exec_heartbeatWordSend_able (h : s.spanOn = true ∧ s.paired = true ∧ (KMap.get 7 s.csn.keys).isSome = true) :
    exec .heartbeatWordSend s = .next (({ s with spn := s.spn.wordSent } : State).emit
      (.heartbeat (hbWord (s.hbKey s.spn.bootCount s.spn.hbWraps) (hbHead s.spn.pair.code s.spn.fence s.spn.hbCounter)))) :=
  congrArg _ (if_neg (State.notMute h))

theorem exec_heartbeatWordReceive_invalid (h : s.spanOn = true ∧ s.paired = true ∧ (KMap.get 7 s.csn.keys).isSome = true)
    (hw : s.hbValid w = none) : exec (.heartbeatWordReceive w) s = .next (s.bump (Reg.spn 0x214)) := by
  refine congrArg Host.Outcome.next ((if_neg (State.notMute h)).trans ?_)
  rw [hw]

/-- What a valid word of the peer leaves in the span's state. -/
def Spn.heard (x : Spn) (k : Nat × Nat) (w : Bytes) (time : Nat) : Spn :=
  { x with hbBoot := k.1, hbWrap := k.2, hbCount := some (rdBe w 1 4), hbAlive := true, hbRx := time,
           peerState := rd w 0 1 / 2 % 8, peerFence := (rd w 0 1).testBit 0 }

theorem exec_heartbeatWordReceive_valid {k : Nat × Nat} (h : s.spanOn = true ∧ s.paired = true ∧ (KMap.get 7 s.csn.keys).isSome = true)
    (hw : s.hbValid w = some k) :
    exec (.heartbeatWordReceive w) s = .next (({ s with spn := s.spn.heard k w s.time } : State).heedWord) := by
  refine congrArg Host.Outcome.next ((if_neg (State.notMute h)).trans ?_)
  rw [hw]
  rfl

theorem State.linked (hon : s.spanOn = true) (ha : s.aligned = true) : ¬((!s.spanOn) = true ∨ (!s.aligned) = true) := by
  rw [hon, ha]; decide

theorem exec_mirrorMessageReceive_linked (hon : s.spanOn = true) (ha : s.aligned = true) :
    let t := (items.foldl State.takeItem s).settleSync
    exec (.mirrorMessageReceive id items) s = .next (
      if items.contains .unpair then (t.mirrorAck id).unpair
      else if t.spn.pair = .inStep then t.takeRolesIn id items
      else t.mirrorAck id) :=
  congrArg _ (if_neg (State.linked hon ha))

theorem State.attends (hon : s.spanOn = true) (hp : s.paired = true) : ¬((!s.spanOn) = true ∨ (!s.paired) = true) := by
  rw [hon, hp]; decide

theorem exec_heartbeatSilence_claims (hon : s.spanOn = true) (hp : s.paired = true) (hf : s.spn.fence = true) (hc : s.spn.claim.isSome = true) :
    exec .heartbeatSilence s = .next (({ s with spn := { s.spn with hbAlive := false } } : State).claimWon) :=
  congrArg Host.Outcome.next ((if_neg (State.attends hon hp)).trans (if_pos ⟨hf, hc⟩))

theorem exec_heartbeatSilence_inStep (hon : s.spanOn = true) (hp : s.paired = true) (hf : s.spn.fence = false) (hst : s.spn.pair = .inStep) :
    exec .heartbeatSilence s = .next { s with spn := { s.spn with hbAlive := false } } := by
  have hclaim : ¬(s.spn.fence = true ∧ s.spn.claim.isSome = true) := fun h => ne_true_of_eq_false hf h.1
  refine congrArg Host.Outcome.next ((if_neg (State.attends hon hp)).trans ((if_neg hclaim).trans ?_))
  split
  · rename_i h; rw [hst] at h; cases h
  · rename_i h; rw [hst] at h; cases h
  · rfl

theorem State.twinFails_idle {j : Nat} {y : Job} (hj : s.job j = some y) (h : y.stage ≠ .waiting) : s.twinFails j = s := by
  unfold State.twinFails
  rw [hj]
  exact if_pos (.inl h)

end TwinMessages

/-- Settles O49, by what an able device says and hears, and by the wait that a message stands for. -/
theorem twinMessages : Obligations.TwinMessages := by
  unfold Obligations.TwinMessages
  intro s w id items x able
  refine ⟨fun hoff => ?off, fun ha => ?send, fun ha hw => ?invalid, fun k ha hw => ?valid, fun ha => ?mute, fun hon hp hf hc => ?claim,
    fun hon hp hf hst => ?silence, fun hon hst => ?rejoin, fun hst => ?noRejoin, fun ha => ?unaligned, fun hon ha hu => ?unpair,
    fun hon ha hu hst => ?acked, fun hon ha hu hst => ?roles, fun hw => ?noWait, fun m hon ha hw => ?met, fun m hc hw => ?late, fun i n => rfl,
    fun j y hj hst => ?jobLate, fun hon hst hs hl => ?sync, fun h => ?noSync⟩
  case off =>
    have hno : (!s.spanOn) = true := by rw [hoff]; rfl
    have hon : ¬s.spanOn = true := ne_true_of_eq_false hoff
    exact ⟨congrArg _ (if_pos (.inl hno)), congrArg _ (if_pos (.inl hno)), congrArg _ (if_pos (.inl hno)), congrArg _ (if_neg fun h => hon h.1),
      congrArg _ (if_pos (.inl hno)), congrArg _ (if_pos (.inl hno)), congrArg _ (if_neg fun h => hon h.1)⟩
  case send =>
    refine ⟨_, exec_heartbeatWordSend_able ha, rfl, fun h => ?_, fun h => ?_, rfl⟩
    · show x.wordSent = _
      unfold Spn.wordSent
      rw [decide_eq_false h]
      rfl
    · show x.wordSent = _
      unfold Spn.wordSent
      rw [decide_eq_true h]
      rfl
  case invalid => exact exec_heartbeatWordReceive_invalid ha hw
  case valid => exact exec_heartbeatWordReceive_valid ha hw
  case mute => exact ⟨congrArg _ (if_pos (State.mute ha)), congrArg _ (if_pos (State.mute ha))⟩
  case claim => exact exec_heartbeatSilence_claims hon hp hf hc
  case silence => exact ⟨_, exec_heartbeatSilence_inStep hon hp hf hst, rfl, rfl⟩
  case rejoin => exact congrArg _ (if_pos ⟨hon, hst⟩)
  case noRejoin => exact congrArg _ (if_neg fun h => hst h.2)
  case unaligned =>
    have hno : (!s.aligned) = true := by rw [ha]; rfl
    exact ⟨congrArg _ (if_pos (.inr hno)), congrArg _ (if_pos (.inr hno))⟩
  case unpair => exact (exec_mirrorMessageReceive_linked hon ha).trans (congrArg _ (if_pos hu))
  case acked =>
    exact (exec_mirrorMessageReceive_linked hon ha).trans (congrArg _ ((if_neg (ne_true_of_eq_false hu)).trans (if_neg hst)))
  case roles =>
    exact (exec_mirrorMessageReceive_linked hon ha).trans (congrArg _ ((if_neg (ne_true_of_eq_false hu)).trans (if_pos hst)))
  case noWait =>
    constructor
    · rw [exec_mirrorAckReceive, execMirrorAckReceive]
      dsimp only [x] at hw
      rw [hw]
      split <;> rfl
    · rw [exec_mirrorWaitTimeout, execMirrorWaitTimeout]
      dsimp only [x] at hw
      rw [hw]
  case met =>
    refine congrArg Host.Outcome.next ((if_neg (State.linked hon ha)).trans ?_)
    dsimp only [x] at hw
    rw [hw]
  case late =>
    rw [exec_mirrorWaitTimeout, execMirrorWaitTimeout]
    dsimp only [x] at hw
    rw [hw]
    exact congrArg Host.Outcome.next (if_pos hc)
  case jobLate => exact State.twinFails_idle (y := y) hj hst
  case sync => exact congrArg _ (if_pos ⟨hon, hst, hs, hl⟩)
  case noSync =>
    refine congrArg _ (if_neg fun hh => ?_)
    obtain ⟨-, hst, hs, hl⟩ := hh
    rcases h with h | h | h
    · exact h hst
    · exact ne_true_of_eq_false h hs
    · exact ne_true_of_eq_false h hl

end Sys2Proof.Machine
end

section
/-! Life-cycle burns, limits and the test port (R604, R607, R617, R619, R622, R624, R625, R627, R628, R629). -/

namespace Sys2Proof.Machine

/-! ### The burn of a byte -/

section Burn
variable (s : State) (a : Nat) (v rb second : Byte)

/-- A burn of a byte burns some bits of its value and no other byte (R607, R619). -/
theorem State.burnByte_some : ∃ m : Byte, (s.burnByte a v rb second).otp a = s.otp a ||| (v &&& m) ∧
    ∀ n, n ≠ a → (s.burnByte a v rb second).otp n = s.otp n := by
  have written : ∀ (b : Byte) n, n ≠ a → (s.setOtp a b).otp n = s.otp n := fun b n hn => by rw [State.otp_setOtp, if_neg (Ne.symm hn)]
  have self : ∀ b : Byte, (s.setOtp a b).otp a = b := fun b => by rw [State.otp_setOtp, if_pos rfl]
  have twice : s.otp a ||| (v &&& rb) ||| (v &&& second) = s.otp a ||| (v &&& (rb ||| second)) := by
    ext i hi; simp only [BitVec.getElem_or, BitVec.getElem_and]; cases v[i] <;> simp [Bool.or_assoc]
  unfold State.burnByte
  dsimp only
  split
  · exact ⟨rb, self _, written _⟩
  · split
    · exact ⟨rb ||| second, (self _).trans twice, written _⟩
    · exact ⟨rb ||| second, (self _).trans twice, written _⟩

end Burn

theorem exec_lcsDrainTimeout_drained {s : State} {b : Burn} (hb : s.lcs.burn = some b) (hd : b.draining = true) (hj : s.drainedJobs = []) :
    exec .lcsDrainTimeout s = .next (({ s with lcs := { s.lcs with burn := some { b with draining := false } } } : State).settlePower) := by
  rw [exec_lcsDrainTimeout, execLcsDrainTimeout, hb]
  dsimp only
  rw [if_pos hd, hj]
  refine congrArg (fun o => Host.Outcome.next (State.settlePower { s with lcs := { s.lcs with burn := o } })) ?_
  show s.lcs.burn.map _ = _
  rw [hb]
  rfl

/-! ### The test port -/

section TestPort
variable {s : State} {w : Word} {agree : Bool}

/-- What LCS_REQ_CONFIRM does of a request in BLANK or TRIAL (R622, R624). -/
def State.confirmRequest (s : State) (w : Word) (agree : Bool) : State :=
  if s.lcs.burn.isSome then { s with lcs := { s.lcs with reqResult := 4 } }
  else if w ≠ ~~~(BitVec.ofNat 32 (rd s.lcs.reqTarget 0 4)) then { s with lcs := { s.lcs with reqResult := 1 } }
  else if !agree then s.splitDecision [] 0
  else match s.planBurn s.lcs.reqTarget with
    | none => { s with lcs := { s.lcs with reqResult := 2 } }
    | some (l, code, steps) => s.startBurn l code steps .testPort

theorem exec_lcsReqConfirm_open (ho : s.testOpen = true) (h1 : s.glb.dev ≠ .off) (h2 : s.glb.dev ≠ .islandOnly) (h3 : s.glb.dev ≠ .reset)
    (h4 : s.glb.dev ≠ .romBoot) (w : Word) (agree : Bool) : exec (.lcsReqConfirm w agree) s = .next (s.confirmRequest w agree) := by
  refine congrArg Host.Outcome.next ((if_neg ?_).trans ?_)
  · rw [ho, decide_eq_true ⟨h1, h2, h3, h4⟩]; decide
  · rfl

theorem exec_portDown (h : s.testPortUp = false) :
    exec .extest s = .next s ∧ exec .idcode s = .next s ∧ exec .samplePreload s = .next s ∧ exec .bypass s = .next s ∧
      (∀ code reg value, exec (.vendorScan code reg value) s = .next s) ∧ (∀ a v, exec (.vendorOtpProgramming a v) s = .next s) := by
  have hno : (!s.testPortUp) = true := by rw [h]; rfl
  have hup : ¬s.testPortUp = true := ne_true_of_eq_false h
  exact ⟨congrArg _ (if_pos hno), congrArg _ (if_neg hup), congrArg _ (if_neg hup), congrArg _ (if_neg hup), fun _ _ _ => if_pos hno,
    fun _ _ => congrArg _ (if_pos hno)⟩

theorem State.portUp (h : s.testPortUp = true) : ¬(!s.testPortUp) = true := by rw [h]; decide

theorem exec_vendorScan_reads {code : Byte} {reg : Nat} (h : s.testPortUp = true) (hs : s.scanOpen = true) (h1 : 0x10 ≤ code.toNat)
    (h2 : code.toNat ≤ 0x7F) (hreg : reg < 0x4000000) :
    let t := s.loadIr code true
    exec (.vendorScan code reg none) s = .next (
      if t.winPowered (reg / 0x100000) (reg % 0x100000) then
        (t.emit (.testPort (leBytes 4 (t.winWord (reg / 0x100000) (reg % 0x100000))))).afterRegRead reg
      else t.emit (.testPort (leBytes 4 0))) := by
  rw [exec_vendorScan, execVendorScan, if_neg (State.portUp h), hs, decide_eq_true ⟨h1, h2⟩]
  dsimp only
  rw [Bool.and_true, if_neg (by decide), if_neg (Nat.not_le.mpr hreg)]
  split <;> rfl

theorem exec_vendorScan_target {code : Byte} {reg : Nat} (h : s.testPortUp = true) (hs : s.scanOpen = true) (h1 : 0x10 ≤ code.toNat)
    (h2 : code.toNat ≤ 0x7F) (hreg : reg = 0xE00020 ∨ reg = 0xE00024) (w : Word) :
    exec (.vendorScan code reg (some w)) s = .next ((s.loadIr code true).scanTarget (decide (reg = 0xE00024)) w) := by
  rw [exec_vendorScan, execVendorScan, if_neg (State.portUp h), hs, decide_eq_true ⟨h1, h2⟩]
  exact if_pos hreg

theorem exec_vendorScan_shut {code : Byte} {reg : Nat} {value : Option Word} (h : s.testPortUp = true) (hs : s.scanOpen = false) :
    exec (.vendorScan code reg value) s = .next { s with lcs := { s.lcs with ir := 0xFF } } := by
  rw [exec_vendorScan, execVendorScan, if_neg (State.portUp h), hs]
  rfl

end TestPort

/-- Settles O50: a burn by the bits that it can burn, the test port by whether it is up and what its instruction decodes to. -/
theorem lifeCycleEvents : Obligations.LifeCycleEvents := by
  unfold Obligations.LifeCycleEvents
  intro s rb second w agree
  refine ⟨fun hb => ?noBurn, fun b hb hd hj => ?waits, fun b a v r hb hd hs => ?burns, fun a v i hi => ?bits, ⟨_, rfl, rfl, rfl⟩, ⟨_, rfl, rfl, rfl⟩,
    fun b hb hd => ?noDrain, fun b hb hd hj => exec_lcsDrainTimeout_drained hb hd hj, fun ho => ?shut, fun ho h1 h2 h3 h4 => ?confirm, exec_portDown,
    fun hup => ?port⟩
  case noBurn =>
    rw [exec_otpByteBurn, execOtpByteBurn, exec_lcsDrainTimeout, execLcsDrainTimeout, hb]
    exact ⟨rfl, rfl⟩
  case waits =>
    rw [exec_otpByteBurn, execOtpByteBurn, hb]
    refine congrArg Host.Outcome.next (if_pos ?_)
    rw [hd, Bool.true_and, List.isEmpty_eq_false_iff.mpr hj]
    rfl
  case burns =>
    have hgo : ¬(b.draining && !s.drainedJobs.isEmpty) = true := by
      rcases hd with hd | hd
      · rw [hd]; simp
      · rw [hd]; simp
    rw [exec_otpByteBurn, execOtpByteBurn, hb]
    refine congrArg Host.Outcome.next ((if_neg hgo).trans ?_)
    rw [hs]
    rfl
  case bits =>
    obtain ⟨m, hself, hother⟩ := s.burnByte_some a v rb second
    refine ⟨fun h => ?_, fun h => ?_, hother⟩
    · rw [hself, BitVec.getLsbD_or, h, Bool.true_or]
    · rw [hself, BitVec.getLsbD_or, BitVec.getLsbD_and] at h
      exact (Bool.or_eq_true_iff.mp h).imp_right fun h => (Bool.and_eq_true_iff.mp h).1
  case noDrain =>
    rw [exec_lcsDrainTimeout, execLcsDrainTimeout, hb]
    exact congrArg Host.Outcome.next (if_neg (ne_true_of_eq_false hd))
  case shut =>
    refine congrArg Host.Outcome.next (if_pos ?_)
    rw [ho]
    rfl
  case confirm =>
    have hopen := exec_lcsReqConfirm_open ho h1 h2 h3 h4
    refine ⟨fun hb => (hopen ..).trans ?_, fun hb hw => (hopen ..).trans ?_, fun hb hw => (hopen ..).trans ?_, fun hb hw hp => (hopen ..).trans ?_,
      fun l code steps hb hw hp => (hopen ..).trans ?_⟩
    · rw [State.confirmRequest, if_pos hb]
    · rw [State.confirmRequest, hb, if_neg (by decide), if_pos hw]
    · rw [State.confirmRequest, hb, if_neg (by decide), if_neg (not_not_intro hw), if_pos (Bool.not_false)]
    · rw [State.confirmRequest, hb, if_neg (by decide), if_neg (not_not_intro hw), if_neg (by decide), hp]
    · rw [State.confirmRequest, hb, if_neg (by decide), if_neg (not_not_intro hw), if_neg (by decide), hp]
  case port =>
    refine ⟨congrArg _ (if_pos hup), congrArg _ (if_pos hup), congrArg _ (if_pos hup), fun hl => ?proof, fun hl => ?early,
      fun code reg value hs => exec_vendorScan_shut hup hs, fun code reg hs h1 h2 => ?scan, fun a v hno => ?refused, fun a v ho h1 h2 => ?programs⟩
    case proof => exact congrArg Host.Outcome.next ((if_neg (State.portUp hup)).trans (if_pos hl))
    case early =>
      refine congrArg Host.Outcome.next ((if_neg (State.portUp hup)).trans (if_neg ?_))
      rcases hl with h | h | h <;> rw [h] <;> decide
    case scan =>
      refine ⟨fun hreg hp => (exec_vendorScan_reads hup hs h1 h2 hreg).trans ?_, fun hreg hp => (exec_vendorScan_reads hup hs h1 h2 hreg).trans ?_,
        fun w hreg => exec_vendorScan_target hup hs h1 h2 hreg w⟩
      · exact congrArg Host.Outcome.next (if_pos hp)
      · exact congrArg Host.Outcome.next (if_neg (ne_true_of_eq_false hp))
    case refused =>
      have hno' : ¬(s.testOpen = true ∧ 0x60 ≤ a ∧ a < 0x800) := fun ⟨ho, h1, h2⟩ => by
        rcases hno with h | h | h
        · exact ne_true_of_eq_false h ho
        · omega
        · omega
      exact ⟨_, congrArg Host.Outcome.next ((if_neg (State.portUp hup)).trans (if_neg hno')), rfl, rfl⟩
    case programs =>
      refine ⟨_, congrArg Host.Outcome.next ((if_neg (State.portUp hup)).trans (if_pos ⟨ho, h1, h2⟩)), ?_, fun n hn => ?_, rfl⟩
      · exact (State.otp_setOtp ..).trans (if_pos rfl)
      · exact (State.otp_setOtp ..).trans (if_neg (Ne.symm hn))

end Sys2Proof.Machine
end

section
/-! Crosshatch and island events and their doubled decisions (R636 to R641, R650, R651, R652, R656, R660). -/

namespace Sys2Proof.Machine

/-- A fold whose every step leaves the state that it starts from alone. -/
theorem State.foldl_stays {β : Type} (f : State → β → State) (s : State) (l : List β) (h : ∀ b ∈ l, f s b = s) : l.foldl f s = s := by
  induction l with
  | nil => rfl
  | cons a l ih => rw [List.foldl_cons, h a (List.mem_cons_self ..), ih fun b hb => h b (List.mem_cons_of_mem _ hb)]

section Events
variable {s : State} {id : Byte} {det : Detector}

theorem exec_xhSourceEvent_island (h : onIsland id.toNat = true) : exec (.xhSourceEvent id det) s = .next
    (if (xhSource id.toNat).isSome ∧ (0x44 ≤ id.toNat ∨ s.island.loopEn.testBit (id.toNat - 0x40)) then s.islandEvent id.toNat false else s) :=
  congrArg Host.Outcome.next (if_pos h)

theorem exec_xhSourceEvent_main (h : onIsland id.toNat = false) (hpll : ¬(id.toNat = 0x18 ∧ det = .b ∧ s.monitors id.toNat = true)) :
    exec (.xhSourceEvent id det) s = .next (s.detectorEvent id.toNat (decide (det = .b)) false) :=
  congrArg Host.Outcome.next ((if_neg (ne_true_of_eq_false h)).trans (if_neg hpll))

theorem State.islandEvent_dead {i : Nat} {inj : Bool} (h : s.islandUp = false) : s.islandEvent i inj = s := if_pos (by rw [h]; rfl)

theorem State.islandUp_of_mainPower (h : s.mainPower = true) : s.islandUp = true := by rw [State.islandUp, h, Bool.or_true]

theorem State.islandEvent_powered {i : Nat} {inj : Bool} (h : s.mainPower = true) :
    s.islandEvent i inj = s.xhEvent { source := i, detA := false, detB := false, injected := inj } := by
  have hup : ¬(!s.islandUp) = true := by rw [State.islandUp_of_mainPower h]; decide
  exact (if_neg hup).trans (if_pos h)

theorem exec_loopWord_quiet (m : BitVec 4) (h : ∀ k < 4, (s.island.loopEn.testBit k && !m.getLsbD k) = false) :
    exec (.loopWord m) s = .next s :=
  congrArg Host.Outcome.next (State.foldl_stays _ s _ fun k hk => if_neg (ne_true_of_eq_false (h k (List.mem_range.mp hk))))

theorem exec_meshChange_matching (h : s.mainPower = true) :
    exec (.meshChange 0xFF) s = .next { s with xh := { s.xh with mesh := s.xh.mesh.map (meshStep 64) } } := by
  have hon : ¬(!s.mainPower) = true := by rw [h]; decide
  have hall : ∀ g < 8, (0xFF : BitVec 8).getLsbD g = true := by decide
  exact congrArg Host.Outcome.next ((if_neg hon).trans (State.foldl_stays _ _ _ fun g hg => if_pos (hall g (List.mem_range.mp hg))))

/-- A measurement within the limits of R640 leaves the clock's verdict alone to act on. -/
theorem exec_islandMeasurement_within {temp : Int} {mv : Nat} (hup : s.islandUp = true) (hcold : -800 ≤ temp) (hhot : temp ≤ 2080)
    (hlow : 2100 ≤ mv) (ok : Bool) :
    let t : State := { s with island := { s.island with xtalOk := ok } }
    exec (.islandMeasurement temp mv ok) s = .next (if ok then t else t.islandEvent 0x47 false) := by
  have hon : ¬(!s.islandUp) = true := by rw [hup]; decide
  refine congrArg Host.Outcome.next ((if_neg hon).trans ?_)
  have h1 : ¬decide (temp < -800) = true := by simpa using hcold
  have h2 : ¬decide (2080 < temp) = true := by simpa using hhot
  have h3 : ¬decide (mv < 2100) = true := by simpa using hlow
  dsimp only
  rw [if_neg h1, if_neg h2, if_neg h3]

theorem exec_islandSecondDecision_up (hup : s.islandUp = true) (agree : Bool) : exec (.islandSecondDecision agree) s = .next
    (s.island.pendingErase.foldl (State.aloneDecide · agree ·) { s with island := { s.island with pendingErase := [] } }) :=
  congrArg Host.Outcome.next (if_neg (by rw [hup]; decide))

theorem exec_islandSelftest_alone (hup : s.islandUp = true) (hm : s.mainPower = false) (l : List Byte) : exec (.islandSelftest l) s = .next
    ((l.filter (fun b => onIsland b.toNat && (xhSource b.toNat).isSome)).foldl (fun t b => t.treatFired b.toNat) s) :=
  congrArg Host.Outcome.next (if_neg (by rw [hup, hm]; decide))

end Events

/-- Settles O51: an event by where its source stands and whether it is looked at, a decision by what waits for it. -/
theorem crosshatchEvents : Obligations.CrosshatchEvents := by
  unfold Obligations.CrosshatchEvents
  intro s id det agree ok
  refine ⟨fun hx => ?unknown, fun hi hm => ?unwatched, fun hi hup => ?unsupplied, fun hi hx h1 h2 h3 hm => ?reports, fun hi hx hl hm => ?island,
    fun hp => ?noDecision, fun p hp => ?decides, fun h => ?equal, fun hm hne => ?differ, fun m hm => ?meshOff, exec_meshChange_matching, ⟨?loop, ?loopOff⟩,
    fun temp mv hup => ?dead, fun temp mv hup hc hh hv => ?measured, fun hup he => ?noErase, fun h hup he => ?erase, fun l hm => ?selftestOff, ?selftestNone,
    fun b hup hm hb hx => ?selftest⟩
  case unknown =>
    cases hi : onIsland id.toNat with
    | true => exact (exec_xhSourceEvent_island hi).trans (congrArg Host.Outcome.next (if_neg fun h => by rw [hx] at h; exact Bool.false_ne_true h.1))
    | false =>
      have hpll : ¬(id.toNat = 0x18 ∧ det = .b ∧ s.monitors id.toNat = true) := fun h => by rw [h.1] at hx; exact absurd hx (by decide)
      exact (exec_xhSourceEvent_main hi hpll).trans (congrArg Host.Outcome.next (if_pos (.inl (by rw [hx]; rfl))))
  case unwatched =>
    have hpll : ¬(id.toNat = 0x18 ∧ det = .b ∧ s.monitors id.toNat = true) := fun h => ne_true_of_eq_false hm h.2.2
    exact (exec_xhSourceEvent_main hi hpll).trans (congrArg Host.Outcome.next (if_pos (.inr (.inr (.inr (.inr (by rw [hm]; rfl)))))))
  case unsupplied =>
    refine (exec_xhSourceEvent_island hi).trans (congrArg Host.Outcome.next ?_)
    rw [State.islandEvent_dead hup, ite_self]
  case reports =>
    have hne : ∀ n : Byte, id ≠ n → id.toNat ≠ n.toNat := fun n h hn => h (BitVec.eq_of_toNat_eq hn)
    have hpll : ¬(id.toNat = 0x18 ∧ det = .b ∧ s.monitors id.toNat = true) := fun h => hne 0x18 h3 h.1
    refine (exec_xhSourceEvent_main hi hpll).trans (congrArg Host.Outcome.next (if_neg ?_))
    rw [hi, hm]
    rintro (h | h | h | h | h)
    · rw [Option.isNone_iff_eq_none] at h; rw [h] at hx; exact Bool.false_ne_true hx
    · exact Bool.false_ne_true h
    · exact hne 0x3E h1 h
    · exact hne 0x3F h2 h
    · exact Bool.false_ne_true h
  case island =>
    refine (exec_xhSourceEvent_island hi).trans (congrArg Host.Outcome.next ((if_pos ⟨hx, hl⟩).trans (State.islandEvent_powered hm)))
  case noDecision => exact ⟨by rw [exec_xhSecondDecision, execXhSecondDecision, hp], by rw [exec_xhDecisionTimeout, execXhDecisionTimeout, hp]⟩
  case decides =>
    rw [exec_xhSecondDecision, exec_xhSecondDecision, execXhSecondDecision, execXhSecondDecision, exec_xhDecisionTimeout, execXhDecisionTimeout, hp]
    exact ⟨rfl, rfl, rfl⟩
  case equal =>
    refine congrArg Host.Outcome.next (if_neg fun hh => ?_)
    rcases h with h | h
    · exact ne_true_of_eq_false h hh.1
    · exact hh.2 h
  case differ => exact congrArg Host.Outcome.next (if_pos ⟨hm, hne⟩)
  case meshOff => exact congrArg Host.Outcome.next (if_pos (by rw [hm]; rfl))
  case loop =>
    have hall : ∀ k < 4, (0xF : BitVec 4).getLsbD k = true := by decide
    exact exec_loopWord_quiet _ fun k hk => by rw [hall k hk]; exact Bool.and_false _
  case loopOff => exact fun h0 m => exec_loopWord_quiet m fun k _ => by rw [h0, Nat.zero_testBit]; rfl
  case dead =>
    have hno : (!s.islandUp) = true := by rw [hup]; rfl
    exact ⟨congrArg Host.Outcome.next (if_pos hno), congrArg Host.Outcome.next (if_pos hno),
      fun l => congrArg Host.Outcome.next (if_pos (by rw [hno]; rfl))⟩
  case measured => exact ⟨exec_islandMeasurement_within hup hc hh hv true, exec_islandMeasurement_within hup hc hh hv false⟩
  case noErase =>
    rw [exec_islandSecondDecision_up hup, he]
    refine congrArg (fun l => Host.Outcome.next ({ s with island := { s.island with pendingErase := l } } : State)) he.symm
  case erase => rw [exec_islandSecondDecision_up hup, he]; rfl
  case selftestOff => exact congrArg Host.Outcome.next (if_pos (by rw [hm]; exact Bool.or_true _))
  case selftestNone => exact congrArg Host.Outcome.next (ite_self _)
  case selftest =>
    rw [exec_islandSelftest_alone hup hm, List.filter_cons_of_pos (by rw [hb, hx]; rfl)]
    exact congrArg Host.Outcome.next (if_neg (ne_true_of_eq_false hm))

end Sys2Proof.Machine
end

section
/-! Writes of the Crosshatch registers (R645, R653, R654, R655, R662, R663, R666). -/

namespace Sys2Proof.Machine

section Writes
variable {s : State} {w : Word} {id : Byte}

theorem State.xhWritable_of_ready (h : s.glb.dev = .ready) : s.xhWritable = true := decide_eq_true h

theorem State.not_xhWritable (h : s.glb.dev ≠ .ready) : s.xhWritable = false := decide_eq_false h

theorem exec_xhSrcCfgWrite_unknown (h : xhSource id.toNat = none) : exec (.xhSrcCfgWrite id w) s = .next s := by
  rw [exec_xhSrcCfgWrite, execXhSrcCfgWrite]
  dsimp only
  rw [h]

theorem exec_xhSrcCfgWrite_kept (h : s.xhWritable = false) : exec (.xhSrcCfgWrite id w) s = .next s := by
  rw [exec_xhSrcCfgWrite, execXhSrcCfgWrite]
  dsimp only
  split
  · rfl
  · rw [h]; rfl

/-- A write of a source's configuration in READY (R662): a fixed or locked one stands, a weaker one is refused from EDITION on. -/
theorem exec_xhSrcCfgWrite_ready {n win r : Nat} {fixed : Bool} (hr : s.glb.dev = .ready) (hx : xhSource id.toNat = some (n, win, r, fixed)) :
    let old := s.xhCfg id.toNat
    let new := cfgLaid old w.toNat
    exec (.xhSrcCfgWrite id w) s = .next (
      if fixed || s.xh.locked then s
      else if !(decide (s.lcs.shown = .blank ∨ s.lcs.shown = .trial ∨ s.lcs.shown = .proof)) ∧
          (new.2.2 < bits old 2 0 ∨ bits old 15 8 < new.1 ∨ bits old 31 16 < new.2.1) then s.bump Reg.xhWriteRefused
      else s.setXhCfg id.toNat (cfgWord new.1 new.2.1 new.2.2 false)) := by
  rw [exec_xhSrcCfgWrite, execXhSrcCfgWrite]
  dsimp only
  rw [hx]
  dsimp only
  rw [State.xhWritable_of_ready hr]
  rfl

/-- The configuration word of a source (both tables) after a write of one source. -/
theorem State.xhCfg_setXhCfg (s : State) (id v k : Nat) : (s.setXhCfg id v).xhCfg k = if k = id then v % 2 ^ 32 else s.xhCfg k := by
  have written : ∀ m : KMap Word, ((KMap.get k (KMap.put id (BitVec.ofNat 32 v) m)).map BitVec.toNat) =
      if k = id then some (v % 2 ^ 32) else (KMap.get k m).map BitVec.toNat := fun m => by
    rw [KMap.get_put]
    by_cases h : id = k
    · rw [if_pos h, if_pos h.symm]; rfl
    · rw [if_neg h, if_neg (Ne.symm h)]
  unfold State.setXhCfg State.xhCfg
  dsimp only
  by_cases hk : k = id
  · subst hk
    split <;> simp only [written, if_true] <;> rfl
  · rw [if_neg hk]
    split
    · split
      · rw [written, if_neg hk]
      · rfl
    · split
      · rfl
      · rw [written, if_neg hk]

theorem State.xhCfgB_setXhCfg_self (s : State) (id v : Nat) : (s.setXhCfg id v).xhCfgB id = v % 2 ^ 32 := by
  unfold State.setXhCfg State.xhCfgB
  dsimp only
  split <;> simp only [KMap.get_put_self] <;> rfl

theorem State.setXhCfg_frame (s : State) (id v : Nat) : { s.setXhCfg id v with xh := s.xh, island := s.island } = s := by
  unfold State.setXhCfg
  dsimp only
  split <;> rfl

/-- A deferred HALT response of the island is dropped (R645). -/
def State.dropDeferredHalt (s : State) : State :=
  { s with island := { s.island with deferred := match s.island.deferred with
                                                 | some d => if d.sev = 2 then none else some d
                                                 | none => none } }

theorem State.dropDeferredHalt_deferred {d : Deferred} (hd : s.island.deferred = some d) (hs : d.sev = 2) :
    s.dropDeferredHalt.island.deferred = none := by
  show (match s.island.deferred with
    | some d => if d.sev = 2 then none else some d
    | none => none) = none
  rw [hd]
  exact if_pos hs

theorem exec_xhResume_resumes (h : s.mayResume = true) : exec (.xhResume 0x52455355) s = .next s.resume.dropDeferredHalt := by
  have hdev : s.glb.dev = .halted := by
    simp only [State.mayResume, Bool.and_eq_true, decide_eq_true_eq] at h
    exact h.1.1.1.1.1.1
  have hseen : ¬(!decide (s.glb.dev = .ready ∨ s.glb.dev = .halted)) = true := by rw [decide_eq_true (.inr hdev)]; decide
  exact congrArg Host.Outcome.next ((if_neg hseen).trans (if_pos ⟨rfl, h⟩))

theorem exec_xhResume_refused (hdev : s.glb.dev = .ready ∨ s.glb.dev = .halted) (h : ¬(w = 0x52455355 ∧ s.mayResume = true)) :
    exec (.xhResume w) s = .next (s.bump Reg.xhResumeRefused) := by
  have hseen : ¬(!decide (s.glb.dev = .ready ∨ s.glb.dev = .halted)) = true := by rw [decide_eq_true hdev]; decide
  exact congrArg Host.Outcome.next ((if_neg hseen).trans (if_neg h))

end Writes

/-- Settles O52: each write by whether the registers take it, a source's configuration by what the write of one table entry shows. -/
theorem crosshatchWrites : Obligations.CrosshatchWrites := by
  unfold Obligations.CrosshatchWrites
  intro s w id free
  refine ⟨fun hd => ?shut, fun h1 h2 => ?unseen, fun hd => ?notHalted, fun hd h => ?wrongKey, fun hm => ?resumes, fun hd hi hx => ?injectIsland,
    fun hd hi => ?injectMain, exec_xhSrcCfgWrite_unknown, fun n win r fixed hd hx => ?config, fun hd => ?warn, fun hd => ?clock, fun hd => ?loop⟩
  case shut =>
    have hw := State.not_xhWritable hd
    have hno : (!s.xhWritable) = true := by rw [hw]; rfl
    exact ⟨congrArg _ (if_pos hno), exec_xhSrcCfgWrite_kept hw, congrArg _ (if_neg (by rw [hw]; exact Bool.false_ne_true)),
      congrArg _ (if_neg (ne_true_of_eq_false hw)), congrArg _ (if_pos hno), congrArg _ (if_pos hno)⟩
  case unseen =>
    refine congrArg _ (if_pos ?_)
    rw [decide_eq_false (not_or.mpr ⟨h1, h2⟩)]
    rfl
  case notHalted =>
    refine exec_xhResume_refused (.inl hd) fun h => ?_
    have hm := h.2
    rw [State.mayResume, hd] at hm
    exact Bool.false_ne_true hm
  case wrongKey =>
    refine exec_xhResume_refused (.inr hd) fun hh => ?_
    rcases h with h | h
    · exact h hh.1
    · exact ne_true_of_eq_false h hh.2
  case resumes => exact ⟨_, exec_xhResume_resumes hm, rfl, rfl, fun d hd hs => State.dropDeferredHalt_deferred hd hs, rfl⟩
  case injectIsland =>
    refine congrArg Host.Outcome.next ((if_neg ?_).trans ((if_pos hi).trans (if_pos hx)))
    rw [State.xhWritable_of_ready hd]
    decide
  case injectMain =>
    refine congrArg Host.Outcome.next ((if_neg ?_).trans (if_neg (ne_true_of_eq_false hi)))
    rw [State.xhWritable_of_ready hd]
    decide
  case config =>
    intro old new weaker
    have hwrite := exec_xhSrcCfgWrite_ready (w := w) hd hx
    dsimp only at hwrite
    have hfree (hf : fixed = false) (hl : s.xh.locked = false) : ¬(fixed || s.xh.locked) = true := by rw [hf, hl]; decide
    refine ⟨fun h => hwrite.trans (congrArg _ (if_pos (Bool.or_eq_true_iff.mpr h))), fun hf hl ho hweak => hwrite.trans (congrArg _ ?_),
      fun hf hl h => ?_⟩
    · exact (if_neg (hfree hf hl)).trans (if_pos ⟨by rw [decide_eq_false ho]; rfl, hweak⟩)
    · have hstrong : ¬((!decide (s.lcs.shown = .blank ∨ s.lcs.shown = .trial ∨ s.lcs.shown = .proof)) = true ∧ weaker) := fun hh => by
        rcases h with h | h
        · rw [decide_eq_true h] at hh; exact Bool.false_ne_true hh.1
        · exact h hh.2
      refine ⟨_, hwrite.trans (congrArg _ ((if_neg (hfree hf hl)).trans (if_neg hstrong))), ?_, ?_, fun k hk => ?_,
        State.setXhCfg_frame ..⟩
      · rw [State.xhCfg_setXhCfg, if_pos rfl]
      · rw [State.xhCfgB_setXhCfg_self, State.xhCfg_setXhCfg, if_pos rfl]
      · rw [State.xhCfg_setXhCfg, if_neg hk]
  case warn =>
    have hw := State.xhWritable_of_ready hd
    exact ⟨fun hq => congrArg _ (if_pos (by rw [hw, hq]; rfl)), fun hq => congrArg _ (if_neg (by rw [hw, hq]; decide)), congrArg _ (if_pos hw)⟩
  case clock =>
    refine ⟨_, congrArg Host.Outcome.next (if_neg ?_), rfl, rfl, KMap.get_put_self .., rfl⟩
    rw [State.xhWritable_of_ready hd]
    decide
  case loop =>
    refine ⟨_, congrArg Host.Outcome.next (if_neg ?_), rfl, fun h => ?_, fun h1 h2 => ?_⟩
    · rw [State.xhWritable_of_ready hd]; decide
    · exact congrArg (bits w.toNat 3 0 ||| ·) (if_pos h)
    · exact (congrArg (bits w.toNat 3 0 ||| ·) (if_neg (not_or.mpr ⟨h1, h2⟩))).trans (Nat.or_zero _)

end Sys2Proof.Machine
end

section
/-! Fault reports, acknowledgement, sticky bits and injection (R667 to R678, R688). -/

namespace Sys2Proof.Machine

/-! ### Bit sets and tables -/

theorem testBit_foldl_or_two_pow (l : List Nat) (m i : Nat) :
    (l.foldl (fun m i => m ||| 2 ^ i) m).testBit i = (m.testBit i || decide (i ∈ l)) := by
  induction l generalizing m with
  | nil => simp
  | cons a l ih =>
    rw [List.foldl_cons, ih, Nat.testBit_or, Nat.testBit_two_pow, Bool.or_assoc, ← Bool.decide_or]
    simp only [List.mem_cons, eq_comm]

theorem testBit_maskOf (l : List Nat) (i : Nat) : (maskOf l).testBit i = decide (i ∈ l) := by
  rw [maskOf, testBit_foldl_or_two_pow, Nat.zero_testBit, Bool.false_or]

theorem mem_onesOf (n m i : Nat) : i ∈ onesOf n m ↔ i < n ∧ m.testBit i = true := by
  rw [onesOf, List.mem_filter, List.mem_range]

theorem testBit_clearOnes (m w keep i : Nat) (hi : i < 19) :
    (clearOnes m w keep).testBit i = (m.testBit i && (!(w.testBit i) || keep.testBit i)) := by
  rw [clearOnes, testBit_maskOf]
  simp only [List.mem_filter, mem_onesOf, hi, true_and, Bool.decide_and, Bool.decide_eq_true]

theorem KMap.get_mapVals (f : Nat → α → α) (n : Nat) (m : KMap α) : KMap.get n (KMap.mapVals f m) = (KMap.get n m).map (f n) := by
  induction m with
  | nil => rfl
  | cons p r ih =>
    obtain ⟨i, a⟩ := p
    unfold KMap.mapVals at ih ⊢
    by_cases h : i = n
    · subst h; simp [KMap.get]
    · simp [KMap.get, h, ih]

section Faults
variable {s : State} {w : Word}

/-! ### Reports and acknowledgements -/

theorem State.fault_unreported {source cause : Nat} {spot : FaultSpot} {job : Option Nat} {inj fatal : Bool}
    (h : s.reports (source / 256) (source % 256) = false) : s.fault source cause spot job inj fatal = s := if_pos (by rw [h]; rfl)

theorem State.memFault_unreported {source cause : Nat} {spot : FaultSpot} {job : Option Nat} (ha : KMap.get source s.fcl.armed = none)
    (h : s.reports (source / 256) (source % 256) = false) (scrub : Bool) : s.memFault source cause spot job scrub = s := by
  have hit : s.armedHit source cause spot.syndrome.toNat = none := by rw [State.armedHit, ha]; rfl
  unfold State.memFault
  rw [hit, h]
  exact State.fault_unreported h

/-- An acknowledged entry of the log. -/
def LogEntry.ackedAt (n : Nat) (x : LogEntry) : LogEntry := if x.seq = n then { x with acked := true } else x

theorem State.ackSeq_absent {n : Nat} (h : ∀ e ∈ s.fcl.pending, e.seq ≠ n) : s.ackSeq n = s := by
  refine if_neg fun hh => ?_
  obtain ⟨e, he, hn⟩ := List.any_eq_true.mp hh
  exact h e he (of_decide_eq_true hn)

theorem State.ackSeq_present {e : LogEntry} {n : Nat} (he : e ∈ s.fcl.pending) (hn : e.seq = n) :
    s.ackSeq n = { s with fcl := { s.fcl with
      pending := s.fcl.pending.filter (fun e => decide (e.seq ≠ n)), log := KMap.mapVals (fun _ => LogEntry.ackedAt n) s.fcl.log } } :=
  if_pos (List.any_eq_true.mpr ⟨e, he, decide_eq_true hn⟩)

theorem State.fclWritable_of_ready (h : s.glb.dev = .ready) : s.fclWritable = true := decide_eq_true h

theorem exec_fclAck_ready (h : s.glb.dev = .ready) : exec (.fclAck w) s = .next (s.ackSeq w.toNat) :=
  congrArg _ (if_pos (State.fclWritable_of_ready h))

theorem exec_fclStickyClear_ready (h : s.glb.dev = .ready) :
    exec (.fclStickyClear 0 w) s = .next { s with fcl := { s.fcl with corr := clearOnes s.fcl.corr w.toNat 0 } } ∧
      exec (.fclStickyClear 1 w) s = .next { s with fcl := { s.fcl with cont := clearOnes s.fcl.cont w.toNat s.pendingMap } } ∧
      exec (.fclStickyClear 2 w) s = .next s := by
  have hon : ¬(!s.fclWritable) = true := by rw [State.fclWritable_of_ready h]; decide
  exact ⟨congrArg Host.Outcome.next (if_neg hon), congrArg Host.Outcome.next (if_neg hon), congrArg Host.Outcome.next (if_neg hon)⟩

/-! ### Injection -/

theorem State.arm_refused {mode : Nat} (h : s.glb.dev ≠ .ready ∨ injMode w ≠ mode ∨ unitOf (bits (s.reg Reg.fclInjTarget) 15 0) = uXh ∨
    instOk (unitOf (bits (s.reg Reg.fclInjTarget) 15 0)) (bits (s.reg Reg.fclInjTarget) 15 0 % 256) = false) : s.arm mode w = s := by
  refine if_pos ?_
  rcases h with h | h | h | h
  · exact .inl (by rw [State.fclWritable, decide_eq_false h]; rfl)
  · exact .inr (.inl h)
  · exact .inr (.inr (.inl h))
  · exact .inr (.inr (.inr (by rw [h]; rfl)))

theorem State.arm_arms {mode : Nat} (hr : s.glb.dev = .ready) (hm : injMode w = mode) (hu : unitOf (bits (s.reg Reg.fclInjTarget) 15 0) ≠ uXh)
    (hi : instOk (unitOf (bits (s.reg Reg.fclInjTarget) 15 0)) (bits (s.reg Reg.fclInjTarget) 15 0 % 256) = true) :
    s.arm mode w = { s with fcl := { s.fcl with
      armed := KMap.put (bits (s.reg Reg.fclInjTarget) 15 0) { mode := mode, mask := bits w.toNat 12 8, fatal := w.getLsbD 0 } s.fcl.armed } } := by
  refine if_neg ?_
  rw [State.fclWritable_of_ready hr, hi]
  rintro (h | h | h | h)
  · exact Bool.false_ne_true h
  · exact h hm
  · exact hu h
  · exact Bool.false_ne_true h

theorem exec_fclInjectReport_refused (h : s.glb.dev ≠ .ready ∨ injMode w ≠ 1 ∨ unitOf (bits (s.reg Reg.fclInjTarget) 15 0) = uXh) :
    exec (.fclInjectReport w) s = .next s :=
  congrArg _ (if_pos (h.imp_left fun h => by rw [State.fclWritable, decide_eq_false h]; rfl))

/-! ### Draft pairs -/

theorem State.ackSource_frame (s : State) (source : Nat) (causes : List Nat) (f : Fcl) :
    { s.ackSource source causes with fcl := f } = { s with fcl := f } :=
  State.foldl_keeps (fun t : State => { t with fcl := f }) _ (fun t e => by unfold State.ackSeq; split <;> rfl) _ s

/-- The draft pairs once pair `p` has passed its test (R688). -/
def Drf.onDutyWith (d : Drf) (p : Nat) : Drf :=
  { d with onDuty := d.onDuty ||| 2 ^ p, spare := d.spare - bitAt p (d.spare.testBit p), testing := d.testing - 2 ^ p }

theorem exec_draftingSpareTakeover_passed {p : Fin 10} (h : s.drf.testing.testBit p.val = true) : ∃ t,
    exec (.draftingSpareTakeover p true) s = .next t ∧ ∀ f, { t with fcl := f } = { s with drf := s.drf.onDutyWith p.val, fcl := f } := by
  have htest : ¬(!s.drf.testing.testBit p.val) = true := by rw [h]; decide
  exact ⟨_, congrArg Host.Outcome.next (if_neg htest), fun f =>
    State.foldl_keeps (fun t : State => { t with fcl := f }) _ (fun t q => t.ackSource_frame _ _ f) _ { s with drf := s.drf.onDutyWith p.val }⟩

end Faults

/-- Settles O53: reports and acknowledgements by what the pending table holds, injections by their mode and target. -/
theorem faultCommands : Obligations.FaultCommands := by
  unfold Obligations.FaultCommands
  intro s w source cause spot job p target tsrc
  refine ⟨fun ha h => congrArg _ (State.memFault_unreported ha h false), rfl, fun hp => ?nothingPending, fun e l hp => ?escalates, fun hd => ?shut,
    fun hd hno => ?unknownNumber, fun e hd he hn => ?acked, fun hd => ?sticky, fun h => exec_fclInjectReport_refused (.inr h),
    fun hd hm hu => ?injects, fun h => congrArg _ (State.arm_refused (.inr h)), fun h => congrArg _ (State.arm_refused (.inr h)),
    fun hd hu hi => ?arms, fun passed ht => ?idle, fun ht => ?takeover⟩
  case nothingPending => rw [exec_escalationTimeout, execEscalationTimeout, hp]
  case escalates => rw [exec_escalationTimeout, execEscalationTimeout, hp]
  case shut =>
    have hw : s.fclWritable = false := decide_eq_false hd
    have hno : (!s.fclWritable) = true := by rw [hw]; rfl
    exact ⟨congrArg _ (if_neg (ne_true_of_eq_false hw)), fun m => congrArg _ (if_pos hno), exec_fclInjectReport_refused (.inl hd),
      congrArg _ (State.arm_refused (.inl hd)), congrArg _ (State.arm_refused (.inl hd))⟩
  case unknownNumber => rw [exec_fclAck_ready hd, State.ackSeq_absent hno]
  case acked =>
    refine ⟨_, (exec_fclAck_ready hd).trans (congrArg _ (State.ackSeq_present he hn)), fun x => ?_, fun n x hx => ?_, rfl⟩
    · exact List.mem_filter.trans (and_congr_right fun _ => decide_eq_true_iff)
    · exact (KMap.get_mapVals (fun _ => LogEntry.ackedAt w.toNat) n _).trans (congrArg (Option.map (LogEntry.ackedAt w.toNat)) hx)
  case sticky =>
    obtain ⟨h0, h1, h2⟩ := exec_fclStickyClear_ready (w := w) hd
    refine ⟨⟨_, h0, rfl, fun i hi => ?_, rfl⟩, ⟨_, h1, rfl, fun i hi => testBit_clearOnes _ _ _ i hi, rfl⟩, h2⟩
    exact (testBit_clearOnes _ _ _ i hi).trans (by rw [Nat.zero_testBit, Bool.or_false])
  case injects =>
    refine congrArg Host.Outcome.next (if_neg ?_)
    rw [State.fclWritable_of_ready hd]
    rintro (h | h | h)
    · exact Bool.false_ne_true h
    · exact h hm
    · exact hu h
  case arms =>
    exact ⟨fun hm => ⟨_, _, congrArg Host.Outcome.next (State.arm_arms hd hm hu hi), rfl, rfl, rfl, rfl⟩,
      fun hm => ⟨_, _, congrArg Host.Outcome.next (State.arm_arms hd hm hu hi), rfl, rfl, rfl, rfl⟩⟩
  case idle => exact congrArg _ (if_pos (by rw [ht]; rfl))
  case takeover =>
    obtain ⟨t, hexec, hframe⟩ := exec_draftingSpareTakeover_passed ht
    have hdrf : t.drf = s.drf.onDutyWith p.val := congrArg State.drf (hframe s.fcl)
    refine ⟨t, hexec, ?_, fun q hq => ?_, by rw [hdrf]; rfl, congrArg (fun u : State => { u with drf := s.drf }) (hframe s.fcl)⟩
    · rw [hdrf]
      show (s.drf.onDuty ||| 2 ^ p.val).testBit p.val = true
      rw [Nat.testBit_or, Nat.testBit_two_pow_self, Bool.or_true]
    · rw [hdrf]
      show (s.drf.onDuty ||| 2 ^ p.val).testBit q = _
      rw [Nat.testBit_or, Nat.testBit_two_pow_of_ne (Ne.symm hq), Bool.or_false]

end Sys2Proof.Machine
end

section
/-! The Tollhouse, the voltage loop, SMBus reads and read completions (R709, R710, R715 to R723, R740, R796). -/

namespace Sys2Proof.Machine

section Tollhouse
variable {s : State}

/-! ### Temperature and budget -/

/-- What a temperature sample settles: temperature, its maximum, budget and setpoint, and what it never touches. -/
def State.thermalView (s : State) : BitVec 16 × Bool × BitVec 16 × Nat × Nat × Csn × KMap Job :=
  (s.tol.tj, s.tol.tjSeen, s.tol.tjMax, s.tol.effective, s.tol.vddMv, s.csn, s.jobs)

theorem State.thermalView_recall (s : State) : s.recall.thermalView = s.thermalView := by
  unfold State.recall
  dsimp only
  split <;> rfl

theorem State.thermalView_countMs (s : State) (on : Bool) (n reg : Nat) : (s.countMs on n reg).2.thermalView = s.thermalView := by
  unfold State.countMs
  split
  · rfl
  · split <;> rfl

/-- A temperature as it is first noted (R715): with its maximum and the budget that it leaves. -/
def State.noteTj (s : State) (tj : BitVec 16) : State :=
  { s with tol := { s.tol with
      tj := tj, tjMax := if !s.tol.tjSeen || decide (s.tol.tjMax.toInt < tj.toInt) then tj else s.tol.tjMax, tjSeen := true,
      effective := s.budgetAt tj } }

/-- The milliseconds over the thermal limit and short of budget, counted from a sample (R715, R741). -/
def State.countSample (s : State) : State :=
  let hot := s.countMs s.thermal s.tol.hotSamples Reg.tolThermalMs
  let cut := hot.2.countMs hot.2.short s.tol.shortSamples Reg.tolShortMs
  { cut.2 with tol := { cut.2.tol with hotSamples := hot.1, shortSamples := cut.1 } }

theorem State.thermalView_countSample (s : State) : s.countSample.thermalView = s.thermalView :=
  (State.thermalView_countMs ..).trans (State.thermalView_countMs ..)

theorem exec_tjSample_powered {tj : BitVec 16} (hm : s.mainPower = true) (hr : s.glb.released = true) :
    let u := (s.noteTj tj).countSample
    exec (.tjSample tj) s = .next (if !s.limit && u.limit then u.emit (.pfInterrupt 2) else u).recall :=
  congrArg Host.Outcome.next (if_neg (by rw [hm, hr]; decide))

theorem State.thermalView_tjSample (s u : State) : (if !s.limit && u.limit then u.emit (.pfInterrupt 2) else u).recall.thermalView = u.thermalView := by
  rw [State.thermalView_recall]
  split <;> rfl

/-! ### Registers that READY alone writes -/

theorem State.tolWritable_of_ready (h : s.glb.dev = .ready) : s.tolWritable = true := decide_eq_true h

theorem exec_csnCtlWrite_ready {w : Word} (h : s.glb.dev = .ready) : exec (.csnCtlWrite w) s = .next
    (if s.twinWaits then s.mirror (.csnCtl (BitVec.ofNat 32 (bitAt 31 (w.getLsbD 31)))) [.csnCtl (BitVec.ofNat 32 (bitAt 31 (w.getLsbD 31)))]
     else s.setReg Reg.csnCtl (bitAt 31 (w.getLsbD 31))) := by
  have hv : (BitVec.ofNat 32 (bitAt 31 (w.getLsbD 31))).toNat = bitAt 31 (w.getLsbD 31) := by cases w.getLsbD 31 <;> rfl
  rw [exec_csnCtlWrite, execCsnCtlWrite, if_neg (not_not_intro h)]
  dsimp only
  rw [hv]

/-- A domain that is to switch (R709, R710). -/
theorem exec_domainSwitchComplete_switches {d : Fin 30} (h : s.glb.dev = .ready) (hne : s.pdOn d.val ≠ s.pdWanted d.val) :
    exec (.domainSwitchComplete d) s = .next
      (if s.pdOn d.val then (if s.pdIdle d.val then (s.pdLost d.val).switchPd (s.tol.pd - 2 ^ d.val) else s)
       else ((s.switchPd (s.tol.pd + 2 ^ d.val)).pdGained d.val).recall) :=
  congrArg Host.Outcome.next (if_neg (not_or.mpr ⟨not_not_intro h, hne⟩))

/-! ### The voltage loop -/

theorem exec_avsSample_dead {slack : Nat} {low : List (BitVec 16)} (h : s.mainPower = false ∨ s.glb.pll = false ∨ s.tol.asking ≠ none) :
    exec (.avsSample slack low) s = .next s := by
  refine congrArg Host.Outcome.next (if_pos ?_)
  rcases h with h | h | h
  · rw [h]; rfl
  · rw [h, Bool.not_false, Bool.or_true, Bool.true_or]
  · rw [Option.isSome_iff_ne_none.mpr h, Bool.or_true]

/-- A sample outside READY that does not count as high slack: no sentinel is read, and the loop may ask for more. -/
theorem exec_avsSample_live {slack : Nat} {low : List (BitVec 16)} (hm : s.mainPower = true) (hp : s.glb.pll = true) (ha : s.tol.asking = none)
    (hd : s.glb.dev ≠ .ready) (hs : slack ≤ 120) :
    let u : State := { s with tol := { s.tol with slack := slack, high := 0 } }
    exec (.avsSample slack low) s = .next
      (if u.avsHeld then u else if slack < 80 ∧ s.tol.vddMv < 850 then u.askMv (Nat.min 850 (s.tol.vddMv + 5)) else u) := by
  have hon : ¬(!s.mainPower || !s.glb.pll || s.tol.asking.isSome) = true := by rw [hm, hp, ha]; decide
  have hslack : Nat.min slack 1023 = slack := Nat.min_eq_left (by omega)
  have hhigh : ¬(100 ≤ 0 ∧ 650 < s.tol.vddMv) := fun h => absurd h.1 (by decide)
  rw [exec_avsSample, execAvsSample, if_neg hon]
  dsimp only
  rw [hslack, if_neg (Nat.not_lt.mpr hs), if_neg hd, if_neg hhigh]

theorem exec_avsRecal_dead {l : List Nat} (h : s.startedRuns 9 = false ∨ s.clocked = false ∨ s.tol.avsOk = false ∨ s.tol.asking ≠ none) :
    exec (.avsRecal l) s = .next s := by
  refine congrArg Host.Outcome.next (if_pos ?_)
  rcases h with h | h | h | h
  · rw [h]; rfl
  · rw [h, Bool.not_false, Bool.or_true]; rfl
  · rw [h, Bool.not_false, Bool.or_true]; rfl
  · rw [Option.isSome_iff_ne_none.mpr h, Bool.or_true]

theorem exec_avsRecal_settled {l : List Nat} (hr : s.startedRuns 9 = true) (hc : s.clocked = true) (ho : s.tol.avsOk = true)
    (ha : s.tol.asking = none) (hl : recalSteps s.tol.vddMv l = []) :
    exec (.avsRecal l) s = .next (({ s with tol := { s.tol with slackTable := [] } } : State).endAct 9 0) := by
  have hon : ¬(!s.startedRuns 9 || !s.clocked || !s.tol.avsOk || s.tol.asking.isSome) = true := by rw [hr, hc, ho, ha]; decide
  refine congrArg Host.Outcome.next ((if_neg hon).trans ?_)
  dsimp only
  rw [hl]
  show ({ s with tol := { s.tol with slackTable := [] }, out := s.out ++ [] } : State).endAct 9 0 = _
  rw [List.append_nil]

/-! ### SMBus and read completions -/

theorem State.smbus_powered (h : s.mainPower = true) (b : Bytes) : s.smbus b = { s with out := s.out ++ [.smbus b] } := if_pos h

theorem State.smbus_dead (h : s.mainPower = false) (b : Bytes) : s.smbus b = s := if_neg (ne_true_of_eq_false h)

end Tollhouse

/-- Settles O55: each command by what holds it back, and by the one value that it sets otherwise. -/
theorem tollhouseAndPorts : Obligations.TollhouseAndPorts := by
  unfold Obligations.TollhouseAndPorts
  intro s tj w link d slack low t
  refine ⟨fun h => ?dead, fun hm hr => ?sample, fun hm hr => congrArg _ (if_pos ⟨hm, hr⟩), fun hd => ?shut, fun hd => ?ready, exec_avsSample_dead,
    fun hm hp ha hd hs => ?avs, fun ha => ?idle, fun mv ha => ?ack, fun mv ha hn => ?retry, fun l h => exec_avsRecal_dead h,
    fun l hr hc ho ha hl => exec_avsRecal_settled hr hc ho ha hl, fun hm => ?smbus, fun hm => ?smbusDead, fun j o => ?completion⟩
  case dead =>
    refine ⟨congrArg _ (if_pos ?_), congrArg _ (if_neg fun hh => ?_)⟩
    · rcases h with h | h
      · rw [h]; rfl
      · rw [h, Bool.not_false, Bool.or_true]
    · rcases h with h | h
      · exact ne_true_of_eq_false h hh.1
      · exact ne_true_of_eq_false h hh.2
  case sample =>
    have hview := (s.thermalView_tjSample (s.noteTj tj).countSample).trans (s.noteTj tj).thermalView_countSample
    simp only [State.thermalView, Prod.mk.injEq] at hview
    obtain ⟨htj, hseen, hmax, heff, hmv, hcsn, hjobs⟩ := hview
    refine ⟨_, exec_tjSample_powered hm hr, htj, hseen, hmax.trans ?_, heff, hmv, hcsn, hjobs⟩
    show (if !s.tol.tjSeen || decide (s.tol.tjMax.toInt < tj.toInt) then tj else s.tol.tjMax) = _
    by_cases h : s.tol.tjSeen = true ∧ tj.toInt ≤ s.tol.tjMax.toInt
    · rw [if_pos h, h.1, decide_eq_false (by omega)]; rfl
    · rw [if_neg h, if_pos]
      cases hs : s.tol.tjSeen with
      | false => rfl
      | true => exact decide_eq_true (Int.not_le.mp fun hle => h ⟨hs, hle⟩)
  case shut =>
    have hw : ¬s.tolWritable = true := fun h => hd (of_decide_eq_true h)
    exact ⟨congrArg _ (if_neg hw), congrArg _ (if_neg fun h => hw h.1), congrArg _ (if_pos (by rw [Bool.not_eq_true] at hw; rw [hw]; rfl)),
      congrArg _ (if_pos hd), congrArg _ (if_pos (.inl hd)), congrArg _ (if_neg hd)⟩
  case ready =>
    have hw := State.tolWritable_of_ready hd
    refine ⟨congrArg _ (if_pos hw), congrArg _ (if_pos hd), fun hs => congrArg _ (if_pos ⟨hw, hs⟩), fun hs => congrArg _ (if_neg fun h => hs h.2),
      congrArg _ (if_neg (by rw [hw]; decide)), fun ht => ?_, fun ht => ?_, fun heq => congrArg _ (if_pos (.inr heq)), fun hon hno => ?off,
      fun hoff hyes => ?on⟩
    · rw [exec_csnCtlWrite_ready hd, if_neg (ne_true_of_eq_false ht)]
    · rw [exec_csnCtlWrite_ready hd, if_pos ht]
    case off =>
      have hswitch := exec_domainSwitchComplete_switches hd (by rw [hon, hno]; decide : s.pdOn d.val ≠ s.pdWanted d.val)
      rw [if_pos hon] at hswitch
      exact ⟨fun hi => hswitch.trans (congrArg _ (if_neg (ne_true_of_eq_false hi))), fun hi => hswitch.trans (congrArg _ (if_pos hi))⟩
    case on =>
      have hswitch := exec_domainSwitchComplete_switches hd (by rw [hoff, hyes]; decide : s.pdOn d.val ≠ s.pdWanted d.val)
      rw [if_neg (ne_true_of_eq_false hoff)] at hswitch
      exact hswitch
  case avs =>
    intro u
    have hlive := exec_avsSample_live (low := low) hm hp ha hd hs
    refine ⟨fun hh => hlive.trans (congrArg _ (if_pos hh)), fun hh hlow hmv => ?_, fun hh hhigh => hlive.trans (congrArg _ ?_)⟩
    · exact ⟨_, hlive.trans (congrArg _ ((if_neg (ne_true_of_eq_false hh)).trans (if_pos ⟨hlow, hmv⟩))), rfl, rfl, rfl⟩
    · exact (if_neg (ne_true_of_eq_false hh)).trans (if_neg fun h => Nat.not_lt.mpr hhigh h.1)
  case idle =>
    dsimp only [t] at ha
    exact ⟨by rw [exec_avsAck, execAvsAck, ha], by rw [exec_avsRetry, execAvsRetry, ha]⟩
  case ack =>
    dsimp only [t] at ha ⊢
    rw [exec_avsAck, execAvsAck, ha]
    dsimp only
    split
    · exact ⟨_, rfl, rfl, rfl, rfl, rfl⟩
    · exact ⟨_, rfl, rfl, rfl, rfl, rfl⟩
  case retry =>
    dsimp only [t] at ha hn
    rw [exec_avsRetry, execAvsRetry, ha]
    dsimp only
    rw [if_neg (Nat.not_lt.mpr hn)]
    rfl
  case smbus =>
    exact ⟨congrArg _ (State.smbus_powered hm _), congrArg _ (State.smbus_powered hm _), congrArg _ (State.smbus_powered hm _),
      congrArg _ (State.smbus_powered hm _), congrArg _ (State.smbus_powered hm _), congrArg _ (State.smbus_powered hm _),
      congrArg _ (State.smbus_powered hm _)⟩
  case smbusDead =>
    exact ⟨congrArg _ (State.smbus_dead hm _), congrArg _ (State.smbus_dead hm _), congrArg _ (State.smbus_dead hm _),
      congrArg _ (State.smbus_dead hm _), congrArg _ (State.smbus_dead hm _), congrArg _ (State.smbus_dead hm _), congrArg _ (State.smbus_dead hm _)⟩
  case completion =>
    refine ⟨fun hj => ?_, fun x hj h => ?_, fun x n b hj hn hd => ?_⟩
    · rw [exec_hostReadCompletion, execHostReadCompletion, hj]
    · rw [exec_hostReadCompletion, execHostReadCompletion, hj]
      dsimp only
      rcases h with h | h
      · rw [h]
      · rw [h]; split <;> rfl
    · rw [exec_hostReadCompletion, execHostReadCompletion, hj]
      dsimp only
      rw [hn]
      dsimp only
      rw [hd]
      rfl

end Sys2Proof.Machine
end

section
/-! The start-up: ROM, firmware verification, POST and READY (R603, R608, R610, R728 to R737). -/

namespace Sys2Proof.Machine

section Rom
variable {s : State} {stuck : BitVec 3}

/-! ### The ROM -/

theorem State.deferredStep_none (h : s.island.deferred = none) : s.deferredStep = s := by
  unfold State.deferredStep
  rw [h]

theorem State.romGoesOn_voted (h : s.fcl.mapRead = true) (hd : s.glb.dev = .romBoot) :
    s.romGoesOn = if !s.lcs.explained ∨ s.lcs.lstate = .blank ∨ s.lcs.lstate = .cancelled then s.enterFalsework 1 else s.readFlash := by
  have hvoted : s.voteMap = s := if_pos h
  unfold State.romGoesOn
  rw [hvoted]
  exact if_neg (not_not_intro hd)

/-- A decoded life-cycle state of a device with no response deferred leads on to firmware (R603, R608). -/
theorem exec_romBoot_decoded {t : State} (hd : s.glb.dev = .romBoot) (hb : s.lcs.burn = none) (ht : s.decodeState stuck = t)
    (hdef : t.island.deferred = none) (hdev : t.glb.dev = .romBoot) (hburn : t.lcs.burn = none) :
    exec (.romBoot stuck) s = .next t.romGoesOn.settlePower := by
  have hon : ¬(s.glb.dev ≠ .romBoot ∨ s.lcs.burn.isSome = true) := not_or.mpr ⟨not_not_intro hd, by rw [hb]; decide⟩
  have hon' : ¬(t.glb.dev ≠ .romBoot ∨ t.lcs.burn.isSome = true) := not_or.mpr ⟨not_not_intro hdev, by rw [hburn]; decide⟩
  rw [exec_romBoot, execRomBoot, if_neg hon]
  dsimp only
  rw [ht, State.deferredStep_none hdef, if_neg hon']

theorem State.readFlash_settled (h : layoutOk s.flash.layout = true) (ht : s.flash.trial = none) :
    s.readFlash = (({ s with glb := { s.glb with trial := false, slotB := s.flash.activeB, dev := .fwVerify },
                             csn := { s.csn with shelfBlocks := rd s.flash.layout 32 4 } } : State)).switchPd (s.tol.pd ||| 2 ^ 15) := by
  unfold State.readFlash
  rw [h, ht]
  rfl

/-! ### Firmware verification -/

theorem exec_firmwareVerified_none (hd : s.glb.dev = .fwVerify) (h : ∀ b, s.imageVerifies (s.slotOf b) = false) :
    exec .firmwareVerified s = .next
      ((({ s with glb := { s.glb with trial := false, slotB := s.flash.activeB } } : State).enterFalsework 2).settlePower) := by
  have hfind : s.bootOrder.find? (fun b => s.imageVerifies (s.slotOf b)) = none :=
    List.find?_eq_none.mpr fun b _ => ne_true_of_eq_false (h b)
  rw [exec_firmwareVerified, execFirmwareVerified, if_neg (not_not_intro hd)]
  dsimp only
  rw [hfind]

/-- The device that enters POST with slot `b`, the first of its order (R730, R731). -/
def State.bootSlot (s : State) (b : Bool) : State :=
  let other := s.slotOf (!b)
  { s with glb := { s.glb with dev := .post, slotB := b, trial := s.glb.trial && true, fallback := false },
           csn := { s.csn with fwMeas := fwMeas (s.slotOf b), stagedMeas := if other.isEmpty then [] else fwMeas other } }

theorem exec_firmwareVerified_first {b : Bool} (hd : s.glb.dev = .fwVerify) (hb : s.bootOrder.head? = some b)
    (h : s.imageVerifies (s.slotOf b) = true) :
    exec .firmwareVerified s = .next ((s.bootSlot b).assignDuty.switchPd (s.bootSlot b).assignDuty.postDomains) := by
  obtain ⟨l, hl⟩ := List.head?_eq_some_iff.mp hb
  have hfind : s.bootOrder.find? (fun b => s.imageVerifies (s.slotOf b)) = some b :=
    hl ▸ List.find?_cons_of_pos (p := fun b => s.imageVerifies (s.slotOf b)) h
  rw [exec_firmwareVerified, execFirmwareVerified, if_neg (not_not_intro hd)]
  dsimp only
  rw [hfind]
  dsimp only
  rw [hb, decide_eq_true rfl]
  rfl

end Rom

section Post
variable {s : State} {failed : List PostTest} {units : List (BitVec 16)} {stip : BitVec 8} {dets : List (Byte × Detector)}
  {pages : List (Nat × BitVec 28)}

/-! ### POST -/

theorem State.postStep_in (f : State → State) (h : s.glb.dev = .post) : s.postStep f = f s := if_pos h

theorem State.postStep_out (f : State → State) (h : s.glb.dev ≠ .post) : s.postStep f = s := if_neg h

theorem State.postStep_id (s : State) : s.postStep (fun t => t) = s := ite_self _

/-- POST without a failed test (R728). -/
def State.posted (s : State) (units : List (BitVec 16)) (stip : BitVec 8) (dets : List (Byte × Detector)) (pages : List (Nat × BitVec 28)) : State :=
  (((({ s with fcl := { s.fcl with checked := true } } : State).startEntropy.postStep (fun t => t.testUnits units stip pages)).postStep
    (fun t => t.xhTested dets)).postStep (fun t => t.startCaisson false))

theorem exec_postComplete_passed (h : s.glb.dev = .post) :
    exec (.postComplete [] units stip dets pages) s = .next ((s.posted units stip dets pages).postStep State.ready).settlePower := by
  have hentropy : ({ s with fcl := { s.fcl with checked := true } } : State).postStep (fun t => t.startEntropy) =
      ({ s with fcl := { s.fcl with checked := true } } : State).startEntropy := if_pos h
  rw [exec_postComplete, execPostComplete, if_neg (not_not_intro h)]
  dsimp only [List.contains_nil]
  simp only [Bool.false_eq_true, if_false, State.postStep_id]
  rw [hentropy]
  rfl

/-- A failed entropy test ends POST (R732, R737). -/
theorem exec_postComplete_entropyFails {u : State} (h : s.glb.dev = .post) (hc : failed.contains .checkers = false) (he : failed.contains .entropy = true)
    (hu : u = ((({ s with fcl := { s.fcl with checked := true } } : State).enterFalsework 6).reportAs (mkReport (src uEnt 3) 0x07 .fatal)))
    (hout : u.glb.dev ≠ .post) : exec (.postComplete failed units stip dets pages) s = .next u.settlePower := by
  have hentropy : ({ s with fcl := { s.fcl with checked := true } } : State).postStep
      (fun t => (t.enterFalsework 6).reportAs (mkReport (src uEnt 3) 0x07 .fatal)) = u := (if_pos h).trans hu.symm
  rw [exec_postComplete, execPostComplete, if_neg (not_not_intro h)]
  dsimp only
  rw [hc, he]
  simp only [Bool.false_eq_true, if_false, if_true]
  rw [hentropy]
  simp only [State.postStep_out _ hout]

/-! ### READY -/

/-- What READY leaves of a start-up: the device's global state, its time and its pairing. -/
def State.readyView (s : State) : Glb × Nat × PairState := (s.glb, s.time, s.spn.pair)

/-- One bit of the thermometer of FW_SVN_FLOOR is burned. -/
def State.burnFloorBit (s : State) (i : Nat) : State := s.setOtp (0x170 + i / 8) (s.otp (0x170 + i / 8) ||| BitVec.ofNat 8 (2 ^ (i % 8)))

theorem State.readyView_settleFloor (s : State) : s.settleFloor.readyView = s.readyView := by
  unfold State.settleFloor State.raiseFloor
  dsimp only
  split
  · split
    · rfl
    · exact State.foldl_keeps State.readyView State.burnFloorBit (fun _ _ => rfl) _ s
  · rfl

theorem State.readyView_settlePower (s : State) : s.settlePower.readyView = s.readyView := by
  unfold State.settlePower
  dsimp only
  split <;> rfl

theorem State.glb_settlePower (s : State) : s.settlePower.glb = s.glb := by
  unfold State.settlePower
  dsimp only
  split <;> rfl

theorem State.act_settlePower (s : State) (a : Nat) : s.settlePower.act a = s.act a := by
  unfold State.settlePower
  dsimp only
  split <;> rfl

theorem State.glb_sendHello (s : State) : s.sendHello.glb = s.glb :=
  (congrArg State.glb (State.besideDraws_nextDraw { s with spn := { s.spn with ourNonce := some (drawBytes s.draws 32) } }) :)

theorem State.glb_startPatrols (s : State) : s.startPatrols.glb = s.glb := rfl

theorem State.startPatrols_runs (s : State) {a : Nat} (h : a = 1 ∨ a = 2 ∨ a = 3) : (s.startPatrols.act a).mstate = 1 := by
  unfold State.startPatrols
  simp only [List.foldl_cons, List.foldl_nil, State.act_setAct]
  rcases h with h | h | h <;> subst h <;> rfl

/-- The device as READY begins: the firmware floor and the trial are settled, ports and span link are on (R728, R732). -/
def State.enterReady (s : State) : State :=
  let s1 := s.settleFloor
  let s2 := if s1.glb.trial then s1.bootRecord s1.glb.slotB none else s1
  let s3 : State := { s2 with glb := { s2.glb with dev := .ready, readyMs := Nat.min 65535 (s2.time / 100000) } }
  (s3.switchPd (s3.tol.pd ||| maskOf (([20, 21, 22] : List Nat).filter s3.pdWanted))).settlePower

theorem State.ready_eq (s : State) : s.ready =
    (if s.enterReady.paired then s.enterReady.rejoin else if s.enterReady.pdOn 22 then s.enterReady.sendHello else s.enterReady).startPatrols := rfl

theorem State.readyView_enterReady (s : State) : s.enterReady.readyView =
    ({ s.glb with dev := .ready, readyMs := Nat.min 65535 (s.time / 100000) }, s.time, s.spn.pair) := by
  have hfloor := s.readyView_settleFloor
  have htrial : ∀ t : State, (if t.glb.trial then t.bootRecord t.glb.slotB none else t).readyView = t.readyView := fun t => by split <;> rfl
  have hbooted := (htrial s.settleFloor).trans hfloor
  simp only [State.readyView, Prod.mk.injEq] at hbooted
  obtain ⟨hglb, htime, hpair⟩ := hbooted
  unfold State.enterReady
  dsimp only
  rw [State.readyView_settlePower]
  show (_, _, _) = _
  rw [Prod.mk.injEq, Prod.mk.injEq]
  exact ⟨by rw [← hglb, ← htime]; rfl, htime, hpair⟩

theorem State.ready_unpaired (hp : s.paired = false) :
    s.ready.glb.dev = .ready ∧ s.ready.glb.readyMs = Nat.min 65535 (s.time / 100000) ∧ ∀ a, a = 1 ∨ a = 2 ∨ a = 3 → (s.ready.act a).mstate = 1 := by
  have hview := s.readyView_enterReady
  simp only [State.readyView, Prod.mk.injEq] at hview
  obtain ⟨hglb, -, hpair⟩ := hview
  have hp' : s.enterReady.paired = false := (congrArg (fun p => decide (p ≠ PairState.unpaired)) hpair).trans hp
  have hready : s.ready.glb = s.enterReady.glb := by
    rw [State.ready_eq, hp', if_neg Bool.false_ne_true, State.glb_startPatrols]
    split
    · exact State.glb_sendHello _
    · rfl
  rw [hready, hglb]
  exact ⟨rfl, rfl, fun a ha => by rw [State.ready_eq]; exact State.startPatrols_runs _ ha⟩

end Post

/-- Settles O57: each stage of the start-up by what it decodes, and what READY leaves of it. -/
theorem startUp : Obligations.StartUp := by
  unfold Obligations.StartUp
  intro s stuck failed units stip dets pages
  refine ⟨fun h => ?romOut, fun l hd hb hc hdef => ?romKnown, fun hd hb hc hdef => ?romUnexplained, fun t hc => ?forward, fun hm hd h => ?noFirmware,
    fun hm hd he h1 h2 => ?flash, fun hd => ?verifyOut, exec_firmwareVerified_none, fun b hd hb hv => ?verified, fun ht => ?order, fun hd => ?postOut,
    fun w hd hw => ?passed, fun u hd hc he hu hout => exec_postComplete_entropyFails hd hc he hu hout⟩
  case romOut => exact congrArg _ (if_pos h)
  case romKnown => exact exec_romBoot_decoded hd hb (by rw [State.decodeState, hc]) hdef hd hb
  case romUnexplained => exact exec_romBoot_decoded hd hb (by rw [State.decodeState, hc]) hdef hd hb
  case forward => rw [State.decodeState, hc]
  case noFirmware =>
    rw [State.romGoesOn_voted hm hd, if_pos]
    exact h.imp_left fun h => by rw [h]; rfl
  case flash =>
    have hgoes : s.romGoesOn = s.readFlash := by
      rw [State.romGoesOn_voted hm hd, if_neg]
      rw [he]
      exact not_or.mpr ⟨by decide, not_or.mpr ⟨h1, h2⟩⟩
    rw [hgoes]
    refine ⟨fun hl => if_pos (by rw [hl]; rfl), fun hl ht => ⟨_, State.readFlash_settled hl ht, rfl, rfl, rfl, rfl, ?_, rfl⟩⟩
    show (s.tol.pd ||| 2 ^ 15).testBit 15 = true
    rw [Nat.testBit_or, Nat.testBit_two_pow_self, Bool.or_true]
  case verifyOut => exact congrArg _ (if_pos hd)
  case verified => exact ⟨_, exec_firmwareVerified_first hd hb hv, rfl, rfl, rfl, Bool.and_true _, rfl, rfl⟩
  case order =>
    rw [State.bootOrder, ht]
    cases s.flash.activeB <;> rfl
  case postOut => exact congrArg _ (if_pos hd)
  case passed =>
    have hexec := exec_postComplete_passed (units := units) (stip := stip) (dets := dets) (pages := pages) hd
    have hposted : s.posted units stip dets pages = w := hw.symm
    rw [hposted] at hexec
    refine ⟨fun hout => ?_, fun hin hp => ⟨_, hexec, ?_⟩⟩
    · rw [State.postStep_out _ hout] at hexec; exact hexec
    · rw [State.postStep_in _ hin]
      obtain ⟨hdev, hms, hact⟩ := State.ready_unpaired hp
      simp only [State.act_settlePower, State.glb_settlePower]
      exact ⟨hdev, hms, hact 1 (.inl rfl), hact 2 (.inr (.inl rfl)), hact 3 (.inr (.inr rfl))⟩

end Sys2Proof.Machine
end

section
/-! Events of the custody interfaces (R743 to R747, R756, R762, R763, R765, R769). -/

namespace Sys2Proof.Machine

section Custody
variable {s : State}

/-- An event of the operation that holds the card. -/
theorem State.onCard_acts {o : CardOp} {f : CardOp → State} (hop : s.cardOp = some o) (ha : s.opAbort o = none) (ht : o.todo ≠ []) :
    s.onCard f = f o := by
  unfold State.onCard
  rw [hop]
  dsimp only
  rw [ha]
  exact if_neg (by rw [List.isEmpty_iff]; exact ht)

/-- An event of the exchange under way with an officer card. -/
theorem State.onExch_acts {x : Exch} {y : Job} {f : Exch → State} (hx : s.exchange = some (x, y)) (ha : y.abortBy = none) : s.onExch f = f x := by
  unfold State.onExch
  rw [hx]
  dsimp only
  rw [ha]

/-- A card that comes into the empty slot of working custody interfaces (R743, R744). -/
theorem exec_sdCardInsertion_empty {sdsc ok width4 : Bool} {speed : Fin 8} {lbas : Nat} (hon : s.custodyOn = true) (hp : s.cus.present = false) :
    exec (.sdCardInsertion sdsc ok speed width4 lbas) s = .next (
      if sdsc then s
      else if !ok then { s with cus := { s.cus with present := true, error := true } }
      else ({ s with cus := { s.cus with
          present := true, ready := true, width4 := width4 && !((s.reg Reg.cusCtl).testBit 3),
          speed := Nat.max 1 (Nat.min speed.val (bits (s.reg Reg.cusCtl) 2 0)), lbas := lbas } } : State).beginOp (CardOp.start .auto scanReads)) := by
  rw [exec_sdCardInsertion, execSdCardInsertion, hon, hp]
  cases sdsc <;> rfl

theorem State.exportMayStart (hr : s.startedRuns 7 = true) (hon : s.custodyOn = true) (hop : s.cardOp = none) :
    ¬((!s.startedRuns 7) = true ∨ (!s.custodyOn) = true ∨ s.cardOp.isSome = true) := by
  rw [hr, hon, hop]
  decide

end Custody

/-- Settles O29: a card by how it was inserted, an event by the operation or exchange that it belongs to. -/
theorem custodyEvents : Obligations.CustodyEvents := by
  unfold Obligations.CustodyEvents
  intro s
  refine ⟨fun speed width4 lbas hon hp => ?inserted, fun hp => ?removed, fun hp => ?absent, fun o data hop ha ht => ?transfer,
    fun x y block hx ha => ?exchange, fun slot => rfl, fun officer => ?expiry, fun hr hon hop => ?exported, fun hr => ?noExport⟩
  case inserted =>
    exact ⟨exec_sdCardInsertion_empty hon hp, ⟨_, exec_sdCardInsertion_empty hon hp, rfl, rfl, rfl, rfl⟩,
      ⟨_, exec_sdCardInsertion_empty hon hp, rfl, rfl, rfl, rfl, rfl, rfl, rfl⟩⟩
  case removed => exact congrArg _ (if_pos hp)
  case absent => exact congrArg _ (if_neg (ne_true_of_eq_false hp))
  case transfer =>
    have acts : ∀ f, s.onCard f = f o := fun f => State.onCard_acts hop ha ht
    refine ⟨congrArg _ (acts _), congrArg _ (acts _), congrArg _ (acts _), congrArg _ (acts _), fun a d r htodo => congrArg _ ((acts _).trans ?_),
      fun a r htodo => congrArg _ ((acts _).trans ?_)⟩
    · rw [htodo]
    · rw [htodo]
  case exchange => exact ⟨congrArg _ (State.onExch_acts hx ha), congrArg _ (State.onExch_acts hx ha)⟩
  case expiry => exact ⟨_, rfl, rfl, KMap.get_del_self .., fun k hk => (KMap.get_del ..).trans (if_neg (Ne.symm hk)), rfl⟩
  case exported =>
    have hgo := State.exportMayStart hr hon hop
    refine ⟨fun hready => ?_, fun hready hk => ?_, fun k hready hk hfits => ?_⟩
    · exact congrArg Host.Outcome.next ((if_neg hgo).trans (if_pos (by rw [hready]; rfl)))
    · rw [exec_archiveExport, execArchiveExport, if_neg hgo, hready, if_neg (by decide), hk]
    · rw [exec_archiveExport, execArchiveExport, if_neg hgo, hready, if_neg (by decide), hk]
      exact congrArg Host.Outcome.next (if_neg (Nat.not_lt.mpr hfits))
  case noExport => exact congrArg Host.Outcome.next (if_pos (.inl (by rw [hr]; rfl)))

end Sys2Proof.Machine
end

section
/-! Doorbells, ring control and interrupts (R33, R34, R42 to R50, R83 to R86, R518, R560). -/

namespace Sys2Proof.Machine

section Rings
variable {s : State} {v : Nat} {id : RingId} {i : Nat}

/-! ### A window that the host does not reach (R560, R561) -/

theorem State.rejected_frame (s : State) (v : Nat) : { s.rejected v with regs := s.regs } = s := by
  unfold State.rejected
  split <;> rfl

theorem State.rejected_reg (s : State) (v : Nat) {a : Nat} (ha : a ≠ Reg.vimTdiReject) : (s.rejected v).reg a = s.reg a := by
  unfold State.rejected
  split
  case isTrue => exact (State.reg_setReg ..).trans (if_neg ha.symm)
  case isFalse => rfl

@[simp] theorem State.rejected_rings (s : State) (v : Nat) : (s.rejected v).rings = s.rings := (congrArg State.rings (s.rejected_frame v) :)

theorem State.windowed_reached {f : State → State} (h : s.reaches v = true) : s.windowed v f = f s := if_pos h

theorem State.windowed_unreached {f : State → State} (h : s.reaches v = false) : s.windowed v f = s.rejected v := if_neg (ne_true_of_eq_false h)

/-! ### Doorbells (R48, R86) -/

/-- A doorbell with `i` that a ring refuses, with its CAUSE: disabled, out of its size, or a move that the ring forbids. -/
def Ring.refusesBell (r : Ring) (i : Nat) (forbidden : Prop) (cause : Nat) : Prop :=
  (r.enable = false ∧ cause = 3) ∨ (r.enable = true ∧ r.size ≤ i ∧ cause = 1) ∨
    (r.enable = true ∧ i < r.size ∧ forbidden ∧ cause = 2)

/-- The state after a doorbell to a reached window, by the first case of R48 that holds. -/
def Ring.judgeBell (r : Ring) (i : Nat) (forbidden : Prop) [Decidable forbidden] (refuse : Nat → State) (take : State) : State :=
  if !r.enable then refuse 3 else if r.size ≤ i then refuse 1 else if forbidden then refuse 2 else take

theorem Ring.judgeBell_refuses {r : Ring} {cause : Nat} {forbidden : Prop} [Decidable forbidden] (refuse : Nat → State) (take : State)
    (h : r.refusesBell i forbidden cause) : r.judgeBell i forbidden refuse take = refuse cause := by
  unfold Ring.judgeBell
  obtain ⟨he, rfl⟩ | ⟨he, hi, rfl⟩ | ⟨he, hi, hf, rfl⟩ := h
  · rw [he]; rfl
  · rw [he, if_neg (by decide), if_pos hi]
  · rw [he, if_neg (by decide), if_neg (Nat.not_le.mpr hi), if_pos hf]

theorem Ring.judgeBell_takes {r : Ring} {forbidden : Prop} [Decidable forbidden] (refuse : Nat → State) (take : State) (he : r.enable = true)
    (hi : i < r.size) (hf : ¬forbidden) : r.judgeBell i forbidden refuse take = take := by
  unfold Ring.judgeBell
  rw [he, if_neg (by decide), if_neg (Nat.not_le.mpr hi), if_neg hf]

theorem State.tailBell_unreached (h : s.reaches v = false) : s.tailBell v id i = s.rejected v := if_pos (by rw [h]; rfl)

theorem State.tailBell_reached (h : s.reaches v = true) : s.tailBell v id i =
    let r := s.ring v id.key
    r.judgeBell i (r.dist r.fetchIdx i < r.dist r.fetchIdx r.tail) (s.bellError v · id i) (s.setRing v id.key { r with tail := i }) :=
  if_neg (by rw [h]; decide)

theorem State.headBell_reached (h : s.reaches v = true) : s.headBell v id i =
    let r := s.ring v id.key
    r.judgeBell i (r.unreturned < r.dist r.head i) (s.bellError v · id i)
      (s.setRing v id.key { r with head := i, pieces := r.pieces.drop (r.dist r.head i) }) :=
  if_neg (by rw [h]; decide)

/-! ### Ring control (R34, R43 to R45, R86) -/

theorem maxVector_val (v : Fin 256) : maxVector v.val = if v = 0 then 2047 else 31 := by
  unfold maxVector
  simp only [Fin.ext_iff, Fin.val_zero]

/-- The five conditions of R43 in their order, the largest size told by the ring's KIND. -/
theorem State.enableRefused_eq (s : State) (v : Nat) (id : RingId) (r : Ring) : s.enableRefused v id r =
    if r.log2Size.toNat < 6 ∨ (if id.kind = 0 then 12 else 16) < r.log2Size.toNat then some 4
    else if id.hasData = true ∧ (r.log2Data.toNat < 16 ∨ 28 < r.log2Data.toNat) then some 5
    else if id.fetched = true ∧ r.weight = 0 then some 8
    else if maxVector v < r.vector.toNat then some 6
    else if s.ringQuota v id = false then some 7
    else none := by
  unfold State.enableRefused
  cases s.ringQuota v id <;> cases id <;> rfl

/-- A ring that its VI's quota does not admit is not enabled (R34). -/
theorem State.ringQuota_of_not_enableRefused {r : Ring} (h : s.enableRefused v id r = none) : s.ringQuota v id = true := by
  rw [State.enableRefused_eq] at h
  split_ifs at h <;> exact eq_true_of_ne_false ‹_›

theorem State.writeCtl_enabled {w : Nat} (hx : id = .xq → v = 0) (he : (s.ring v id.key).enable = true) : s.writeCtl v id w =
    s.setRing v id.key { s.ring v id.key with
      enable := w.testBit 31, weight := if id.fetched ∧ bits w 19 16 ≠ 0 then BitVec.ofNat 4 (bits w 19 16) else (s.ring v id.key).weight } := by
  unfold State.writeCtl
  rw [if_neg (fun h => h.2 (hx h.1)), if_pos he]
  simp only [Bool.and_eq_true, decide_eq_true_eq]

theorem Ring.setEnable_self {r : Ring} (he : r.enable = true) (wt : BitVec 4) :
    { r with enable := true, weight := wt } = { r with weight := wt } := by
  rw [← he]

theorem State.writeCtl_enables {w : Nat} (hx : id = .xq → v = 0) (he : (s.ring v id.key).enable = false) (hw : w.testBit 31 = true)
    (h : s.enableRefused v id (ctlFields id (s.ring v id.key) w) = none) : s.writeCtl v id w = s.setRing v id.key
      { ctlFields id (s.ring v id.key) w with enable := true, fetchIdx := 0, tail := 0, writeIdx := 0, phase := true, head := 0, pieces := [] } := by
  unfold State.writeCtl
  rw [if_neg (fun h => h.2 (hx h.1)), if_neg (ne_true_of_eq_false he), hw]
  dsimp only
  rw [if_neg (by decide), h]

theorem State.writeCtl_refused {w c : Nat} (hx : id = .xq → v = 0) (he : (s.ring v id.key).enable = false) (hw : w.testBit 31 = true)
    (h : s.enableRefused v id (ctlFields id (s.ring v id.key) w) = some c) : s.writeCtl v id w =
      (s.setRing v id.key (ctlFields id (s.ring v id.key) w)).ringError v c id.kind id.index 0 := by
  unfold State.writeCtl
  rw [if_neg (fun h => h.2 (hx h.1)), if_neg (ne_true_of_eq_false he), hw]
  dsimp only
  rw [if_neg (by decide), h]

theorem State.ringError_rings (s : State) (v c k r x : Nat) : (s.ringError v c k r x).rings = s.rings := by
  unfold State.ringError
  split
  case isTrue => rfl
  case isFalse => exact State.raiseStatus_rings ..

/-- A _CTL write that leaves a disabled ring of an existing kind enabled found it within its quota (R34). -/
theorem State.ringQuota_of_writeCtl {w : Nat} (hx : id = .xq → v = 0) (he : (s.ring v id.key).enable = false) (hw : w.testBit 31 = true)
    (h : ((s.writeCtl v id w).ring v id.key).enable = true) : s.ringQuota v id = true := by
  cases hr : s.enableRefused v id (ctlFields id (s.ring v id.key) w) with
  | none => exact State.ringQuota_of_not_enableRefused hr
  | some c =>
    rw [State.writeCtl_refused hx he hw hr, State.ring, State.ringError_rings] at h
    have hoff : ((s.setRing v id.key (ctlFields id (s.ring v id.key) w)).ring v id.key).enable = false := by
      rw [State.ring_setRing_self]; exact he
    rw [State.ring, h] at hoff
    cases hoff

theorem exec_ringEnable_writes {v : Fin 256} {w : Word} (hr : s.reaches v.val = true) (hw : w.getLsbD 31 = true) :
    exec (.ringEnable v id w) s = .next (s.writeCtl v.val id w.toNat) := by
  rw [exec_ringEnable, execRingEnable, if_pos hw, State.windowed_reached hr]

theorem exec_ringDisable_writes {v : Fin 256} {w : Word} (hr : s.reaches v.val = true) (hw : w.getLsbD 31 = false) :
    exec (.ringDisable v id w) s = .next (s.writeCtl v.val id w.toNat) := by
  rw [exec_ringDisable, execRingDisable, if_neg (ne_true_of_eq_false hw), State.windowed_reached hr]

/-- RING_ENABLE leaves a disabled ring enabled only within the VI's quota (R34). -/
theorem exec_ringEnable_quota {v : Fin 256} (w : Word) (hx : id = .xq → v.val = 0) (he : (s.ring v.val id.key).enable = false) :
    ∃ t, exec (.ringEnable v id w) s = .next t ∧ ((t.ring v.val id.key).enable = true → s.ringQuota v.val id = true) := by
  refine ⟨_, rfl, fun h => ?_⟩
  split at h
  case isTrue hw =>
    cases hr : s.reaches v.val with
    | true => rw [State.windowed_reached hr] at h; exact State.ringQuota_of_writeCtl hx he hw h
    | false =>
      rw [State.windowed_unreached hr, State.ring, State.rejected_rings] at h
      exact absurd h (ne_true_of_eq_false he)
  case isFalse => exact absurd h (ne_true_of_eq_false he)

/-! ### Interrupts (R83, R85, R518) -/

section Messages
variable {vec : Nat}

theorem State.sendMsix_sent (h : s.dmaOk v = true ∧ (s.vi v).masked vec = false) : s.sendMsix v vec = s.emit (.msix v (s.via v) vec) := by
  obtain ⟨-, -, hsent⟩ | ⟨hno, -⟩ := s.sendMsix_cases v vec
  · exact hsent
  · exact absurd h hno

theorem State.sendMsix_pending (h : ¬(s.dmaOk v = true ∧ (s.vi v).masked vec = false)) :
    s.sendMsix v vec = s.modVi v (fun x => { x with pba := insertNat vec x.pba }) := by
  obtain ⟨hdma, hmask, -⟩ | ⟨-, hpend⟩ := s.sendMsix_cases v vec
  · exact absurd ⟨hdma, hmask⟩ h
  · exact hpend

/-- Several messages of one vector that go out: one output each. -/
theorem State.foldl_sendMsix_sent {α : Type} (l : List α) (h : s.dmaOk v = true ∧ (s.vi v).masked vec = false) :
    l.foldl (fun t _ => t.sendMsix v vec) s = { s with out := s.out ++ List.replicate l.length (.msix v (s.via v) vec) } := by
  induction l generalizing s with
  | nil => simp
  | cons a r ih =>
    rw [List.foldl_cons, State.sendMsix_sent h, ih (s := s.emit (.msix v (s.via v) vec)) h, List.length_cons, List.replicate_succ]
    simp only [State.emit, List.append_assoc, List.singleton_append]
    rfl

/-- Several messages of one vector that stay pending change nothing but the VI, and of the VI the pending vectors alone. -/
theorem State.foldl_sendMsix_pending {α : Type} (l : List α) (h : ¬(s.dmaOk v = true ∧ (s.vi v).masked vec = false)) :
    { l.foldl (fun t _ => t.sendMsix v vec) s with vis := s.vis } = s := by
  induction l generalizing s with
  | nil => rfl
  | cons a r ih =>
    have hkeep : ({ s.sendMsix v vec with vis := s.vis } : State) = s := by rw [State.sendMsix_pending h]; rfl
    have hpba : ((s.sendMsix v vec).vi v).besidePba = (s.vi v).besidePba := s.besidePba_sendMsix v vec
    have hdma : (s.sendMsix v vec).dmaOk v = s.dmaOk v :=
      (congrArg (fun x : Vi => x.bme && decide (x.tdi ≠ .error) && decide (x.state = .running)) hpba :)
    have hmask : ((s.sendMsix v vec).vi v).masked vec = (s.vi v).masked vec := (congrArg (fun x : Vi => x.masked vec) hpba :)
    have hrest := @ih (s.sendMsix v vec) (by rw [hdma, hmask]; exact h)
    exact (congrArg (fun t : State => { t with vis := s.vis }) hrest).trans hkeep

theorem State.foldl_sendMsix_besidePba {α : Type} (s : State) (v vec : Nat) (l : List α) :
    ((l.foldl (fun t _ => t.sendMsix v vec) s).vi v).besidePba = (s.vi v).besidePba :=
  State.foldl_keeps (fun t => (t.vi v).besidePba) _ (fun t _ => t.besidePba_sendMsix v vec) l s

/-! ### VI_INT_ENABLE (R85) -/

/-- The status bits whose AND with their enable bit rises when `w` is written. -/
def risingBits (x : Vi) (w : Word) : List Nat :=
  (List.range 4).filter ((x.intStatus &&& w.setWidth 4 &&& ~~~x.intEnable).getLsbD ·)

theorem length_risingBits (x : Vi) (w : Word) : (risingBits x w).length =
    (List.range 4).countP (fun b => x.intStatus.getLsbD b && w.getLsbD b && !x.intEnable.getLsbD b) := by
  unfold risingBits
  rw [← List.countP_eq_length_filter]
  refine List.countP_congr fun b hb => ?_
  simp [List.mem_range.mp hb]

def State.setIntEnable (s : State) (v : Nat) (w : Word) : State := s.setVi v { s.vi v with intEnable := w.setWidth 4 }

theorem State.writeIntEnable_eq (s : State) (v : Nat) (w : Word) : s.writeIntEnable v w =
    (risingBits (s.vi v) w).foldl (fun t _ => t.sendMsix v (s.vi v).intVector.toNat) (s.setIntEnable v w) := rfl

theorem State.dmaOk_setIntEnable (s : State) (v : Nat) (w : Word) : (s.setIntEnable v w).dmaOk v = s.dmaOk v := by
  unfold State.dmaOk State.setIntEnable
  rw [State.vi_setVi, if_pos rfl]

theorem State.masked_setIntEnable (s : State) (v : Nat) (w : Word) (vec : Nat) :
    ((s.setIntEnable v w).vi v).masked vec = (s.vi v).masked vec := by
  unfold Vi.masked State.setIntEnable
  rw [State.vi_setVi, if_pos rfl]

theorem State.via_setIntEnable (s : State) (v : Nat) (w : Word) : (s.setIntEnable v w).via v = s.via v := by
  unfold State.via State.setIntEnable
  rw [State.vi_setVi, if_pos rfl]

theorem exec_viIntEnableWrite_reached {v : Fin 256} (w : Word) (h : s.reaches v.val = true) :
    exec (.viIntEnableWrite v w) s = .next (s.writeIntEnable v.val w) := congrArg Host.Outcome.next (State.windowed_reached h)

end Messages

end Rings

/-! ### The statements -/

/-- Settles O2: each doorbell by whether its window is reached, then by the first case of R48 that holds. -/
theorem doorbells : Obligations.Doorbells := by
  unfold Obligations.Doorbells
  refine ⟨fun s v n i c id hc => ?tail, fun s v n i c id hc => ?head⟩
  case tail =>
    have hexec : exec c s = .next (s.tailBell v.val id i.toNat) := by
      obtain ⟨rfl, rfl⟩ | ⟨rfl, rfl⟩ := hc <;> rfl
    refine ⟨fun hr => ⟨fun he hi hd => ?_, fun cause h => ⟨_, hexec, ?_⟩⟩, fun hr => ⟨_, hexec, ?_⟩⟩
    · rw [hexec, State.tailBell_reached hr]
      exact congrArg _ (Ring.judgeBell_takes (s.bellError v.val · id i.toNat) _ he hi (Nat.not_lt.mpr hd))
    · have hbell : s.tailBell v.val id i.toNat = s.bellError v.val cause id i.toNat :=
        (State.tailBell_reached hr).trans (Ring.judgeBell_refuses (s.bellError v.val · id i.toNat) _ h)
      rw [hbell]
      exact s.ringError_spec v.val cause id.kind id.index _ i.isLt
    · rw [State.tailBell_unreached hr]
      exact ⟨s.rejected_frame v.val, fun a => s.rejected_reg v.val⟩
  case head =>
    have hexec : exec c s = .next (s.headBell v.val id i.toNat) := by
      obtain ⟨rfl, rfl⟩ | ⟨rfl, rfl⟩ | ⟨rfl, rfl⟩ | ⟨rfl, rfl, rfl⟩ := hc <;> rfl
    refine fun hr => ⟨fun he hi hd => ?_, fun cause h => ⟨_, hexec, ?_⟩⟩
    · rw [hexec, State.headBell_reached hr]
      exact congrArg _ (Ring.judgeBell_takes (s.bellError v.val · id i.toNat) _ he hi (Nat.not_lt.mpr hd))
    · have hbell : s.headBell v.val id i.toNat = s.bellError v.val cause id i.toNat :=
        (State.headBell_reached hr).trans (Ring.judgeBell_refuses (s.bellError v.val · id i.toNat) _ h)
      rw [hbell]
      exact s.ringError_spec v.val cause id.kind id.index _ i.isLt

/-- Settles O3: a _CTL write that enables has passed the quota condition of R43, which reads the quota of the ring's kind. -/
theorem ringQuotaBoundsEnable : Obligations.RingQuotaBoundsEnable := by
  unfold Obligations.RingQuotaBoundsEnable
  intro s v n id q w hid he
  have hquota : id ≠ .xq ∧ (s.ringQuota v.val id = true → n.val < q) := by
    obtain ⟨rfl, rfl⟩ | ⟨rfl, rfl⟩ | ⟨rfl, rfl⟩ := hid
    all_goals exact ⟨by simp, of_decide_eq_true⟩
  obtain ⟨t, ht, hen⟩ := exec_ringEnable_quota w (fun h => absurd h hquota.1) he
  refine ⟨t, ht, fun h => hquota.2 (hen h), fun hn => ?_⟩
  exact Bool.eq_false_iff.mpr fun h => Nat.not_lt.mpr hn (hquota.2 (hen h))

/-- Settles O4: a disabled ring by the first condition of R43 that fails, an enabled one by the written ENABLE. -/
theorem ringControl : Obligations.RingControl := by
  unfold Obligations.RingControl
  intro s v id w hr hxq
  have hx : id = .xq → v.val = 0 := fun h => congrArg Fin.val (hxq h)
  have hrefuse := s.enableRefused_eq v.val id (ctlFields id (s.ring v.val id.key) w.toNat)
  rw [maxVector_val] at hrefuse
  refine ⟨fun he hw hsize hdata hweight hvector hquota => ?enables, fun cause he hw h => ?refused, fun he hw => ?weight, fun he hw => ?disables⟩
  case enables =>
    rw [exec_ringEnable_writes hr hw, State.writeCtl_enables hx he hw]
    · rfl
    · exact hrefuse.trans ((if_neg hsize).trans ((if_neg hdata).trans ((if_neg hweight).trans ((if_neg hvector).trans (if_neg hquota)))))
  case refused =>
    have hcause : s.enableRefused v.val id (ctlFields id (s.ring v.val id.key) w.toNat) = some cause := by
      refine hrefuse.trans ?_
      obtain ⟨hs, rfl⟩ | ⟨hs, hd, rfl⟩ | ⟨hs, hd, hwt, rfl⟩ | ⟨hs, hd, hwt, hv, rfl⟩ | ⟨hs, hd, hwt, hv, hq, rfl⟩ := h
      · exact if_pos hs
      · exact (if_neg hs).trans (if_pos hd)
      · exact (if_neg hs).trans ((if_neg hd).trans (if_pos hwt))
      · exact (if_neg hs).trans ((if_neg hd).trans ((if_neg hwt).trans (if_pos hv)))
      · exact (if_neg hs).trans ((if_neg hd).trans ((if_neg hwt).trans ((if_neg hv).trans (if_pos hq))))
    refine ⟨_, exec_ringEnable_writes hr hw, ?_⟩
    rw [State.writeCtl_refused hx he hw hcause]
    obtain ⟨hrings, -, herr, hframe, hother⟩ := (s.setRing v.val id.key (ctlFields id (s.ring v.val id.key) w.toNat)).ringError_spec
      v.val cause id.kind id.index 0 (by decide)
    rw [Nat.add_zero] at herr
    exact ⟨hrings, herr, congrArg (fun t : State => { t with rings := s.rings }) hframe, hother⟩
  case weight =>
    have hbit : w.toNat.testBit 31 = true := hw
    rw [exec_ringEnable_writes hr hw, State.writeCtl_enabled hx he, hbit]
    exact congrArg (fun r => Host.Outcome.next (s.setRing v.val id.key r)) (Ring.setEnable_self he _)
  case disables =>
    have hbit : w.toNat.testBit 31 = false := hw
    rw [exec_ringDisable_writes hr hw, State.writeCtl_enabled hx he, hbit]

/-- Settles O5: a message by whether it goes out or stays pending; a write of VI_INT_ENABLE by its rising bits. -/
theorem interruptCommands : Obligations.InterruptCommands := by
  unfold Obligations.InterruptCommands
  intro s v id w
  refine ⟨fun ht hu => ?timer, fun hr => ?clear, fun hr hdma hmask => ?sent, fun hr hno => ?pending⟩
  case timer =>
    have hexec : exec (.interruptTimer v id) s =
        .next ((s.setRing v.val id.key { s.ring v.val id.key with unsignalled := 0 }).sendMsix v.val (s.ring v.val id.key).vector.toNat) :=
      congrArg Host.Outcome.next (if_neg (not_or.mpr ⟨ht, hu⟩))
    refine ⟨_, hexec, ?_⟩
    by_cases h : s.dmaOk v.val = true ∧ (s.vi v.val).masked (s.ring v.val id.key).vector.toNat = false
    · rw [State.sendMsix_sent (s := s.setRing v.val id.key _) h, if_pos h]
      exact ⟨rfl, rfl, fun hno => absurd h hno, rfl⟩
    · rw [State.sendMsix_pending (s := s.setRing v.val id.key _) h, if_neg h]
      refine ⟨rfl, (List.append_nil _).symm, fun _ => ?_, rfl⟩
      rw [State.vi_modVi, if_pos rfl]
      exact (mem_insertNat ..).mpr (.inl rfl)
  case clear => exact congrArg Host.Outcome.next (State.windowed_reached hr)
  case sent =>
    refine ⟨_, exec_viIntEnableWrite_reached w hr, ?_⟩
    rw [State.writeIntEnable_eq,
      State.foldl_sendMsix_sent _ ⟨(s.dmaOk_setIntEnable v.val w).trans hdma, (s.masked_setIntEnable v.val w _).trans hmask⟩,
      length_risingBits, State.via_setIntEnable]
    exact ⟨rfl, rfl, rfl⟩
  case pending =>
    refine ⟨_, exec_viIntEnableWrite_reached w hr, ?_⟩
    rw [State.writeIntEnable_eq]
    have hkeep := State.foldl_sendMsix_besidePba (s.setIntEnable v.val w) v.val (s.vi v.val).intVector.toNat (risingBits (s.vi v.val) w)
    rw [State.setIntEnable, State.vi_setVi, if_pos rfl] at hkeep
    refine ⟨(congrArg Vi.intEnable hkeep :), (congrArg Vi.intStatus hkeep :), ?_⟩
    have hframe := State.foldl_sendMsix_pending (s := s.setIntEnable v.val w) (risingBits (s.vi v.val) w) (by
      rw [State.dmaOk_setIntEnable, State.masked_setIntEnable]; exact hno)
    exact congrArg (fun t : State => { t with vis := s.vis }) hframe

end Sys2Proof.Machine
end

section
/-! The course of a command: fetch, dispatch, the end of its engine, the commit arbiter, the reply (R47, R50 to R72, R83, R87, R126). -/

namespace Sys2Proof.Machine

section Fetch
variable {s : State} {v k : Nat}

/-! ### The owning VI stamped on a descriptor (R51) -/

theorem stampVi_eq {b : Bytes} (v : Nat) (h : 8 ≤ b.length) : stampVi b v = b.take 6 ++ (leBytes 2 v ++ b.drop 8) := by
  have hpad : padTo 6 (b.take 6) = b.take 6 := by
    unfold padTo zeros
    rw [List.length_take, Nat.min_eq_left (by omega), List.take_take, Nat.min_self, Nat.sub_self, List.replicate_zero, List.append_nil]
  have hlen : (leBytes 2 v).length = 2 := by rw [leBytes_eq_map, List.length_map, List.length_range]
  unfold stampVi putAt
  rw [hpad, hlen, List.append_assoc]

theorem rd_stampVi_below {b : Bytes} (v : Nat) {off n : Nat} (h : 8 ≤ b.length) (hn : off + n ≤ 6) : rd (stampVi b v) off n = rd b off n := by
  have hlen : (b.take 6).length = 6 := by rw [List.length_take, Nat.min_eq_left (by omega)]
  unfold rd slice
  rw [stampVi_eq v h, List.drop_append_of_le_length (by omega), List.take_append_of_le_length (by rw [List.length_drop]; omega), List.drop_take,
    List.take_take, Nat.min_eq_left (by omega)]

theorem rd_stampVi_above {b : Bytes} (v : Nat) {off : Nat} (n : Nat) (h : 8 ≤ b.length) (hoff : 8 ≤ off) :
    rd (stampVi b v) off n = rd b off n := by
  have hlen : (b.take 6 ++ leBytes 2 v).length = 8 := by
    rw [List.length_append, leBytes_eq_map, List.length_map, List.length_range, List.length_take, Nat.min_eq_left (by omega)]
  unfold rd slice
  rw [stampVi_eq v h, ← List.append_assoc, List.drop_append, List.drop_eq_nil_of_le (by omega), List.nil_append, hlen, List.drop_drop]
  congr 3
  omega

theorem padTo_self {b : Bytes} {n : Nat} (h : b.length = n) : padTo n b = b := by
  unfold padTo zeros
  rw [h, List.take_of_length_le (Nat.le_of_eq h), Nat.sub_self, List.replicate_zero, List.append_nil]

/-! ### DESCRIPTOR_FETCH (R47, R53, R55, R57, R60, R87) -/

theorem State.foldl_emit {α : Type} (f : α → Out) (l : List α) (s : State) :
    l.foldl (fun t a => t.emit (f a)) s = { s with out := s.out ++ l.map f } := by
  induction l generalizing s with
  | nil => rw [List.map_nil, List.append_nil]; rfl
  | cons a r ih =>
    rw [List.foldl_cons, ih, List.map_cons, State.emit]
    simp only [List.append_assoc, List.singleton_append]

/-- The state once `n` entries of command ring `k` have been read, at their turn `h`. -/
def State.readEntries (s : State) (v k n : Nat) (h : Hif) : State :=
  { s with hif := h, out := s.out ++ (List.range n).map (fun i =>
      Out.hostRead v (s.via v) ((s.ring v k).baseA.toNat + 64 * (((s.ring v k).fetchIdx + i) % (s.ring v k).size)) 64) }

/-- The state once each of the entries that were read has been checked. -/
def State.takeEntries (s : State) (v k : Nat) (entries : List Bytes) : State := entries.foldl (fun t e => t.takeDescriptor v k (padTo 64 e)) s

theorem State.takeDescriptor_frame (s : State) (v k : Nat) (b : Bytes) :
    { s.takeDescriptor v k b with jobs := s.jobs, nextJob := s.nextJob, replies := s.replies } = s ∧
      (s.takeDescriptor v k b).nextJob = s.nextJob + 1 := by
  unfold State.takeDescriptor
  dsimp only
  split <;> exact ⟨rfl, rfl⟩

/-- Checking entries makes jobs and replies and uses up one job identifier for each. -/
theorem State.takeEntries_frame (s : State) (v k : Nat) (entries : List Bytes) :
    { s.takeEntries v k entries with jobs := s.jobs, nextJob := s.nextJob, replies := s.replies } = s ∧
      (s.takeEntries v k entries).nextJob = s.nextJob + entries.length := by
  induction entries generalizing s with
  | nil => exact ⟨rfl, rfl⟩
  | cons e r ih =>
    obtain ⟨hframe, hnext⟩ := s.takeDescriptor_frame v k (padTo 64 e)
    obtain ⟨hframes, hnexts⟩ := ih (s.takeDescriptor v k (padTo 64 e))
    refine ⟨(congrArg (fun t : State => { t with jobs := s.jobs, nextJob := s.nextJob, replies := s.replies }) hframes).trans hframe, ?_⟩
    rw [List.length_cons, Nat.add_comm r.length, ← Nat.add_assoc, ← hnext]
    exact hnexts

/-- What a fetch leaves before a read error is looked at: the entries checked, SQ_HEAD past them. -/
def State.fetched (s : State) (v k : Nat) (entries : List Bytes) (h : Hif) : State :=
  ((s.readEntries v k entries.length h).takeEntries v k entries).modRing v k (fun x => { x with fetchIdx := (x.fetchIdx + entries.length) % x.size })

/-- A fetch at its turn, of entries that may be fetched (R47, R57, R525). -/
theorem exec_descriptorFetch_turn {v : Fin 256} {k : Fin 16} {entries : List Bytes} {e : Bool} {h : Hif} (hf : s.fetching = true)
    (ht : s.fetchTurn v.val k.val entries.length = some h) (hn : entries.length ≤ s.fetchable v.val k.val) (hpos : 0 < s.fetchable v.val k.val)
    (he : 0 < entries.length ∨ e = true) : exec (.descriptorFetch v k entries e) s = .next (
      if e then ((s.fetched v.val k.val entries h).modRing v.val k.val (fun x => { x with enable := false })).ringError v.val 9 0 k.val 0
      else s.fetched v.val k.val entries h) := by
  rw [exec_descriptorFetch, execDescriptorFetch]
  dsimp only
  rw [if_neg, ht]
  · dsimp only
    rw [State.foldl_emit]
    rfl
  · have hsome : ¬(entries.length = 0 ∧ e = false) := by
      rintro ⟨h0, rfl⟩
      exact he.elim (by omega) (by decide)
    simp [hf, Nat.not_lt.mpr hn, Nat.pos_iff_ne_zero.mp hpos]
    simpa using hsome

/-- A fetch touches jobs, replies, the ring, the arbitration counts and the outputs alone. -/
theorem State.fetched_frame (s : State) (v k : Nat) (entries : List Bytes) (h : Hif) :
    { s.fetched v k entries h with
        jobs := s.jobs, nextJob := s.nextJob, replies := s.replies, rings := s.rings, hif := s.hif, out := s.out } = s :=
  congrArg (fun t : State => { t with rings := s.rings, hif := s.hif, out := s.out })
    ((s.readEntries v k entries.length h).takeEntries_frame v k entries).1

@[simp] theorem State.fetched_vis (s : State) (v k : Nat) (entries : List Bytes) (h : Hif) : (s.fetched v k entries h).vis = s.vis :=
  (congrArg State.vis (s.fetched_frame v k entries h) :)

theorem State.fetched_nextJob (s : State) (v k : Nat) (entries : List Bytes) (h : Hif) :
    (s.fetched v k entries h).nextJob = s.nextJob + entries.length :=
  ((s.readEntries v k entries.length h).takeEntries_frame v k entries).2

theorem State.fetched_out (s : State) (v k : Nat) (entries : List Bytes) (h : Hif) :
    (s.fetched v k entries h).out = (s.readEntries v k entries.length h).out :=
  (congrArg State.out ((s.readEntries v k entries.length h).takeEntries_frame v k entries).1 :)

theorem State.fetched_rings (s : State) (v k : Nat) (entries : List Bytes) (h : Hif) : (s.fetched v k entries h).rings =
    (s.setRing v k { s.ring v k with fetchIdx := ((s.ring v k).fetchIdx + entries.length) % (s.ring v k).size }).rings := by
  have htook : ((s.readEntries v k entries.length h).takeEntries v k entries).rings = s.rings :=
    (congrArg State.rings ((s.readEntries v k entries.length h).takeEntries_frame v k entries).1 :)
  unfold State.fetched State.modRing State.setRing State.ring
  rw [htook]

/-- The checks read neither the arbitration counts nor the outputs. -/
theorem State.checkFetch_readEntries (s : State) (v k n : Nat) (h : Hif) (b : Bytes) : (s.readEntries v k n h).checkFetch v b = s.checkFetch v b :=
  rfl

theorem State.fetched_one {e : Bytes} (h : Hif) (he : e.length = 64) : s.fetched v k [e] h =
    ((s.readEntries v k 1 h).takeDescriptor v k e).modRing v k (fun x => { x with fetchIdx := (x.fetchIdx + 1) % x.size }) := by
  unfold State.fetched State.takeEntries
  rw [List.foldl_cons, List.foldl_nil, padTo_self he]
  rfl

/-- A descriptor that passes checks 1 to 6 becomes a job. -/
theorem State.fetched_admitted {e : Bytes} (h : Hif) (he : e.length = 64) (hc : s.checkFetch v e = none) :
    (s.fetched v k [e] h).jobs = KMap.put s.nextJob (newJob v k .host e (s.vi v).gen) s.jobs ∧ (s.fetched v k [e] h).replies = s.replies := by
  have htake : (s.readEntries v k 1 h).takeDescriptor v k e = (s.readEntries v k 1 h).addJob (newJob v k .host e (s.vi v).gen) := by
    unfold State.takeDescriptor
    rw [State.checkFetch_readEntries, hc]
    rfl
  rw [State.fetched_one h he, htake]
  exact ⟨rfl, rfl⟩

/-- One that fails has its reply decided at once, with the failing check's status and DETAIL. -/
theorem State.fetched_refused {e : Bytes} {st det len : Nat} (h : Hif) (he : e.length = 64) (hc : s.checkFetch v e = some (st, det, len)) :
    ∃ x, (s.fetched v k [e] h).jobs = s.jobs ∧ (s.fetched v k [e] h).replies = s.replies ++ [x] ∧ x.vi = v ∧ x.ring = k ∧
      x.tag = dTag e ∧ x.opcode = dOp e ∧ x.status = st ∧ x.detail = det ∧ x.lenOut = len ∧ x.outputs = [] ∧ x.stamp = s.time := by
  have htag : dTag (stampVi e v) = dTag e := rd_stampVi_above v 4 (by omega) (by omega)
  have hop : dOp (stampVi e v) = dOp e := rd_stampVi_below v (by omega) (by omega)
  rw [State.fetched_one h he]
  unfold State.takeDescriptor
  rw [State.checkFetch_readEntries, hc]
  dsimp only
  split
  · exact ⟨_, rfl, rfl, rfl, rfl, htag, hop, rfl, rfl, rfl, rfl, rfl⟩
  · exact ⟨_, rfl, rfl, rfl, rfl, htag, hop, rfl, rfl, rfl, rfl, rfl⟩

end Fetch

/-- Settles O6: the frame of a fetch, one entry by its checks, and the capture of a read error. -/
theorem descriptorFetch : Obligations.DescriptorFetch := by
  unfold Obligations.DescriptorFetch
  intro s v k entries h hf r n ht hn hpos
  have good (hlen : 0 < entries.length) : exec (.descriptorFetch v k entries false) s = .next (s.fetched v.val k.val entries h) :=
    exec_descriptorFetch_turn hf ht hn hpos (.inl hlen)
  refine ⟨fun hlen => ?frame, fun e hent he hc => ?admitted, fun e st det len hent he hc => ?refused, fun hstat => ?readError⟩
  case frame =>
    exact ⟨_, good hlen, s.fetched_rings v.val k.val entries h, s.fetched_nextJob v.val k.val entries h, s.fetched_out v.val k.val entries h,
      s.fetched_frame v.val k.val entries h⟩
  case admitted =>
    subst hent
    obtain ⟨hjobs, hreplies⟩ := State.fetched_admitted (k := k.val) h he hc
    have hjob : ∀ j, (s.fetched v.val k.val [e] h).job j =
        if s.nextJob = j then some (newJob v.val k.val .host e (s.vi v.val).gen) else s.job j := by
      intro j
      rw [State.job, hjobs, KMap.get_put, State.job]
    exact ⟨_, good (Nat.succ_pos 0), ⟨_, (hjob _).trans (if_pos rfl), rfl, rfl, rfl, rfl, rfl, rfl, rfl⟩, hreplies,
      fun j hj => (hjob j).trans (if_neg hj.symm)⟩
  case refused =>
    subst hent
    obtain ⟨x, hx⟩ := State.fetched_refused (k := k.val) h he hc
    exact ⟨_, x, good (Nat.succ_pos 0), hx⟩
  case readError =>
    refine ⟨_, exec_descriptorFetch_turn hf ht hn hpos (.inr rfl), ?_⟩
    rw [if_pos rfl]
    obtain ⟨hrings, hbit, herr, -⟩ := ((s.fetched v.val k.val entries h).modRing v.val k.val (fun x => { x with enable := false })).ringError_spec
      v.val 9 0 k.val 0 (by decide)
    refine ⟨?_, ?_, hbit⟩
    · rw [State.ring, hrings, ← State.ring, State.ring_modRing_self]
    · have hvi : ((s.fetched v.val k.val entries h).modRing v.val k.val (fun x => { x with enable := false })).vi v.val = s.vi v.val := by
        rw [State.vi, State.modRing_vis, State.fetched_vis, State.vi]
      rw [herr, hvi, hstat]
      simp

section Dispatch
variable {s : State} {j : Nat} {x : Job}

/-! ### JOB_DISPATCH (R52, R55, R58, R126) -/

/-- A job as its dispatch leaves it for its engine: its keys bound, what it reserves and the approved flag recorded. -/
def State.boundJob (s : State) (x : Job) : Job :=
  { x with stage := .queued, key := s.ownKey x.vi (dKey x.desc), key2 := (secondHandle x.desc).bind (s.ownKey x.vi), reserve := newHandles x.desc,
           approved := s.runsApproved x.vi x.desc, nonce := (((s.ownKey x.vi (dKey x.desc)).map (·.counter)).getD 0),
           estimate := if x.engine = .graver then graverEstimate x.desc else burinEstimate x.desc, queuedAt := s.time, quorum := s.quorumMask }

/-- The state that an engine finds: the job bound, and the key's counter moved past the value that the job took (R126). -/
def State.dispatched (s : State) (j : Nat) (x : Job) : State :=
  if dOp x.desc = 0x0501 ∧ (dP0 x.desc).testBit 16 then
    (s.putJob j (s.boundJob x)).modKey (dKey x.desc) (fun k => { k with counter := k.counter + 1 })
  else s.putJob j (s.boundJob x)

/-- A fetched job that may be judged now (R52, R58). -/
structure State.Judges (s : State) (j : Nat) (x : Job) : Prop where
  job : s.job j = some x
  stage : x.stage = .fetched
  notAbort : isAbort x.desc = false
  dma : s.dmaOk x.vi = true
  order : s.inOrder j x = true
  fetching : s.fetching = true

theorem State.Judges.goes (h : s.Judges j x) :
    ¬(x.stage ≠ .fetched ∨ isAbort x.desc = true ∨ (!s.dmaOk x.vi) = true ∨ (!s.inOrder j x) = true ∨ (!s.fetching) = true) := by
  simp [h.stage, h.notAbort, h.dma, h.order, h.fetching]

theorem exec_jobDispatch_refused {r : Refused} (h : s.Judges j x) (hc : s.checkDispatch x.vi s.strict x.desc = some r) :
    exec (.jobDispatch j) s = .next (s.refuseJob j r) := by
  rw [exec_jobDispatch, execJobDispatch, h.job]
  dsimp only
  rw [if_neg h.goes, hc]

theorem exec_jobDispatch_admitted (h : s.Judges j x) (hc : s.checkDispatch x.vi s.strict x.desc = none) (hl : s.leaseCovers x.desc = true) :
    exec (.jobDispatch j) s = .next (((s.dispatched j x).toEngine j x.engine).findLease j) := by
  rw [exec_jobDispatch, execJobDispatch, h.job]
  dsimp only
  rw [if_neg h.goes, hc]
  dsimp only
  rw [hl]
  rfl

/-- A job of another opcode than SIG_SIGN needs no lease of a stateful key. -/
theorem State.findLease_other (hj : s.job j = some x) (hop : dOp x.desc ≠ 0x0302) : s.findLease j = s := by
  unfold State.findLease
  rw [hj]
  dsimp only
  rw [if_neg hop]

theorem State.dispatched_job (s : State) (j : Nat) (x : Job) (i : Nat) :
    (s.dispatched j x).job i = if j = i then some (s.boundJob x) else s.job i := by
  have hput : (s.putJob j (s.boundJob x)).job i = if j = i then some (s.boundJob x) else s.job i := State.job_putJob ..
  unfold State.dispatched
  split <;> exact hput

/-- The only counter that moves at dispatch is that of the key of an AEAD_SEAL with NONCE_DEVICE. -/
theorem State.dispatched_keys (s : State) (j : Nat) (x : Job) (h : Nat) : KMap.get h (s.dispatched j x).csn.keys = (KMap.get h s.csn.keys).map
    (fun k => if h = dKey x.desc ∧ dOp x.desc = 0x0501 ∧ (dP0 x.desc).testBit 16 then { k with counter := k.counter + 1 } else k) := by
  unfold State.dispatched
  by_cases hn : dOp x.desc = 0x0501 ∧ (dP0 x.desc).testBit 16 = true
  · rw [if_pos hn]
    refine (KMap.get_mod ..).trans ?_
    by_cases hk : dKey x.desc = h
    · subst hk
      simp only [hn, and_self, if_true]
      rfl
    · have hne : ¬h = dKey x.desc := fun e => hk e.symm
      simp only [hk, hne, false_and, if_false, Option.map_id']
      rfl
  · rw [if_neg hn]
    simp only [hn, and_false, if_false, Option.map_id']
    rfl

theorem State.dispatched_frame (s : State) (j : Nat) (x : Job) :
    { s.dispatched j x with jobs := s.jobs, csn := { (s.dispatched j x).csn with keys := s.csn.keys } } = s := by
  unfold State.dispatched
  split <;> rfl

/-- A job without input starts in an engine that takes no queue of its own, its input complete. -/
def Job.startedIdle (x : Job) : Job :=
  { x with stage := .running, input := match x.origin with | .handshake _ => x.input | _ => [], reading := none, inputDone := true }

theorem State.toEngine_started {e : Engine} (hj : s.job j = some x) (hlen : dLenIn x.desc = 0)
    (he : e = .caisson ∨ e = .firmware ∨ e = .hif ∨ e = .dge) :
    s.toEngine j e = (s.modJob j (fun x => { x with stage := .running })).putJob j x.startedIdle := by
  have hmod : (s.modJob j (fun x => { x with stage := .running })).job j = some { x with stage := .running } := by
    rw [State.job_modJob, if_pos rfl, hj]; rfl
  have hstart : s.toEngine j e = (s.modJob j (fun x => { x with stage := .running })).startInput j := by
    obtain rfl | rfl | rfl | rfl := he <;> rfl
  rw [hstart, State.startInput, hmod]
  dsimp only
  rw [if_pos hlen, decide_eq_true hlen]
  rfl

end Dispatch

/-- Settles O7: the job by the checks, then by its engine. -/
theorem jobDispatch : Obligations.JobDispatch := by
  unfold Obligations.JobDispatch
  intro s j x hj hst hab hdma hord hf
  have hjudge : s.Judges j x := ⟨hj, hst, hab, hdma, hord, hf⟩
  refine ⟨fun r => exec_jobDispatch_refused hjudge, fun hc hl => ⟨fun he hop => ?lane, fun he hlen hsig hseal => ?started⟩⟩
  case lane =>
    have hexec := exec_jobDispatch_admitted hjudge hc hl
    have hjob : ∀ i, ((s.dispatched j x).toEngine j .lane).job i = if j = i then some (s.boundJob x) else s.job i := s.dispatched_job j x
    rw [he, State.findLease_other ((hjob j).trans (if_pos rfl)) hop] at hexec
    have hcwy : (s.dispatched j x).cwy = s.cwy := (congrArg State.cwy (s.dispatched_frame j x) :)
    refine ⟨_, s.boundJob x, hexec, (hjob j).trans (if_pos rfl), ⟨rfl, rfl, rfl, rfl, rfl, rfl⟩, rfl, rfl, ?_, s.dispatched_keys j x,
      fun i hi => (hjob i).trans (if_neg hi.symm), ?_⟩
    · rw [← hcwy]; rfl
    · exact congrArg (fun t : State => { t with cwy := s.cwy }) (s.dispatched_frame j x)
  case started =>
    have hput : s.dispatched j x = s.putJob j (s.boundJob x) := if_neg (fun h => hseal h.1)
    have hbound : (s.putJob j (s.boundJob x)).job j = some (s.boundJob x) := by rw [State.job_putJob, if_pos rfl]
    have hjob : ∀ i, (((s.putJob j (s.boundJob x)).modJob j (fun x => { x with stage := .running })).putJob j (s.boundJob x).startedIdle).job i =
        if j = i then some (s.boundJob x).startedIdle else s.job i := by
      intro i
      by_cases hi : j = i <;> simp [hi]
    have hexec := exec_jobDispatch_admitted hjudge hc hl
    rw [hput, State.toEngine_started hbound hlen (by tauto), State.findLease_other ((hjob j).trans (if_pos rfl)) hsig] at hexec
    exact ⟨_, _, hexec, (hjob j).trans (if_pos rfl), ⟨rfl, rfl, rfl, rfl, rfl, rfl⟩, rfl, rfl,
      fun i hi => (hjob i).trans (if_neg hi.symm), rfl⟩

end Sys2Proof.Machine
end

section
/-! The end of a job: its engine, the commit arbiter, the reply (R50, R60, R63 to R72, R83, R98, R102). -/

namespace Sys2Proof.Machine

section Ends
variable {s : State} {j : Nat} {x : Job}

/-! ### The end of a job's engine (R67, R102) -/

theorem State.finishJob_aborted {st : Nat} (r : Result) (needs : List Need) (hj : s.job j = some x) (ha : x.abortBy = some st) :
    s.finishJob j r needs = s.abandon j st := by
  unfold State.finishJob
  rw [hj]
  dsimp only
  rw [ha]

/-- A job of a descriptor whose engine ended, with its result. -/
def Job.ended (x : Job) (r : Result) (st : Stage) : Job :=
  { x with result := r, stage := st, reserve := 0, burinPart := .finished, graverPart := .finished }

theorem State.finishJob_failing {r : Result} {needs : List Need} (hj : s.job j = some x) (ho : x.origin = .host) (ha : x.abortBy = none)
    (hs : statusOk r.status = false) : s.finishJob j r needs = (s.leaveEngines j).putJob j (x.ended r .ready) := by
  unfold State.finishJob Job.ended
  rw [hj]
  dsimp only
  rw [ha, ho]
  dsimp only
  rw [hs]
  rfl

/-- A job of a descriptor whose engine ended well: what it still waits for. -/
def Job.awaiting (x : Job) (r : Result) (needs : List Need) : Job := { x.ended r .waiting with needs := needs, handles := [] }

theorem Job.usesOnce_awaiting (x : Job) (r : Result) (needs : List Need) : (x.awaiting r needs).usesOnce = x.usesOnce := by
  unfold Job.usesOnce
  rfl

/-- A good result that creates no key takes no handle; the job waits for its needs, or passes its commit point. -/
theorem State.finishJob_good {r : Result} {needs : List Need} (hj : s.job j = some x) (ho : x.origin = .host) (ha : x.abortBy = none)
    (hs : statusOk r.status = true) (hk : r.newKeys = []) : s.finishJob j r needs =
      if needs.isEmpty then ((s.leaveEngines j).putJob j (x.awaiting r needs)).reachCommit j
      else ((s.leaveEngines j).putJob j (x.awaiting r needs)).startNeed j := by
  unfold State.finishJob Job.awaiting Job.ended
  rw [hj]
  dsimp only
  rw [ha, ho]
  dsimp only
  rw [hs, hk]
  rfl

/-- A need that is not the twin's starts nothing (R466). -/
theorem State.startNeed_other {n : Need} {rest : List Need} (hj : s.job j = some x) (hn : x.needs = n :: rest) (ht : n ≠ .twin) :
    s.startNeed j = s := by
  unfold State.startNeed
  rw [hj]
  dsimp only
  rw [hn, if_pos]
  exact fun h => ht (Option.some.inj h)

/-- The commit point of a job that creates no key, has no effect and uses up no key: the job alone changes. -/
theorem State.reachCommit_plain (hj : s.job j = some x) (hh : x.handles = []) (he : x.result.effects = []) (h1 : x.usesOnce = false)
    (h2 : x.usesOnce2 = false) : s.reachCommit j = s.modJob j (fun y => { y with
      stage := .ready, committed := true, reserve := 0, handles := [], needs := [], result := { y.result with newKeys := [] } }) := by
  have hfill : s.fillNew x = s := by
    unfold State.fillNew
    rw [hh]
    cases x.pier <;> rfl
  unfold State.reachCommit
  rw [hj]
  dsimp only
  rw [hh, he, h1, h2]
  simp only [List.zip_nil_left, List.foldl_nil, hfill]
  rfl

/-- What O11 calls everything outside the job and the places of jobs in the engines. -/
def State.outside (s : State) :
    Csn × SMap Vi × SMap Ring × List Reply × SMap Word × Lcs × Glb × KMap Session × Fn × Spn × Fcl × List Out :=
  (s.csn, s.vis, s.rings, s.replies, s.regs, s.lcs, s.glb, s.cwy.sessions, s.fn, s.spn, s.fcl, s.out)

theorem State.outside_putJob (s : State) (j : Nat) (x : Job) : (s.putJob j x).outside = s.outside := rfl
theorem State.outside_modJob (s : State) (j : Nat) (f : Job → Job) : (s.modJob j f).outside = s.outside := rfl

theorem State.outside_leaveEngines (s : State) (j : Nat) : (s.leaveEngines j).outside = s.outside :=
  State.leaveEngines_of State.outside (fun _ => rfl) s j

theorem State.outside_eq {t : State} (h : t.outside = s.outside) : t.csn = s.csn ∧ t.vis = s.vis ∧ t.rings = s.rings ∧ t.replies = s.replies ∧
    t.regs = s.regs ∧ t.lcs = s.lcs ∧ t.glb = s.glb ∧ t.cwy.sessions = s.cwy.sessions ∧ t.fn = s.fn ∧ t.spn = s.spn ∧ t.fcl = s.fcl ∧
    t.out = s.out := by
  simpa only [State.outside, Prod.mk.injEq] using h

/-! ### The commit arbiter (R60, R65, R68) -/

/-- The state once job `j` has left the engines, what it waits for and the job table. -/
def State.released (s : State) (j : Nat) : State := ((s.leaveEngines j).dropWaits j).delJob j

theorem State.freeBurin_jobs (s : State) (j : Nat) : (s.freeBurin j).jobs = s.jobs := by
  unfold State.freeBurin
  split <;> rfl

theorem State.mem_jobs_dropVerifiers {p : Nat × Job} (h : p ∈ (s.dropVerifiers j).jobs) : p ∈ s.jobs := by
  have hmem : ∀ (l : List (Nat × Job)) (t : State), p ∈ (l.foldl (fun t q => (t.freeBurin q.1).delJob q.1) t).jobs → p ∈ t.jobs := by
    intro l
    induction l with
    | nil => exact fun t h => h
    | cons q r ih =>
      intro t h
      have hdel : p ∈ dropKey q.1 (t.freeBurin q.1).jobs := ih _ h
      rw [State.freeBurin_jobs] at hdel
      exact List.mem_of_mem_filter hdel
  exact hmem _ _ h

theorem State.mem_jobs_leaveEngines {p : Nat × Job} (h : p ∈ (s.leaveEngines j).jobs) : p ∈ s.jobs := by
  have hjobs : ((((s.freeBurin j).freeCore j).freeLane j).unpark j).jobs = s.jobs :=
    (State.freeCore_jobs (s.freeBurin j) j).trans (s.freeBurin_jobs j)
  rw [← hjobs]
  exact State.mem_jobs_dropVerifiers h

theorem State.mem_jobs_released {p : Nat × Job} (h : p ∈ (s.released j).jobs) : p ∈ s.jobs ∧ p.1 ≠ j := by
  obtain ⟨hmem, hne⟩ := List.mem_filter.mp h
  exact ⟨State.mem_jobs_leaveEngines hmem, of_decide_eq_true hne⟩

theorem State.released_job (s : State) (j : Nat) : (s.released j).job j = none := (State.job_delJob ..).trans (if_pos rfl)

theorem State.countOutcome_frame (s : State) (x : Job) : { s.countOutcome x with csn := s.csn, regs := s.regs } = s := by
  unfold State.countOutcome
  dsimp only
  split_ifs <;> rfl

theorem State.pushOutcome_frame (s : State) (j : Nat) (x : Job) : { s.pushOutcome j x with replies := s.replies, vis := s.vis } = s := by
  unfold State.pushOutcome
  split <;> rfl

theorem State.noteDecided_untargeted {aborted : Bool} (h : ∀ p ∈ s.jobs, p.2.targets = []) : s.noteDecided j aborted = s := by
  have hnone : s.jobs.filter (fun p => p.2.targets.contains j) = [] := by
    refine List.filter_eq_nil_iff.mpr fun p hp => ?_
    rw [h p hp]
    exact Bool.false_ne_true
  unfold State.noteDecided
  rw [hnone]
  rfl

theorem State.sweepRekey_quiet (h : ∀ p ∈ s.jobs, p.2.stage ≠ .waiting) : s.sweepRekey = s :=
  State.foldl_stays _ s _ fun p hp => if_neg fun hw => h p hp hw.1

/-- No other job, ABORT or hand-over waits on job `j`. -/
structure State.Alone (s : State) (j : Nat) : Prop where
  draining : s.spn.draining = []
  others : ∀ p ∈ s.jobs, p.1 ≠ j → p.2.targets = [] ∧ p.2.stage ≠ .waiting

/-- What deciding job `j` leaves beside what its key, its status counters and the matrix caches show. -/
def State.decided (s : State) (j : Nat) (x : Job) : State := (((s.released j).countOutcome x).pushOutcome j x).sweepMatrix

theorem State.decided_jobs (s : State) (j : Nat) (x : Job) : (s.decided j x).jobs = (s.released j).jobs :=
  (congrArg State.jobs (((s.released j).countOutcome x).pushOutcome_frame j x) :).trans (congrArg State.jobs ((s.released j).countOutcome_frame x) :)

theorem State.decided_spn (s : State) (j : Nat) (x : Job) : (s.decided j x).spn = (s.released j).spn :=
  (congrArg State.spn (((s.released j).countOutcome x).pushOutcome_frame j x) :).trans (congrArg State.spn ((s.released j).countOutcome_frame x) :)

theorem State.dropped_view (s : State) (j : Nat) : ((s.dropWaits j).delJob j).vis = s.vis ∧ ((s.dropWaits j).delJob j).replies = s.replies ∧
    ((s.dropWaits j).delJob j).spn.draining = s.spn.draining := ⟨rfl, rfl, rfl⟩

/-- Leaving the engines and the job table moves no VI, reply or hand-over. -/
theorem State.released_view (s : State) (j : Nat) : (s.released j).vis = s.vis ∧ (s.released j).replies = s.replies ∧
    (s.released j).spn.draining = s.spn.draining := by
  obtain ⟨hvis, hreplies, hdrain⟩ := (s.leaveEngines j).dropped_view j
  exact ⟨hvis.trans (s.leaveEngines_vis j), hreplies.trans (s.leaveEngines_replies j),
    hdrain.trans (congrArg Spn.draining (s.leaveEngines_spn j))⟩

theorem State.counted_vis (s : State) (j : Nat) (x : Job) : ((s.released j).countOutcome x).vis = s.vis :=
  (congrArg State.vis ((s.released j).countOutcome_frame x) :).trans (s.released_view j).1

theorem State.counted_replies (s : State) (j : Nat) (x : Job) : ((s.released j).countOutcome x).replies = s.replies :=
  (congrArg State.replies ((s.released j).countOutcome_frame x) :).trans (s.released_view j).2.1

/-- Deciding a job of a descriptor that nothing waits on. -/
theorem State.settle_alone (hj : s.job j = some x) (ho : x.origin = .host) (hop : dOp x.desc ≠ 0x0B01) (h : s.Alone j) :
    s.settle j = s.decided j x := by
  have hjobs : (((s.released j).countOutcome x).pushOutcome j x).jobs = (s.released j).jobs := s.decided_jobs j x
  have hquiet : ∀ p ∈ (s.released j).jobs, p.2.targets = [] ∧ p.2.stage ≠ .waiting := fun p hp =>
    h.others p (State.mem_jobs_released hp).1 (State.mem_jobs_released hp).2
  have hnote : ∀ aborted, (((s.released j).countOutcome x).pushOutcome j x).noteDecided j aborted =
      ((s.released j).countOutcome x).pushOutcome j x := fun aborted =>
    State.noteDecided_untargeted (by rw [hjobs]; exact fun p hp => (hquiet p hp).1)
  have hsettle : (s.decided j x).settleDrains = s.decided j x := by
    refine State.settleDrains_quiet _ ?_ (by rw [State.decided_jobs]; exact fun p hp => (hquiet p hp).2)
    rw [State.decided_spn]
    exact (s.released_view j).2.2.trans h.draining
  unfold State.settle
  rw [hj]
  dsimp only
  rw [ho, if_neg hop]
  dsimp only
  have hrel : ((s.leaveEngines j).dropWaits j).delJob j = s.released j := rfl
  rw [hrel, hnote]
  exact hsettle

theorem exec_completionRequest_alone (hj : s.job j = some x) (hr : x.stage = .ready) (ho : x.origin = .host) (hop : dOp x.desc ≠ 0x0B01)
    (h : s.Alone j) : exec (.completionRequest j) s = .next (s.decided j x) := by
  rw [exec_completionRequest, execCompletionRequest, hj]
  dsimp only
  rw [if_pos hr, State.settle_alone hj ho hop h, State.sweepRekey_quiet]
  rw [State.decided_jobs]
  exact fun p hp => (h.others p (State.mem_jobs_released hp).1 (State.mem_jobs_released hp).2).2

theorem State.decided_job (s : State) (j : Nat) (x : Job) : (s.decided j x).job j = none := by
  rw [State.job, State.decided_jobs]
  exact s.released_job j

/-- The outputs that a decided job's reply holds back. -/
def Job.outputs (x : Job) : List (Nat × Bytes) :=
  if statusOk x.outcome.1 then (if x.result.payload.isEmpty then [] else [(dOutAddr x.desc, x.result.payload)]) ++ x.result.extra else []

theorem State.decided_current (hg : x.gen = (s.vi x.vi).gen) : ∃ t : State, (s.decided j x).replies = s.replies ++
    [mkReply t j x x.outcome.1 x.outcome.2.1 x.outcome.2.2.1 x.outcome.2.2.2 x.outputs (afterOf x.result.effects)] := by
  have hgen : ¬x.gen ≠ (((s.released j).countOutcome x).vi x.vi).gen := by
    rw [State.vi, State.counted_vis]
    exact not_not_intro hg
  refine ⟨(s.released j).countOutcome x, ?_⟩
  rw [← s.counted_replies j x]
  unfold State.decided State.pushOutcome
  rw [if_neg hgen]
  rfl

theorem State.decided_stale (hg : x.gen ≠ (s.vi x.vi).gen) : (s.decided j x).replies = s.replies ∧
    ((s.decided j x).vi x.vi).lateDiscard = satInc (s.vi x.vi).lateDiscard := by
  have hvi : ((s.released j).countOutcome x).vi x.vi = s.vi x.vi := by rw [State.vi, State.counted_vis, State.vi]
  have hstale : s.decided j x =
      (((s.released j).countOutcome x).modVi x.vi (fun v => { v with lateDiscard := satInc v.lateDiscard })).sweepMatrix := by
    unfold State.decided State.pushOutcome
    rw [if_pos (by rw [hvi]; exact hg)]
  rw [hstale]
  refine ⟨s.counted_replies j x, ?_⟩
  have hmod := State.vi_modVi ((s.released j).countOutcome x) x.vi x.vi (fun v => { v with lateDiscard := satInc v.lateDiscard })
  rw [if_pos rfl, hvi] at hmod
  exact congrArg Vi.lateDiscard hmod

/-- A success that an abort reached late reads OK_ABORT_LATE with DETAIL 0 (R64, R68). -/
theorem Job.outcome_status (x : Job) : x.outcome.1 = (if statusOk x.result.status ∧ x.late then St.okLate else x.result.status) ∧
    x.outcome.2.1 = (if statusOk x.result.status ∧ x.late then 0 else x.result.detail) := by
  unfold Job.outcome
  simp only [Bool.and_eq_true, and_self]

/-- A failure gives no output, and its LEN_OUT. -/
theorem Job.outcome_failing (h : statusOk x.result.status = false) : x.outputs = [] ∧ x.outcome.2.2.1 = x.result.lenOut := by
  have hst : statusOk x.outcome.1 = false := by
    rw [x.outcome_status.1, if_neg (by rw [h]; exact fun hc => Bool.false_ne_true hc.1), h]
  refine ⟨by rw [Job.outputs, hst]; rfl, ?_⟩
  unfold Job.outcome
  dsimp only
  rw [h, if_neg (fun hc => Bool.false_ne_true hc.1)]

theorem Job.outcome_good (h : statusOk x.result.status = true) (hl : x.result.lenOut = 0) : x.outcome.2.2.1 = x.result.payload.length :=
  if_pos ⟨h, hl⟩

/-! ### REPLY_WRITE (R50, R71, R72, R83) -/

section Reply
variable {v k : Nat} {r : Reply}

theorem State.nextReply_of (h : s.nextReply v k = some r) : r.vi = v ∧ r.ring = k := by
  have hfound := List.find?_some h
  simp only [Bool.and_eq_true, decide_eq_true_eq] at hfound
  exact hfound.1

/-- Counting an entry restarts or raises the count of unsignalled entries, and sends at most one message of the ring's vector. -/
theorem State.countEntry_spec (s : State) (v k : Nat) (notify : Bool) :
    (∃ n, (s.countEntry v k notify).ring v k = { s.ring v k with unsignalled := n }) ∧
    ∃ msgs, (s.countEntry v k notify).out = s.out ++ msgs ∧ (msgs = [] ∨ msgs = [.msix v (s.via v) (s.ring v k).vector.toNat]) := by
  unfold State.countEntry
  dsimp only
  split
  · by_cases h : s.dmaOk v = true ∧ (s.vi v).masked (s.ring v k).vector.toNat = false
    · rw [State.sendMsix_sent (s := s.setRing v k _) h]
      exact ⟨⟨0, State.ring_setRing_self ..⟩, _, rfl, .inr rfl⟩
    · rw [State.sendMsix_pending (s := s.setRing v k _) h]
      exact ⟨⟨0, State.ring_setRing_self ..⟩, [], (List.append_nil _).symm, .inl rfl⟩
  · exact ⟨⟨_, State.ring_setRing_self ..⟩, [], (List.append_nil _).symm, .inl rfl⟩

theorem Ring.advance_spec (r : Ring) : r.advance.writeIdx = (if r.writeIdx + 1 = r.size then 0 else r.writeIdx + 1) ∧
    r.advance.phase = (if r.writeIdx + 1 = r.size then !r.phase else r.phase) ∧ r.advance.vector = r.vector := by
  unfold Ring.advance
  split_ifs <;> exact ⟨rfl, rfl, rfl⟩

/-- The state once a reply's output has gone out. -/
def State.outputsSent (s : State) (r : Reply) : State :=
  { s with replies := s.replies.erase r,
           out := s.out ++ (r.outputs.filter (fun o => !o.2.isEmpty)).map (fun o => Out.dma r.vi (s.via r.vi) o.1 o.2) }

/-- The state once a reply stands in its ring's entry, before the entry is counted. -/
def State.entrySent (s : State) (r : Reply) : State :=
  let q := s.ring r.vi r.ring
  ((s.outputsSent r).emit (.dma r.vi (s.via r.vi) (q.baseB.toNat + 32 * q.writeIdx) (withPhase (replyBytes r q.phase) 18 q.phase))).setRing
    r.vi r.ring q.advance

theorem State.sendReply_eq (s : State) (r : Reply) : s.sendReply r = (s.entrySent r).countEntry r.vi r.ring r.notify := by
  unfold State.sendReply
  dsimp only
  rw [State.writeOutputs_eq]
  rfl

/-- A reply leaves the device: its output, its entry, at most one message; the ring moves past the entry (R50, R71, R83). -/
theorem State.sendReply_spec (s : State) (r : Reply) :
    let q := s.ring r.vi r.ring
    (∃ msgs, (s.sendReply r).out = s.out ++ (r.outputs.filter (fun o => !o.2.isEmpty)).map (fun o => Out.dma r.vi (s.via r.vi) o.1 o.2) ++
        [.dma r.vi (s.via r.vi) (q.baseB.toNat + 32 * q.writeIdx) (withPhase (replyBytes r q.phase) 18 q.phase)] ++ msgs ∧
        (msgs = [] ∨ msgs = [.msix r.vi (s.via r.vi) q.vector.toNat])) ∧
      ((s.sendReply r).ring r.vi r.ring).writeIdx = q.advance.writeIdx ∧ ((s.sendReply r).ring r.vi r.ring).phase = q.advance.phase := by
  intro q
  have hq : (s.entrySent r).ring r.vi r.ring = q.advance := State.ring_setRing_self ..
  obtain ⟨⟨n, hring⟩, msgs, hout, hmsgs⟩ := (s.entrySent r).countEntry_spec r.vi r.ring r.notify
  rw [hq] at hring hmsgs
  rw [q.advance_spec.2.2] at hmsgs
  rw [State.sendReply_eq]
  exact ⟨⟨msgs, hout, hmsgs⟩, by rw [hring], by rw [hring]⟩

theorem State.besideRings_sendReply (s : State) (r : Reply) :
    (s.sendReply r).besideRings = ({ s with replies := s.replies.erase r } : State).besideRings := by
  rw [State.sendReply_eq, State.besideRings_countEntry]
  rfl

theorem State.sendReply_settles (hd : s.spn.draining = []) (hw : ∀ p ∈ s.jobs, p.2.stage ≠ .waiting) :
    (s.sendReply r).settleDrains = s.sendReply r := by
  have hspn : (s.sendReply r).spn = s.spn := (congrArg State.spn (s.besideRings_sendReply r) :)
  have hjobs : (s.sendReply r).jobs = s.jobs := (congrArg State.jobs (s.besideRings_sendReply r) :)
  exact State.settleDrains_quiet _ (by rw [hspn]; exact hd) (by rw [hjobs]; exact hw)

theorem exec_replyWrite_writes {v : Fin 256} {k : Fin 16} (hn : s.nextReply v.val k.val = some r) (hr : s.replying = true) (hd : s.dmaOk v.val = true)
    (hf : (s.ring v.val k.val).full = false) (ha : r.after = none) : exec (.replyWrite v k) s = .next (s.sendReply r).settleDrains := by
  rw [exec_replyWrite, execReplyWrite, hn]
  dsimp only
  rw [if_neg (by simp [hr, hd, hf]), ha]

theorem exec_replyWrite_held {v : Fin 256} {k : Fin 16} (h : s.replying = false ∨ s.dmaOk v.val = false ∨ (s.ring v.val k.val).full = true) :
    exec (.replyWrite v k) s = .next s := by
  rw [exec_replyWrite, execReplyWrite]
  split
  · rfl
  · rw [if_pos]
    simpa using h

end Reply

end Ends

/-! ### The statements -/

/-- Settles O11: by a pending abort, else by the result and by the first thing that the job waits for. -/
theorem engineEndsJob : Obligations.EngineEndsJob := by
  unfold Obligations.EngineEndsJob
  intro s j x r needs hj ho
  have hput : ∀ y, ((s.leaveEngines j).putJob j y).job j = some y := fun y => (State.job_putJob ..).trans (if_pos rfl)
  have houtside : ∀ y, ((s.leaveEngines j).putJob j y).outside = s.outside := fun y =>
    ((s.leaveEngines j).outside_putJob j y).trans (s.outside_leaveEngines j)
  refine ⟨fun ha hs => ?fails, fun ha hs hk he hneeds h1 h2 => ?commits, fun n rest ha hs hk hneeds hn => ?waits,
    fun st ha => State.finishJob_aborted r needs hj ha⟩
  case fails =>
    rw [State.finishJob_failing hj ho ha hs]
    exact ⟨⟨_, hput _, rfl, rfl, rfl⟩, State.outside_eq (houtside _)⟩
  case commits =>
    have hres : { r with newKeys := [] } = r := by rw [← hk]
    subst hneeds
    rw [State.finishJob_good hj ho ha hs hk, if_pos List.isEmpty_nil,
      State.reachCommit_plain (hput (x.awaiting r [])) rfl he ((x.usesOnce_awaiting r []).trans h1) h2]
    exact ⟨⟨_, (State.job_modJob ..).trans ((if_pos rfl).trans (congrArg _ (hput _))), rfl, rfl, hres⟩,
      State.outside_eq ((State.outside_modJob ..).trans (houtside _))⟩
  case waits =>
    subst hneeds
    rw [State.finishJob_good hj ho ha hs hk, List.isEmpty_cons, if_neg Bool.false_ne_true,
      State.startNeed_other (hput (x.awaiting r (n :: rest))) rfl hn]
    exact ⟨⟨_, hput _, rfl, rfl, rfl, rfl⟩, State.outside_eq (houtside _)⟩

/-- Settles O8: the reply of a decided job by whether its generation still holds. -/
theorem commitArbiter : Obligations.CommitArbiter := by
  unfold Obligations.CommitArbiter
  intro s j x hj hr ho hd hop hothers
  have hexec := exec_completionRequest_alone hj hr ho hop ⟨hd, fun p hp hne => ⟨(hothers p hp hne).1, (hothers p hp hne).2.1⟩⟩
  refine ⟨fun hg => ?current, fun hg => ⟨_, hexec, s.decided_job j x, State.decided_stale hg⟩⟩
  case current =>
    obtain ⟨t, hreplies⟩ := State.decided_current (j := j) hg
    exact ⟨_, _, hexec, s.decided_job j x, hreplies, rfl, rfl, rfl, rfl, rfl,
      x.outcome_status.1, x.outcome_status.2, Job.outcome_failing, Job.outcome_good⟩

/-- Settles O9: the reply that goes next, by whether it may be written now. -/
theorem replyWrite : Obligations.ReplyWrite := by
  unfold Obligations.ReplyWrite
  intro s v k r hn
  refine ⟨fun hr hdma hf ha hd hw => ?written, exec_replyWrite_held⟩
  case written =>
    obtain ⟨hvi, hring⟩ := State.nextReply_of hn
    have hspec := s.sendReply_spec r
    have hbeside := s.besideRings_sendReply r
    rw [hvi, hring] at hspec
    obtain ⟨⟨msgs, hout, hmsgs⟩, hidx, hphase⟩ := hspec
    have hadv := (s.ring v.val k.val).advance_spec
    refine ⟨_, msgs, (exec_replyWrite_writes hn hr hdma hf ha).trans (congrArg _ (State.sendReply_settles hd hw)),
      (congrArg State.replies hbeside :), hout, hmsgs, hidx.trans hadv.1, hphase.trans hadv.2.1, ?_⟩
    exact congrArg (fun t : State => { t with replies := s.replies, rings := s.rings, vis := s.vis, out := s.out }) hbeside

end Sys2Proof.Machine
end

section
/-! The host interface's own opcodes, ABORT, and the staging of firmware (R70, R153, R156 to R158, R730, R731). -/

namespace Sys2Proof.Machine

section HostJobs
variable {s : State} {j : Nat} {x : Job}

/-! ### ABORT (R70) -/

/-- An ABORT that waits for check 6 is judged there. -/
structure State.HearsAbort (s : State) (j : Nat) (x : Job) : Prop where
  job : s.job j = some x
  abort : isAbort x.desc = true
  stage : x.stage = .fetched
  fetching : s.fetching = true

theorem State.HearsAbort.goes (h : s.HearsAbort j x) : ¬((!isAbort x.desc) = true ∨ x.stage ≠ .fetched ∨ (!s.fetching) = true) := by
  simp [h.abort, h.stage, h.fetching]

/-- An ABORT under way: what it matched, and how many that were. -/
def State.aborting (s : State) (j : Nat) (x : Job) : Job :=
  { x with stage := .running, committed := true, targets := s.abortTargets j x, matched := (s.abortTargets j x).length, abortedN := 0,
           approved := s.runsApproved x.vi x.desc }

theorem exec_abort_refused {r : Refused} (h : s.HearsAbort j x) (hc : s.checkDispatch x.vi s.strict x.desc = some r) :
    exec (.abort j) s = .next (s.refuseJob j r) := by
  rw [exec_abort, execAbort, h.job]
  dsimp only
  rw [if_neg h.goes, hc]

theorem exec_abort_admitted (h : s.HearsAbort j x) (hc : s.checkDispatch x.vi s.strict x.desc = none) : exec (.abort j) s = .next (
    if (s.abortTargets j x).isEmpty then s.settleAbort j (s.aborting j x)
    else (s.abortTargets j x).foldl (fun t k => t.requestAbort k St.aborted) (s.putJob j (s.aborting j x))) := by
  rw [exec_abort, execAbort, h.job]
  dsimp only
  rw [if_neg h.goes, hc]
  rfl

/-- The outcome of an ABORT takes its job out of the table and touches no ring and no key. -/
theorem State.settleAbort_spec (s : State) (j : Nat) (x : Job) :
    (s.settleAbort j x).job j = none ∧ (s.settleAbort j x).rings = s.rings ∧ (s.settleAbort j x).csn = s.csn := by
  have hframe := (s.delJob j).pushOutcome_frame j { x with result := okWith (x.matched % 65536 + 65536 * (x.abortedN % 65536)) [] }
  have hjobs : (s.settleAbort j x).jobs = (s.delJob j).jobs := (congrArg State.jobs hframe :)
  refine ⟨?_, (congrArg State.rings hframe :), (congrArg State.csn hframe :)⟩
  rw [State.job, hjobs]
  exact KMap.get_del_self ..

/-! ### FW_STAGE and the blocks of a slot (R158, R730, R731) -/

theorem exec_fwStage_defect {st det : Nat} (h : s.startable j 0x0F04 = some x) (ha : x.abortBy = none) (hd : s.stageDefect x.input = some (st, det)) :
    exec (.fwStage j) s = .next (s.finishJob j (failWith st det) []) := by
  rw [exec_fwStage, execFwStage, h]
  dsimp only
  rw [ha, hd]

theorem exec_fwStage_begins (h : s.startable j 0x0F04 = some x) (ha : x.abortBy = none) (hd : s.stageDefect x.input = none) :
    exec (.fwStage j) s = .next (
      (s.finishJob j (okWith (if s.inactive then 1 else 0) []) [.flash]).beginStage j x.input ((dP0 x.desc).testBit 0)) := by
  rw [exec_fwStage, execFwStage, h]
  dsimp only
  rw [ha, hd]
  rfl

section Staging
variable {slot activate : Bool} {im : Bytes} {n : Nat}

/-- A block write of an image whose FW_STAGE still waits for it. -/
theorem exec_fwSlotBlockWrite_staging (good : Bool) (h : s.flash.staging = some (j, slot, im, n, activate))
    (hw : (s.job j).map (·.stage) = some .waiting) :
    exec (.fwSlotBlockWrite good) s = .next (
      if !good then (s.endStage St.uncorrectable).failJob j St.uncorrectable 0
      else if n ≤ 1 then s.staged j slot im activate
      else ({ s with flash := { s.flash with staging := some (j, slot, im, n - 1, activate) } } : State).setAct 8
        { s.act 8 with progress := (blocksOf im - (n - 1)) * 1000 / blocksOf im }) := by
  rw [exec_fwSlotBlockWrite, execFwSlotBlockWrite, h]
  dsimp only
  rw [if_neg (not_not_intro hw)]
  rfl

end Staging

end HostJobs

/-- Settles O24: each opcode by its engine, ABORT by its checks and by what it matches, a block by whether it could be written. -/
theorem hostOpcodes : Obligations.HostOpcodes := by
  unfold Obligations.HostOpcodes
  intro s j x l y
  refine ⟨fun h => congrArg _ (State.runJob_of _ h), fun h => congrArg _ (State.runJob_of _ h), fun h => congrArg _ (State.runJob_of _ h),
    fun hj hab hst hf => ?abort, fun h ha => ⟨fun st det => exec_fwStage_defect h ha, exec_fwStage_begins h ha⟩,
    fun slot im n activate h hw => ?block⟩
  case abort =>
    have hears : s.HearsAbort j x := ⟨hj, hab, hst, hf⟩
    refine ⟨fun r => exec_abort_refused hears, fun hc hl => ⟨_, exec_abort_admitted hears hc, ?_⟩, fun k hc hl => ?_⟩
    · rw [if_pos (List.isEmpty_iff.mpr hl)]
      exact s.settleAbort_spec j _
    · have hone : s.abortTargets j x = [k] := hl
      rw [exec_abort_admitted hears hc, hone]
      rfl
  case block =>
    have hwrite := fun good => exec_fwSlotBlockWrite_staging good h hw
    refine ⟨(hwrite false).trans (congrArg _ (if_pos rfl)),
      fun hn => (hwrite true).trans (congrArg _ ((if_neg Bool.false_ne_true).trans (if_pos hn))), fun hn =>
      ⟨_, (hwrite true).trans (congrArg _ ((if_neg Bool.false_ne_true).trans (if_neg (Nat.not_le.mpr hn)))), rfl, ?_, rfl, rfl⟩⟩
    rw [State.act_setAct, if_pos rfl]

end Sys2Proof.Machine
end

section
/-! The words of a vendor routine in a burin (R67, R119, R160, R161, R179, R291, R295, R297, R299, R300, R302). -/

namespace Sys2Proof.Machine

section Routine
variable {s : State} {p : Fin 8} {b : Fin 9} {j : Nat} {x : Job}

/-! ### A burin that computes no job -/

theorem State.control_idle {p b : Nat} {code : Nat → Bool} {f : Micro → Nat → Micro} (h : s.issuing p b = none) : s.control p b code f = s := by
  unfold State.control
  rw [h]

theorem exec_burinWord_idle {c : Instr} (h : s.issuing p.val b.val = none)
    (hc : c = .microwordIssue p b ∨ c = .commit p b ∨ c = .end_ p b ∨ c = .yield_ p b ∨ c = .maskRefresh p b ∨
      c = .setLc p b ∨ c = .baseLoad p b ∨ c = .wait p b) :
    exec c s = .next s := by
  obtain rfl | rfl | rfl | rfl | rfl | rfl | rfl | rfl := hc
  · rw [exec_microwordIssue, execMicrowordIssue, h]
  · rw [exec_commit, execCommit, h]
  · rw [exec_end_, execEnd, h]
  · rw [exec_yield_, execYield, h]
  · exact congrArg Host.Outcome.next (if_pos (.inr (by rw [h]; rfl)))
  · exact congrArg Host.Outcome.next (State.control_idle h)
  · exact congrArg Host.Outcome.next (State.control_idle h)
  · exact congrArg Host.Outcome.next (State.control_idle h)

theorem exec_burinPick_unclocked (h : s.clocked = false) : exec (.burinPick p b) s = .next s :=
  congrArg Host.Outcome.next (if_neg (by rw [h]; exact Bool.false_ne_true))

theorem exec_burinPick_idle (hc : s.clocked = true) (hi : (s.burin p.val b.val).state = .idle) (hd : (s.pier p.val).onDuty.testBit b.val = true) :
    exec (.burinPick p b) s = .next (s.fillQueues.pick p.val b.val) :=
  congrArg Host.Outcome.next (if_pos (by rw [hc, hi, hd]; rfl))

/-! ### What a COMMIT word applies (R67, R119, R299) -/

/-- The effect that takes place at COMMIT itself: an index of a stateful key is used up (R119). -/
def Effect.usesIndex : Effect → Bool
  | .useIndex _ _ => true
  | _ => false

theorem Effect.eq_useIndex {e : Effect} (h : e.usesIndex = true) : ∃ k i, e = .useIndex k i := by
  cases e with
  | useIndex k i => exact ⟨k, i, rfl⟩
  | _ => cases h

theorem State.foldl_useIndex_frame (l : List Effect) (s : State) (h : ∀ e ∈ l, e.usesIndex = true) :
    { l.foldl State.applyEffect s with csn := s.csn } = s := by
  induction l generalizing s with
  | nil => rfl
  | cons e r ih =>
    obtain ⟨k, i, rfl⟩ := Effect.eq_useIndex (h e (List.mem_cons_self ..))
    exact congrArg (fun t : State => { t with csn := s.csn }) (ih (s.applyEffect (.useIndex k i)) fun e he => h e (List.mem_cons_of_mem _ he))

theorem State.applyAtCommit_eq (s : State) (j : Nat) (x : Job) : s.applyAtCommit j x =
    ((x.result.effects.filter Effect.usesIndex).foldl State.applyEffect s).putJob j { x with
      committed := x.result.newKeys.isEmpty
      result := { x.result with effects := x.result.effects.filter (fun e => !e.usesIndex), counterproofed := needsCounterproof x.desc } } := rfl

/-- COMMIT changes its job and the keys alone. -/
theorem State.applyAtCommit_frame (s : State) (j : Nat) (x : Job) : { s.applyAtCommit j x with jobs := s.jobs, csn := s.csn } = s := by
  rw [State.applyAtCommit_eq]
  exact congrArg (fun t : State => { t with jobs := s.jobs })
    (State.foldl_useIndex_frame _ s fun e he => List.of_mem_filter he)

theorem State.applyAtCommit_job (s : State) (j : Nat) (x : Job) :
    ∃ z, (s.applyAtCommit j x).job j = some z ∧ z.committed = x.result.newKeys.isEmpty := by
  rw [State.applyAtCommit_eq]
  exact ⟨_, (State.job_putJob ..).trans (if_pos rfl), rfl⟩

/-! ### The words of a vendor routine -/

section Vendor
variable (hi : s.issuing p.val b.val = some (j, x)) (hm : (s.burin p.val b.val).micro = none)
include hi hm

/-- One more word of the routine. -/
theorem exec_microwordIssue_unmasked (hx : x.masked = false) : exec (.microwordIssue p b) s =
    .next (s.setBurin p.val b.val { s.burin p.val b.val with issued := (s.burin p.val b.val).issued + 1 }) := by
  rw [exec_microwordIssue, execMicrowordIssue, hi, hm]
  dsimp only
  rw [hx]
  rfl

theorem State.control_vendor {code : Nat → Bool} {f : Micro → Nat → Micro} : s.control p.val b.val code f =
    s.setBurin p.val b.val { s.burin p.val b.val with issued := (s.burin p.val b.val).issued + 1 } := by
  unfold State.control
  rw [hi, hm]
  rfl

theorem exec_maskRefresh_vendor (hs : (s.pier p.val).stippleStall = false) : exec (.maskRefresh p b) s =
    .next (((s.setBurin p.val b.val { s.burin p.val b.val with issued := (s.burin p.val b.val).issued + 1 }).useStipple p.val 8).nextFree) := by
  rw [exec_maskRefresh, execMaskRefresh, hs, hi, hm]
  dsimp only
  rw [if_neg (by simp), if_pos rfl, State.control_vendor hi hm]

theorem exec_commit_vendor (hr : (s.burin p.val b.val).state = .run) (hmay : x.mayCommit = true) (ha : x.abortBy = none) : exec (.commit p b) s =
    .next ((s.applyAtCommit j x).modBurin p.val b.val (fun y => { y with state := .postCommit })) := by
  rw [exec_commit, execCommit, hi]
  dsimp only
  rw [hm]
  dsimp only
  rw [hr, hmay, ha]
  rfl

theorem exec_commit_vendor_aborted {st : Nat} (hr : (s.burin p.val b.val).state = .run) (hmay : x.mayCommit = true) (ha : x.abortBy = some st) :
    exec (.commit p b) s = .next (s.abandon j st) := by
  rw [exec_commit, execCommit, hi]
  dsimp only
  rw [hm]
  dsimp only
  rw [hr, hmay, ha]
  rfl

theorem exec_commit_vendor_early (hmay : x.mayCommit = false) : exec (.commit p b) s = .next s := by
  rw [exec_commit, execCommit, hi]
  dsimp only
  rw [hm]
  dsimp only
  rw [hmay]
  rfl

theorem exec_end_vendor (hs : (s.burin p.val b.val).state = .postCommit) :
    exec (.end_ p b) s = .next (s.finishJob j x.result (s.resultNeeds x.result)) := by
  rw [exec_end_, execEnd, hi]
  dsimp only
  rw [hm, if_neg (not_not_intro hs)]

theorem exec_yield_vendor (hs : (s.burin p.val b.val).state ≠ .postCommit) : exec (.yield_ p b) s =
    .next ((s.setBurin p.val b.val { s.burin p.val b.val with issued := (s.burin p.val b.val).issued + 1 }).yieldBurin p.val b.val j x) := by
  rw [exec_yield_, execYield, hi]
  dsimp only
  rw [if_neg hs]
  split
  case h_1 m h => rw [hm] at h; cases h
  case h_2 => rfl

end Vendor

theorem State.yieldBurin_aborts {p b st : Nat} (ha : x.abortBy = some st) : s.yieldBurin p b j x = s.abandon j st := by
  unfold State.yieldBurin
  rw [ha]

theorem State.yieldBurin_stays {p b : Nat} (ha : x.abortBy = none) (hr : s.recalledFrom 0 (burinUnit p b) = false) : s.yieldBurin p b j x = s := by
  unfold State.yieldBurin
  rw [ha]
  exact if_neg (ne_true_of_eq_false hr)

end Routine

/-- Settles O33: each word by whether the burin computes a job, then by what the routine has reached. -/
theorem burinRoutine : Obligations.BurinRoutine := by
  unfold Obligations.BurinRoutine
  intro s p b j x y
  refine ⟨fun h c => exec_burinWord_idle h, exec_burinPick_unclocked, exec_burinPick_idle, fun hi hm => ?vendor⟩
  case vendor =>
    have hcontrol := fun code f => congrArg (Host.Outcome.next (φ := Fault) (ρ := Refusal)) (State.control_vendor hi hm (code := code) (f := f))
    refine ⟨exec_microwordIssue_unmasked hi hm, fun c hc => ?words, fun hs => congrArg _ (if_pos (.inl hs)), exec_maskRefresh_vendor hi hm,
      fun hr hmay ha => ?commits, fun st => exec_commit_vendor_aborted hi hm, exec_commit_vendor_early hi hm,
      exec_end_vendor hi hm, exec_end_uncommitted hi, fun hs ha hr => ?keeps, fun st hs ha => ?aborts⟩
    case words =>
      obtain rfl | rfl | rfl := hc
      · exact hcontrol ..
      · exact hcontrol ..
      · exact hcontrol ..
    case commits =>
      have hframe := s.applyAtCommit_frame j x
      refine ⟨_, exec_commit_vendor hi hm hr hmay ha, ?_, rfl, (congrArg State.replies hframe :), (congrArg State.out hframe :),
        s.applyAtCommit_job j x⟩
      rw [State.burin_modBurin_self]
    case keeps => exact (exec_yield_vendor hi hm hs).trans (congrArg _ (State.yieldBurin_stays (s := s.setBurin p.val b.val _) ha hr))
    case aborts => exact (exec_yield_vendor hi hm hs).trans (congrArg _ (State.yieldBurin_aborts (s := s.setBurin p.val b.val _) ha))

end Sys2Proof.Machine
end

section
/-! Key updates, limits, checkpoints, transmit entries, send leases, the redundant lane (R76, R77, R410, R412, R414 to R417, R420, R428). -/

namespace Sys2Proof.Machine

section Timers
variable {s : State} {i : BitVec 24} {x : Session}

/-! ### Which session an event concerns -/

theorem State.runningSession (hc : s.clocked = true) (hx : s.session i.toNat = some x) :
    (if s.cwyRuns then s.session i.toNat else none) = some x := (if_pos hc).trans hx

theorem State.runningSession_none (hx : s.session i.toNat = none) : (if s.cwyRuns then s.session i.toNat else none) = none := by
  rw [hx]
  exact ite_self none

theorem exec_sessionTimer_none {c : Instr} (hx : s.session i.toNat = none) (hc : c = .peerKeyupdate i ∨ c = .peerKeyupdateAck i ∨
    c = .keyupdateTimeout i ∨ c = .epoch2HoldExpiry i ∨ c = .sessionTimeLimit i ∨ c = .checkpointDue i ∨ c = .sendLeaseGrant i) :
    exec c s = .next s := by
  have hnone := State.runningSession_none hx
  obtain rfl | rfl | rfl | rfl | rfl | rfl | rfl := hc
  · rw [exec_peerKeyupdate, execPeerKeyupdate]; dsimp only; rw [hnone]
  · rw [exec_peerKeyupdateAck, execPeerKeyupdateAck]; dsimp only; rw [hnone]
  · rw [exec_keyupdateTimeout, execKeyupdateTimeout]; dsimp only; rw [hnone]
  · rw [exec_epoch2HoldExpiry, execEpoch2HoldExpiry, hx]
  · rw [exec_sessionTimeLimit, execSessionTimeLimit, hx]
  · rw [exec_checkpointDue, execCheckpointDue, hx]
  · rw [exec_sendLeaseGrant, execSendLeaseGrant, hx]

/-- No mirrored change of a kind is under way. -/
theorem any_waits_eq_false {l : KMap MirrorWait} {w : MirrorWait} (h : ∀ p ∈ l, p.2 ≠ w) : l.any (fun p => decide (p.2 = w)) = false :=
  List.any_eq_false.mpr fun p hp => by rw [decide_eq_true_eq]; exact h p hp

/-! ### KeyUpdate from the peer, its ACK, its absence (R415, R417) -/

section KeyUpdate
variable {num : Nat} {msg : Bytes} {more : List (Nat × Nat × Bytes)}

/-- An entry with the keys of its next receive epoch in the alternate slot (R415). -/
def Session.nextAlt (x : Session) : Session :=
  { x with altValid := true, alt := { id := x.rx.epoch + 1, slot := nextSlot x.alg x.rx.slot, floor := 0 } }

/-- KeyUpdate of an established entry with no such change under way: again, beyond the last epoch, or a change that may wait for the twin. -/
theorem exec_peerKeyupdate_asked (hc : s.clocked = true) (hx : s.session i.toNat = some x) (hin : x.inbox = (num, 22, msg) :: more)
    (hst : x.state = 2) (hmsg : rd msg 0 1 = 24) (hw : ∀ p ∈ s.spn.waits, p.2 ≠ .altKeys i.toNat) : exec (.peerKeyupdate i) s = .next (
      if x.altValid = true ∧ x.alt.id = x.rx.epoch + 1 then (s.setSession i.toNat { x with inbox := more }).sendAck i.toNat num
      else if 65535 ≤ x.rx.epoch then (s.limitSession i.toNat 3).sweepRekey
      else if s.entryWaits then (s.setSession i.toNat x.nextAlt).mirror (.altKeys i.toNat) [.sessionKeys i x.nextAlt.bytes]
      else (s.setSession i.toNat { x.nextAlt with inbox := more }).sendAck i.toNat num) := by
  have hgo : ¬(x.state ≠ 2 ∨ rd msg 0 1 ≠ 24 ∨ s.spn.waits.any (fun p => decide (p.2 = .altKeys i.toNat)) = true) := by
    rw [any_waits_eq_false hw]
    simp [hst, hmsg]
  rw [exec_peerKeyupdate, execPeerKeyupdate]
  dsimp only
  rw [State.runningSession hc hx]
  dsimp only
  rw [hin]
  refine congrArg Host.Outcome.next ((if_neg hgo).trans ?_)
  simp only [Session.nextAlt, hin]

theorem exec_peerKeyupdateAck_awaited (hc : s.clocked = true) (hx : s.session i.toNat = some x) (hin : x.inbox = (num, 26, msg) :: more)
    (hst : x.state = 2) (hk : x.tx.kuWait = true) (hw : ∀ p ∈ s.spn.waits, p.2 ≠ .txKeys i.toNat) (he : s.entryWaits = false) :
    exec (.peerKeyupdateAck i) s = .next ((s.setSession i.toNat { x with inbox := more }).applyTxKeys i.toNat) := by
  have hgo : ¬(x.state ≠ 2 ∨ (!x.tx.kuWait) = true ∨ s.spn.waits.any (fun p => decide (p.2 = .txKeys i.toNat)) = true) := by
    rw [any_waits_eq_false hw]
    simp [hst, hk]
  rw [exec_peerKeyupdateAck, execPeerKeyupdateAck]
  dsimp only
  rw [State.runningSession hc hx]
  dsimp only
  rw [hin]
  refine congrArg Host.Outcome.next ((if_neg hgo).trans ?_)
  rw [he, if_neg Bool.false_ne_true]

theorem exec_peerKeyupdate_silent (hx : s.session i.toNat = some x) (hin : x.inbox = []) :
    exec (.peerKeyupdate i) s = .next s ∧ exec (.peerKeyupdateAck i) s = .next s := by
  rw [exec_peerKeyupdate, execPeerKeyupdate, exec_peerKeyupdateAck, execPeerKeyupdateAck]
  dsimp only
  by_cases hc : s.clocked = true
  · rw [State.runningSession hc hx]
    dsimp only
    rw [hin]
    exact ⟨rfl, rfl⟩
  · have hnone : (if s.cwyRuns then s.session i.toNat else none) = none := if_neg hc
    rw [hnone]
    exact ⟨rfl, rfl⟩

/-- The time limit of an ACK: nothing unless it is awaited, KeyUpdate again while tries are left, else the removal. -/
theorem exec_keyupdateTimeout_eq (hc : s.clocked = true) (hx : s.session i.toNat = some x) : exec (.keyupdateTimeout i) s = .next (
    if (!x.tx.kuWait || !s.timersRun x.vi) = true then s
    else if bits (s.reg Reg.cwyCtl) 23 20 ≤ x.tx.kuTries then (s.removeSession i.toNat 5).sweepRekey
    else (s.setSession i.toNat { x with tx := { x.tx with kuTries := x.tx.kuTries + 1 } }).sendKeyUpdate i.toNat x.tx.kuHost) := by
  rw [exec_keyupdateTimeout, execKeyupdateTimeout]
  dsimp only
  rw [State.runningSession hc hx]

end KeyUpdate

/-! ### Epoch 2, limits, checkpoints, leases (R412, R414, R416, R420) -/

theorem exec_epoch2HoldExpiry_some (hx : s.session i.toNat = some x) : exec (.epoch2HoldExpiry i) s = .next (
    if x.kind = 1 ∧ x.state = 2 ∧ x.altValid ∧ x.alt.id = 2 ∧ s.timersRun x.vi ∧ x.estS + bits (s.reg Reg.cwyCtl) 31 24 ≤ s.second then
      s.setSession i.toNat { x with altValid := false, alt := { id := 0, slot := KeySlot.empty, floor := 0 } }
    else s) := by
  rw [exec_epoch2HoldExpiry, execEpoch2HoldExpiry, hx]

theorem exec_sessionTimeLimit_some (hx : s.session i.toNat = some x) : exec (.sessionTimeLimit i) s = .next (
    if x.hardAtS ≠ 0 ∧ x.hardAtS ≤ s.second ∧ s.timersRun x.vi then (s.limitSession i.toNat 2).sweepRekey else s) := by
  rw [exec_sessionTimeLimit, execSessionTimeLimit, hx]

theorem exec_checkpointDue_some (hx : s.session i.toNat = some x) : exec (.checkpointDue i) s = .next (
    if x.rx.ckptCount ≠ 0 ∧ s.timersRun x.vi then s.sendCheckpoint i.toNat x.rx.top else s) := by
  rw [exec_checkpointDue, execCheckpointDue, hx]

theorem exec_sendLeaseGrant_unasked (hx : s.session i.toNat = some x) (hr : x.tx.leaseReq = false) : exec (.sendLeaseGrant i) s = .next s := by
  rw [exec_sendLeaseGrant, execSendLeaseGrant, hx]
  dsimp only
  rw [hr]
  rfl

theorem exec_sendLeaseGrant_usable {y : Session} (hx : s.session i.toNat = some x) (hr : x.tx.leaseReq = true)
    (hmay : s.paired = false ∨ s.lone = true ∨ x.tx.leaseAck = true) (hg : s.grantSend x = some y) :
    exec (.sendLeaseGrant i) s = .next (s.setSession i.toNat y) := by
  have hgo : (x.tx.leaseReq && (!s.paired || s.lone || x.tx.leaseAck)) = true := by
    simpa [hr, or_assoc] using hmay
  rw [exec_sendLeaseGrant, execSendLeaseGrant, hx]
  dsimp only
  rw [if_pos hgo, hg]

/-- A grant answers the request and ends where its numbers end. -/
theorem State.grantSend_some {y : Session} (h : s.grantSend x = some y) :
    y.tx.leaseReq = false ∧ y.tx.leaseEnd = s.leaseStart x.base x.tx.leaseEnd + 65536 := by
  unfold State.grantSend at h
  dsimp only at h
  split at h
  case isTrue => cases h; exact ⟨rfl, rfl⟩
  case isFalse => cases h

end Timers

/-! ### Transmit entries (R76, R77, R410, R412) -/

section Transmit
variable {s : State} {v : Fin 256} {ring : Fin 16}

/-- A transmit ring that has an entry for a device that fetches. -/
structure State.HasEntry (s : State) (v : Fin 256) (ring : Fin 16) : Prop where
  clocked : s.clocked = true
  enabled : (s.ring v.val (32 + ring.val)).enable = true
  entry : (s.ring v.val (32 + ring.val)).dist (s.ring v.val (32 + ring.val)).fetchIdx (s.ring v.val (32 + ring.val)).tail ≠ 0
  fetches : s.viFetches v.val = true

theorem exec_transmitEntryFetch_idle (entry : Option Bytes) (message : ReadOutcome)
    (h : s.clocked = false ∨ (s.ring v.val (32 + ring.val)).enable = false ∨
      (s.ring v.val (32 + ring.val)).dist (s.ring v.val (32 + ring.val)).fetchIdx (s.ring v.val (32 + ring.val)).tail = 0 ∨
      s.viFetches v.val = false) :
    exec (.transmitEntryFetch v ring entry message) s = .next s := by
  refine congrArg Host.Outcome.next (if_pos ?_)
  simpa [State.cwyRuns, or_assoc] using h

theorem State.HasEntry.goes (h : s.HasEntry v ring) : ¬(!s.cwyRuns || !(s.ring v.val (32 + ring.val)).enable ||
    decide ((s.ring v.val (32 + ring.val)).dist (s.ring v.val (32 + ring.val)).fetchIdx (s.ring v.val (32 + ring.val)).tail = 0) ||
    !s.viFetches v.val) = true := by
  simp [State.cwyRuns, h.clocked, h.enabled, h.entry, h.fetches]

/-- The read of an entry by the device. -/
def State.readEntry (s : State) (v : Fin 256) (ring : Fin 16) : State :=
  s.emit (.hostRead v.val (s.via v.val) ((s.ring v.val (32 + ring.val)).baseA.toNat + 32 * (s.ring v.val (32 + ring.val)).fetchIdx) 32)

theorem exec_transmitEntryFetch_unread (message : ReadOutcome) (h : s.HasEntry v ring) : exec (.transmitEntryFetch v ring none message) s =
    .next (((s.readEntry v ring).modRing v.val (32 + ring.val) (fun x => { x with enable := false })).ringError v.val 9 2 ring.val 0) :=
  congrArg Host.Outcome.next (if_neg h.goes)

variable {raw : Bytes} {x : Session}

theorem exec_transmitEntryFetch_refused {st : Nat} (message : ReadOutcome) (h : s.HasEntry v ring) (hr : s.txRefused v.val (padTo 32 raw) = some st) :
    exec (.transmitEntryFetch v ring (some raw) message) s = .next ((s.readEntry v ring).txReject v.val ring.val (padTo 32 raw) st) := by
  rw [exec_transmitEntryFetch, execTransmitEntryFetch]
  dsimp only
  rw [if_neg h.goes, hr]
  rfl

/-- An entry that passes the checks waits for a leased number, or takes the transmit slot that is free. -/
theorem exec_transmitEntryFetch_passes (message : ReadOutcome) (h : s.HasEntry v ring) (hr : s.txRefused v.val (padTo 32 raw) = none)
    (hx : s.session (rd (padTo 32 raw) 4 4) = some x) :
    (x.tx.leaseEnd ≤ x.tx.seq → exec (.transmitEntryFetch v ring (some raw) message) s =
      .next ((s.txStall (rd (padTo 32 raw) 4 4) x).requestLease (rd (padTo 32 raw) 4 4))) ∧
    (∀ t, x.tx.seq < x.tx.leaseEnd → (s.readEntry v ring).takeSlots (2 + x.port) 1 = some t →
      exec (.transmitEntryFetch v ring (some raw) message) s =
        .next ((t.touchHead (rd (padTo 32 raw) 4 4)).txTake v.val ring.val (rd (padTo 32 raw) 4 4) x (padTo 32 raw) message)) := by
  rw [exec_transmitEntryFetch, execTransmitEntryFetch]
  dsimp only
  rw [if_neg h.goes, hr, hx]
  dsimp only
  refine ⟨fun hstall => congrArg _ (if_pos hstall), fun t hnum ht => ?_⟩
  rw [State.readEntry] at ht
  rw [if_neg (Nat.not_le.mpr hnum), ht]

end Transmit

/-! ### The redundant lane (R428) -/

section Lanes
variable {s : State} {l : Fin 8}

theorem exec_laneSpareReady_other (passed : Bool) (h : (s.lane l.val).state ≠ .selftest ∨ s.hasToken 1 l.val = false) :
    exec (.laneSpareReady l passed) s = .next s :=
  congrArg Host.Outcome.next (if_pos (h.imp_right fun h => by rw [h]; rfl))

theorem exec_laneSpareReady_tested (passed : Bool) (hs : (s.lane l.val).state = .selftest) (ht : s.hasToken 1 l.val = true) :
    exec (.laneSpareReady l passed) s = .next (
      if passed then (({ s with lne := { s.lne with
          onDuty := s.lne.onDuty ||| 2 ^ l.val, spare := s.lne.spare - bitAt l.val (s.lne.spare.testBit l.val) } } : State).modLane l.val
        (fun x => { x with state := .idle })).ackLanes
      else ((s.report uLane l.val 0x07).retireLane l.val false).bringLane) :=
  congrArg Host.Outcome.next (if_neg (by rw [hs, ht]; decide))

end Lanes

/-- Settles O44: each event by the session that it names, an entry by its read, its checks and its number, a lane by its test. -/
theorem sessionTimersAndTransmit : Obligations.SessionTimersAndTransmit := by
  unfold Obligations.SessionTimersAndTransmit
  intro s i k
  refine ⟨fun hx => ?gone, fun x num msg more hc hx hin hst hmsg hw => ?keyUpdate,
    fun x num msg more => exec_peerKeyupdateAck_awaited, fun x hx => exec_peerKeyupdate_silent hx, fun x hc hx => ?timeout,
    fun x hx => ?limits, fun v ring entry message => ?entries, fun l => ?lanes⟩
  case gone =>
    have none_ := fun c => exec_sessionTimer_none (c := c) hx
    exact ⟨none_ _ (by simp), none_ _ (by simp), none_ _ (by simp), none_ _ (by simp), none_ _ (by simp), none_ _ (by simp), none_ _ (by simp)⟩
  case keyUpdate =>
    have hasked := exec_peerKeyupdate_asked hc hx hin hst hmsg hw
    refine ⟨fun ha hid => hasked.trans (congrArg _ (if_pos ⟨ha, hid⟩)),
      fun hn hep => hasked.trans (congrArg _ ((if_neg hn).trans (if_pos hep))), fun hn hep hwait => ?_⟩
    rw [hasked, if_neg hn, if_neg (Nat.not_le.mpr hep), hwait]
    rfl
  case timeout =>
    have htime := exec_keyupdateTimeout_eq hc hx
    refine ⟨fun hw => htime.trans (congrArg _ (if_pos (by rw [hw]; rfl))), fun hw hr hn => ?_, fun hw hr hn => ?_⟩
    · exact htime.trans (congrArg _ ((if_neg (by rw [hw, hr]; decide)).trans (if_pos hn)))
    · exact htime.trans (congrArg _ ((if_neg (by rw [hw, hr]; decide)).trans (if_neg (Nat.not_le.mpr hn))))
  case limits =>
    have hhold := exec_epoch2HoldExpiry_some hx
    have hlimit := exec_sessionTimeLimit_some hx
    have hckpt := exec_checkpointDue_some hx
    refine ⟨fun hk hst ha hid hr hs => hhold.trans (congrArg _ (if_pos ⟨hk, hst, ha, hid, hr, hs⟩)),
      fun h => hhold.trans (congrArg _ (if_neg ?_)),
      fun h0 hle hr => hlimit.trans (congrArg _ (if_pos ⟨h0, hle, hr⟩)), fun h => hlimit.trans (congrArg _ (if_neg ?_)),
      fun h0 hr => hckpt.trans (congrArg _ (if_pos ⟨h0, hr⟩)), fun h0 => hckpt.trans (congrArg _ (if_neg fun h => h.1 h0)),
      exec_sendLeaseGrant_unasked hx, fun y hr hmay hg => ⟨exec_sendLeaseGrant_usable hx hr hmay hg, State.grantSend_some hg⟩⟩
    · rintro ⟨hk, -, ha, hid, -⟩
      simp [hk, ha, hid] at h
    · rintro ⟨h0, hle, hr⟩
      simp [h0, hr, Nat.not_lt.mpr hle] at h
  case entries =>
    refine ⟨exec_transmitEntryFetch_idle entry message, fun hc he hd hv => ?_⟩
    have hentry : s.HasEntry v ring := ⟨hc, he, hd, hv⟩
    exact ⟨exec_transmitEntryFetch_unread message hentry, fun raw st => exec_transmitEntryFetch_refused message hentry,
      fun raw x => exec_transmitEntryFetch_passes message hentry⟩
  case lanes =>
    exact ⟨fun h passed => exec_laneSpareReady_other passed h, fun hs ht =>
      ⟨exec_laneSpareReady_tested true hs ht, exec_laneSpareReady_tested false hs ht⟩⟩

end Sys2Proof.Machine
end
